-- ==== Sys2Proof/Word.lean ====
section
/-!
DEFINITION. The machine's word types and their plainest arithmetic: bytes, register dwords, bit fields,
ceiling division, and clamping. Everything an instruction's meaning computes with is built on these.
-/
namespace Sys2Proof

/-- One byte. -/
abbrev Byte := BitVec 8
/-- One register dword (R3). -/
abbrev Dword := BitVec 32

/-- Bits [hi:lo] of a natural number. -/
def bits (v hi lo : Nat) : Nat := (v >>> lo) % 2 ^ (hi + 1 - lo)

/-- `v` with bits [hi:lo] replaced by the low bits of `x`. -/
def putBits (v hi lo x : Nat) : Nat :=
  v - (bits v hi lo) * 2 ^ lo + (x % 2 ^ (hi + 1 - lo)) * 2 ^ lo

/-- Bit `n` of a natural number. -/
def bit (v n : Nat) : Bool := v.testBit n

/-- 1 for true, 0 for false. -/
def b2n (b : Bool) : Nat := if b then 1 else 0

/-- Division rounded up; the divisor is never 0 where this is used. -/
def ceilDiv (a b : Nat) : Nat := (a + b - 1) / b

/-- `x` held between `lo` and `hi`. -/
def clampI (lo hi x : Int) : Int := if x < lo then lo else if hi < x then hi else x

/-- `x` held between `lo` and `hi`. -/
def clampN (lo hi x : Nat) : Nat := if x < lo then lo else if hi < x then hi else x

/-- The two's-complement image of `x` in `w` bits. -/
def toBits (w : Nat) (x : Int) : Nat := (x % (2 ^ w : Nat)).toNat

/-- The two's-complement value of the low `w` bits of `v`. -/
def fromBits (w v : Nat) : Int :=
  if (v % 2 ^ w) < 2 ^ (w - 1) then ((v % 2 ^ w : Nat) : Int) else ((v % 2 ^ w : Nat) : Int) - (2 ^ w : Nat)

/-- Distance from `b` forward to `a` in `w`-bit arithmetic. -/
def modSub (w a b : Nat) : Nat := (a % 2 ^ w + 2 ^ w - b % 2 ^ w) % 2 ^ w

/-- The list `xs` without its repeats, first occurrences kept. -/
def dedup (xs : List Nat) : List Nat :=
  xs.foldl (fun acc x => if acc.contains x then acc else acc ++ [x]) []

/-- `x` put into the ascending list `xs`, once. -/
def insertAsc (x : Nat) : List Nat → List Nat
  | [] => [x]
  | y :: ys => if x < y then x :: y :: ys else if x = y then y :: ys else y :: insertAsc x ys

/-- The last `n` elements. -/
def lastN {α : Type} (n : Nat) (xs : List α) : List α := xs.drop (xs.length - n)

/-- Sum of a list. -/
def sumN (xs : List Nat) : Nat := xs.foldl (· + ·) 0

/-- Largest element, 0 for none. -/
def maxN (xs : List Nat) : Nat := xs.foldl Nat.max 0

/-- The first `n` numbers. -/
def upTo (n : Nat) : List Nat := List.range n

/-- The numbers from `a` up to, not including, `b`. -/
def fromTo (a b : Nat) : List Nat := (List.range (b - a)).map (· + a)

/-- Rounded to nearest, ties away from zero, of `a / b` for a positive `b`. -/
def roundDivI (a : Int) (b : Nat) : Int :=
  if 0 ≤ a then (2 * a + b) / (2 * b) else - ((2 * (-a) + b) / (2 * b))

end Sys2Proof
end

