-- ==== Sys2Proof/Types.lean ====
section
/-!
DEFINITION. The operands of the commands: messages, descriptors, received frames, blobs, records of the image, and
what the board and the partner present. Fields are named as the spec's layouts name them.
-/

namespace Sys2Proof.Machine

/-! ### Messages (R644) and the descriptors of legs, folds and line classes (R28, R35, R37) -/

/-- Where a message came from and where its reply goes: submit ring 0 to 15, or the service port under
management key 0 or 1 (R638, R652). -/
inductive MsgSrc where
  | ring (r : Nat)
  | svc (key : Nat)
  deriving DecidableEq, Repr

/-- A request's header as the firmware sees it (R644): its source, sequence, target and flag bits [15:8].
`bad` says that the length does not suit the type or that a reserved bit is set (R645, MALFORMED). -/
structure Msg where
  src : MsgSrc := .ring 0
  seq : Nat := 0
  target : Nat := 0xFFFF
  flags : Nat := 0
  bad : Bool := false
  deriving DecidableEq, Repr

/-- The leg descriptor of R28, reply fields left out. `reserved` says that a reserved bit is set. -/
structure LegDesc where
  ip6 : Bool := false
  hasAudio : Bool := false
  hasVideo : Bool := false
  noDegrade : Bool := false
  legacy : Bool := false
  fold : Nat := 0
  videoMode : Nat := 0
  portPair : Nat := 0
  homeB : Bool := false
  vid : Nat := 0
  tagged : Bool := false
  pcp : Nat := 0
  localAddr : BitVec 128 := 0
  remoteAddr : BitVec 128 := 0
  localPort : Nat := 0
  remotePort : Nat := 0
  lineClass : Nat := 0xFFFF
  streamBase : Nat := 0
  streamCount : Nat := 1
  audioConfig : Nat := 0
  jitterAudio : Nat := 0
  jitterVideo : Nat := 0
  policeRate : Nat := 0
  policeBurst : Nat := 0
  egressMax : Nat := 0
  egressMin : Nat := 0
  capSpatial : Nat := 0
  capTemporal : Nat := 0
  rungFloor : Nat := 0
  rungCap : Nat := 0
  viewerPricking : Nat := 0xFFFF
  reserved : Bool := false
  deriving DecidableEq, Repr

/-- The fold descriptor of R35, reply fields left out. -/
structure FoldDesc where
  bellwetherK : Nat := 0
  pricking : Nat := 0
  owner : Nat := 0
  cadence : Nat := 0
  loudness : Int := 0
  guardSet : Nat := 0xFFFF
  slate : Nat := 0
  laceGrid : Nat := 0xFFFF
  reserved : Bool := false
  deriving DecidableEq, Repr

/-- The line-class descriptor of R37, the phase left out. -/
structure LcDesc where
  fold : Nat := 0
  pricking : Nat := 0
  codec : Nat := 0
  rung : Nat := 0
  width : Nat := 0
  height : Nat := 0
  cadence : Nat := 0
  rateMode : Nat := 0
  targetRate : Nat := 0
  reserved : Bool := false
  deriving DecidableEq, Repr

/-! ### Received frames and what they carry (R61 to R100) -/

/-- Destination MAC address of a received frame, as R67 step 3 sorts it: one station address, broadcast, a multicast
group that R69 lists, or another group. -/
inductive DstMac where
  | station (m : BitVec 48)
  | broadcast
  | listedGroup
  | otherGroup
  deriving DecidableEq, Repr

/-- EtherType after the VLAN tag (R66, R69). -/
inductive EType where
  | pause | arp | ptp | lldp | ipv4 | ipv6 | other
  deriving DecidableEq, Repr

/-- The tag of a protected packet: the session keys it was made under, named by key and suite, and its index.
A tag verifies under exactly those keys at exactly that index. -/
structure AuthTag where
  key : Nat := 0
  suite : Nat := 1
  index : Nat := 0
  deriving DecidableEq, Repr

/-- AV1 dependency descriptor or payload facts of a video packet, as the forwarder and the decoder use them. -/
structure VidFacts where
  first : Bool := true
  last : Bool := true
  randomAccess : Bool := false
  spatial : Nat := 0
  temporal : Nat := 0
  switchUp : Bool := false
  discardable : Bool := false
  describes : Bool := true
  deriving DecidableEq, Repr

/-- An RTP packet after decryption (R84, R85). `content` names its payload. -/
structure RtpFacts where
  headerOk : Bool := true
  headerLen : Nat := 12
  ssrc : Nat := 0
  pt : Nat := 0
  seq : Nat := 0
  ts : Nat := 0
  marker : Bool := false
  payload : Nat := 0
  duration : Nat := 0
  level : Option (Nat × Bool) := none
  twcc : Option Nat := none
  absSend : Option Nat := none
  vid : VidFacts := {}
  original : Nat := 0
  content : Nat := 0
  deriving DecidableEq, Repr

/-- A report block (R93, R94); `lsr` and `dlsr` in units of 1/65,536 s. -/
structure Report where
  ssrc : Nat := 0
  lost : Nat := 0
  cumulative : Nat := 0
  highest : Nat := 0
  jitter : Nat := 0
  lsr : Nat := 0
  dlsr : Nat := 0
  deriving DecidableEq, Repr

/-- One packet's entry in feedback (R93, R347): in transport-wide feedback its transport-wide sequence number, in
congestion-control feedback (RFC 8888) its SSRC and RTP sequence number; and, when received, its arrival in microseconds. -/
structure FbItem where
  ssrc : Option Nat := none
  seq : Nat := 0
  arrival : Option Nat := none
  deriving DecidableEq, Repr

/-- One RTCP packet of a compound (R93). -/
inductive RtcpBody where
  | sr (ssrc lsr rtpTs wall : Nat) (reports : List Report)
  | rr (ssrc : Nat) (reports : List Report)
  | bye (ssrcs : List Nat)
  | nack (ssrc : Nat) (seqs : List Nat)
  | pli (ssrc : Nat)
  | fir (ssrc seqNo : Nat)
  | feedback (items : List FbItem)
  | ignored
  deriving DecidableEq, Repr

/-- A STUN message (R74, R75). `integrityPwd` is the password under which MESSAGE-INTEGRITY verifies. -/
structure StunMsg where
  bindingRequest : Bool := true
  userLocal : List (BitVec 8) := []
  userRemote : List (BitVec 8) := []
  integrityPwd : Option (List (BitVec 8)) := none
  fingerprint : Option Bool := none
  controlled : Bool := false
  useCandidate : Bool := false
  transaction : Nat := 0
  deriving DecidableEq, Repr

/-- What follows the checks of R67 in a frame: the packet's protocol and contents. A PTP message is an event
message or not; one that is management or signalling names its domain and sdoId, to be counted and discarded (R495, R516). -/
inductive Body where
  | arpRequest (target : BitVec 128)
  | neighbourSolicitation (target : BitVec 128)
  | stun (m : StunMsg)
  | dtls
  | srtp (length : Nat) (tag : AuthTag) (rtp : RtpFacts)
  | srtcp (length ssrc index : Nat) (tag : AuthTag) (items : List RtcpBody)
  | ptp (event : Bool) (other : Option (Nat × Nat))
  | opaqueData
  deriving DecidableEq, Repr

/-- The transport addresses of an IP packet. -/
structure FlowAddr where
  src : BitVec 128 := 0
  dst : BitVec 128 := 0
  srcPort : Nat := 0
  dstPort : Nat := 0
  deriving DecidableEq, Repr

/-- A frame as a port receives it, with the outcome of each test that the wire bytes decide (R67).
`ns` is the arrival time-stamp within the tick; `b0` and `b1` are the first two bytes of the UDP payload. -/
structure FrameIn where
  port : Nat := 0
  lane : Nat := 0
  ns : Nat := 0
  fcsOk : Bool := true
  size : Nat := 64
  qTags : Nat := 0
  sTag : Bool := false
  vid : Nat := 0
  dst : DstMac := .broadcast
  etype : EType := .ipv4
  l3Ok : Bool := true
  fragment : Bool := false
  ipLen : Nat := 0
  udp : Bool := true
  addr : FlowAddr := {}
  udpSumOk : Bool := true
  b0 : Nat := 0
  b1 : Nat := 0
  body : Body := .opaqueData
  deriving DecidableEq, Repr

/-- A stream entry of 32 bytes (R83). -/
structure StreamEntry where
  ssrc : Nat := 0
  kind : Nat := 0
  inbound : Bool := false
  outbound : Bool := false
  rtcpMux : Bool := true
  bundle : Bool := true
  nack : Bool := false
  decode : Bool := false
  pt : Nat := 0
  codec : Nat := 0
  layer : Nat := 0
  extLevel : Nat := 0
  extDd : Nat := 0
  extTwcc : Nat := 0
  extAbs : Nat := 0
  repairOf : Nat := 0xFFFF
  clockRate : Nat := 48000
  historyTicks : Nat := 0
  reserved : Bool := false
  deriving DecidableEq, Repr

/-- The ICE record of 128 bytes (R73). -/
structure IceRec where
  consentCheck : Bool := false
  localUfrag : List (BitVec 8) := []
  remoteUfrag : List (BitVec 8) := []
  pwd : List (BitVec 8) := []
  reserved : Bool := false
  deriving DecidableEq, Repr

/-! ### Key blobs (R121, R122) -/

/-- The key record inside a blob (R122). `reserved` says that a field that must be 0 is not. -/
structure KeyRecord where
  slot : Nat := 0
  leg : Nat := 0
  direction : Nat := 0
  suite : Nat := 1
  role : Nat := 0
  kdr : Nat := 0
  activate : Nat := 0
  maxIndex : Nat := 2 ^ 48
  activateRtcp : Nat := 0
  maxRtcp : Nat := 2 ^ 31
  expire : Nat := 0
  generation : Nat := 1
  masterKey : BitVec 256 := 0
  masterSalt : BitVec 112 := 0
  reserved : Bool := false
  deriving DecidableEq, Repr

/-- A wrapped blob (R121): the key-encryption key it was wrapped under, and whether the wrapping is intact. -/
structure Blob where
  format : Nat := 1
  kek : Nat := 0
  wrappedLen : Nat := 120
  reserved : Nat := 0
  wrapKey : BitVec 256 := 0
  intact : Bool := true
  record : KeyRecord := {}
  deriving DecidableEq, Repr

/-! ### Audio records (R159, R160) -/

/-- An audio configuration entry (R160). -/
structure AudioCfg where
  codec : Nat := 1
  channels : Nat := 1
  frameTicks : Nat := 12
  rate : Nat := 4
  bitrate : Nat := 0
  fec : Bool := false
  dtx : Bool := false
  cbr : Bool := false
  reserved : Bool := false
  deriving DecidableEq, Repr

/-- A fold's audio record of 144 bytes (R159), fields as the message carries them (0 selects a default). -/
structure AudioRec where
  margin : Nat := 0
  hysteresis : Nat := 0
  holdTicks : Nat := 0
  actLevel : Nat := 0
  leadHold : Nat := 0
  lipsync : Bool := false
  honourVflag : Bool := false
  comfortNoise : Bool := false
  cnLevel : Nat := 0
  limiterCeiling : Nat := 0
  configs : List AudioCfg := []
  reserved : Bool := false
  deriving DecidableEq, Repr

/-- How a work item that the Drover dispatched ended: it ran, it was shed, or its state in DRAM was poisoned (R189,
R190). -/
inductive WorkEnd where
  | done | shed | stateLost
  deriving DecidableEq, Repr

/-! ### Sources and decoded pictures (R208 to R225) -/

/-- A source record (R208). -/
structure SourceRec where
  maxWidth : Nat := 16
  maxHeight : Nat := 16
  maxRate : Nat := 4
  nearest : Bool := false
  useFir : Bool := false
  tenBit : Bool := false
  targetSpatial : Nat := 0
  targetTemporal : Nat := 0
  reserved : Bool := false
  deriving DecidableEq, Repr

/-- How a band node ended: done, shed by the Drover, or aborted (R213, R239). -/
inductive BandEnd where
  | done | shed | aborted
  deriving DecidableEq, Repr

/-- One read of a stored tile, as R218 tests it. -/
structure TileRead where
  sectors : Nat := 24
  tag : Nat := 0
  crcOk : Bool := true
  poison : Bool := false
  deriving DecidableEq, Repr

/-- A fetch of a tile: the first read, and the second one made when it fails; `expected` is the buffer's store
generation (R217, R218). -/
structure TileFetch where
  tile : Nat := 0
  expected : Nat := 0
  first : TileRead := {}
  second : TileRead := {}
  deriving DecidableEq, Repr

/-- The colour matrix that a source signals; unspecified counts as BT.709 (R265). -/
inductive ColourMatrix where
  | bt709 | bt601 | bt2020
  deriving DecidableEq, Repr

/-- The colour description that a source picture signals: its matrix, full range, and a PQ or HLG transfer (R265). -/
structure ColourDesc where
  matrix : ColourMatrix := .bt709
  fullRange : Bool := false
  hdr : Bool := false
  deriving DecidableEq, Repr

/-- A decoded picture in its buffer (R217, R260): the stream, the tick and store generation of its decoding, its size, bit
depth and colour description, and the tick and store generation of the stream's previous decoded picture (R267). -/
structure SrcPic where
  entry : Nat := 0
  tick : Nat := 0
  gen : BitVec 32 := 0
  width : Nat := 16
  height : Nat := 16
  tenBit : Bool := false
  colour : ColourDesc := {}
  before : Option (Nat × BitVec 32) := none
  deriving DecidableEq, Repr

/-- A rectangle of samples: left, top, right and bottom edges, the last two outside it. -/
structure Rect where
  x0 : Int := 0
  y0 : Int := 0
  x1 : Int := 0
  y1 : Int := 0
  deriving DecidableEq, Repr

/-- What the syntax of a picture says to the decoder (R207 to R210, R221, R222, R224, R265). `partition` is the luma samples
of its largest partition; `intact` is the highest intact operating point when the broken chain belongs only to layers above
it, and `rasl` marks a RASL picture of a CRA at which decoding started (R225). -/
structure PicFacts where
  spatial : Nat := 0
  temporal : Nat := 0
  width : Nat := 16
  height : Nat := 16
  tenBit : Bool := false
  randomAccess : Bool := false
  reference : Bool := true
  unsupported : Bool := false
  unsupportedSequence : Bool := false
  partition : Nat := 0
  missingRef : Bool := false
  intact : Option (Nat × Nat) := none
  switchPoint : Bool := false
  rasl : Bool := false
  colour : ColourDesc := {}
  deriving DecidableEq, Repr

/-- The end of one decode band (R211 to R213): its number among the picture's bands, the tiles it covers, whether its
partition's packets were present and parsed, which damaged tiles each of its tiles was predicted from, its fetches, the
work it did, the Drover task of its node, and the ns into the tick of its end. -/
structure DecBand where
  band : Nat := 0
  total : Nat := 1
  engine : Nat := 0
  how : BandEnd := .done
  partitionStart : Bool := true
  present : Bool := true
  tiles : List Nat := []
  predicted : List (Nat × List Nat) := []
  fetches : List TileFetch := []
  samples : Nat := 0
  cycles : Nat := 0
  stateLost : Bool := false
  node : Option Nat := none
  ns : Nat := 0
  deriving DecidableEq, Repr

/-! ### Prickings, images and composition (R243 to R277) -/

/-- A cell entry of a pricking (R244). Coordinates are in units of 1/4,096 of the output. -/
structure CellEntry where
  x : Nat := 0
  y : Nat := 0
  right : Nat := 4096
  bottom : Nat := 4096
  z : Nat := 0
  role : Nat := 0
  arg : Nat := 0
  fit : Nat := 0
  reserved : Bool := false
  deriving DecidableEq, Repr

/-- An overlay entry of a pricking (R245). -/
structure OverlayEntry where
  ax : Nat := 0
  ay : Nat := 0
  halign : Nat := 0
  valign : Nat := 0
  z : Nat := 0
  source : Nat := 0
  arg : Nat := 0
  groupA : Nat := 0
  groupB : Nat := 0xFFFF
  alpha : Nat := 255
  reserved : Bool := false
  deriving DecidableEq, Repr

/-- A pricking record (R243 to R246). `guards` names overlays by index. -/
structure Pricking where
  id : Nat := 0
  cells : List CellEntry := []
  overlays : List OverlayEntry := []
  guards : List Nat := []
  background : List Nat := [16, 128, 128]
  placeholder : Nat := 0xFFFF
  reserved : Bool := false
  deriving DecidableEq, Repr

/-- An image variant (R251): its height class, declared crc, and its samples, the Y, Cb and Cr planes and then the alpha
plane if present, in raster order. `alphaPlane` says that it carries an alpha plane. -/
structure ImgVariant where
  cls : Nat := 0
  width : Nat := 2
  height : Nat := 2
  isOpaque : Bool := true
  alphaPlane : Bool := false
  crc : BitVec 32 := 0
  samples : List (BitVec 8) := []
  reserved : Bool := false
  deriving DecidableEq, Repr

/-- An image group (R250, R251). -/
structure ImgGroup where
  variants : List ImgVariant := []
  reserved : Bool := false
  deriving DecidableEq, Repr

/-- A lace grid class (R322). -/
structure LaceGrid where
  id : Nat := 0
  codec : Nat := 0x50
  rungCount : Nat := 1
  width : Nat := 256
  height : Nat := 128
  cols : Nat := 1
  rows : Nat := 1
  bufferTicks : Nat := 0
  baseQ : Nat := 1
  kbps : List Nat := []
  colSb : List Nat := []
  rowSb : List Nat := []
  reserved : Bool := false
  deriving DecidableEq, Repr

/-- What a layer of a picture shows (R257, R260): a decoded picture, a variant of an image group, or, in a cell without a
picture or an image, the background. -/
inductive LayerSrc where
  | picture (p : SrcPic)
  | image (group : Nat) (v : ImgVariant)
  | background
  deriving DecidableEq, Repr

/-- A layer record (R260): order, extent, source, and for a cell its fit mode, for an overlay its alpha and its index in
the pricking. -/
structure LayerRec where
  z : Nat := 0
  rect : Rect := {}
  src : LayerSrc := .background
  overlay : Option Nat := none
  fit : Nat := 0
  alpha : Nat := 255
  deriving DecidableEq, Repr

/-- A source tile that the compositor's fetch found corrupt: the stream, the tile, and whether the co-located tile of the
stream's previous decoded picture stands in for it (R267). -/
structure TileSub where
  entry : Nat := 0
  tile : Nat := 0
  previous : Bool := false
  deriving DecidableEq, Repr

/-- A picture of the compositors as its layer records make it (R260, R262): size, bit depth, background, layers in
ascending z, the groups that returned a poisoned line and the source tiles substituted (R267). -/
structure PicRec where
  w : Nat := 0
  h : Nat := 0
  tenBit : Bool := false
  background : List Nat := [16, 128, 128]
  layers : List LayerRec := []
  clear : List Nat := []
  subs : List TileSub := []
  deriving DecidableEq, Repr

/-- An output of the compositors: a line class's picture, or the render of an occupant (none: the placeholder) for cell
class number `cls` of a fold (R268, R269, R326). -/
inductive CompOut where
  | lc (c : Nat)
  | cell (fold : Nat) (occupant : Option Nat) (cls : Nat)
  deriving DecidableEq, Repr

/-- The end of a composition band (R274): what the compositor did in it. `fetches` are the source tiles fetched, by
stream entry, and `standIns` the fetches of the co-located tiles that replace corrupt ones; `poisoned` the image groups
whose variant returned a poisoned line; `seen` the signatures of guards, with the picture's last band, that a damaged path
makes other than the picture's own (R270); `node` is the Drover task of its
node and `ns` the time of its end in the tick. -/
structure ComposeBand where
  band : Nat := 0
  compositor : Nat := 0
  how : BandEnd := .done
  fetches : List (Nat × TileFetch) := []
  standIns : List (Nat × TileFetch) := []
  culled : Nat := 0
  poisoned : List Nat := []
  seen : List (Nat × BitVec 32) := []
  node : Option Nat := none
  ns : Nat := 0
  deriving DecidableEq, Repr

/-! ### Encoding (R286 to R314) -/

/-- An encode record (R290), fields as the message carries them (0 selects a default where the rule says so). -/
structure EncRec where
  nonLive : Bool := false
  ltr : Bool := false
  gir : Bool := false
  av1Ten : Bool := false
  buffer : Nat := 0
  peak : Nat := 0
  qpMax : Nat := 0
  qpMin : Nat := 0
  girPictures : Nat := 0
  keyInterval : Nat := 0
  ltrInterval : Nat := 0
  lagLimit : Nat := 0
  reserved : Bool := false
  deriving DecidableEq, Repr

/-- A row of an encode band (R301): the bits that it takes coded with the quantiser model's quantiser, coded at qp_max
in floor mode, and re-coded as its fallback; `stripe` says that it lies in the refresh stripe (R307). -/
structure EncRow where
  model : Nat := 0
  atMax : Nat := 0
  fallback : Nat := 0
  stripe : Bool := false
  deriving DecidableEq, Repr

/-- The end of an encode band (R296 to R311): its number in its rung's picture, the engine, how it ended, the bits of its
header and its rows, its analysis complexity, its mean quantiser, the reference tiles found corrupt, whether a tile of the
slate that it took failed its check (R272), whether the rung's state record was poisoned, and the IP payload lengths of the
packets that carry its bits. `node` is the Drover task of its node and `ns` the time of its end in the tick. -/
structure EncBand where
  band : Nat := 0
  engine : Nat := 0
  how : BandEnd := .done
  header : Nat := 0
  rows : List EncRow := []
  complexity : Nat := 0
  cycles : Nat := 0
  qp : Nat := 0
  corruptRefs : Nat := 0
  slateBad : Bool := false
  stateLost : Bool := false
  packets : List Nat := []
  node : Option Nat := none
  ns : Nat := 0
  deriving DecidableEq, Repr

/-- An encode band as its rows were coded (R301): its bits, the rows coded in floor mode and re-coded as fallback, and
whether a row of the refresh stripe fell back; the engine that coded it. -/
structure CodedBand where
  band : Nat := 0
  engine : Nat := 0
  how : BandEnd := .done
  bits : Nat := 0
  floored : Nat := 0
  fallback : Nat := 0
  stripeFell : Bool := false
  complexity : Nat := 0
  qp : Nat := 0
  stateLost : Bool := false
  packets : List Nat := []
  deriving DecidableEq, Repr

/-- What an encode band belongs to: the rung of a line class, or the encode of an occupant for a cell class of a fold
at a tile rung (R296, R326). -/
inductive EncOut where
  | lc (c : Nat)
  | cell (fold : Nat) (occupant : Option Nat) (cls rung : Nat)
  deriving DecidableEq, Repr
/-! ### Lacing (R333 to R338) -/

/-- A packet of an assembly: its IP payload length and the grid tiles it carries (R334). -/
structure LacePacket where
  length : Nat := 0
  tiles : List Nat := []
  deriving DecidableEq, Repr

/-! ### Drover records (R389 to R395) -/

/-- A successor entry of a task record (R393). -/
structure Succ where
  target : Nat := 0
  flag : Nat := 0
  kind : Nat := 0
  valid : Bool := false
  deriving DecidableEq, Repr

/-- A task record as the firmware writes it (R389). -/
structure TaskRec where
  flags : BitVec 32 := 0
  waitMask : BitVec 32 := 0
  orMode : Bool := false
  classG : Bool := false
  prio : Nat := 0
  enabled : Bool := false
  pool : Nat := 0
  itemType : Nat := 0
  period : Nat := 0
  phase : Nat := 0
  context : BitVec 64 := 0
  cost : Nat := 0
  graph : Nat := 65535
  succ : List Succ := []
  deriving DecidableEq, Repr

/-- A write of a task record or of a graph record by the firmware, waiting for its boundary (R394). -/
inductive TaskWrite where
  | task (n : Nat) (r : TaskRec)
  | graph (n first count : Nat) (allOrNone background : Bool)
  deriving DecidableEq, Repr

/-! ### Bobbin words (R426) -/

/-- The kind of a word's tag (R426). -/
inductive BqKind where
  | more | held | end_ | endPoison
  deriving DecidableEq, Repr

/-- A word of a bobbin queue with its tag (R426). -/
structure BqWord where
  data : BitVec 128 := 0
  kind : BqKind := .more
  last : Nat := 0
  cause : Nat := 0
  deriving DecidableEq, Repr

/-! ### Memory modules and memory requests (R442 to R458, R597 to R604) -/

/-- A DIMM as its SPD hub tells (R597). `readable` is false when the hub does not answer, its CRC fails, or it names no
DDR5 RDIMM; `rate` is in units of 100 MT/s; `idCrc` the CRC-32C over the identity bytes read (R604). -/
structure DimmMod where
  readable : Bool := true
  ranks : Nat := 1
  density : Nat := 0
  x8 : Bool := false
  rate : Nat := 64
  maker : Nat := 0
  partNo : List (BitVec 8) := []
  idCrc : BitVec 32 := 0
  deriving DecidableEq, Repr

/-- The DIMMs of a channel (R442). -/
structure DimmPop where
  dimms : List DimmMod := []
  deriving DecidableEq, Repr

/-- What a line of the mirrored region holds, for its owner's recovery (R452). -/
inductive MemOwner where
  | none
  | spill (task : Nat)
  | leg (l : Nat)
  | fold (f : Nat)
  | lineClass (c : Nat)
  | shadow (f : Nat)
  deriving DecidableEq, Repr

/-- What a request's data is to the media cache (R453, R455): other data, a picture tile or header, or a syntax line. -/
inductive MemKind where
  | plain | picture | syntax_
  deriving DecidableEq, Repr

/-- An error found in the cached copy of the line (R455). -/
inductive CacheErr where
  | none | corrected | uncorrectable
  deriving DecidableEq, Repr

/-- A memory request within one 64-byte line (R447, R455, R466). `otherRow` says that a request for another row of the
bank is queued; `lastUse` that the node that consumes a syntax line ends; `guarded` that the address lies in a region that
the seal write-protects and the writer is not the management firmware (R594). -/
structure MemReq where
  addr : Nat := 0
  write : Bool := false
  len : Nat := 64
  data : List (BitVec 8) := []
  kind : MemKind := .plain
  cacheErr : CacheErr := .none
  otherRow : Bool := false
  lastUse : Bool := false
  guarded : Bool := false
  owner : MemOwner := .none
  deriving DecidableEq, Repr

/-! ### PTP messages and time captures (R491, R495 to R505) -/

/-- A capture of a time-stamp unit (R491): the unit's count and the fine phase in eighths of a cycle. -/
structure Capture where
  count : Nat := 0
  phase : Nat := 0
  deriving DecidableEq, Repr

/-- What every PTP message shows (R495): the port and lane it came on, its transport (0 Ethernet, 1 UDP/IPv4, 2 UDP/IPv6),
version, domainNumber, sdoId, source port identity and sequenceId, and its capture on receive. -/
structure PtpHdr where
  port : Nat := 0
  lane : Nat := 0
  transport : Nat := 0
  version : Nat := 2
  domain : Nat := 0
  sdo : Nat := 0
  sender : Nat × Nat := (0, 0)
  seq : Nat := 0
  cap : Capture := {}
  deriving DecidableEq, Repr

/-- A Sync or Follow_Up (R497): originTimestamp in ns, correctionField in 2^-16 ns. -/
structure PtpSync where
  hdr : PtpHdr := {}
  followUp : Bool := false
  twoStep : Bool := false
  origin : Nat := 0
  corr : Int := 0
  deriving DecidableEq, Repr

/-- An Announce (R495). `logInterval` is its logMessageInterval. -/
structure PtpAnnounce where
  hdr : PtpHdr := {}
  gm : Nat := 0
  prio1 : Nat := 128
  cls : Nat := 248
  acc : Nat := 0
  var_ : Nat := 0
  prio2 : Nat := 128
  steps : Nat := 0
  logInterval : Int := 0
  utc : Option Int := none
  leap61 : Bool := false
  leap59 : Bool := false
  deriving DecidableEq, Repr

/-- A Delay_Resp (E2E: receiveTimestamp in ns) or a path-delay answer (P2P: the responder's turnaround in ns), with its
correctionField in 2^-16 ns and the logMinDelayReqInterval that it gives (R496, R497). -/
structure PtpResp where
  hdr : PtpHdr := {}
  recvNs : Nat := 0
  turnaround : Nat := 0
  corr : Int := 0
  logReq : Int := 0
  deriving DecidableEq, Repr

/-! ### Changes and session events (R45, R533) -/

/-- A part of a staged change (R45): a leg with its entries, records and reduction counts put in or changed, or leaving; a
fold set up or retired; a line class with its ladder number and phase, or its removal; a layout; and the phases of audio
configurations and lace grids. -/
inductive StageOp where
  | legIn (l : Nat) (d : LegDesc) (streams : List StreamEntry) (src : Option SourceRec) (ice : Option IceRec) (counts : List Nat)
  | legSet (l : Nat) (d : LegDesc) (streams : List StreamEntry) (src : Option SourceRec) (ice : Option IceRec) (counts : List Nat)
  | legOut (l : Nat)
  | foldIn (f : Nat) (d : FoldDesc) (a : AudioRec)
  | foldOut (f : Nat)
  | lcIn (c : Nat) (d : LcDesc) (e : EncRec) (ladder phase : Nat)
  | lcOut (c : Nat)
  | layout (f pricking : Nat) (pins : List Nat)
  | audioPhase (f cfg phase : Nat)
  | gridPhase (f phase : Nat)
  deriving DecidableEq, Repr

/-- A session event as an EVENT frame carries it (R533): the staged plan of a change, phases included, the content
changes, a key blob, a fenced leg's release, a convergence action (R537), a planned switchover (R544), and the steps of an
activation: the activation itself, readiness, a refusal because it is not staged, an abort, and a fallback (R622, R627, R628). -/
inductive SessEvent where
  | stage (fold : Nat) (ops : List StageOp)
  | mute (l : Nat) (on : Bool)
  | caption (l g : Nat)
  | guardSet (n : Nat) (groups : List Nat)
  | image (n : Nat) (g : ImgGroup)
  | key (l : Nat) (b : Blob)
  | release (l : Nat)
  | converge (objs : List Nat)
  | switchover
  | activate (digest : BitVec 384) (cold : Bool)
  | ready
  | notStaged
  | abortUpdate
  | fallback
  deriving DecidableEq, Repr

/-! ### The Ausil link (R518 to R538) -/

/-- The header of an Ausil frame as received (R518): the bundle, whether its version is 0x01 and its crc right, and its
epoch, tick and seq. -/
structure AusHdr where
  bundleB : Bool := false
  good : Bool := true
  epoch : BitVec 32 := 0
  tick : Nat := 0
  seq : BitVec 32 := 0
  deriving DecidableEq, Repr

/-- An IDENTITY payload (R525). -/
structure Identity where
  serial : BitVec 64 := 0
  revision : Nat := 0
  roleB : Bool := false
  cross : Bool := false
  fwVersion : Nat := 0
  format : Nat := 0
  serving : Bool := false
  fenced : Bool := false
  maint : Bool := false
  digest : BitVec 256 := 0
  ceilings : List Nat := []
  deriving DecidableEq, Repr

/-- A stream item of a digest entry (R535). -/
structure DigestItem where
  entry : Nat := 0
  index : Nat := 0
  rtpTs : Nat := 0
  deriving DecidableEq, Repr

/-- An entry of a DIGEST frame (R535). -/
structure DigestEnt where
  leg : Nat := 0
  sent : Bool := false
  srtcpOut : Nat := 0
  srtcpIn : Nat := 0
  digest : BitVec 64 := 0
  items : List DigestItem := []
  deriving DecidableEq, Repr

/-- A MIRROR record (R531) with the packet that it carries. -/
structure MirrorRec where
  stampNs : Nat := 0
  port : Nat := 0
  mark : Bool := false
  tagged : Bool := false
  vid : Nat := 0
  length : Nat := 0
  record : Nat := 0
  addr : FlowAddr := {}
  body : Body := .opaqueData
  deriving DecidableEq, Repr

/-! ### The Torzer image (R584 to R593) -/

/-- The DEVICE record (R589). -/
structure DeviceRec where
  part : Nat := 0x9256
  headroom : Nat := 10
  pairMode : Nat := 0
  reserveTwelfths : Nat := 0
  mirroredStripes : Nat := 1
  spareRank : Bool := false
  blast : Nat := 0
  rates : List Nat := []
  rdThreshold : Nat := 128
  groupRegionMib : Nat := 16
  dimmGp : List Nat := []
  reserved : Bool := false
  deriving DecidableEq, Repr

/-- An ADDRESS record (R591). -/
structure AddressRec where
  addr : BitVec 128 := 0
  ip6 : Bool := false
  tagged : Bool := false
  ownerB : Bool := false
  pair : Nat := 0
  vlan : Nat := 0
  mac : BitVec 48 := 0
  reserved : Bool := false
  deriving DecidableEq, Repr

/-- The SCALER record (R592): 64 phases of luma and of chroma taps, and the two matrices. -/
structure ScalerRec where
  luma : List (List Int) := []
  chroma : List (List Int) := []
  m601 : List Int := []
  m2020 : List Int := []
  deriving DecidableEq, Repr

/-- The identity that an INVENTORY record expects, by kind (R593); `any` codes as the rule states. -/
inductive InvMatch where
  | dimm (dimms ranks density width minRate maker : Nat) (partNo : List (BitVec 8))
  | cage (identifier iface maxPower oui : Nat) (partNo : List (BitVec 8))
  | card (minGib uhs maker : Nat)
  | partner (serial revMin : Nat)
  deriving DecidableEq, Repr

/-- An INVENTORY record (R593). -/
structure InvRec where
  kind : Nat := 0
  index : Nat := 0
  policy : Nat := 0
  mayBeAbsent : Bool := false
  want : InvMatch := .dimm 0xFF 0 0xFF 0xFF 0 0 []
  reserved : Bool := false
  deriving DecidableEq, Repr

/-- A Torzer image as a slot or a container carries it (R584 to R593). The first fields are what the checks of R587
find of bytes that the model does not hold: the read itself, the commit word, the header, the digest over the bytes,
the record CRCs, and the records' order, keys and counts. `unknownRequired` and `skipped` count records of types 0x000E
to 0xFFFF (R588). -/
structure Torzer where
  readOk : Bool := true
  commit : Bool := true
  headerOk : Bool := true
  part : Nat := 0x9256
  revMin : Nat := 0
  revMax : Nat := 0xFFFF
  generation : Nat := 0
  version : Nat := 0
  fwMin : Nat := 0
  recordCount : Nat := 0
  length : Nat := 128
  digestOk : Bool := true
  digest : BitVec 256 := 0
  crcOk : Bool := true
  orderOk : Bool := true
  unknownRequired : Nat := 0
  skipped : Nat := 0
  device : Option DeviceRec := none
  ports : List (Nat × Nat) := []
  addresses : List AddressRec := []
  time : Option (List Nat) := none
  domains : List (Nat × Nat × Nat) := []
  gates : List (Nat × List Nat) := []
  bobbins : List (Nat × Nat × Nat) := []
  scaler : Option ScalerRec := none
  prickings : List Pricking := []
  groups : List (Nat × ImgGroup) := []
  guardSets : List (Nat × List Nat) := []
  grids : List LaceGrid := []
  inventory : List InvRec := []
  deriving DecidableEq, Repr

/-! ### Modules, cards and the partner's identity (R598 to R602) -/

/-- A module in a cage (R598). `fault` says that its module state reports a fault: ModuleFault of CMIS, or the fault flags of SFF-8636
or SFF-8472 (R724). -/
structure Module where
  readable : Bool := true
  identifier : Nat := 0
  iface : Nat := 0
  powerClass : Nat := 1
  oui : Nat := 0
  partNo : List (BitVec 8) := []
  cmis : Bool := true
  ready : Bool := true
  fault : Bool := false
  idCrc : BitVec 32 := 0
  deriving DecidableEq, Repr

/-- An SD card (R599). `s18a` says that it answers S18A. -/
structure Card where
  readable : Bool := true
  gib : Nat := 0
  uhs : Bool := false
  maker : Nat := 0
  s18a : Bool := false
  idCrc : BitVec 32 := 0
  deriving DecidableEq, Repr

/-- Service-port addresses: the payload of SERVICE_ADDRESS (R656). -/
structure SvcAddr where
  ip4 : BitVec 32 := 0
  prefix4 : Nat := 0
  port : Nat := 50740
  gateway : BitVec 32 := 0
  ip6 : BitVec 128 := 0
  prefix6 : Nat := 0
  deriving DecidableEq, Repr

/-- A datagram received on the service port (R653). `addrOk` says that its addressing, magic, version and length are
consistent; `tagOk` that its tag verifies under the key it names; `n` is the message's payload length. -/
structure SvcDatagram where
  addrOk : Bool := true
  key : Nat := 0
  counter : Nat := 0
  tagOk : Bool := true
  n : Nat := 0
  typ : Nat := 0
  seq : Nat := 0
  target : Nat := 0xFFFF
  deriving DecidableEq, Repr

/-- A frame on the service port that carries no UDP datagram (R651). -/
inductive SvcFrame where
  | arp | ns | icmp | icmp6 | other
  deriving DecidableEq, Repr

/-! ### Option blocks, containers, flashes and the board (R561 to R582, R611 to R618) -/

/-- An option-block copy (R564). `right` says that its magic, format, reserved fields, crc and commit are correct
(R565). -/
structure OptionBlock where
  right : Bool := false
  generation : Nat := 0
  laneEq : List Nat := []
  ausilEq : List Nat := []
  avsMin : Nat := 650
  avsMax : Nat := 850
  ioBank : List Nat := [18, 18, 18, 18]
  watchdogMs : Nat := 0
  warmBudget : Nat := 0
  jtagLock : Bool := false
  servicePort : Bool := false
  maintLock : Bool := false
  sdBoot : Bool := false
  hostBoot : Bool := false
  minFw : Nat := 0
  signer0 : BitVec 384 := 0
  signer1 : BitVec 384 := 0
  deriving DecidableEq, Repr

/-- A container's header (R611, R612). `formOk` says that magic, format, header_len, reserved fields and the section table
are right; `signer` is the SHA-384 of signer_key; `signed` says that the signature verifies under it. -/
structure ContHdr where
  formOk : Bool := true
  part : Nat := 0x9256
  revMin : Nat := 0
  revMax : Nat := 0xFFFF
  version : Nat := 0
  stateWrite : Nat := 0
  stateReadMin : Nat := 0
  stateReadMax : Nat := 0
  hasFw : Bool := true
  fwLen : Nat := 0
  hasTz : Bool := false
  tzLen : Nat := 0
  payloadDigest : BitVec 384 := 0
  signer : BitVec 384 := 0
  signed : Bool := true
  deriving DecidableEq, Repr

/-- A container: its header, whether its section digests match (R615), and the Torzer section. `readOk` is false when the
medium cannot be read. -/
structure Container where
  readOk : Bool := true
  hdr : ContHdr := {}
  digestsOk : Bool := true
  torzer : Torzer := {}
  deriving DecidableEq, Repr

/-- A firmware slot (R616): its commit word, the container header stored in it, and whether the section matches the
trailer digest and the section entry. -/
structure FwSlot where
  commit : Bool := false
  hdr : ContHdr := {}
  digestOk : Bool := true
  deriving DecidableEq, Repr

/-- A configuration flash (R564, R581, R616): whether its SFDP table gives a capacity of 1 or 2 Gbit, its option-block
copies, firmware slots and Torzer slots. -/
structure Flash where
  capacityOk : Bool := true
  big : Bool := false
  opt0 : OptionBlock := {}
  opt1 : OptionBlock := {}
  fw0 : FwSlot := {}
  fw1 : FwSlot := {}
  tz0 : Torzer := { commit := false }
  tz1 : Torzer := { commit := false }
  deriving DecidableEq, Repr

/-- Both configuration flashes. -/
structure FlashSet where
  a : Flash := {}
  b : Flash := {}
  deriving DecidableEq, Repr

/-- The units that fail the self-tests of a cold or plane reset (R143, R191, R226, R275, R352, R415). -/
structure SelfTest where
  pipes : List Nat := []
  clusters : List Nat := []
  engines : List Nat := []
  compositors : List Nat := []
  lanes : List Nat := []
  cores : List Nat := []
  deriving DecidableEq, Repr

/-- The board as start-up finds it (R561 to R567): the strap's eight conversions; whether a reset cuts the option-block
load short; whether the timebase PLL locks; the four I/O banks (MGT, FLASH, SD, GP) in mV; each cage's module, the SD card,
whether VDDIO_SD reaches 1.8 V, and the container that it holds; each channel's DIMMs and its training outcome per set
point; what fails self-test; the level of SVC_MODE
and whether the service port's link is up; the PCIe link's generation and width, and whether the host has enabled bus
mastering and MSI-X. -/
structure BootEnv where
  strap : List Nat := [2, 2, 2, 2, 2, 2, 2, 2]
  cut : Bool := false
  refclk : Bool := true
  banks : List Nat := [1800, 1800, 1800, 1800]
  modules : List (Option Module) := []
  card : Option Card := none
  sdLow : Bool := true
  cardCont : Container := { readOk := false }
  dimms : List DimmPop := []
  training : List (List Nat) := []
  tests : SelfTest := {}
  svcMode : Bool := false
  svcLink : Bool := true
  pcie : Nat × Nat := (5, 4)
  busMaster : Bool := true
  msix : Bool := true
  deriving DecidableEq, Repr

/-- Why a plane reset is made (R554, R576). -/
inductive PlaneCause where
  | command | fence | split | maintenance
  deriving DecidableEq, Repr

/-- What a tick boundary takes from outside: the firmware's task writes (R394), the die sensors in °C (R713), code words
corrected and uncorrectable per port (R106) and uncorrectable per Ausil bundle (R553), and the tally blocks that failed
verification in the tick (R662). -/
structure TickIn where
  writes : List TaskWrite := []
  temps : List Int := []
  fec : List (Nat × Nat × Nat) := []
  ausFec : List (Nat × Nat) := []
  retired : Nat := 0
  deriving DecidableEq, Repr

end Sys2Proof.Machine
end

