-- ==== Sys2Proof/Syntax.lean ====
section
/-!
DEFINITION. The commands of the block: one constructor per row of the table of operations and events. Operands are
what the outside of the block decides: message contents, received frames, pin levels, and the agent a step is for. Some
events that carry no operand stand last.
-/

namespace Sys2Proof

open Machine

/-- A command: one row of the table of operations and events (95). -/
inductive Instr where
  /-- POWER_ON (R554). -/
  | powerOn (env : BootEnv) (flash : Option FlashSet)
  /-- RESET_PIN (R567). -/
  | resetPin (env : BootEnv)
  /-- WARM_RESET_PIN (R557). -/
  | warmResetPin
  /-- HOST_BOOT_START (R637). -/
  | hostBootStart (value : Nat) (cont : Container)
  /-- HOST_BOOT_TIMEOUT (R637). -/
  | hostBootTimeout
  /-- WATCHDOG_EXPIRY (R558). -/
  | watchdogExpiry
  /-- WARM_BUDGET_EXPIRY (R557). -/
  | warmBudgetExpiry
  /-- MGMT_RESUME (R557). -/
  | mgmtResume
  /-- PLANE_RESET_START (R559). -/
  | planeResetStart
  /-- PLANE_READY (R559). -/
  | planeReady (tests : SelfTest)
  /-- THERMAL_TRIP (R713). -/
  | thermalTrip
  /-- THERMAL_TRIP_END (R554). -/
  | thermalTripEnd (env : BootEnv)
  /-- AVS_ALERT (R705). -/
  | avsAlert (fault : Bool)
  /-- TICK_BOUNDARY (R411). -/
  | tickBoundary (i : TickIn)
  /-- SNAPSHOT_LATCH (R109). -/
  | snapshotLatch
  /-- SHED_POINT (R408). -/
  | shedPoint
  /-- SPILL_DRAIN (R401). -/
  | spillDrain (poisoned : List Nat)
  /-- NODE_PUSH (R406). -/
  | nodePush (pool ns : Nat)
  /-- TAKE (R403). -/
  | take (core ns : Nat)
  /-- DONE_STATUS (R405). -/
  | doneStatus (core task : Nat) (failed : Bool) (cause : Nat)
  /-- DONE_RESULT (R404). -/
  | doneResult (core ns : Nat)
  /-- PROGRESS_POST (R396). -/
  | progressPost (task ns : Nat)
  /-- UNIT_HANG (R412). -/
  | unitHang (pool unit : Nat)
  /-- ENGINE_FENCE (R226). -/
  | engineFence (engine cause : Nat)
  /-- COMPOSITOR_FENCE (R275). -/
  | compositorFence (compositor cause : Nat)
  /-- CORE_FENCE (R415). -/
  | coreFence (core cause : Nat)
  /-- LACER_LANE_FENCE (R352). -/
  | lacerLaneFence (lane : Nat)
  /-- CIPHER_PIPE_FENCE (R144). -/
  | cipherPipeFence (pipe : Nat)
  /-- ASSIST_FAIL (R191). -/
  | assistFail (cluster : Nat)
  /-- TASK_ECC (R416). -/
  | taskEcc (task : Nat)
  /-- VEN_FENCE_CTRL (R236). -/
  | venFenceCtrl (engine value : Nat)
  /-- CMP_FENCE_CTRL (R280). -/
  | cmpFenceCtrl (compositor value : Nat)
  /-- LAC_LANE_FENCE_CTRL (R356). -/
  | lacLaneFenceCtrl (value : Nat)
  /-- MCA_FENCE_CTRL (R423). -/
  | mcaFenceCtrl (cluster value : Nat)
  /-- RESET_CTRL_WARM (R579). -/
  | resetCtrlWarm (key : Nat)
  /-- RESET_CTRL_PLANE (R579). -/
  | resetCtrlPlane (key : Nat)
  /-- SOFT_RESET (R560). -/
  | softReset (value : Nat)
  /-- WATCHDOG_KICK (R580). -/
  | watchdogKick (value : Nat)
  /-- TWN_CTRL_RELEASE (R540). -/
  | twnCtrlRelease (value : Nat)
  /-- BQ_FLUSH (R434). -/
  | bqFlush (inst n value : Nat)
  /-- DMC_DRAIN (R473). -/
  | dmcDrain (channel : Nat)
  /-- DMC_RETRAIN (R475). -/
  | dmcRetrain (channel : Nat)
  /-- DMC_REJOIN (R475). -/
  | dmcRejoin (channel : Nat)
  /-- DMC_FENCE (R474). -/
  | dmcFence (channel : Nat)
  /-- RING_TAIL_WRITE (R639). -/
  | ringTailWrite (ring value : Nat)
  /-- RING_HEAD_WRITE (R640). -/
  | ringHeadWrite (ring value : Nat)
  /-- RING_ENABLE (R642). -/
  | ringEnable (ring value : Nat)
  /-- RING_DISABLE (R642). -/
  | ringDisable (ring value : Nat)
  /-- RING_DMA (R642). -/
  | ringDma (ring : Nat)
  /-- MESSAGE_FETCH (R646). -/
  | messageFetch (ring typ seq target : Nat)
  /-- IRQ_MODERATION (R643). -/
  | irqModeration (ring us : Nat) (enabled masked : Bool)
  /-- FUNCTION_LEVEL_RESET (R636). -/
  | functionLevelReset
  /-- REGISTER_WRITE (R13). -/
  | registerWrite (offset value enables cycles : Nat)
  /-- REGISTER_READ_64 (R15). -/
  | registerRead64 (offset cycles : Nat)
  /-- NET_PE_LEG_SELECT (R109). -/
  | netPeLegSelect (value : Nat)
  /-- CIP_KS_SLOT_SELECT (R153). -/
  | cipKsSlotSelect (value : Nat)
  /-- AUD_FOLD_SELECT (R197). -/
  | audFoldSelect (value : Nat)
  /-- AUD_LEG_SELECT (R200). -/
  | audLegSelect (value : Nat)
  /-- VEN_STREAM_SELECT (R240). -/
  | venStreamSelect (value : Nat)
  /-- VEN_LC_SELECT (R319). -/
  | venLcSelect (value : Nat)
  /-- CMP_OUTPUT_SELECT (R282). -/
  | cmpOutputSelect (value : Nat)
  /-- LAC_VIEWER_SELECT (R358). -/
  | lacViewerSelect (value : Nat)
  /-- LAC_FWD_LEG_SELECT (R358). -/
  | lacFwdLegSelect (value : Nat)
  /-- LAC_ADAPT_LEG_SELECT (R358). -/
  | lacAdaptLegSelect (value : Nat)
  /-- EGS_LEG_SELECT (R386). -/
  | egsLegSelect (value : Nat)
  /-- DRV_TASK_SELECT (R422). -/
  | drvTaskSelect (value : Nat)
  /-- DMC_REMAP_SELECT (R486). -/
  | dmcRemapSelect (value : Nat)
  /-- BOOT_INV_SELECT (R610). -/
  | bootInvSelect (value : Nat)
  /-- SERVICE_DATAGRAM (R653). -/
  | serviceDatagram (d : SvcDatagram)
  /-- LEG_ARRIVE (R31). -/
  | legArrive (m : Msg) (d : LegDesc) (streams : List StreamEntry) (src : Option SourceRec) (ice : Option IceRec)
  /-- LEG_UPDATE (R31). -/
  | legUpdate (m : Msg) (d : LegDesc) (streams : List StreamEntry) (src : Option SourceRec) (ice : Option IceRec)
  /-- LEG_LEAVE (R34). -/
  | legLeave (m : Msg)
  /-- LEG_RELEASE (R31). -/
  | legRelease (m : Msg)
  /-- FOLD_SETUP (R45). -/
  | foldSetup (m : Msg) (d : FoldDesc) (a : AudioRec)
  /-- FOLD_RETIRE (R31). -/
  | foldRetire (m : Msg)
  /-- LINE_CLASS_CREATE (R41). -/
  | lineClassCreate (m : Msg) (d : LcDesc) (e : EncRec)
  /-- LINE_CLASS_RETIRE (R294). -/
  | lineClassRetire (m : Msg)
  /-- LAYOUT_CHOICE (R255). -/
  | layoutChoice (m : Msg) (pricking reserved : Nat) (pins : List Nat)
  /-- AUDIO_CONTROL (R162). -/
  | audioControl (m : Msg) (mute : Bool)
  /-- CAPTION (R253). -/
  | caption (m : Msg) (group reserved : Nat)
  /-- GUARD_SET (R254). -/
  | guardSet (m : Msg) (groups : List Nat)
  /-- IMAGE_LOAD (R252). -/
  | imageLoad (m : Msg) (offset total length : Nat) (group : ImgGroup)
  /-- IMAGE_GROUP_COMMIT (R252). -/
  | imageGroupCommit (group : Nat)
  /-- KEY_LOAD (R125). -/
  | keyLoad (m : Msg) (blob : Blob)
  /-- BLOB_PROCESS (R123). -/
  | blobProcess
  /-- KEY_SLOT_DRAIN_END (R138). -/
  | keySlotDrainEnd (slot : Nat)
  /-- DTLS_SEND (R77). -/
  | dtlsSend (m : Msg) (length : Nat)
  /-- PACKET_SEND (R362). -/
  | packetSend (m : Msg) (length : Nat)
  /-- QUERY_LEG (R28). -/
  | queryLeg (m : Msg)
  /-- QUERY_FOLD (R35). -/
  | queryFold (m : Msg)
  /-- TIME_SOURCE (R498). -/
  | timeSource (m : Msg) (source : Nat)
  /-- TIME_STEP_APPROVE (R498). -/
  | timeStepApprove (m : Msg) (boundary : Nat)
  /-- SET_POINT (R467). -/
  | setPoint (m : Msg) (point reserved : Nat)
  /-- SWITCHOVER (R544). -/
  | switchover (m : Msg) (boundary : Nat)
  /-- PAIR_RELEASE (R540). -/
  | pairRelease (m : Msg)
  /-- WARM_RESET (R554). -/
  | warmReset (m : Msg)
  /-- PLANE_RESET (R559). -/
  | planeReset (m : Msg)
  /-- MAINTENANCE_ENTRY (R570). -/
  | maintenanceEntry (m : Msg)
  /-- MAINTENANCE_EXIT (R570). -/
  | maintenanceExit (m : Msg)
  /-- KEK_PROVISION (R129). -/
  | kekProvision (m : Msg) (key : BitVec 256)
  /-- KEK_REVOKE (R129). -/
  | kekRevoke (m : Msg)
  /-- MGMT_KEY_PROVISION (R652). -/
  | mgmtKeyProvision (m : Msg) (key : BitVec 256)
  /-- MGMT_KEY_REVOKE (R652). -/
  | mgmtKeyRevoke (m : Msg)
  /-- OPTION_WRITE (R565). -/
  | optionWrite (m : Msg) (o : OptionBlock)
  /-- SERVICE_ADDRESS (R656). -/
  | serviceAddress (m : Msg) (a : SvcAddr) (reserved : Nat)
  /-- TELEMETRY_CONFIG (R660). -/
  | telemetryConfig (m : Msg) (period flags budget : Nat)
  /-- SUBSCRIBE (R656). -/
  | subscribe (m : Msg) (addr : BitVec 128) (port flags reserved : Nat)
  /-- TALLY_READ (R665). -/
  | tallyRead (m : Msg) (typ first last reserved : Nat)
  /-- UPDATE_HEADER (R614). -/
  | updateHeader (m : Msg) (h : ContHdr)
  /-- UPDATE_CHUNK (R613). -/
  | updateChunk (m : Msg) (offset length : Nat) (digestsOk : Bool) (torzer : Torzer)
  /-- SD_UPDATE (R613). -/
  | sdUpdate (m : Msg)
  /-- STAGING_DONE (R617). -/
  | stagingDone (okA okB : Bool)
  /-- ACTIVATE (R619). -/
  | activate (m : Msg) (second tick reserved : Nat) (cold : Bool)
  /-- SWAP_PREPARE (R621). -/
  | swapPrepare (loaded : Bool)
  /-- SWAP_NOT_READY (R621). -/
  | swapNotReady
  /-- UPDATE_SWAP (R623). -/
  | updateSwap
  /-- UPDATE_ABORT (R628). -/
  | updateAbort (m : Msg)
  /-- REVERT (R626). -/
  | revert (m : Msg)
  /-- HEALTH_FAIL (R626). -/
  | healthFail
  /-- TRIAL_CONFIRM (R625). -/
  | trialConfirm
  /-- TRIAL_TIMEOUT (R626). -/
  | trialTimeout
  /-- FALLBACK_SWAP (R626). -/
  | fallbackSwap (prepared : Bool)
  /-- FRAME_RECEIVE (R67). -/
  | frameReceive (f : FrameIn)
  /-- ARP_REQUEST (R69). -/
  | arpRequest
  /-- NEIGHBOUR_SOLICITATION (R69). -/
  | neighbourSolicitation
  /-- PUNT (R69). -/
  | punt
  /-- STUN_BINDING_REQUEST (R74). -/
  | stunBindingRequest
  /-- STUN_OTHER (R74). -/
  | stunOther
  /-- DTLS_RECORD (R77). -/
  | dtlsRecord
  /-- SRTP_PACKET (R84). -/
  | srtpPacket (ecc : Nat)
  /-- RTCP_SR (R93). -/
  | rtcpSr
  /-- RTCP_RR (R94). -/
  | rtcpRr
  /-- RTCP_BYE (R93). -/
  | rtcpBye
  /-- RTCP_NACK (R98). -/
  | rtcpNack (poisoned : List Nat)
  /-- RTCP_PLI (R95). -/
  | rtcpPli
  /-- RTCP_FIR (R95). -/
  | rtcpFir
  /-- RTCP_TRANSPORT_FEEDBACK (R347). -/
  | rtcpTransportFeedback
  /-- RTCP_IGNORED (R93). -/
  | rtcpIgnored
  /-- FRAME_RELEASE (R89). -/
  | frameRelease (entry : Nat) (poisoned : List Nat)
  /-- JITTER_WINDOW_EVAL (R91). -/
  | jitterWindowEval (entry : Nat)
  /-- NACK_REPEAT (R96). -/
  | nackRepeat (entry : Nat)
  /-- CONSENT_EXPIRED (R76). -/
  | consentExpired (leg : Nat)
  /-- ADMISSION_DECISION (R41). -/
  | admissionDecision
  /-- ADMISSION_TIMEOUT (R32). -/
  | admissionTimeout
  /-- EPOCH_SWITCH (R45). -/
  | epochSwitch (fold : Nat)
  /-- LEG_DRAIN_COMPLETE (R33). -/
  | legDrainComplete (leg : Nat)
  /-- BELLWETHER_TICK (R167). -/
  | bellwetherTick (fold : Nat)
  /-- AUDIO_DECODE (R171). -/
  | audioDecode (leg : Nat) (how : WorkEnd)
  /-- AUDIO_MIX (R177). -/
  | audioMix (fold : Nat)
  /-- AUDIO_ENCODE (R182). -/
  | audioEncode (fold config : Nat) (member : Option Nat) (how : WorkEnd)
  /-- LOUDNESS_UPDATE (R185). -/
  | loudnessUpdate (leg : Nat)
  /-- LIPSYNC_EVAL (R186). -/
  | lipsyncEval (leg : Nat)
  /-- DECODE_BAND_DONE (R213). -/
  | decodeBandDone (entry : Nat) (pic : PicFacts) (band : DecBand)
  /-- REFRESH_REPEAT (R223). -/
  | refreshRepeat (entry : Nat)
  /-- SOURCE_STALLED (R225). -/
  | sourceStalled (entry : Nat)
  /-- COMPOSE_BAND_DONE (R274). -/
  | composeBandDone (out : CompOut) (band : ComposeBand)
  /-- HELD_PICTURE_TIMEOUT (R257). -/
  | heldPictureTimeout (lineClass cell : Nat)
  /-- IMAGE_GROUP_RESTORE (R596). -/
  | imageGroupRestore (group : Nat) (firstOk otherOk : Bool)
  /-- ENCODE_BAND_DONE (R311). -/
  | encodeBandDone (out : EncOut) (band : EncBand)
  /-- ESCALATION_RESET (R306). -/
  | escalationReset (lineClass : Nat)
  /-- LAG_DROP (R310). -/
  | lagDrop (lineClass : Nat)
  /-- LACE_ASSEMBLY (R333). -/
  | laceAssembly (leg lane : Nat) (how : BandEnd) (packets : List LacePacket) (mapLost : Bool) (node : Option Nat)
  /-- FORWARD_ASSIGN (R342). -/
  | forwardAssign (leg : Nat)
  /-- FWD_SWITCH_TIMEOUT (R345). -/
  | fwdSwitchTimeout (leg slot : Nat)
  /-- FWD_PLI_REPEAT (R345). -/
  | fwdPliRepeat (leg slot : Nat)
  /-- ADAPT_TICK (R347). -/
  | adaptTick (leg : Nat) (how : WorkEnd)
  /-- PACKET_ENQUEUE (R363). -/
  | packetEnqueue
  /-- FRAME_SELECT (R367). -/
  | frameSelect (port subport ns ecc : Nat)
  /-- REFILL_POINT (R371). -/
  | refillPoint
  /-- STALE_DROP (R375). -/
  | staleDrop
  /-- PORT_DOWN (R64). -/
  | portDown (port subports : Nat)
  /-- PORT_UP (R64). -/
  | portUp (port subports : Nat)
  /-- PORT_HOME_RETURN (R64). -/
  | portHomeReturn (port : Nat)
  /-- ANNOUNCE_REPEAT (R65). -/
  | announceRepeat
  /-- MODULE_PRESENCE_ASSERT (R598). -/
  | modulePresenceAssert (cage : Nat)
  /-- MODULE_READ (R598). -/
  | moduleRead (cage : Nat) (m : Option Module)
  /-- MODULE_READY (R598). -/
  | moduleReady (cage : Nat)
  /-- MODULE_PRESENCE_DEASSERT (R598). -/
  | modulePresenceDeassert (cage : Nat)
  /-- SD_CARD_DETECT (R599). -/
  | sdCardDetect (card : Card) (cont : Container)
  /-- SD_VSEL_TIMEOUT (R707). -/
  | sdVselTimeout
  /-- BQ_RESERVE (R429). -/
  | bqReserve (queue endpoint bytes : Nat) (sameCycle : Bool)
  /-- BQ_WORD_WRITE (R426). -/
  | bqWordWrite (queue endpoint : Nat) (word : BqWord)
  /-- BQ_END_MARK (R427). -/
  | bqEndMark (queue endpoint : Nat) (poison : Option Nat) (last : Nat)
  /-- BQ_READ (R430). -/
  | bqRead (queue endpoint : Nat) (ecc : Bool)
  /-- BQ_MARK (R430). -/
  | bqMark (queue endpoint : Nat)
  /-- BQ_REWIND (R430). -/
  | bqRewind (queue endpoint : Nat)
  /-- BQ_RELEASE (R430). -/
  | bqRelease (queue endpoint : Nat)
  /-- BQ_SKIP (R430). -/
  | bqSkip (queue endpoint : Nat)
  /-- DRAM_ACCESS (R466). -/
  | dramAccess (request : MemReq)
  /-- DRAM_CORRECTABLE_ERROR (R457). -/
  | dramCorrectableError (channel rank : Nat)
  /-- DRAM_UNCORRECTABLE_ERROR (R457). -/
  | dramUncorrectableError (channel address : Nat) (rereadGood : Bool)
  /-- DRAM_COMMAND_ERROR (R457). -/
  | dramCommandError (channel rank replays exhausted : Nat)
  /-- CHANNEL_LOST (R472). -/
  | channelLost (channel : Nat)
  /-- COPIER_SLICE_DONE (R469). -/
  | copierSliceDone
  /-- RANK_MIGRATION_DONE (R471). -/
  | rankMigrationDone (channel : Nat)
  /-- MIRROR_REBUILD_DONE (R451). -/
  | mirrorRebuildDone
  /-- RETRAIN_DONE (R475). -/
  | retrainDone (channel : Nat) (found : DimmPop) (outcomes : List Nat)
  /-- REFRESH_DUE (R460). -/
  | refreshDue (channel rank bankSet placed : Nat)
  /-- DIMM_TEMP_READ (R461). -/
  | dimmTempRead (channel dimm : Nat) (celsius : Int) (mr4 : Bool)
  /-- DQS_DRIFT_COMP (R444). -/
  | dqsDriftComp
  /-- ZQ_LATCH (R444). -/
  | zqLatch
  /-- ROW_TABLE_CLEAR (R465). -/
  | rowTableClear
  /-- OPEN_ROW_TIMEOUT (R466). -/
  | openRowTimeout (channel rank bank : Nat)
  /-- SET_POINT_SWITCH (R468). -/
  | setPointSwitch
  /-- SET_POINT_GAP_END (R468). -/
  | setPointGapEnd (inTime : Bool)
  /-- PTP_SYNC (R497). -/
  | ptpSync (sync : PtpSync)
  /-- PTP_ANNOUNCE (R495). -/
  | ptpAnnounce (announce : PtpAnnounce)
  /-- PTP_DELAY_RESP (R497). -/
  | ptpDelayResp (resp : PtpResp)
  /-- PTP_PDELAY_REQ (R503). -/
  | ptpPdelayReq (hdr : PtpHdr)
  /-- PTP_DELAY_REQ_SEND (R496). -/
  | ptpDelayReqSend (domain : Nat) (departure : Capture)
  /-- PTP_DOMAIN_LOST (R497). -/
  | ptpDomainLost (domain : Nat)
  /-- TIMEBASE_INITIAL_SET (R499). -/
  | timebaseInitialSet (count : Nat)
  /-- PPS_OUT_EDGE (R504). -/
  | ppsOutEdge (rising : Bool)
  /-- TIME_PPS_IN_EDGE (R505). -/
  | timePpsInEdge (cap : Capture)
  /-- TIME_TOD_IN_FRAME (R505). -/
  | timeTodInFrame (bytes : List (BitVec 8)) (count : Nat)
  /-- BUNDLE_UP (R517). -/
  | bundleUp (bundle : Nat)
  /-- BUNDLE_DOWN (R517). -/
  | bundleDown (bundle : Nat)
  /-- AUSIL_HEARTBEAT (R539). -/
  | ausilHeartbeat (h : AusHdr) (flags : Nat)
  /-- AUSIL_IDENTITY (R527). -/
  | ausilIdentity (h : AusHdr) (id : Identity)
  /-- PAIR_PROPOSE (R529). -/
  | pairPropose (h : AusHdr) (newEpoch tick : Nat)
  /-- PAIR_ANSWER (R529). -/
  | pairAnswer (h : AusHdr) (result newEpoch tick : Nat)
  /-- PAIR_COMMITTED (R529). -/
  | pairCommitted (h : AusHdr) (result newEpoch tick : Nat)
  /-- SYNC_START (R530). -/
  | syncStart (h : Option AusHdr)
  /-- SYNC_DONE (R529). -/
  | syncDone (h : Option AusHdr)
  /-- AUSIL_TIME (R520). -/
  | ausilTime (h : AusHdr) (tx echo arrival : Nat)
  /-- TIME_SPLIT (R545). -/
  | timeSplit (ticksDiffer : Bool)
  /-- MIRROR (R531). -/
  | mirror (h : AusHdr) (records : List MirrorRec)
  /-- SNAPSHOT (R538). -/
  | snapshot (h : AusHdr) (kind index content length : Nat)
  /-- SEAL (R532). -/
  | sealFrame (h : AusHdr) (count bytes : Nat) (crcOk : Bool)
  /-- DIGEST (R536). -/
  | digest (h : AusHdr) (entries : List DigestEnt)
  /-- DIGEST_ACK (R537). -/
  | digestAck (h : AusHdr) (compared divergent flags : Nat) (divergentLegs : List Nat)
  /-- EVENT (R533). -/
  | event (h : AusHdr) (ev : SessEvent) (effective : Nat)
  /-- EVENT_ACK (R533). -/
  | eventAck (h : AusHdr) (seq : Nat)
  /-- RETRY (R520). -/
  | retry (h : AusHdr) (seq : Nat)
  /-- SOFT_RESET_DONE (R560). -/
  | softResetDone (pass : Bool)
  /-- SERVICE_PORT_FRAME (R651). -/
  | servicePortFrame (kind : SvcFrame) (tagged : Bool) (target : BitVec 128)
  /-- SET_POINT_RESTORE (R463). -/
  | setPointRestore
  /-- TALLY_COMMIT_TIMEOUT (R662). -/
  | tallyCommitTimeout
  /-- SOURCE_SWITCH (R498). -/
  | sourceSwitch
  /-- HOLDOVER (R500). -/
  | holdover
  /-- TIME_STEP (R498). -/
  | timeStep
  /-- LEAP_SECOND (R494). -/
  | leapSecond
  /-- TOD_OUT_FRAME (R504). -/
  | todOutFrame
  /-- EXT_INPUT_LOST (R505). -/
  | extInputLost
  /-- REFCLK_LOST (R506). -/
  | refclkLost
  /-- AUS_HB_IN_TOGGLE (R539). -/
  | ausHbInToggle
  /-- AUS_FENCE_IN_RISE (R540). -/
  | ausFenceInRise
  /-- PAIR_ATTEMPT_TIMEOUT (R529). -/
  | pairAttemptTimeout
  /-- IDENTITY_REPEAT (R526). -/
  | identityRepeat
  /-- TIME_DISAGREE (R545). -/
  | timeDisagree
  /-- SEAL_TIMEOUT (R532). -/
  | sealTimeout
  /-- CONVERGENCE_ACTION (R537). -/
  | convergenceAction
  /-- PARTNER_LOSS (R541). -/
  | partnerLoss
  /-- TAKEOVER (R543). -/
  | takeover
  /-- CAP_LIFT (R541). -/
  | capLift
  /-- SWITCHOVER_EXECUTE (R544). -/
  | switchoverExecute
  /-- POWER_LOSS (R704). -/
  | powerLoss
  /-- AUS_FENCE_IN_FALL (R540). -/
  | ausFenceInFall
  /-- SD_CARD_REMOVAL (R601). -/
  | sdCardRemoval
  deriving DecidableEq, Repr

end Sys2Proof
end

