-- ==== Sys2Proof/Decode.lean ====
section
/-!
DEFINITION. The command that a word spells. No row of spec/opcode_table.json gives bits: the device takes register accesses,
frames, messages and pin events, not instruction words.
-/

namespace Sys2Proof

/-- The command a word spells by the table's bits: none, for every word. [DESIGN CHOICE, notes/assumptions 1] -/
def decodeTableWord (_nbits _w : Nat) : Option Instr := none

end Sys2Proof
end

