-- ==== Sys2Proof/Machine/RegMap.lean ====
section
/-!
DEFINITION. The register index (00 R3, R11; each row's own rule): every dword of BAR0 that holds fields, its fields
with access code, Cold value and Warm behaviour, the dword index of each register by its name, and the Cold value of
a dword. Bits that no field covers are reserved.
-/

namespace Sys2Proof.Machine

/-- Access codes of R11. -/
inductive Acc where
  | ro | rw | rw1c | wo | rwl
  deriving DecidableEq, Repr

/-- A field of a register dword: bits [hi:lo], access code, Cold value, and whether Warm reads "Clear". -/
structure Field where
  hi : Nat
  lo : Nat
  acc : Acc
  cold : Nat
  clear : Bool
  deriving DecidableEq, Repr

/-- A row of the register index: the same dword in instances `i0` to `i1`, `count` times at `stride` bytes from `off`. -/
structure RegRow where
  sub : Nat
  i0 : Nat
  i1 : Nat
  off : Nat
  stride : Nat
  count : Nat
  fields : List Field
  deriving DecidableEq, Repr

/-- Register rows of DEV, part 0. -/
def rowsDEV0 : List RegRow := [
  ⟨0, 0, 0, 0x0100, 0, 1, [⟨31, 0, .ro, 0, false⟩]⟩,
  ⟨0, 0, 0, 0x0104, 0, 1, [⟨31, 0, .ro, 0, false⟩]⟩,
  ⟨0, 0, 0, 0x0108, 0, 1, [⟨9, 0, .ro, 0, false⟩, ⟨16, 16, .ro, 0, false⟩, ⟨17, 17, .ro, 0, false⟩]⟩,
  ⟨0, 0, 0, 0x0110, 0, 1, [⟨31, 0, .ro, 0, false⟩]⟩,
  ⟨0, 0, 0, 0x0114, 0, 1, [⟨31, 0, .ro, 0, false⟩]⟩,
  ⟨0, 0, 0, 0x0120, 0, 1, [⟨5, 0, .ro, 10, false⟩]⟩,
  ⟨0, 0, 0, 0x0130, 4, 4, [⟨15, 0, .ro, 0, false⟩, ⟨31, 16, .ro, 0, false⟩]⟩,
  ⟨0, 0, 0, 0x0140, 0, 1, [⟨31, 0, .ro, 0, false⟩]⟩,
  ⟨0, 0, 0, 0x0144, 0, 1, [⟨31, 0, .ro, 0, false⟩]⟩,
  ⟨0, 0, 0, 0x0148, 0, 1, [⟨31, 0, .ro, 0, false⟩]⟩,
  ⟨0, 0, 0, 0x014C, 0, 1, [⟨9, 0, .ro, 0, false⟩]⟩,
  ⟨0, 0, 0, 0x0200, 0, 1, [⟨15, 0, .ro, 0, false⟩, ⟨31, 16, .ro, 0, false⟩]⟩,
  ⟨0, 0, 0, 0x0204, 0, 1, [⟨31, 0, .ro, 0, false⟩]⟩,
  ⟨0, 0, 0, 0x0210, 4, 5, [⟨31, 0, .ro, 0, false⟩]⟩,
  ⟨0, 0, 0, 0x0224, 0, 1, [⟨31, 0, .ro, 0, false⟩]⟩,
  ⟨0, 0, 0, 0x0230, 0, 1, [⟨0, 0, .ro, 0, false⟩, ⟨2, 1, .ro, 0, false⟩, ⟨6, 3, .ro, 0, false⟩, ⟨7, 7, .ro, 0, false⟩, ⟨31, 16, .ro, 0, false⟩]⟩,
  ⟨0, 0, 0, 0x0240, 4, 8, [⟨15, 0, .ro, 10000, false⟩]⟩,
  ⟨0, 0, 0, 0x0260, 8, 8, [⟨15, 0, .ro, 0, false⟩, ⟨23, 16, .ro, 0, false⟩, ⟨25, 24, .ro, 0, false⟩]⟩,
  ⟨0, 0, 0, 0x0264, 8, 8, [⟨31, 0, .ro, 0, false⟩]⟩,
  ⟨0, 0, 0, 0x0400, 0, 1, [⟨2, 0, .ro, 0, false⟩, ⟨5, 3, .ro, 0, false⟩, ⟨6, 6, .ro, 0, false⟩, ⟨7, 7, .ro, 0, false⟩, ⟨15, 8, .ro, 0, false⟩]⟩,
  ⟨0, 0, 0, 0x0500, 0, 1, [⟨7, 0, .ro, 0, false⟩, ⟨15, 8, .ro, 0, false⟩, ⟨19, 16, .ro, 0, false⟩]⟩,
  ⟨0, 0, 0, 0x0800, 0, 1, [⟨0, 0, .ro, 0, false⟩, ⟨1, 1, .ro, 0, false⟩, ⟨2, 2, .ro, 0, false⟩, ⟨4, 3, .ro, 0, false⟩, ⟨6, 5, .ro, 0, false⟩, ⟨7, 7, .ro, 0, false⟩, ⟨31, 16, .ro, 50740, false⟩]⟩,
  ⟨0, 0, 0, 0x0804, 4, 2, [⟨23, 0, .ro, 0, false⟩]⟩,
  ⟨0, 0, 0, 0x0810, 4, 6, [⟨31, 0, .ro, 0, false⟩]⟩]

/-- Register rows of DEV, part 1. -/
def rowsDEV1 : List RegRow := [
  ⟨0, 0, 0, 0x0900, 0, 1, [⟨9, 0, .ro, 60, false⟩, ⟨10, 10, .ro, 0, false⟩, ⟨11, 11, .ro, 0, false⟩, ⟨31, 12, .ro, 146, false⟩]⟩,
  ⟨0, 0, 0, 0x0910, 4, 4, [⟨31, 0, .ro, 0, false⟩]⟩,
  ⟨0, 0, 0, 0x1000, 32, 35, [⟨31, 0, .rw, 0, false⟩]⟩,
  ⟨0, 0, 0, 0x1004, 32, 35, [⟨31, 0, .rw, 0, false⟩]⟩,
  ⟨0, 0, 0, 0x1008, 32, 35, [⟨4, 0, .rw, 0, false⟩, ⟨8, 5, .rw, 0, false⟩, ⟨9, 9, .rw, 0, false⟩, ⟨10, 10, .ro, 0, false⟩, ⟨31, 16, .rw, 0, false⟩]⟩,
  ⟨0, 0, 0, 0x100C, 32, 16, [⟨31, 0, .ro, 0, false⟩]⟩,
  ⟨0, 0, 0, 0x1010, 32, 16, [⟨31, 0, .rw, 0, false⟩]⟩,
  ⟨0, 0, 0, 0x120C, 32, 19, [⟨31, 0, .rw, 0, false⟩]⟩,
  ⟨0, 0, 0, 0x1210, 32, 19, [⟨31, 0, .ro, 0, false⟩]⟩,
  ⟨0, 0, 0, 0x1014, 32, 35, [⟨31, 0, .ro, 0, false⟩]⟩]

/-- Register rows of BOOT, part 0. -/
def rowsBOOT0 : List RegRow := [
  ⟨1, 0, 0, 0x0000, 0, 1, [⟨3, 0, .ro, 0, false⟩, ⟨4, 4, .ro, 0, false⟩, ⟨5, 5, .ro, 0, false⟩, ⟨6, 6, .ro, 0, false⟩, ⟨8, 7, .ro, 0, false⟩, ⟨31, 16, .ro, 0, false⟩]⟩,
  ⟨1, 0, 0, 0x0004, 0, 1, [⟨5, 0, .ro, 0, false⟩, ⟨9, 6, .ro, 0, false⟩, ⟨11, 10, .ro, 0, false⟩]⟩,
  ⟨1, 0, 0, 0x0008, 0, 1, [⟨0, 0, .ro, 0, false⟩, ⟨1, 1, .ro, 0, false⟩, ⟨2, 2, .ro, 0, false⟩, ⟨15, 8, .ro, 0, false⟩]⟩,
  ⟨1, 0, 0, 0x000C, 0, 1, [⟨31, 0, .ro, 0, false⟩]⟩,
  ⟨1, 0, 0, 0x0010, 0, 1, [⟨0, 0, .rw1c, 0, false⟩, ⟨1, 1, .rw1c, 0, false⟩, ⟨2, 2, .rw1c, 0, false⟩, ⟨3, 3, .rw1c, 0, false⟩, ⟨4, 4, .rw1c, 0, false⟩, ⟨5, 5, .rw1c, 0, false⟩, ⟨6, 6, .rw1c, 0, false⟩, ⟨7, 7, .rw1c, 0, false⟩, ⟨8, 8, .rw1c, 0, false⟩, ⟨9, 9, .rw1c, 0, false⟩, ⟨10, 10, .rw1c, 0, false⟩]⟩,
  ⟨1, 0, 0, 0x0014, 0, 1, [⟨15, 0, .ro, 0, false⟩]⟩,
  ⟨1, 0, 0, 0x0018, 0, 1, [⟨15, 0, .ro, 0, false⟩]⟩,
  ⟨1, 0, 0, 0x0020, 4, 5, [⟨31, 0, .ro, 0, false⟩]⟩,
  ⟨1, 0, 0, 0x0034, 0, 1, [⟨31, 0, .ro, 0, false⟩]⟩,
  ⟨1, 0, 0, 0x0040, 0, 1, [⟨1, 0, .wo, 0, true⟩, ⟨31, 16, .wo, 0, true⟩]⟩,
  ⟨1, 0, 0, 0x0044, 0, 1, [⟨7, 0, .wo, 0, true⟩, ⟨11, 8, .wo, 0, true⟩, ⟨15, 12, .wo, 0, true⟩, ⟨31, 16, .wo, 0, true⟩]⟩,
  ⟨1, 0, 0, 0x0048, 0, 1, [⟨0, 0, .ro, 0, true⟩, ⟨1, 1, .ro, 0, true⟩, ⟨2, 2, .ro, 0, true⟩]⟩,
  ⟨1, 0, 0, 0x0050, 0, 1, [⟨15, 0, .rwl, 2000, false⟩, ⟨16, 16, .ro, 0, true⟩]⟩,
  ⟨1, 0, 0, 0x0054, 0, 1, [⟨31, 0, .wo, 0, true⟩]⟩,
  ⟨1, 0, 0, 0x0100, 0, 1, [⟨0, 0, .ro, 0, false⟩, ⟨1, 1, .ro, 0, false⟩, ⟨3, 2, .ro, 0, false⟩, ⟨4, 4, .ro, 0, false⟩, ⟨5, 5, .ro, 0, false⟩, ⟨15, 8, .ro, 0, false⟩, ⟨31, 16, .ro, 0, false⟩]⟩,
  ⟨1, 0, 0, 0x0104, 0, 1, [⟨31, 0, .ro, 0, false⟩]⟩,
  ⟨1, 0, 0, 0x0108, 0, 1, [⟨31, 0, .ro, 0, false⟩]⟩,
  ⟨1, 0, 0, 0x010C, 0, 1, [⟨31, 0, .ro, 0, false⟩]⟩,
  ⟨1, 0, 0, 0x0110, 4, 8, [⟨31, 0, .ro, 0, false⟩]⟩,
  ⟨1, 0, 0, 0x0140, 0, 1, [⟨5, 0, .ro, 0, false⟩, ⟨11, 6, .ro, 0, false⟩, ⟨17, 12, .ro, 0, false⟩, ⟨23, 18, .ro, 0, false⟩, ⟨29, 24, .ro, 0, false⟩]⟩,
  ⟨1, 0, 0, 0x0200, 0, 1, [⟨9, 0, .rw, 0, true⟩, ⟨31, 31, .ro, 0, true⟩]⟩,
  ⟨1, 0, 0, 0x0204, 4, 8, [⟨31, 0, .ro, 0, true⟩]⟩,
  ⟨1, 0, 0, 0x0300, 0, 1, [⟨2, 0, .ro, 0, false⟩, ⟨3, 3, .ro, 0, false⟩, ⟨5, 4, .ro, 0, false⟩, ⟨15, 8, .ro, 0, false⟩, ⟨31, 16, .ro, 0, false⟩]⟩,
  ⟨1, 0, 0, 0x0308, 0, 1, [⟨31, 0, .ro, 0, false⟩]⟩]

/-- Register rows of BOOT, part 1. -/
def rowsBOOT1 : List RegRow := [
  ⟨1, 0, 0, 0x030C, 0, 1, [⟨31, 0, .ro, 0, false⟩]⟩,
  ⟨1, 0, 0, 0x0400, 0, 1, [⟨0, 0, .ro, 0, false⟩, ⟨1, 1, .ro, 0, false⟩, ⟨2, 2, .ro, 0, false⟩, ⟨15, 8, .ro, 0, false⟩, ⟨31, 16, .wo, 0, true⟩]⟩,
  ⟨1, 0, 0, 0x0404, 0, 1, [⟨26, 0, .rw, 0, false⟩]⟩]

/-- Register rows of TIME, part 0. -/
def rowsTIME0 : List RegRow := [
  ⟨2, 0, 0, 0x0000, 0, 1, [⟨1, 0, .ro, 0, false⟩, ⟨2, 2, .ro, 0, false⟩, ⟨3, 3, .ro, 0, false⟩, ⟨4, 4, .ro, 0, false⟩, ⟨5, 5, .ro, 0, false⟩]⟩,
  ⟨2, 0, 0, 0x0010, 0, 1, [⟨31, 0, .ro, 0, false⟩]⟩,
  ⟨2, 0, 0, 0x0014, 0, 1, [⟨31, 0, .ro, 0, false⟩]⟩,
  ⟨2, 0, 0, 0x0018, 0, 1, [⟨31, 0, .ro, 0, false⟩]⟩,
  ⟨2, 0, 0, 0x001C, 0, 1, [⟨31, 0, .ro, 0, false⟩]⟩,
  ⟨2, 0, 0, 0x0020, 0, 1, [⟨31, 0, .ro, 1073741824, false⟩]⟩,
  ⟨2, 0, 0, 0x0024, 0, 1, [⟨7, 0, .ro, 1, false⟩]⟩,
  ⟨2, 0, 0, 0x0028, 0, 1, [⟨31, 0, .ro, 0, false⟩]⟩,
  ⟨2, 0, 0, 0x002C, 0, 1, [⟨31, 0, .ro, 0, false⟩]⟩,
  ⟨2, 0, 0, 0x0030, 0, 1, [⟨31, 0, .ro, 0, false⟩]⟩,
  ⟨2, 0, 0, 0x0034, 0, 1, [⟨31, 0, .ro, 0, false⟩]⟩,
  ⟨2, 0, 0, 0x0040, 0, 1, [⟨1, 0, .rwl, 1, false⟩, ⟨3, 2, .rwl, 2, false⟩, ⟨5, 4, .rwl, 0, false⟩, ⟨6, 6, .rwl, 1, false⟩]⟩,
  ⟨2, 0, 0, 0x0044, 0, 1, [⟨15, 0, .ro, 0, false⟩, ⟨31, 16, .rwl, 37, false⟩]⟩,
  ⟨2, 0, 0, 0x0050, 0, 1, [⟨15, 0, .rwl, 0, false⟩, ⟨25, 16, .rwl, 100, false⟩]⟩,
  ⟨2, 0, 0, 0x0054, 0, 1, [⟨15, 0, .rwl, 0, false⟩, ⟨18, 16, .ro, 0, false⟩]⟩,
  ⟨2, 0, 0, 0x0060, 0, 1, [⟨31, 0, .ro, 0, false⟩]⟩,
  ⟨2, 0, 0, 0x0064, 0, 1, [⟨31, 0, .ro, 0, false⟩]⟩,
  ⟨2, 0, 0, 0x0068, 0, 1, [⟨31, 0, .ro, 0, false⟩]⟩,
  ⟨2, 0, 0, 0x006C, 0, 1, [⟨31, 0, .ro, 0, false⟩]⟩,
  ⟨2, 1, 2, 0x0000, 0, 1, [⟨7, 0, .rwl, 0, false⟩, ⟨19, 8, .rwl, 0, false⟩, ⟨21, 20, .rwl, 0, false⟩, ⟨22, 22, .rwl, 0, false⟩, ⟨23, 23, .rwl, 0, false⟩, ⟨27, 24, .rwl, 0, false⟩, ⟨31, 28, .rwl, 3, false⟩]⟩,
  ⟨2, 1, 2, 0x0004, 0, 1, [⟨15, 0, .rwl, 0, false⟩]⟩,
  ⟨2, 1, 2, 0x0008, 0, 1, [⟨2, 0, .ro, 0, false⟩, ⟨3, 3, .ro, 0, false⟩, ⟨4, 4, .ro, 0, false⟩, ⟨8, 5, .ro, 0, false⟩, ⟨23, 16, .ro, 0, false⟩, ⟨31, 24, .ro, 0, false⟩]⟩,
  ⟨2, 1, 2, 0x0010, 0, 1, [⟨31, 0, .ro, 0, false⟩]⟩,
  ⟨2, 1, 2, 0x0014, 0, 1, [⟨31, 0, .ro, 0, false⟩]⟩]

/-- Register rows of TIME, part 1. -/
def rowsTIME1 : List RegRow := [
  ⟨2, 1, 2, 0x0018, 0, 1, [⟨31, 0, .ro, 0, false⟩]⟩,
  ⟨2, 1, 2, 0x001C, 0, 1, [⟨31, 0, .ro, 0, false⟩]⟩,
  ⟨2, 1, 2, 0x0020, 0, 1, [⟨31, 0, .ro, 0, false⟩]⟩,
  ⟨2, 1, 2, 0x0024, 0, 1, [⟨31, 0, .ro, 0, false⟩]⟩,
  ⟨2, 1, 2, 0x0040, 4, 6, [⟨31, 0, .ro, 0, false⟩]⟩,
  ⟨2, 16, 79, 0x0000, 0, 1, [⟨15, 0, .rwl, 0, false⟩, ⟨31, 16, .rwl, 0, false⟩]⟩,
  ⟨2, 16, 79, 0x0008, 0, 1, [⟨31, 0, .ro, 0, false⟩]⟩,
  ⟨2, 16, 79, 0x000C, 0, 1, [⟨31, 0, .ro, 0, false⟩]⟩,
  ⟨2, 16, 79, 0x0010, 0, 1, [⟨31, 0, .ro, 0, false⟩]⟩,
  ⟨2, 16, 79, 0x0014, 0, 1, [⟨31, 0, .ro, 0, false⟩]⟩]

/-- Register rows of NET, part 0. -/
def rowsNET0 : List RegRow := [
  ⟨3, 0, 15, 0x0000, 0, 1, [⟨3, 0, .rwl, 0, false⟩, ⟨5, 4, .rwl, 0, false⟩, ⟨6, 6, .rwl, 0, false⟩, ⟨7, 7, .rwl, 0, false⟩, ⟨8, 8, .rwl, 0, false⟩]⟩,
  ⟨3, 0, 15, 0x0004, 0, 1, [⟨3, 0, .ro, 0, false⟩, ⟨7, 4, .ro, 0, false⟩, ⟨8, 8, .ro, 0, false⟩, ⟨9, 9, .ro, 0, false⟩]⟩,
  ⟨3, 0, 15, 0x0008, 0, 1, [⟨3, 0, .rw1c, 0, false⟩, ⟨7, 4, .rw1c, 0, false⟩, ⟨8, 8, .rw1c, 0, false⟩]⟩,
  ⟨3, 0, 15, 0x0010, 0, 1, [⟨31, 0, .ro, 0, false⟩]⟩,
  ⟨3, 0, 15, 0x0014, 0, 1, [⟨31, 0, .ro, 0, false⟩]⟩,
  ⟨3, 0, 15, 0x0018, 0, 1, [⟨31, 0, .ro, 0, false⟩]⟩,
  ⟨3, 0, 15, 0x001C, 0, 1, [⟨31, 0, .ro, 0, false⟩]⟩,
  ⟨3, 0, 15, 0x0020, 0, 1, [⟨31, 0, .ro, 0, false⟩]⟩,
  ⟨3, 0, 15, 0x0024, 0, 1, [⟨31, 0, .ro, 0, false⟩]⟩,
  ⟨3, 0, 15, 0x0028, 0, 1, [⟨31, 0, .ro, 0, false⟩]⟩,
  ⟨3, 0, 15, 0x002C, 0, 1, [⟨31, 0, .ro, 0, false⟩]⟩,
  ⟨3, 0, 15, 0x0030, 0, 1, [⟨31, 0, .ro, 0, false⟩]⟩,
  ⟨3, 0, 15, 0x0034, 0, 1, [⟨31, 0, .ro, 0, false⟩]⟩,
  ⟨3, 0, 15, 0x0038, 0, 1, [⟨31, 0, .ro, 0, false⟩]⟩,
  ⟨3, 0, 15, 0x003C, 0, 1, [⟨31, 0, .ro, 0, false⟩]⟩,
  ⟨3, 0, 15, 0x0040, 0, 1, [⟨31, 0, .ro, 0, false⟩]⟩,
  ⟨3, 0, 15, 0x0044, 0, 1, [⟨31, 0, .ro, 0, false⟩]⟩,
  ⟨3, 16, 16, 0x0100, 4, 23, [⟨31, 0, .ro, 0, false⟩]⟩,
  ⟨3, 16, 16, 0x0200, 0, 1, [⟨19, 0, .ro, 0, false⟩]⟩,
  ⟨3, 16, 16, 0x0204, 0, 1, [⟨31, 0, .ro, 0, false⟩]⟩,
  ⟨3, 16, 16, 0x0208, 0, 1, [⟨31, 0, .ro, 0, false⟩]⟩,
  ⟨3, 16, 16, 0x020C, 0, 1, [⟨31, 0, .ro, 0, false⟩]⟩,
  ⟨3, 16, 16, 0x0300, 0, 1, [⟨13, 0, .rw, 0, true⟩, ⟨31, 31, .ro, 0, true⟩]⟩,
  ⟨3, 16, 16, 0x0310, 4, 16, [⟨31, 0, .ro, 0, true⟩]⟩]

/-- Register rows of CIP, part 0. -/
def rowsCIP0 : List RegRow := [
  ⟨4, 0, 15, 0x0000, 0, 1, [⟨0, 0, .ro, 0, false⟩, ⟨1, 1, .ro, 0, false⟩, ⟨2, 2, .ro, 0, false⟩]⟩,
  ⟨4, 0, 15, 0x0004, 0, 1, [⟨20, 0, .ro, 0, false⟩]⟩,
  ⟨4, 0, 15, 0x0010, 0, 1, [⟨31, 0, .ro, 0, false⟩]⟩,
  ⟨4, 0, 15, 0x0014, 0, 1, [⟨31, 0, .ro, 0, false⟩]⟩,
  ⟨4, 0, 15, 0x0018, 0, 1, [⟨31, 0, .ro, 0, false⟩]⟩,
  ⟨4, 0, 15, 0x001C, 0, 1, [⟨31, 0, .ro, 0, false⟩]⟩,
  ⟨4, 0, 15, 0x0100, 4, 7, [⟨31, 0, .ro, 0, false⟩]⟩,
  ⟨4, 16, 16, 0x0000, 0, 1, [⟨16, 0, .ro, 0, false⟩, ⟨29, 17, .ro, 0, false⟩]⟩,
  ⟨4, 16, 16, 0x0010, 4, 4, [⟨0, 0, .ro, 0, false⟩, ⟨1, 1, .ro, 0, false⟩, ⟨31, 8, .ro, 0, false⟩]⟩,
  ⟨4, 16, 16, 0x0100, 4, 10, [⟨31, 0, .ro, 0, false⟩]⟩,
  ⟨4, 16, 16, 0x0200, 0, 1, [⟨15, 0, .rw, 0, true⟩, ⟨31, 31, .ro, 0, true⟩]⟩,
  ⟨4, 16, 16, 0x0204, 0, 1, [⟨0, 0, .ro, 0, true⟩, ⟨1, 1, .ro, 0, true⟩, ⟨3, 2, .ro, 0, true⟩, ⟨7, 4, .ro, 0, true⟩, ⟨31, 8, .ro, 0, true⟩]⟩,
  ⟨4, 16, 16, 0x0208, 0, 1, [⟨31, 0, .ro, 0, true⟩]⟩,
  ⟨4, 16, 16, 0x020C, 0, 1, [⟨15, 0, .ro, 0, true⟩, ⟨31, 31, .ro, 0, true⟩]⟩]

/-- Register rows of EGS, part 0. -/
def rowsEGS0 : List RegRow := [
  ⟨5, 0, 15, 0x0000, 0, 1, [⟨9, 0, .ro, 0, false⟩, ⟨13, 10, .ro, 0, false⟩, ⟨15, 14, .ro, 0, false⟩, ⟨23, 16, .ro, 0, false⟩]⟩,
  ⟨5, 0, 15, 0x0004, 0, 1, [⟨9, 0, .rwl, 1, false⟩]⟩,
  ⟨5, 0, 15, 0x0008, 0, 1, [⟨31, 0, .ro, 0, false⟩]⟩,
  ⟨5, 0, 15, 0x000C, 0, 1, [⟨31, 0, .ro, 0, false⟩]⟩,
  ⟨5, 0, 15, 0x0010, 0, 1, [⟨31, 0, .ro, 0, false⟩]⟩,
  ⟨5, 0, 15, 0x0100, 4, 75, [⟨31, 0, .rwl, 0, false⟩]⟩,
  ⟨5, 0, 15, 0x0300, 4, 64, [⟨20, 0, .rwl, 0, false⟩, ⟨28, 21, .rwl, 0, false⟩, ⟨31, 31, .rwl, 0, false⟩]⟩,
  ⟨5, 0, 15, 0x0400, 16, 8, [⟨31, 0, .ro, 0, false⟩]⟩,
  ⟨5, 0, 15, 0x0404, 16, 8, [⟨31, 0, .ro, 0, false⟩]⟩,
  ⟨5, 0, 15, 0x0408, 16, 8, [⟨31, 0, .ro, 0, false⟩]⟩,
  ⟨5, 0, 15, 0x040C, 16, 8, [⟨31, 0, .ro, 0, false⟩]⟩,
  ⟨5, 0, 15, 0x0500, 4, 8, [⟨31, 0, .ro, 0, false⟩]⟩,
  ⟨5, 0, 0, 0x0600, 0, 1, [⟨13, 0, .rw, 0, true⟩, ⟨31, 31, .ro, 0, true⟩]⟩,
  ⟨5, 0, 0, 0x0604, 0, 1, [⟨7, 0, .ro, 0, true⟩, ⟨8, 8, .ro, 0, true⟩, ⟨12, 9, .ro, 0, true⟩, ⟨14, 13, .ro, 0, true⟩]⟩,
  ⟨5, 0, 0, 0x0610, 4, 12, [⟨31, 0, .ro, 0, true⟩]⟩]

/-- Register rows of DRV, part 0. -/
def rowsDRV0 : List RegRow := [
  ⟨6, 0, 0, 0x0000, 0, 1, [⟨12, 0, .ro, 0, false⟩, ⟨28, 16, .ro, 0, false⟩, ⟨29, 29, .ro, 0, false⟩, ⟨30, 30, .ro, 0, false⟩, ⟨31, 31, .ro, 1, false⟩]⟩,
  ⟨6, 0, 0, 0x0004, 0, 1, [⟨16, 0, .ro, 0, false⟩]⟩,
  ⟨6, 0, 0, 0x0008, 0, 1, [⟨16, 0, .ro, 0, false⟩]⟩,
  ⟨6, 0, 0, 0x0010, 0, 1, [⟨31, 0, .ro, 0, false⟩]⟩,
  ⟨6, 0, 0, 0x0014, 0, 1, [⟨31, 0, .ro, 0, false⟩]⟩,
  ⟨6, 0, 0, 0x0018, 0, 1, [⟨31, 0, .ro, 0, false⟩]⟩,
  ⟨6, 0, 0, 0x001C, 0, 1, [⟨31, 0, .ro, 0, false⟩]⟩,
  ⟨6, 0, 0, 0x0100, 4, 8, [⟨31, 0, .ro, 0, false⟩]⟩,
  ⟨6, 0, 0, 0x0120, 0, 1, [⟨31, 0, .ro, 0, false⟩]⟩,
  ⟨6, 0, 0, 0x0124, 0, 1, [⟨31, 0, .ro, 0, false⟩]⟩,
  ⟨6, 0, 0, 0x0128, 0, 1, [⟨31, 0, .ro, 0, false⟩]⟩,
  ⟨6, 0, 0, 0x012C, 0, 1, [⟨31, 0, .ro, 0, false⟩]⟩,
  ⟨6, 0, 0, 0x0200, 4, 18, [⟨15, 0, .ro, 0, false⟩, ⟨24, 16, .ro, 0, false⟩]⟩,
  ⟨6, 0, 0, 0x0280, 4, 4, [⟨15, 0, .ro, 0, false⟩, ⟨24, 16, .ro, 0, false⟩]⟩,
  ⟨6, 0, 0, 0x0300, 0, 1, [⟨15, 0, .rw, 0, true⟩, ⟨31, 31, .ro, 0, true⟩]⟩,
  ⟨6, 0, 0, 0x0304, 0, 1, [⟨2, 0, .ro, 0, true⟩, ⟨3, 3, .ro, 0, true⟩, ⟨6, 4, .ro, 0, true⟩, ⟨7, 7, .ro, 0, true⟩, ⟨13, 8, .ro, 0, true⟩, ⟨31, 16, .ro, 0, true⟩]⟩,
  ⟨6, 0, 0, 0x0308, 0, 1, [⟨31, 0, .ro, 0, true⟩]⟩,
  ⟨6, 0, 0, 0x030C, 0, 1, [⟨31, 0, .ro, 0, true⟩]⟩,
  ⟨6, 0, 0, 0x0310, 4, 6, [⟨31, 0, .ro, 0, true⟩]⟩]

/-- Register rows of BQ, part 0. -/
def rowsBQ0 : List RegRow := [
  ⟨7, 0, 15, 0x0000, 16, 256, [⟨16, 0, .ro, 0, false⟩, ⟨31, 17, .ro, 0, false⟩]⟩,
  ⟨7, 0, 15, 0x0004, 16, 256, [⟨14, 0, .rwl, 0, false⟩]⟩,
  ⟨7, 0, 15, 0x0008, 16, 256, [⟨3, 0, .rwl, 0, false⟩, ⟨4, 4, .rwl, 0, false⟩, ⟨15, 8, .rwl, 0, false⟩, ⟨23, 16, .rwl, 0, false⟩]⟩,
  ⟨7, 0, 15, 0x000C, 16, 256, [⟨16, 0, .ro, 0, false⟩, ⟨17, 17, .ro, 0, false⟩, ⟨18, 18, .ro, 0, false⟩]⟩,
  ⟨7, 0, 15, 0x1000, 16, 256, [⟨31, 0, .ro, 0, false⟩]⟩,
  ⟨7, 0, 15, 0x1004, 16, 256, [⟨31, 0, .ro, 0, false⟩]⟩,
  ⟨7, 0, 15, 0x1008, 16, 256, [⟨31, 0, .ro, 0, false⟩]⟩,
  ⟨7, 0, 15, 0x100C, 16, 256, [⟨31, 0, .ro, 0, false⟩]⟩,
  ⟨7, 0, 15, 0x2000, 4, 8, [⟨31, 0, .wo, 0, true⟩]⟩]

/-- Register rows of MCA, part 0. -/
def rowsMCA0 : List RegRow := [
  ⟨8, 0, 15, 0x0000, 0, 1, [⟨15, 0, .ro, 0, false⟩, ⟨31, 16, .ro, 0, false⟩]⟩,
  ⟨8, 0, 15, 0x0010, 0, 1, [⟨15, 0, .wo, 0, true⟩]⟩]

/-- Register rows of AUD, part 0. -/
def rowsAUD0 : List RegRow := [
  ⟨9, 0, 0, 0x0000, 0, 1, [⟨13, 0, .ro, 0, false⟩, ⟨29, 16, .ro, 0, false⟩, ⟨30, 30, .ro, 0, false⟩]⟩,
  ⟨9, 0, 0, 0x0004, 0, 1, [⟨13, 0, .ro, 8192, false⟩, ⟨29, 16, .ro, 8192, false⟩]⟩,
  ⟨9, 0, 0, 0x0008, 0, 1, [⟨13, 0, .ro, 0, false⟩, ⟨29, 16, .ro, 0, false⟩]⟩,
  ⟨9, 0, 0, 0x0010, 0, 1, [⟨31, 0, .ro, 0, false⟩]⟩,
  ⟨9, 0, 0, 0x0014, 0, 1, [⟨31, 0, .ro, 0, false⟩]⟩,
  ⟨9, 0, 0, 0x0018, 0, 1, [⟨31, 0, .ro, 0, false⟩]⟩,
  ⟨9, 0, 0, 0x001C, 0, 1, [⟨31, 0, .ro, 0, false⟩]⟩,
  ⟨9, 0, 0, 0x0020, 0, 1, [⟨31, 0, .ro, 0, false⟩]⟩,
  ⟨9, 0, 0, 0x0024, 0, 1, [⟨31, 0, .ro, 0, false⟩]⟩,
  ⟨9, 0, 0, 0x0028, 0, 1, [⟨31, 0, .ro, 0, false⟩]⟩,
  ⟨9, 0, 0, 0x002C, 0, 1, [⟨31, 0, .ro, 0, false⟩]⟩,
  ⟨9, 0, 0, 0x0100, 0, 1, [⟨11, 0, .rw, 0, true⟩, ⟨31, 31, .ro, 0, true⟩]⟩,
  ⟨9, 0, 0, 0x0104, 0, 1, [⟨13, 0, .ro, 0, true⟩, ⟨14, 14, .ro, 0, true⟩, ⟨19, 16, .ro, 0, true⟩, ⟨24, 20, .ro, 0, true⟩]⟩,
  ⟨9, 0, 0, 0x0110, 4, 8, [⟨13, 0, .ro, 0, true⟩, ⟨14, 14, .ro, 0, true⟩, ⟨31, 16, .ro, 0, true⟩]⟩,
  ⟨9, 0, 0, 0x0200, 0, 1, [⟨13, 0, .rw, 0, true⟩, ⟨31, 31, .ro, 0, true⟩]⟩,
  ⟨9, 0, 0, 0x0210, 4, 10, [⟨31, 0, .ro, 0, true⟩]⟩]

/-- Register rows of VEN, part 0. -/
def rowsVEN0 : List RegRow := [
  ⟨10, 0, 63, 0x0000, 0, 1, [⟨0, 0, .ro, 0, false⟩, ⟨1, 1, .ro, 0, false⟩, ⟨2, 2, .ro, 0, false⟩]⟩,
  ⟨10, 0, 63, 0x0004, 0, 1, [⟨0, 0, .ro, 0, false⟩, ⟨1, 1, .ro, 0, false⟩, ⟨15, 8, .ro, 0, false⟩]⟩,
  ⟨10, 0, 63, 0x0008, 0, 1, [⟨31, 0, .ro, 0, false⟩]⟩,
  ⟨10, 0, 63, 0x000C, 0, 1, [⟨31, 0, .ro, 0, false⟩]⟩,
  ⟨10, 0, 63, 0x0010, 0, 1, [⟨0, 0, .wo, 0, true⟩]⟩,
  ⟨10, 0, 63, 0x0014, 0, 1, [⟨20, 0, .ro, 0, false⟩]⟩,
  ⟨10, 0, 63, 0x0018, 0, 1, [⟨20, 0, .ro, 0, false⟩]⟩,
  ⟨10, 0, 63, 0x0020, 0, 1, [⟨31, 0, .ro, 0, false⟩]⟩,
  ⟨10, 0, 63, 0x0024, 0, 1, [⟨31, 0, .ro, 0, false⟩]⟩,
  ⟨10, 0, 63, 0x0028, 0, 1, [⟨31, 0, .ro, 0, false⟩]⟩,
  ⟨10, 0, 63, 0x002C, 0, 1, [⟨31, 0, .ro, 0, false⟩]⟩,
  ⟨10, 0, 63, 0x0030, 0, 1, [⟨31, 0, .ro, 0, false⟩]⟩,
  ⟨10, 0, 63, 0x0034, 0, 1, [⟨31, 0, .ro, 0, false⟩]⟩,
  ⟨10, 0, 63, 0x0040, 0, 1, [⟨31, 0, .ro, 0, false⟩]⟩,
  ⟨10, 0, 63, 0x0044, 0, 1, [⟨31, 0, .ro, 0, false⟩]⟩,
  ⟨10, 0, 63, 0x0048, 0, 1, [⟨31, 0, .ro, 0, false⟩]⟩,
  ⟨10, 0, 63, 0x004C, 0, 1, [⟨31, 0, .ro, 0, false⟩]⟩,
  ⟨10, 0, 0, 0x0100, 0, 1, [⟨15, 0, .rw, 0, true⟩, ⟨31, 31, .ro, 0, true⟩]⟩,
  ⟨10, 0, 0, 0x0104, 0, 1, [⟨2, 0, .ro, 0, true⟩, ⟨3, 3, .ro, 0, true⟩, ⟨7, 4, .ro, 0, true⟩, ⟨11, 8, .ro, 0, true⟩, ⟨12, 12, .ro, 0, true⟩, ⟨13, 13, .ro, 0, true⟩, ⟨31, 16, .ro, 0, true⟩]⟩,
  ⟨10, 0, 0, 0x0110, 4, 9, [⟨31, 0, .ro, 0, true⟩]⟩,
  ⟨10, 0, 63, 0x0200, 0, 1, [⟨20, 0, .ro, 0, false⟩]⟩,
  ⟨10, 0, 63, 0x0210, 0, 1, [⟨31, 0, .ro, 0, false⟩]⟩,
  ⟨10, 0, 63, 0x0214, 0, 1, [⟨31, 0, .ro, 0, false⟩]⟩,
  ⟨10, 0, 63, 0x0218, 0, 1, [⟨31, 0, .ro, 0, false⟩]⟩]

/-- Register rows of VEN, part 1. -/
def rowsVEN1 : List RegRow := [
  ⟨10, 0, 63, 0x021C, 0, 1, [⟨31, 0, .ro, 0, false⟩]⟩,
  ⟨10, 0, 63, 0x0220, 0, 1, [⟨31, 0, .ro, 0, false⟩]⟩,
  ⟨10, 0, 63, 0x0224, 0, 1, [⟨31, 0, .ro, 0, false⟩]⟩,
  ⟨10, 0, 63, 0x0240, 0, 1, [⟨31, 0, .ro, 0, false⟩]⟩,
  ⟨10, 0, 63, 0x0244, 0, 1, [⟨31, 0, .ro, 0, false⟩]⟩,
  ⟨10, 0, 63, 0x0248, 0, 1, [⟨31, 0, .ro, 0, false⟩]⟩,
  ⟨10, 0, 63, 0x024C, 0, 1, [⟨31, 0, .ro, 0, false⟩]⟩,
  ⟨10, 0, 63, 0x0250, 0, 1, [⟨31, 0, .ro, 0, false⟩]⟩,
  ⟨10, 0, 0, 0x0300, 0, 1, [⟨12, 0, .rw, 0, true⟩, ⟨31, 31, .ro, 0, true⟩]⟩,
  ⟨10, 0, 0, 0x0304, 0, 1, [⟨2, 0, .ro, 0, true⟩, ⟨5, 3, .ro, 0, true⟩, ⟨6, 6, .ro, 0, true⟩, ⟨7, 7, .ro, 0, true⟩, ⟨10, 8, .ro, 0, true⟩, ⟨11, 11, .ro, 0, true⟩, ⟨13, 12, .ro, 0, true⟩, ⟨25, 16, .ro, 0, true⟩]⟩,
  ⟨10, 0, 0, 0x0308, 0, 1, [⟨6, 0, .ro, 0, true⟩, ⟨7, 7, .ro, 0, true⟩, ⟨15, 8, .ro, 0, true⟩]⟩,
  ⟨10, 0, 0, 0x030C, 0, 1, [⟨31, 0, .ro, 0, true⟩]⟩,
  ⟨10, 0, 0, 0x0310, 4, 12, [⟨31, 0, .ro, 0, true⟩]⟩]

/-- Register rows of CMP, part 0. -/
def rowsCMP0 : List RegRow := [
  ⟨11, 0, 7, 0x0000, 0, 1, [⟨0, 0, .ro, 0, false⟩, ⟨1, 1, .ro, 0, false⟩]⟩,
  ⟨11, 0, 7, 0x0004, 0, 1, [⟨0, 0, .ro, 0, false⟩, ⟨1, 1, .ro, 0, false⟩, ⟨15, 8, .ro, 0, false⟩]⟩,
  ⟨11, 0, 7, 0x0008, 0, 1, [⟨31, 0, .ro, 0, false⟩]⟩,
  ⟨11, 0, 7, 0x000C, 0, 1, [⟨31, 0, .ro, 0, false⟩]⟩,
  ⟨11, 0, 7, 0x0010, 0, 1, [⟨0, 0, .wo, 0, true⟩]⟩,
  ⟨11, 0, 7, 0x0014, 0, 1, [⟨22, 0, .ro, 0, false⟩]⟩,
  ⟨11, 0, 7, 0x0020, 0, 1, [⟨31, 0, .ro, 0, false⟩]⟩,
  ⟨11, 0, 7, 0x0024, 0, 1, [⟨31, 0, .ro, 0, false⟩]⟩,
  ⟨11, 0, 7, 0x0028, 0, 1, [⟨31, 0, .ro, 0, false⟩]⟩,
  ⟨11, 0, 7, 0x002C, 0, 1, [⟨31, 0, .ro, 0, false⟩]⟩,
  ⟨11, 0, 7, 0x0030, 0, 1, [⟨31, 0, .ro, 0, false⟩]⟩,
  ⟨11, 0, 7, 0x0034, 0, 1, [⟨31, 0, .ro, 0, false⟩]⟩,
  ⟨11, 0, 7, 0x0040, 0, 1, [⟨31, 0, .ro, 0, false⟩]⟩,
  ⟨11, 0, 7, 0x0044, 0, 1, [⟨31, 0, .ro, 0, false⟩]⟩,
  ⟨11, 0, 7, 0x0048, 0, 1, [⟨31, 0, .ro, 0, false⟩]⟩,
  ⟨11, 0, 7, 0x004C, 0, 1, [⟨31, 0, .ro, 0, false⟩]⟩,
  ⟨11, 0, 0, 0x0210, 0, 1, [⟨31, 0, .ro, 0, false⟩]⟩,
  ⟨11, 0, 0, 0x0214, 0, 1, [⟨31, 0, .ro, 0, false⟩]⟩,
  ⟨11, 0, 0, 0x0218, 0, 1, [⟨31, 0, .ro, 0, false⟩]⟩,
  ⟨11, 0, 0, 0x0100, 0, 1, [⟨12, 0, .rw, 0, true⟩, ⟨31, 31, .ro, 0, true⟩]⟩,
  ⟨11, 0, 0, 0x0104, 0, 1, [⟨0, 0, .ro, 0, true⟩, ⟨2, 1, .ro, 0, true⟩, ⟨10, 4, .ro, 0, true⟩, ⟨25, 16, .ro, 0, true⟩]⟩,
  ⟨11, 0, 0, 0x0108, 0, 1, [⟨15, 0, .ro, 0, true⟩]⟩,
  ⟨11, 0, 0, 0x0110, 4, 16, [⟨31, 0, .ro, 0, true⟩]⟩,
  ⟨11, 0, 0, 0x0150, 4, 16, [⟨31, 0, .ro, 0, true⟩]⟩]

/-- Register rows of CMP, part 1. -/
def rowsCMP1 : List RegRow := [
  ⟨11, 0, 0, 0x0190, 4, 32, [⟨13, 0, .ro, 0, true⟩, ⟨14, 14, .ro, 0, true⟩, ⟨15, 15, .ro, 0, true⟩, ⟨29, 16, .ro, 0, true⟩, ⟨30, 30, .ro, 0, true⟩, ⟨31, 31, .ro, 0, true⟩]⟩]

/-- Register rows of LAC, part 0. -/
def rowsLAC0 : List RegRow := [
  ⟨12, 0, 0, 0x0000, 0, 1, [⟨10, 0, .ro, 0, false⟩, ⟨12, 12, .ro, 0, false⟩, ⟨13, 13, .ro, 0, false⟩, ⟨28, 16, .ro, 0, false⟩]⟩,
  ⟨12, 0, 0, 0x0050, 0, 1, [⟨1, 0, .wo, 0, true⟩]⟩,
  ⟨12, 0, 0, 0x0010, 0, 1, [⟨31, 0, .ro, 0, false⟩]⟩,
  ⟨12, 0, 0, 0x0014, 0, 1, [⟨31, 0, .ro, 0, false⟩]⟩,
  ⟨12, 0, 0, 0x0018, 0, 1, [⟨31, 0, .ro, 0, false⟩]⟩,
  ⟨12, 0, 0, 0x001C, 0, 1, [⟨31, 0, .ro, 0, false⟩]⟩,
  ⟨12, 0, 0, 0x0020, 0, 1, [⟨31, 0, .ro, 0, false⟩]⟩,
  ⟨12, 0, 0, 0x0024, 0, 1, [⟨31, 0, .ro, 0, false⟩]⟩,
  ⟨12, 0, 0, 0x0040, 0, 1, [⟨31, 0, .ro, 0, false⟩]⟩,
  ⟨12, 0, 0, 0x0044, 0, 1, [⟨31, 0, .ro, 0, false⟩]⟩,
  ⟨12, 0, 0, 0x0048, 0, 1, [⟨31, 0, .ro, 0, false⟩]⟩,
  ⟨12, 1, 1, 0x0010, 0, 1, [⟨31, 0, .ro, 0, false⟩]⟩,
  ⟨12, 1, 1, 0x0014, 0, 1, [⟨31, 0, .ro, 0, false⟩]⟩,
  ⟨12, 1, 1, 0x0040, 0, 1, [⟨31, 0, .ro, 0, false⟩]⟩,
  ⟨12, 1, 1, 0x0044, 0, 1, [⟨31, 0, .ro, 0, false⟩]⟩,
  ⟨12, 0, 0, 0x0100, 0, 1, [⟨13, 0, .rw, 0, true⟩, ⟨31, 31, .ro, 0, true⟩]⟩,
  ⟨12, 1, 1, 0x0100, 0, 1, [⟨13, 0, .rw, 0, true⟩, ⟨31, 31, .ro, 0, true⟩]⟩,
  ⟨12, 2, 2, 0x0100, 0, 1, [⟨13, 0, .rw, 0, true⟩, ⟨31, 31, .ro, 0, true⟩]⟩,
  ⟨12, 0, 0, 0x0104, 0, 1, [⟨5, 0, .ro, 0, true⟩, ⟨6, 6, .ro, 0, true⟩, ⟨31, 16, .ro, 0, true⟩]⟩,
  ⟨12, 0, 0, 0x0110, 4, 32, [⟨13, 0, .ro, 0, true⟩, ⟨14, 14, .ro, 0, true⟩, ⟨15, 15, .ro, 0, true⟩, ⟨18, 16, .ro, 0, true⟩, ⟨19, 19, .ro, 0, true⟩, ⟨31, 31, .ro, 0, true⟩]⟩,
  ⟨12, 1, 1, 0x0110, 4, 16, [⟨13, 0, .ro, 0, true⟩, ⟨14, 14, .ro, 0, true⟩, ⟨15, 15, .ro, 0, true⟩, ⟨19, 16, .ro, 0, true⟩, ⟨23, 20, .ro, 0, true⟩, ⟨25, 24, .ro, 0, true⟩, ⟨26, 26, .ro, 0, true⟩]⟩,
  ⟨12, 2, 2, 0x0104, 0, 1, [⟨1, 0, .ro, 0, true⟩, ⟨7, 2, .ro, 0, true⟩, ⟨17, 8, .ro, 0, true⟩, ⟨18, 18, .ro, 0, true⟩]⟩,
  ⟨12, 2, 2, 0x0110, 4, 7, [⟨31, 0, .ro, 0, true⟩]⟩]

/-- Register rows of DMC, part 0. -/
def rowsDMC0 : List RegRow := [
  ⟨13, 0, 11, 0x0000, 0, 1, [⟨2, 0, .ro, 0, false⟩, ⟨4, 3, .ro, 0, false⟩, ⟨5, 5, .ro, 0, false⟩, ⟨6, 6, .ro, 0, false⟩, ⟨7, 7, .ro, 0, false⟩, ⟨11, 8, .ro, 0, false⟩, ⟨13, 12, .ro, 0, false⟩, ⟨15, 14, .ro, 0, false⟩, ⟨17, 16, .ro, 0, false⟩, ⟨18, 18, .ro, 0, false⟩]⟩,
  ⟨13, 0, 11, 0x0004, 0, 1, [⟨7, 0, .ro, 0, false⟩, ⟨9, 8, .ro, 0, false⟩, ⟨10, 10, .ro, 0, false⟩, ⟨12, 11, .ro, 0, false⟩, ⟨31, 16, .ro, 0, false⟩]⟩,
  ⟨13, 0, 11, 0x0008, 0, 1, [⟨23, 0, .rwl, 0, false⟩, ⟨25, 24, .rwl, 0, false⟩]⟩,
  ⟨13, 0, 11, 0x000C, 0, 1, [⟨7, 0, .ro, 0, false⟩, ⟨15, 8, .ro, 0, false⟩, ⟨19, 16, .ro, 0, false⟩]⟩,
  ⟨13, 0, 11, 0x0014, 0, 1, [⟨13, 0, .rwl, 2048, false⟩, ⟨15, 14, .rwl, 0, false⟩]⟩,
  ⟨13, 0, 11, 0x0018, 0, 1, [⟨2, 0, .wo, 0, true⟩]⟩,
  ⟨13, 0, 11, 0x0020, 0, 1, [⟨31, 0, .ro, 0, false⟩]⟩,
  ⟨13, 0, 11, 0x0024, 0, 1, [⟨31, 0, .ro, 0, false⟩]⟩,
  ⟨13, 0, 11, 0x0028, 0, 1, [⟨31, 0, .ro, 0, false⟩]⟩,
  ⟨13, 0, 11, 0x002C, 0, 1, [⟨31, 0, .ro, 0, false⟩]⟩,
  ⟨13, 0, 11, 0x0030, 0, 1, [⟨31, 0, .ro, 0, false⟩]⟩,
  ⟨13, 0, 11, 0x0034, 0, 1, [⟨31, 0, .ro, 0, false⟩]⟩,
  ⟨13, 0, 11, 0x0038, 0, 1, [⟨31, 0, .ro, 0, false⟩]⟩,
  ⟨13, 0, 11, 0x003C, 0, 1, [⟨31, 0, .ro, 0, false⟩]⟩,
  ⟨13, 0, 11, 0x0040, 0, 1, [⟨31, 0, .ro, 0, false⟩]⟩,
  ⟨13, 0, 11, 0x0044, 0, 1, [⟨31, 0, .ro, 0, false⟩]⟩,
  ⟨13, 0, 11, 0x0048, 0, 1, [⟨31, 0, .ro, 0, false⟩]⟩,
  ⟨13, 0, 11, 0x004C, 0, 1, [⟨31, 0, .ro, 0, false⟩]⟩,
  ⟨13, 0, 11, 0x0050, 0, 1, [⟨31, 0, .ro, 0, false⟩]⟩,
  ⟨13, 0, 11, 0x0054, 0, 1, [⟨31, 0, .ro, 0, false⟩]⟩,
  ⟨13, 0, 11, 0x0058, 0, 1, [⟨31, 0, .ro, 0, false⟩]⟩,
  ⟨13, 0, 11, 0x0060, 4, 4, [⟨31, 0, .ro, 0, false⟩]⟩,
  ⟨13, 16, 16, 0x0000, 0, 1, [⟨15, 0, .ro, 0, false⟩, ⟨16, 16, .ro, 0, false⟩]⟩,
  ⟨13, 16, 16, 0x0010, 0, 1, [⟨31, 0, .ro, 0, false⟩]⟩]

/-- Register rows of DMC, part 1. -/
def rowsDMC1 : List RegRow := [
  ⟨13, 16, 16, 0x0014, 0, 1, [⟨31, 0, .ro, 0, false⟩]⟩,
  ⟨13, 16, 16, 0x0018, 0, 1, [⟨31, 0, .ro, 0, false⟩]⟩,
  ⟨13, 16, 16, 0x001C, 0, 1, [⟨31, 0, .ro, 0, false⟩]⟩,
  ⟨13, 16, 16, 0x0040, 0, 1, [⟨31, 0, .ro, 0, false⟩]⟩,
  ⟨13, 16, 16, 0x0044, 0, 1, [⟨31, 0, .ro, 0, false⟩]⟩,
  ⟨13, 16, 16, 0x0048, 0, 1, [⟨31, 0, .ro, 0, false⟩]⟩,
  ⟨13, 17, 17, 0x0000, 0, 1, [⟨13, 0, .ro, 0, false⟩, ⟨20, 14, .ro, 0, false⟩, ⟨22, 21, .ro, 1, false⟩, ⟨23, 23, .ro, 0, false⟩]⟩,
  ⟨13, 17, 17, 0x0004, 0, 1, [⟨16, 0, .ro, 0, false⟩]⟩,
  ⟨13, 17, 17, 0x0008, 0, 1, [⟨16, 0, .ro, 0, false⟩]⟩,
  ⟨13, 17, 17, 0x000C, 0, 1, [⟨31, 0, .ro, 0, false⟩]⟩,
  ⟨13, 17, 17, 0x0100, 0, 1, [⟨12, 0, .rw, 0, true⟩, ⟨16, 13, .rw, 0, true⟩, ⟨31, 31, .ro, 0, true⟩]⟩,
  ⟨13, 17, 17, 0x0104, 0, 1, [⟨12, 0, .ro, 0, true⟩, ⟨16, 13, .ro, 0, true⟩, ⟨17, 17, .ro, 0, true⟩, ⟨18, 18, .ro, 0, true⟩]⟩]

/-- Register rows of TWN, part 0. -/
def rowsTWN0 : List RegRow := [
  ⟨14, 0, 0, 0x0000, 0, 1, [⟨2, 0, .ro, 0, false⟩, ⟨3, 3, .ro, 0, false⟩, ⟨4, 4, .ro, 0, false⟩, ⟨5, 5, .ro, 0, false⟩, ⟨6, 6, .ro, 0, false⟩, ⟨7, 7, .ro, 0, false⟩, ⟨8, 8, .ro, 0, false⟩, ⟨9, 9, .ro, 0, false⟩, ⟨10, 10, .ro, 0, false⟩, ⟨11, 11, .ro, 0, false⟩, ⟨13, 12, .ro, 0, false⟩, ⟨14, 14, .ro, 0, false⟩, ⟨15, 15, .ro, 0, false⟩]⟩,
  ⟨14, 0, 0, 0x0004, 0, 1, [⟨31, 0, .ro, 0, false⟩]⟩,
  ⟨14, 0, 0, 0x0010, 0, 1, [⟨31, 0, .ro, 0, false⟩]⟩,
  ⟨14, 0, 0, 0x0014, 0, 1, [⟨23, 0, .ro, 0, false⟩]⟩,
  ⟨14, 0, 0, 0x0008, 0, 1, [⟨31, 0, .ro, 0, false⟩]⟩,
  ⟨14, 0, 0, 0x000C, 0, 1, [⟨31, 0, .ro, 0, false⟩]⟩,
  ⟨14, 0, 0, 0x0018, 0, 1, [⟨31, 0, .ro, 0, false⟩]⟩,
  ⟨14, 0, 0, 0x0020, 0, 1, [⟨0, 0, .wo, 0, true⟩]⟩,
  ⟨14, 0, 0, 0x0040, 0, 1, [⟨31, 0, .ro, 0, false⟩]⟩,
  ⟨14, 0, 0, 0x0044, 0, 1, [⟨31, 0, .ro, 0, false⟩]⟩,
  ⟨14, 0, 0, 0x0048, 0, 1, [⟨31, 0, .ro, 0, false⟩]⟩,
  ⟨14, 0, 0, 0x004C, 0, 1, [⟨31, 0, .ro, 0, false⟩]⟩,
  ⟨14, 0, 0, 0x0050, 0, 1, [⟨31, 0, .ro, 0, false⟩]⟩,
  ⟨14, 0, 0, 0x0054, 0, 1, [⟨31, 0, .ro, 0, false⟩]⟩,
  ⟨14, 0, 0, 0x0058, 0, 1, [⟨31, 0, .ro, 0, false⟩]⟩,
  ⟨14, 0, 0, 0x005C, 0, 1, [⟨31, 0, .ro, 0, false⟩]⟩,
  ⟨14, 0, 0, 0x0060, 0, 1, [⟨31, 0, .ro, 0, false⟩]⟩,
  ⟨14, 0, 0, 0x0064, 0, 1, [⟨31, 0, .ro, 0, false⟩]⟩,
  ⟨14, 1, 2, 0x0000, 0, 1, [⟨0, 0, .ro, 0, false⟩, ⟨8, 1, .ro, 0, false⟩, ⟨9, 9, .ro, 0, false⟩]⟩,
  ⟨14, 1, 2, 0x0004, 0, 1, [⟨15, 0, .ro, 0, false⟩]⟩,
  ⟨14, 1, 2, 0x0010, 0, 1, [⟨31, 0, .ro, 0, false⟩]⟩,
  ⟨14, 1, 2, 0x0014, 0, 1, [⟨31, 0, .ro, 0, false⟩]⟩,
  ⟨14, 1, 2, 0x0018, 0, 1, [⟨31, 0, .ro, 0, false⟩]⟩,
  ⟨14, 1, 2, 0x001C, 0, 1, [⟨31, 0, .ro, 0, false⟩]⟩]

/-- Register rows of TWN, part 1. -/
def rowsTWN1 : List RegRow := [
  ⟨14, 1, 2, 0x0020, 0, 1, [⟨31, 0, .ro, 0, false⟩]⟩,
  ⟨14, 1, 2, 0x0024, 0, 1, [⟨31, 0, .ro, 0, false⟩]⟩,
  ⟨14, 1, 2, 0x0040, 0, 1, [⟨31, 0, .ro, 0, false⟩]⟩,
  ⟨14, 1, 2, 0x0044, 0, 1, [⟨31, 0, .ro, 0, false⟩]⟩,
  ⟨14, 1, 2, 0x0048, 0, 1, [⟨31, 0, .ro, 0, false⟩]⟩]

/-- Register rows of MGT, part 0. -/
def rowsMGT0 : List RegRow := [
  ⟨15, 0, 3, 0x0000, 0, 1, [⟨0, 0, .ro, 0, true⟩, ⟨1, 1, .ro, 0, true⟩]⟩,
  ⟨15, 0, 3, 0x0004, 0, 1, [⟨31, 0, .ro, 0, true⟩]⟩,
  ⟨15, 16, 16, 0x0000, 0, 1, [⟨17, 0, .ro, 0, false⟩, ⟨31, 18, .ro, 0, false⟩]⟩,
  ⟨15, 16, 16, 0x0004, 0, 1, [⟨31, 0, .ro, 0, false⟩]⟩,
  ⟨15, 16, 16, 0x0008, 0, 1, [⟨31, 0, .ro, 0, false⟩]⟩,
  ⟨15, 16, 16, 0x000C, 0, 1, [⟨31, 0, .ro, 0, false⟩]⟩]

/-- The rows of a subsystem (R4 codes). -/
def subRows : Nat → List RegRow
  | 0 => rowsDEV0 ++ rowsDEV1
  | 1 => rowsBOOT0 ++ rowsBOOT1
  | 2 => rowsTIME0 ++ rowsTIME1
  | 3 => rowsNET0
  | 4 => rowsCIP0
  | 5 => rowsEGS0
  | 6 => rowsDRV0
  | 7 => rowsBQ0
  | 8 => rowsMCA0
  | 9 => rowsAUD0
  | 10 => rowsVEN0 ++ rowsVEN1
  | 11 => rowsCMP0 ++ rowsCMP1
  | 12 => rowsLAC0
  | 13 => rowsDMC0 ++ rowsDMC1
  | 14 => rowsTWN0 ++ rowsTWN1
  | 15 => rowsMGT0
  | _ => []

/-- Does row `r` hold the dword at byte offset `off` of instance `inst`? -/
def RegRow.covers (r : RegRow) (inst off : Nat) : Bool :=
  r.i0 ≤ inst && inst ≤ r.i1 && r.off ≤ off &&
  (if r.count = 1 then off = r.off
   else decide ((off - r.off) % r.stride = 0 ∧ (off - r.off) / r.stride < r.count))

/-- Subsystem code of a dword index (R3). -/
def subOf (d : Nat) : Nat := d / 2 ^ 22 % 16
/-- Instance number of a dword index (R3). -/
def instOf (d : Nat) : Nat := d / 2 ^ 14 % 256
/-- Register offset in bytes of a dword index (R3). -/
def offOf (d : Nat) : Nat := d % 2 ^ 14 * 4

/-- The row of the register index that holds dword `d`; none at a reserved location (R5). -/
def rowOf (d : Nat) : Option RegRow := (subRows (subOf d)).find? (·.covers (instOf d) (offOf d))

/-- The fields of dword `d`; none at a reserved location. -/
def fieldsOf (d : Nat) : List Field := match rowOf d with | some r => r.fields | none => []

/-- Rows with a Cold value other than 0: subsystem, instances, offset, stride, count, value. -/
def coldRows : List (Nat × Nat × Nat × Nat × Nat × Nat × Nat) := [
  (0, 0, 0, 288, 0, 1, 10),
  (0, 0, 0, 576, 4, 8, 10000),
  (0, 0, 0, 2048, 0, 1, 3325296640),
  (0, 0, 0, 2304, 0, 1, 598076),
  (1, 0, 0, 80, 0, 1, 2000),
  (2, 0, 0, 32, 0, 1, 1073741824),
  (2, 0, 0, 36, 0, 1, 1),
  (2, 0, 0, 64, 0, 1, 73),
  (2, 0, 0, 68, 0, 1, 2424832),
  (2, 0, 0, 80, 0, 1, 6553600),
  (2, 1, 2, 0, 0, 1, 805306368),
  (5, 0, 15, 4, 0, 1, 1),
  (6, 0, 0, 0, 0, 1, 2147483648),
  (9, 0, 0, 4, 0, 1, 536879104),
  (13, 0, 11, 20, 0, 1, 2048),
  (13, 17, 17, 0, 0, 1, 2097152)]

/-- The Cold value of dword `d`. CIP_PIPE_STATUS.hmac_present (R146) is 1 in pipes 0 to 3 and 8 to 11. -/
def coldOf (d : Nat) : Nat :=
  let sub := subOf d
  let inst := instOf d
  let off := offOf d
  if sub = 4 ∧ off = 0 ∧ (inst < 4 ∨ (8 ≤ inst ∧ inst < 12)) then 4
  else match coldRows.find? (fun (cs, i0, i1, o, st, n, _) => cs = sub && (RegRow.covers ⟨cs, i0, i1, o, st, n, []⟩ inst off)) with
    | some (_, _, _, _, _, _, v) => v
    | none => 0

/-- The lower halves of the 64-bit registers (R15): subsystem, instances, offset, stride, count. -/
def wideRows : List (Nat × Nat × Nat × Nat × Nat × Nat) := [
  (0, 0, 0, 256, 0, 1),
  (0, 0, 0, 4096, 32, 35),
  (1, 0, 0, 776, 0, 1),
  (2, 0, 0, 32, 0, 1),
  (2, 0, 0, 48, 0, 1),
  (2, 1, 2, 16, 0, 1),
  (2, 1, 2, 24, 0, 1),
  (2, 16, 79, 8, 0, 1),
  (3, 0, 15, 16, 0, 1),
  (3, 0, 15, 24, 0, 1),
  (3, 0, 15, 32, 0, 1),
  (3, 0, 15, 40, 0, 1),
  (3, 0, 15, 48, 0, 1),
  (3, 0, 15, 56, 0, 1),
  (3, 0, 15, 64, 0, 1),
  (4, 0, 15, 16, 0, 1),
  (4, 0, 15, 24, 0, 1),
  (4, 16, 16, 520, 0, 1),
  (5, 0, 15, 1024, 16, 8),
  (5, 0, 15, 1032, 16, 8),
  (9, 0, 0, 16, 0, 1),
  (9, 0, 0, 24, 0, 1),
  (9, 0, 0, 32, 0, 1),
  (9, 0, 0, 40, 0, 1),
  (10, 0, 63, 8, 0, 1),
  (10, 0, 63, 32, 0, 1),
  (10, 0, 63, 40, 0, 1),
  (10, 0, 63, 48, 0, 1),
  (10, 0, 63, 528, 0, 1),
  (10, 0, 63, 536, 0, 1),
  (10, 0, 63, 544, 0, 1),
  (11, 0, 7, 8, 0, 1),
  (11, 0, 7, 32, 0, 1),
  (11, 0, 7, 40, 0, 1),
  (11, 0, 7, 48, 0, 1),
  (11, 0, 0, 528, 0, 1),
  (12, 0, 0, 16, 0, 1),
  (12, 0, 0, 24, 0, 1),
  (12, 0, 0, 32, 0, 1),
  (12, 1, 1, 16, 0, 1),
  (13, 0, 11, 32, 0, 1),
  (13, 0, 11, 40, 0, 1),
  (13, 0, 11, 48, 0, 1),
  (13, 0, 11, 56, 0, 1),
  (13, 16, 16, 16, 0, 1),
  (13, 16, 16, 24, 0, 1),
  (14, 0, 0, 8, 0, 1),
  (14, 0, 0, 64, 0, 1),
  (14, 0, 0, 72, 0, 1),
  (14, 1, 2, 16, 0, 1),
  (14, 1, 2, 24, 0, 1),
  (14, 1, 2, 32, 0, 1),
  (15, 16, 16, 8, 0, 1)]

/-- Is dword `d` the lower half of a 64-bit register (R15)? -/
def wideLow (d : Nat) : Bool :=
  wideRows.any (fun (w : Nat × Nat × Nat × Nat × Nat × Nat) =>
    w.1 = subOf d && (RegRow.covers ⟨w.1, w.2.1, w.2.2.1, w.2.2.2.1, w.2.2.2.2.1, w.2.2.2.2.2, []⟩ (instOf d) (offOf d)))

namespace Reg
/-- R53 -/
def DEV_TICK_NUMBER : Nat := 64
/-- R54 -/
def DEV_TICK_STATUS : Nat := 66
/-- R55 -/
def DEV_EPOCH_SWITCHES : Nat := 68
/-- R55 -/
def DEV_EPOCH_DEFERRED : Nat := 69
/-- R56 -/
def DEV_ADMIT_CONFIG : Nat := 72
/-- R57 -/
def DEV_ADMIT_LOAD (n : Nat) : Nat := 76 + n * 1
/-- R58 -/
def DEV_ADMIT_ADMITTED : Nat := 80
/-- R58 -/
def DEV_ADMIT_DEGRADED : Nat := 81
/-- R58 -/
def DEV_ADMIT_REFUSED : Nat := 82
/-- R59 -/
def DEV_ADMIT_OVERCOMMIT : Nat := 83
/-- R688 -/
def DEV_FAULT_LAST : Nat := 128
/-- R688 -/
def DEV_FAULT_SUBJECT : Nat := 129
/-- R689 -/
def DEV_FAULT_COUNT (n : Nat) : Nat := 132 + n * 1
/-- R689 -/
def DEV_FAULT_DROPPED : Nat := 137
/-- R690 -/
def DEV_SVC_REQ : Nat := 140
/-- R691 -/
def DEV_SVC_REMAIN (n : Nat) : Nat := 144 + n * 1
/-- R692 -/
def DEV_SVC_REASON (n : Nat) : Nat := 152 + n * 2
/-- R692 -/
def DEV_SVC_REASON_SUBJ (n : Nat) : Nat := 153 + n * 2
/-- R667 -/
def DEV_HOST_STATUS : Nat := 256
/-- R714 -/
def DEV_DIE_TEMP : Nat := 320
/-- R670 -/
def DEV_SVC_STATUS : Nat := 512
/-- R670 -/
def DEV_SVC_KEY_CHECK (n : Nat) : Nat := 513 + n * 1
/-- R671 -/
def DEV_SVC_CTR (n : Nat) : Nat := 516 + n * 1
/-- R672 -/
def DEV_TELE_CONFIG : Nat := 576
/-- R672 -/
def DEV_TELE_CTR (n : Nat) : Nat := 580 + n * 1
/-- R668 -/
def DEV_RING_BASE (n : Nat) : Nat := 1024 + n * 8
/-- R668 -/
def DEV_RING_CONFIG (n : Nat) : Nat := 1026 + n * 8
/-- R669 -/
def DEV_RING_HEAD (n : Nat) : Nat := 1027 + n * 8
/-- R669 -/
def DEV_RING_TAIL (n : Nat) : Nat := 1028 + n * 8
/-- R669 -/
def DEV_RING_DROPS (n : Nat) : Nat := 1029 + n * 8
/-- R574 -/
def BOOT_STATUS : Nat := 4194304
/-- R575 -/
def BOOT_STRAP : Nat := 4194305
/-- R575 -/
def BOOT_OPTION : Nat := 4194306
/-- R575 -/
def BOOT_OPTION_GEN : Nat := 4194307
/-- R576 -/
def BOOT_RESET_CAUSE : Nat := 4194308
/-- R577 -/
def BOOT_FATAL_CODE : Nat := 4194309
/-- R577 -/
def BOOT_WARM_REMAIN : Nat := 4194310
/-- R578 -/
def BOOT_RESET_COUNT (n : Nat) : Nat := 4194312 + n * 1
/-- R578 -/
def BOOT_FAULT_OVERFLOW : Nat := 4194317
/-- R579 -/
def BOOT_RESET_CTRL : Nat := 4194320
/-- R579 -/
def BOOT_SOFT_RESET : Nat := 4194321
/-- R580 -/
def BOOT_SOFT_STATUS : Nat := 4194322
/-- R580 -/
def BOOT_WATCHDOG : Nat := 4194324
/-- R580 -/
def BOOT_WATCHDOG_KICK : Nat := 4194325
/-- R606 -/
def BOOT_IMAGE_STATUS : Nat := 4194368
/-- R607 -/
def BOOT_IMAGE_GEN : Nat := 4194369
/-- R607 -/
def BOOT_IMAGE_VERSION : Nat := 4194370
/-- R607 -/
def BOOT_IMAGE_SKIPPED : Nat := 4194371
/-- R608 -/
def BOOT_IMAGE_DIGEST (n : Nat) : Nat := 4194372 + n * 1
/-- R609 -/
def BOOT_INV_SUMMARY : Nat := 4194384
/-- R610 -/
def BOOT_INV_SELECT : Nat := 4194432
/-- R610 -/
def BOOT_INV_ENTRY (n : Nat) : Nat := 4194433 + n * 1
/-- R632 -/
def BOOT_UPDATE_STATUS : Nat := 4194496
/-- R632 -/
def BOOT_UPDATE_TICK : Nat := 4194498
/-- R675 -/
def BOOT_HOST_BOOT : Nat := 4194560
/-- R675 -/
def BOOT_HOST_BOOT_LEN : Nat := 4194561
/-- R507 -/
def TIME_TB_STATUS : Nat := 8388608
/-- R508 -/
def TIME_TB_NOW : Nat := 8388612
/-- R509 -/
def TIME_TB_INCREMENT : Nat := 8388616
/-- R509 -/
def TIME_TB_FREQ : Nat := 8388618
/-- R509 -/
def TIME_TB_PHASE : Nat := 8388619
/-- R509 -/
def TIME_TB_RESIDUAL : Nat := 8388620
/-- R510 -/
def TIME_TB_CONFIG : Nat := 8388624
/-- R510 -/
def TIME_UTC : Nat := 8388625
/-- R511 -/
def TIME_PPS_CONFIG : Nat := 8388628
/-- R511 -/
def TIME_EXT_STATUS : Nat := 8388629
/-- R512 -/
def TIME_SWITCHES : Nat := 8388632
/-- R512 -/
def TIME_STEPS : Nat := 8388633
/-- R512 -/
def TIME_HOLDOVER_TICKS : Nat := 8388634
/-- R512 -/
def TIME_TOD_ERRORS : Nat := 8388635
/-- R513 -/
def TIME_DOM_CONFIG (i : Nat) : Nat := 8404992 + i * 16384
/-- R513 -/
def TIME_DOM_PORTS (i : Nat) : Nat := 8404993 + i * 16384
/-- R513 -/
def TIME_DOM_STATUS (i : Nat) : Nat := 8404994 + i * 16384
/-- R514 -/
def TIME_DOM_GM (i : Nat) : Nat := 8404996 + i * 16384
/-- R514 -/
def TIME_DOM_OFFSET (i : Nat) : Nat := 8404998 + i * 16384
/-- R514 -/
def TIME_DOM_FREQ (i : Nat) : Nat := 8405000 + i * 16384
/-- R514 -/
def TIME_DOM_DELAY (i : Nat) : Nat := 8405001 + i * 16384
/-- R515 -/
def TIME_DOM_CTR (i : Nat) (n : Nat) : Nat := 8405008 + i * 16384 + n * 1
/-- R516 -/
def TIME_TSU_COMP (i : Nat) : Nat := 8650752 + i * 16384
/-- R516 -/
def TIME_TSU_COUNT (i : Nat) : Nat := 8650754 + i * 16384
/-- R516 -/
def TIME_TSU_RX_EVENTS (i : Nat) : Nat := 8650756 + i * 16384
/-- R516 -/
def TIME_TSU_ONE_STEP (i : Nat) : Nat := 8650757 + i * 16384
/-- R103 -/
def NET_PORT_MODE (i : Nat) : Nat := 12582912 + i * 16384
/-- R104 -/
def NET_PORT_STATUS (i : Nat) : Nat := 12582913 + i * 16384
/-- R105 -/
def NET_PORT_EVENTS (i : Nat) : Nat := 12582914 + i * 16384
/-- R106 -/
def NET_PORT_RX_FRAMES (i : Nat) : Nat := 12582916 + i * 16384
/-- R106 -/
def NET_PORT_RX_BYTES (i : Nat) : Nat := 12582918 + i * 16384
/-- R106 -/
def NET_PORT_RX_PAUSE (i : Nat) : Nat := 12582920 + i * 16384
/-- R106 -/
def NET_PORT_FEC_CORRECTED (i : Nat) : Nat := 12582922 + i * 16384
/-- R106 -/
def NET_PORT_FEC_UNCORRECTED (i : Nat) : Nat := 12582924 + i * 16384
/-- R106 -/
def NET_PORT_TX_FRAMES (i : Nat) : Nat := 12582926 + i * 16384
/-- R106 -/
def NET_PORT_TX_BYTES (i : Nat) : Nat := 12582928 + i * 16384
/-- R107 -/
def NET_PE_DROP (n : Nat) : Nat := 12845120 + n * 1
/-- R108 -/
def NET_PE_TICK_LOAD : Nat := 12845184
/-- R108 -/
def NET_PE_TICK_BYTES : Nat := 12845185
/-- R108 -/
def NET_PE_PEAK_PACKETS : Nat := 12845186
/-- R108 -/
def NET_PE_PEAK_BYTES : Nat := 12845187
/-- R109 -/
def NET_PE_LEG_SELECT : Nat := 12845248
/-- R110 -/
def NET_PE_LEG_CTR (n : Nat) : Nat := 12845252 + n * 1
/-- R146 -/
def CIP_PIPE_STATUS (i : Nat) : Nat := 16777216 + i * 16384
/-- R147 -/
def CIP_PIPE_LOAD (i : Nat) : Nat := 16777217 + i * 16384
/-- R148 -/
def CIP_PIPE_PACKETS (i : Nat) : Nat := 16777220 + i * 16384
/-- R148 -/
def CIP_PIPE_BYTES (i : Nat) : Nat := 16777222 + i * 16384
/-- R149 -/
def CIP_PIPE_DROP (i : Nat) (n : Nat) : Nat := 16777280 + i * 16384 + n * 1
/-- R150 -/
def CIP_KS_STATUS : Nat := 17039360
/-- R151 -/
def CIP_KEK_STATUS (n : Nat) : Nat := 17039364 + n * 1
/-- R152 -/
def CIP_KS_RESULT (n : Nat) : Nat := 17039424 + n * 1
/-- R153 -/
def CIP_KS_SLOT_SELECT : Nat := 17039488
/-- R154 -/
def CIP_KS_SLOT_INFO : Nat := 17039489
/-- R155 -/
def CIP_KS_SLOT_INDEX : Nat := 17039490
/-- R380 -/
def EGS_PORT_STATUS (i : Nat) : Nat := 20971520 + i * 16384
/-- R380 -/
def EGS_GATE_CONFIG (i : Nat) : Nat := 20971521 + i * 16384
/-- R381 -/
def EGS_TICK_BYTES (i : Nat) : Nat := 20971522 + i * 16384
/-- R381 -/
def EGS_TICK_FRAMES (i : Nat) : Nat := 20971523 + i * 16384
/-- R381 -/
def EGS_GUARD_HOLDS (i : Nat) : Nat := 20971524 + i * 16384
/-- R382 -/
def EGS_GATE_LIST (i : Nat) (n : Nat) : Nat := 20971584 + i * 16384 + n * 1
/-- R383 -/
def EGS_WINDOW (i : Nat) (t w : Nat) : Nat := 20971712 + i * 16384 + (4 * t + w) * 1
/-- R384 -/
def EGS_TC_FRAMES (i : Nat) (n : Nat) : Nat := 20971776 + i * 16384 + n * 4
/-- R384 -/
def EGS_TC_BYTES (i : Nat) (n : Nat) : Nat := 20971778 + i * 16384 + n * 4
/-- R385 -/
def EGS_DROP (i : Nat) (n : Nat) : Nat := 20971840 + i * 16384 + n * 1
/-- R386 -/
def EGS_LEG_SELECT : Nat := 20971904
/-- R386 -/
def EGS_LEG_INFO : Nat := 20971905
/-- R387 -/
def EGS_LEG_CTR (n : Nat) : Nat := 20971908 + n * 1
/-- R417 -/
def DRV_STATUS : Nat := 25165824
/-- R418 -/
def DRV_SPILL_W : Nat := 25165825
/-- R418 -/
def DRV_SPILL_G : Nat := 25165826
/-- R419 -/
def DRV_TICK_DISPATCHED : Nat := 25165828
/-- R419 -/
def DRV_TICK_SHED : Nat := 25165829
/-- R419 -/
def DRV_TICK_OVERRUN : Nat := 25165830
/-- R419 -/
def DRV_TICK_CARRIED : Nat := 25165831
/-- R420 -/
def DRV_SHED (n : Nat) : Nat := 25165888 + n * 1
/-- R420 -/
def DRV_OVERRUN_TOTAL : Nat := 25165896
/-- R420 -/
def DRV_CARRIED_TOTAL : Nat := 25165897
/-- R420 -/
def DRV_SPILLED_TOTAL : Nat := 25165898
/-- R420 -/
def DRV_SWEEPS : Nat := 25165899
/-- R421 -/
def DRV_POOL (n : Nat) : Nat := 25165952 + n * 1
/-- R421 -/
def DRV_POOL_B (n : Nat) : Nat := 25165984 + n * 1
/-- R422 -/
def DRV_TASK_SELECT : Nat := 25166016
/-- R422 -/
def DRV_TASK_INFO : Nat := 25166017
/-- R422 -/
def DRV_TASK_FLAGS : Nat := 25166018
/-- R422 -/
def DRV_TASK_MASK : Nat := 25166019
/-- R422 -/
def DRV_TASK_CTR (n : Nat) : Nat := 25166020 + n * 1
/-- R437 -/
def BQ_COUNT (q : Nat) : Nat := 29360128 + q / 256 * 16384 + q % 256 * 4
/-- R438 -/
def BQ_BASE (q : Nat) : Nat := 29360129 + q / 256 * 16384 + q % 256 * 4
/-- R438 -/
def BQ_CONFIG (q : Nat) : Nat := 29360130 + q / 256 * 16384 + q % 256 * 4
/-- R439 -/
def BQ_STATUS (q : Nat) : Nat := 29360131 + q / 256 * 16384 + q % 256 * 4
/-- R440 -/
def BQ_GOOD_PACKETS (q : Nat) : Nat := 29361152 + q / 256 * 16384 + q % 256 * 4
/-- R440 -/
def BQ_POISON_PACKETS (q : Nat) : Nat := 29361153 + q / 256 * 16384 + q % 256 * 4
/-- R440 -/
def BQ_FULL_DROPS (q : Nat) : Nat := 29361154 + q / 256 * 16384 + q % 256 * 4
/-- R440 -/
def BQ_PEAK_WORDS (q : Nat) : Nat := 29361155 + q / 256 * 16384 + q % 256 * 4
/-- R441 -/
def BQ_FLUSH (i : Nat) (n : Nat) : Nat := 29362176 + i * 16384 + n * 1
/-- R423 -/
def MCA_CORE_STATUS (i : Nat) : Nat := 33554432 + i * 16384
/-- R423 -/
def MCA_FENCE_CTRL (i : Nat) : Nat := 33554436 + i * 16384
/-- R194 -/
def AUD_STATUS : Nat := 37748736
/-- R195 -/
def AUD_LIMITS : Nat := 37748737
/-- R195 -/
def AUD_PEAK : Nat := 37748738
/-- R196 -/
def AUD_BLOCKS_CONCEALED : Nat := 37748740
/-- R196 -/
def AUD_FRAMES_ENCODED : Nat := 37748742
/-- R196 -/
def AUD_ENCODES_SHED : Nat := 37748744
/-- R196 -/
def AUD_LIST_CHANGES : Nat := 37748746
/-- R197 -/
def AUD_FOLD_SELECT : Nat := 37748800
/-- R198 -/
def AUD_FOLD_INFO : Nat := 37748801
/-- R199 -/
def AUD_FOLD_LIST (n : Nat) : Nat := 37748804 + n * 1
/-- R200 -/
def AUD_LEG_SELECT : Nat := 37748864
/-- R200 -/
def AUD_LEG_CTR (n : Nat) : Nat := 37748868 + n * 1
/-- R233 -/
def VEN_ENGINE_STATUS (i : Nat) : Nat := 41943040 + i * 16384
/-- R234 -/
def VEN_FENCE_STATUS (i : Nat) : Nat := 41943041 + i * 16384
/-- R235 -/
def VEN_FENCE_TICK (i : Nat) : Nat := 41943042 + i * 16384
/-- R236 -/
def VEN_FENCE_CTRL (i : Nat) : Nat := 41943044 + i * 16384
/-- R237 -/
def VEN_CYCLES (i : Nat) : Nat := 41943045 + i * 16384
/-- R237 -/
def VEN_DEC_CYCLES (i : Nat) : Nat := 41943046 + i * 16384
/-- R238 -/
def VEN_DEC_PICTURES (i : Nat) : Nat := 41943048 + i * 16384
/-- R238 -/
def VEN_DEC_PIXELS (i : Nat) : Nat := 41943050 + i * 16384
/-- R238 -/
def VEN_DEC_BANDS (i : Nat) : Nat := 41943052 + i * 16384
/-- R239 -/
def VEN_TILE_CORRUPT (i : Nat) : Nat := 41943056 + i * 16384
/-- R239 -/
def VEN_TILE_RETRY (i : Nat) : Nat := 41943057 + i * 16384
/-- R239 -/
def VEN_BANDS_ABORTED (i : Nat) : Nat := 41943058 + i * 16384
/-- R239 -/
def VEN_BANDS_SHED (i : Nat) : Nat := 41943059 + i * 16384
/-- R240 -/
def VEN_STREAM_SELECT : Nat := 41943104
/-- R241 -/
def VEN_STREAM_INFO : Nat := 41943105
/-- R242 -/
def VEN_STREAM_CTR (n : Nat) : Nat := 41943108 + n * 1
/-- R316 -/
def VEN_ENC_CYCLES (i : Nat) : Nat := 41943168 + i * 16384
/-- R317 -/
def VEN_ENC_PIXELS (i : Nat) : Nat := 41943172 + i * 16384
/-- R317 -/
def VEN_ENC_BANDS (i : Nat) : Nat := 41943174 + i * 16384
/-- R317 -/
def VEN_ENC_BITS (i : Nat) : Nat := 41943176 + i * 16384
/-- R318 -/
def VEN_ENC_BANDS_ABORTED (i : Nat) : Nat := 41943184 + i * 16384
/-- R318 -/
def VEN_ENC_BANDS_SHED (i : Nat) : Nat := 41943185 + i * 16384
/-- R318 -/
def VEN_ENC_ROWS_FLOORED (i : Nat) : Nat := 41943186 + i * 16384
/-- R318 -/
def VEN_ENC_ROWS_FALLBACK (i : Nat) : Nat := 41943187 + i * 16384
/-- R318 -/
def VEN_ENC_REF_CORRUPT (i : Nat) : Nat := 41943188 + i * 16384
/-- R319 -/
def VEN_LC_SELECT : Nat := 41943232
/-- R320 -/
def VEN_LC_INFO : Nat := 41943233
/-- R320 -/
def VEN_LC_RC : Nat := 41943234
/-- R320 -/
def VEN_LC_RATE : Nat := 41943235
/-- R321 -/
def VEN_LC_CTR (n : Nat) : Nat := 41943236 + n * 1
/-- R278 -/
def CMP_STATUS (i : Nat) : Nat := 46137344 + i * 16384
/-- R279 -/
def CMP_FENCE_STATUS (i : Nat) : Nat := 46137345 + i * 16384
/-- R279 -/
def CMP_FENCE_TICK (i : Nat) : Nat := 46137346 + i * 16384
/-- R280 -/
def CMP_FENCE_CTRL (i : Nat) : Nat := 46137348 + i * 16384
/-- R280 -/
def CMP_PIXELS (i : Nat) : Nat := 46137349 + i * 16384
/-- R281 -/
def CMP_PIXELS_TOTAL (i : Nat) : Nat := 46137352 + i * 16384
/-- R281 -/
def CMP_TILES_CULLED (i : Nat) : Nat := 46137354 + i * 16384
/-- R281 -/
def CMP_BANDS (i : Nat) : Nat := 46137356 + i * 16384
/-- R281 -/
def CMP_TILE_CORRUPT (i : Nat) : Nat := 46137360 + i * 16384
/-- R281 -/
def CMP_TILE_RETRY (i : Nat) : Nat := 46137361 + i * 16384
/-- R281 -/
def CMP_BANDS_ABORTED (i : Nat) : Nat := 46137362 + i * 16384
/-- R281 -/
def CMP_BANDS_SHED (i : Nat) : Nat := 46137363 + i * 16384
/-- R281 -/
def CMP_SLATE_PICTURES : Nat := 46137476
/-- R281 -/
def CMP_GUARD_MISMATCHES : Nat := 46137478
/-- R282 -/
def CMP_OUTPUT_SELECT : Nat := 46137408
/-- R283 -/
def CMP_OUTPUT_INFO : Nat := 46137409
/-- R283 -/
def CMP_GUARD_FAIL : Nat := 46137410
/-- R284 -/
def CMP_GUARD_EXPECTED (n : Nat) : Nat := 46137412 + n * 1
/-- R284 -/
def CMP_GUARD_SEEN (n : Nat) : Nat := 46137428 + n * 1
/-- R285 -/
def CMP_CELL (n : Nat) : Nat := 46137444 + n * 1
/-- R355 -/
def LAC_STATUS : Nat := 50331648
/-- R356 -/
def LAC_LANE_FENCE_CTRL : Nat := 50331668
/-- R357 -/
def LAC_ASSEMBLIES : Nat := 50331652
/-- R357 -/
def LAC_INTRA_TILES : Nat := 50331654
/-- R357 -/
def LAC_SYNTH_KEYS : Nat := 50331656
/-- R357 -/
def LAC_ASSEMBLIES_LOST : Nat := 50331664
/-- R357 -/
def LAC_SKIP_TILES : Nat := 50331665
/-- R357 -/
def LAC_INTRA_MERGED : Nat := 50331666
/-- R357 -/
def LAC_FWD_PACKETS : Nat := 50348036
/-- R357 -/
def LAC_FWD_SWITCHES : Nat := 50348048
/-- R357 -/
def LAC_FWD_PAUSES : Nat := 50348049
/-- R358 -/
def LAC_VIEWER_SELECT : Nat := 50331712
/-- R358 -/
def LAC_FWD_LEG_SELECT : Nat := 50348096
/-- R358 -/
def LAC_ADAPT_LEG_SELECT : Nat := 50364480
/-- R359 -/
def LAC_VIEWER_INFO : Nat := 50331713
/-- R359 -/
def LAC_VIEWER_CELL (n : Nat) : Nat := 50331716 + n * 1
/-- R360 -/
def LAC_FWD_SLOT (n : Nat) : Nat := 50348100 + n * 1
/-- R361 -/
def LAC_ADAPT_STATE : Nat := 50364481
/-- R361 -/
def LAC_ADAPT_RATE (n : Nat) : Nat := 50364484 + n * 1
/-- R479 -/
def DMC_CH_STATUS (i : Nat) : Nat := 54525952 + i * 16384
/-- R480 -/
def DMC_CH_GEOMETRY (i : Nat) : Nat := 54525953 + i * 16384
/-- R480 -/
def DMC_CH_RATES (i : Nat) : Nat := 54525954 + i * 16384
/-- R481 -/
def DMC_CH_TEMP (i : Nat) : Nat := 54525955 + i * 16384
/-- R481 -/
def DMC_CH_RD_CONFIG (i : Nat) : Nat := 54525957 + i * 16384
/-- R482 -/
def DMC_CH_CTRL (i : Nat) : Nat := 54525958 + i * 16384
/-- R483 -/
def DMC_CH_READ_BYTES (i : Nat) : Nat := 54525960 + i * 16384
/-- R483 -/
def DMC_CH_WRITE_BYTES (i : Nat) : Nat := 54525962 + i * 16384
/-- R483 -/
def DMC_CH_PAGE_HITS (i : Nat) : Nat := 54525964 + i * 16384
/-- R483 -/
def DMC_CH_PAGE_MISSES (i : Nat) : Nat := 54525966 + i * 16384
/-- R483 -/
def DMC_CH_CE (i : Nat) : Nat := 54525968 + i * 16384
/-- R483 -/
def DMC_CH_UE (i : Nat) : Nat := 54525969 + i * 16384
/-- R483 -/
def DMC_CH_POISON_READS (i : Nat) : Nat := 54525970 + i * 16384
/-- R483 -/
def DMC_CH_CMD_RETRY (i : Nat) : Nat := 54525971 + i * 16384
/-- R483 -/
def DMC_CH_DRFM (i : Nat) : Nat := 54525972 + i * 16384
/-- R483 -/
def DMC_CH_URGENT_REFRESH (i : Nat) : Nat := 54525973 + i * 16384
/-- R483 -/
def DMC_CH_RATE_CROSSINGS (i : Nat) : Nat := 54525974 + i * 16384
/-- R483 -/
def DMC_CH_RANK_CE (i : Nat) (n : Nat) : Nat := 54525976 + i * 16384 + n * 1
/-- R484 -/
def DMC_CACHE_STATUS : Nat := 54788096
/-- R484 -/
def DMC_CACHE_HITS : Nat := 54788100
/-- R484 -/
def DMC_CACHE_MISSES : Nat := 54788102
/-- R484 -/
def DMC_CACHE_CORRECTED : Nat := 54788112
/-- R484 -/
def DMC_CACHE_UNCORRECTED : Nat := 54788113
/-- R484 -/
def DMC_CACHE_HOLD_STALLS : Nat := 54788114
/-- R485 -/
def DMC_REMAP_STATUS : Nat := 54804480
/-- R485 -/
def DMC_REMAP_FREE : Nat := 54804481
/-- R485 -/
def DMC_REMAP_COPY : Nat := 54804482
/-- R485 -/
def DMC_TRAINED_PEAK : Nat := 54804483
/-- R486 -/
def DMC_REMAP_SELECT : Nat := 54804544
/-- R486 -/
def DMC_REMAP_ENTRY : Nat := 54804545
/-- R547 -/
def TWN_PAIR_STATUS : Nat := 58720256
/-- R548 -/
def TWN_EPOCH : Nat := 58720257
/-- R548 -/
def TWN_PHASE : Nat := 58720260
/-- R548 -/
def TWN_UNSYNCED : Nat := 58720261
/-- R549 -/
def TWN_PARTNER_SERIAL : Nat := 58720258
/-- R549 -/
def TWN_PARTNER_VERSION : Nat := 58720262
/-- R550 -/
def TWN_CTRL : Nat := 58720264
/-- R551 -/
def TWN_MIRROR_RECORDS : Nat := 58720272
/-- R551 -/
def TWN_SNAPSHOT_BYTES : Nat := 58720274
/-- R551 -/
def TWN_TAKEOVERS : Nat := 58720276
/-- R551 -/
def TWN_DIVERGENT_LEGS : Nat := 58720277
/-- R551 -/
def TWN_MIRROR_GAPS : Nat := 58720278
/-- R551 -/
def TWN_SILENT_TICKS : Nat := 58720279
/-- R551 -/
def TWN_CAP_HOLDS : Nat := 58720280
/-- R551 -/
def TWN_STALE_EPOCH : Nat := 58720281
/-- R552 -/
def TWN_BUNDLE_STATUS (i : Nat) : Nat := 58736640 + i * 16384
/-- R552 -/
def TWN_BUNDLE_LATENCY (i : Nat) : Nat := 58736641 + i * 16384
/-- R553 -/
def TWN_BUNDLE_TX_FRAMES (i : Nat) : Nat := 58736644 + i * 16384
/-- R553 -/
def TWN_BUNDLE_RX_FRAMES (i : Nat) : Nat := 58736646 + i * 16384
/-- R553 -/
def TWN_BUNDLE_TX_BYTES (i : Nat) : Nat := 58736648 + i * 16384
/-- R553 -/
def TWN_BUNDLE_CRC_ERRORS (i : Nat) : Nat := 58736656 + i * 16384
/-- R553 -/
def TWN_BUNDLE_RETRIES (i : Nat) : Nat := 58736657 + i * 16384
/-- R553 -/
def TWN_BUNDLE_FEC_UNCORRECTED (i : Nat) : Nat := 58736658 + i * 16384
/-- R673 -/
def MGT_CORE_STATUS (i : Nat) : Nat := 62914560 + i * 16384
/-- R673 -/
def MGT_FW_VERSION (i : Nat) : Nat := 62914561 + i * 16384
/-- R674 -/
def MGT_TALLY_STATUS : Nat := 63176704
/-- R674 -/
def MGT_TALLY_SEQ : Nat := 63176705
/-- R674 -/
def MGT_TALLY_WRITES : Nat := 63176706
end Reg

end Sys2Proof.Machine
end

