-- ==== Sys2Proof/Machine/State.lean ====
section
/-!
DEFINITION. The state of the block as plain data: every register, table, queue, counter, mode and pin the spec gives it,
and the queue of commands that wait. Registers live in one sparse register file (State.regs); every table is a list of
(key, value) pairs in ascending key order that lists no entry equal to its default. The reset value of each field is its default.
Values no rule states are the model's (notes/assumptions 2, 3).
-/

namespace Sys2Proof.Machine

/-- A sparse table: (key, value) pairs, keys strictly ascending, no value equal to the default of the table. -/
abbrev Tbl (α : Type) := List (Nat × α)

/-- Where a reply is owed (R647): the request's source, type, sequence and target, and the number of function-level
resets when it was fetched; a later one discards the reply (R636). -/
structure ReplyTo where
  src : MsgSrc := .ring 0
  typ : Nat := 0
  seq : Nat := 0
  target : Nat := 0xFFFF
  gen : Nat := 0
  deriving DecidableEq, Repr

/-- Outcomes of a completion arbiter (R50). -/
inductive Outcome4 where
  | completed | alreadyComplete | aborted | failed
  deriving DecidableEq, Repr

/-- Leg states (R28, R31). -/
inductive LegState where
  | idle | admitting | active | retiring | fenced
  deriving DecidableEq, Repr

/-- Fold states (R35). -/
inductive FoldState where
  | idle | active | retiring
  deriving DecidableEq, Repr

/-- A fault as raised, before it is journalled (R678, R679). `detail` holds (width in bytes, value) pairs. -/
structure RaisedFault where
  tick : Nat := 0
  code : Nat := 0
  subject : Nat := 0
  detail : List (Nat × Nat) := []
  hwQueued : Bool := false
  halt : Bool := false
  suppressed : Nat := 0
  deriving DecidableEq, Repr

/-- An entry of the fault journal (R679). -/
structure JEntry where
  seq : Nat := 0
  tick : Nat := 0
  code : Nat := 0
  subject : Nat := 0
  detail : List (Nat × Nat) := []
  hwQueued : Bool := false
  halt : Bool := false
  recorded : Bool := false
  suppressed : Nat := 0
  deriving DecidableEq, Repr

/-- A reason of the replacement-request record (R683, R724). `extra` is a second resource code. -/
structure Reason where
  code : Nat := 0
  subject : Nat := 0
  action : Nat := 0
  severity : Nat := 0
  deriving DecidableEq, Repr

/-- The 16-byte admission result of R648. -/
structure AdmitResult where
  outcome : Nat := 0
  limiting : Nat := 0
  effective : Nat := 0
  counts : List Nat := [0, 0, 0, 0]
  deriving DecidableEq, Repr

/-- What a leg query or leg reply returns (R28): the descriptor with its reply fields. -/
structure LegInfo where
  state : Nat := 0
  desc : LegDesc := {}
  activeTick : Nat := 0
  reduction : List Nat := [0, 0, 0, 0]
  fenceCause : Nat := 0
  deriving DecidableEq, Repr

/-- What a fold query returns (R35). -/
structure FoldInfo where
  state : Nat := 0
  desc : FoldDesc := {}
  legCount : Nat := 0
  lcCount : Nat := 0
  epoch : Nat := 0
  deriving DecidableEq, Repr

/-- A record of the tally store as read back (R662, R664): type, key, sequence, and its payload as (width, value)
pairs. -/
structure TallyRec where
  typ : Nat := 0
  key : Nat := 0
  seq : Nat := 0
  blocks : Nat := 1
  payload : List (Nat × Nat) := []
  deriving DecidableEq, Repr

/-- Reply payloads (R645, R648, R649). -/
inductive RPay where
  | none
  | fault (code : Nat)
  | tick (t : Nat)
  | reason (code : Nat)
  | admitted (r : AdmitResult)
  | admitLeg (r : AdmitResult) (l : LegInfo)
  | admitLc (r : AdmitResult) (d : LcDesc) (phase : Nat)
  | leg (l : LegInfo)
  | fold (f : FoldInfo) (lcs : List (LcDesc × Nat))
  | tally (recs : List TallyRec) (cut : Bool)
  deriving DecidableEq, Repr

/-- A reply (R644, R645). -/
structure Reply where
  dst : ReplyTo := {}
  status : Nat := 0
  pay : RPay := .none
  deriving DecidableEq, Repr

/-- A notification (R650). -/
structure Notif where
  code : Nat := 0
  seq : Nat := 0
  tick : Nat := 0
  fault : Nat := 0
  subject : Nat := 0
  detail : List (Nat × Nat) := []
  deriving DecidableEq, Repr

/-- Entries of a telemetry frame (R658, R659): section kind, index, and its fields as (width, value) pairs. -/
structure TeleEntry where
  kind : Nat := 0
  index : Nat := 0
  changed : Bool := true
  fields : List (Nat × Nat) := []
  deriving DecidableEq, Repr

/-- A telemetry frame (R657). -/
structure TeleFrame where
  tick : Nat := 0
  seq : Nat := 0
  truncated : Bool := false
  holdover : Bool := false
  mgmtDown : Bool := false
  legPeriod : Nat := 60
  entries : List TeleEntry := []
  deriving DecidableEq, Repr

/-- A packet given to the host's punt ring (R69, R77): the leg of a DTLS record. -/
structure PuntItem where
  leg : Option Nat := none
  length : Nat := 0
  addr : FlowAddr := {}
  deriving DecidableEq, Repr

/-- An item written to a device-to-host ring (R638, R640). -/
inductive RingItem where
  | reply (r : Reply)
  | notify (n : Notif)
  | punt (p : PuntItem)
  | tele (f : TeleFrame)
  deriving DecidableEq, Repr

/-- A message fetched or received and not yet processed (R646). -/
structure ArrMsg where
  src : MsgSrc := .ring 0
  typ : Nat := 0
  seq : Nat := 0
  target : Nat := 0xFFFF
  tick : Nat := 0
  gen : Nat := 0
  deriving DecidableEq, Repr

/-- A reply kept for repeats of a service-port request (R655). -/
structure SvcCached where
  key : Nat := 0
  seq : Nat := 0
  tick : Nat := 0
  reply : Option Reply := none
  deriving DecidableEq, Repr

/-- A subscriber slot (R656). -/
structure Subscriber where
  port : Nat := 0
  ip6 : Bool := false
  addr : BitVec 128 := 0
  notify : Bool := false
  tele : Bool := false
  deriving DecidableEq, Repr

/-- What a service-port datagram of the device carries (R653, R660). -/
inductive SvcBody where
  | reply (r : Reply)
  | notify (n : Notif)
  | tele (seq index count bytes : Nat)
  | answer (kind : Nat)
  deriving DecidableEq, Repr

/-- A datagram or answer sent on the service port: subscriber slot if any, key, counter and body. -/
structure SvcOut where
  slot : Option Nat := none
  key : Nat := 0
  counter : Nat := 0
  body : SvcBody := .answer 0
  deriving DecidableEq, Repr

/-- A packet accepted by the checks of R67 and waiting for its processing tick (R68). -/
structure RxPkt where
  port : Nat := 0
  lane : Nat := 0
  tick : Nat := 0
  ns : Nat := 0
  leg : Option Nat := none
  mark : Bool := false
  ipLen : Nat := 0
  vid : Nat := 0
  addr : FlowAddr := {}
  body : Body := .opaqueData
  mirrored : Bool := false
  deriving DecidableEq, Repr

/-- An RTP packet delivered to a stream's intake, with its extended sequence number and arrival (R86). -/
structure RtpPkt where
  ext : Nat := 0
  tick : Nat := 0
  rtp : RtpFacts := {}
  deriving DecidableEq, Repr

/-- A packet in a jitter buffer with its release tick (R89). -/
structure BufPkt where
  ext : Nat := 0
  release : Nat := 0
  rtp : RtpFacts := {}
  deriving DecidableEq, Repr

/-- A missing sequence number (R96): the gap's tick, NACKs sent, tick of the last one, and its deadline: the release tick of the
packet that revealed the gap on a buffered stream, the last tick that permits a NACK on a forwarded one. -/
structure NackItem where
  ext : Nat := 0
  gapTick : Nat := 0
  sent : Nat := 0
  lastTick : Nat := 0
  limit : Nat := 0
  buffered : Bool := false
  deriving DecidableEq, Repr

/-- One RTCP packet decrypted and parsed, with its leg and arrival tick (R93). -/
structure RtcpItem where
  leg : Nat := 0
  tick : Nat := 0
  ns : Nat := 0
  body : RtcpBody := .ignored
  deriving DecidableEq, Repr

/-- An announcement to send on a side of a pair (R65). -/
structure Announce where
  entry : Nat := 0
  pair : Nat := 0
  sideB : Bool := false
  due : Nat := 0
  deriving DecidableEq, Repr

/-- An entry of the local address table (R65). -/
structure AddrEnt where
  ip6 : Bool := false
  addr : BitVec 128 := 0
  pair : Nat := 0
  vid : Nat := 0
  mac : BitVec 48 := 0
  ownerB : Bool := false
  deriving DecidableEq, Repr

/-- A packet of a retransmission history (R97). -/
structure HistEntry where
  seq : Nat := 0
  tick : Nat := 0
  length : Nat := 0
  ssrc : Nat := 0
  rtp : RtpFacts := {}
  deriving DecidableEq, Repr

/-- The key that the end of a drain installs (R138). -/
structure SlotKey where
  suite : Nat := 0
  kek : Nat := 0
  keyId : Nat := 0
  activate : Nat := 0
  activateRtcp : Nat := 0
  maxIndex : Nat := 0
  maxRtcp : Nat := 0
  expire : Nat := 0
  generation : Nat := 0
  deriving DecidableEq, Repr

/-- A blob waiting in the key store (R125). -/
structure BlobWait where
  blob : Blob := {}
  target : Nat := 0
  reply : Option ReplyTo := none
  deriving DecidableEq, Repr

/-- The record a fold publishes at the end of a tick (R170). -/
structure BellRec where
  tick : Nat := 0
  members : List (Nat × Nat) := []
  lead : Option Nat := none
  deriving DecidableEq, Repr

/-- An output that a configuration's listeners share (R178 to R183): its encoder and limiter state, whether the configuration is
in use, and the tick from which it is. -/
structure ShOut where
  block : List Int := []
  ticks : Nat := 0
  enc : Nat := 0
  encBefore : Nat := 0
  limAtt : Nat := 0
  hpX : List Int := [0, 0]
  hpY : List Int := [0, 0]
  silence : Nat := 0
  live : Bool := false
  since : Nat := 0
  deriving DecidableEq, Repr

/-- Decode states (R225, R241). -/
inductive DecState where
  | idle | waitKey | clean | damaged | frozen
  deriving DecidableEq, Repr

/-- A band of the current picture that has ended: its tiles concealed, and those damaged by prediction (R219, R220). -/
structure BandRec where
  band : Nat := 0
  how : BandEnd := .done
  concealed : List Nat := []
  damaged : List Nat := []
  deriving DecidableEq, Repr

/-- A cell class (R325): its column widths and row heights in units of 64 samples, and its overlays relative to the
cell, with whether each is guarded. A CAPTION or MUTE overlay of the cell itself has arg 32. -/
structure ClassKey where
  cols : List Nat := []
  rows : List Nat := []
  overlays : List (OverlayEntry × Int × Int × Bool) := []
  deriving DecidableEq, Repr

/-- Reference state of a rung (R306). -/
inductive RefState where
  | start | run | ltr | gir
  deriving DecidableEq, Repr

/-- What the next picture of a rung is to be (R306). -/
inductive RefreshKind where
  | key | ltr | gir
  deriving DecidableEq, Repr

/-- An image load in progress (R252): its total length, and the bytes that have arrived as (offset, length). -/
structure LoadBuf where
  total : Nat := 0
  parts : List (Nat × Nat) := []
  deriving DecidableEq, Repr

/-- A packet of the tile map (R334): the sequence number and tick, and the encodes whose tiles it carried, as cell,
occupant and tile rung. -/
structure TileMapItem where
  seq : Nat := 0
  tick : Nat := 0
  encs : List (Nat × Option Nat × Nat) := []
  deriving DecidableEq, Repr

/-- An RTP packet of a group: its transport-wide sequence number where it carries one, its stream, SSRC and sequence number,
its IP length, and what feedback has said of it (R346, R347). -/
structure SentPkt where
  twcc : Option Nat := none
  stream : Nat := 0
  ssrc : Nat := 0
  seq : Nat := 0
  len : Nat := 0
  reported : Option (Option Nat) := none
  deriving DecidableEq, Repr

/-- The packets of a leg scheduled in one tick, in order, and the departure time of the last in microseconds (R347). -/
structure SentGroup where
  tick : Nat := 0
  sendUs : Nat := 0
  pkts : List SentPkt := []
  deriving DecidableEq, Repr

/-- The FlexFEC group being formed of one video stream: the L of its picture, the sequence numbers, the longest packet, the
picture, and the cause under which a packet of it was dropped (R377). -/
structure FecRun where
  size : Nat := 0
  seqs : List Nat := []
  len : Nat := 0
  pic : Option Nat := none
  drop : Option Nat := none
  deriving DecidableEq, Repr

/-- A group fully reported: its send and receive times in microseconds (R347). -/
structure FbGroup where
  sendUs : Int := 0
  recvUs : Int := 0
  deriving DecidableEq, Repr

/-- RTCP that the device sends (R93 to R98, R33). -/
inductive OutRtcp where
  | report (ssrc ntp rtpTs : Nat)
  | nack (ssrc : Nat) (seqs : List Nat)
  | pli (ssrc : Nat)
  | fir (ssrc seqNo : Nat)
  | bye (ssrcs : List Nat)
  deriving DecidableEq, Repr

/-- What an egress packet is (R362). -/
inductive EgKind where
  | rtp | srtcp (b : OutRtcp) | plain (what : Nat)
  deriving DecidableEq, Repr

/-- A packet in egress (R362, R363). `len` is the IP length; `pic` names the picture it carries a part of, for
deadlines and repair groups; `group` lists the sequence numbers of stream `protects` that a repair packet covers; the last two say that the
packet has been counted as held by the cap of R542 or by a gate. -/
structure EgPkt where
  leg : Option Nat := none
  port : Nat := 0
  cls : Nat := 0
  kind : EgKind := .plain 0
  stream : Nat := 0
  ssrc : Nat := 0
  seq : Nat := 0
  ts : Nat := 0
  marker : Bool := false
  len : Nat := 0
  content : Nat := 0
  pic : Nat := 0
  tick : Nat := 0
  twcc : Option Nat := none
  rtxOf : Option Nat := none
  group : List Nat := []
  vid : VidFacts := {}
  protects : Nat := 0
  capHeld : Bool := false
  gateHeld : Bool := false
  deriving DecidableEq, Repr

/-- What the device has put on its lines since the last boundary (the model's own log): a frame of a port, a frame on an
Ausil bundle, or another output named by a number. -/
inductive OutEv where
  | frame (port sub ns : Nat) (pkt : EgPkt) (index : Option Nat)
  | ausil (bundle typ tick : Nat) (body : List Nat)
  | other (what : Nat) (values : List Nat)
  deriving DecidableEq, Repr

/-- States of a task (R389). -/
inductive TaskState where
  | disabled | idle | ready | spilled | running
  deriving DecidableEq, Repr

/-- A graph record (R395); `shed` lists the nodes that were shed in this tick before they were READY (R397). -/
structure Graph where
  first : Nat := 0
  count : Nat := 0
  allOrNone : Bool := false
  background : Bool := false
  started : List Nat := []
  shed : List Nat := []
  deriving DecidableEq, Repr

/-- A core's port page (R404). -/
structure CorePort where
  take : Nat := 0
  context : BitVec 64 := 0
  flags : BitVec 32 := 0
  result : Nat := 0
  deriving DecidableEq, Repr

/-- What a queue's port returned (R426, R430): the word, the tag bits ecc and empty, and not-done of SKIP. -/
structure BqPortEvent where
  word : BqWord := {}
  ecc : Bool := false
  empty : Bool := false
  notDone : Bool := false
  deriving DecidableEq, Repr


/-- A line of the reference cache, or a pinned syntax line (R455): its line number (address / 64) and its bytes. -/
structure CacheLine where
  line : Nat := 0
  data : List (BitVec 8) := []
  deriving DecidableEq, Repr

/-- What a copier job is for (R451, R469 to R475). -/
inductive CopyKind where
  | rebuild | drain | rejoin | fill | rank
  deriving DecidableEq, Repr

/-- A step of a copier job: the remap entry (stripe × 12 + position) that it moves or rebuilds, or none for a fill with
poison, and the slice it writes. -/
structure CopyStep where
  entry : Option Nat := none
  chan : Nat := 0
  slice : Nat := 0
  deriving DecidableEq, Repr

/-- A copier job (R469): the channel it is for, the rank for a migration, and the steps that remain. -/
structure CopyJob where
  kind : CopyKind := .fill
  chan : Nat := 0
  rank : Nat := 0
  steps : List CopyStep := []
  deriving DecidableEq, Repr

/-- What the last read returned (R456): the bytes, or poison. -/
structure LineRead where
  addr : Nat := 0
  poison : Bool := false
  data : List (BitVec 8) := []
  deriving DecidableEq, Repr


/-- A foreign master known from its Announce messages (R495), with the captures of its last two. -/
structure MasterRec where
  ann : PtpAnnounce := {}
  prev : Option Nat := none
  last : Nat := 0
  deriving DecidableEq, Repr

/-- A measurement (R497, R505): the free-running time of the capture and the source's time less it, both in 1/32 ns. -/
structure Meas where
  x : Int := 0
  y : Int := 0
  deriving DecidableEq, Repr

/-- A Sync of a two-step master (R497): its sequenceId, capture in 1/32 ns and correctionField. -/
structure SyncPend where
  seq : Nat := 0
  x : Int := 0
  corr : Int := 0
  deriving DecidableEq, Repr

/-- A delay request sent (R496): its sequenceId and its departure in 1/32 ns of free-running time. -/
structure ReqSent where
  seq : Nat := 0
  x : Int := 0
  deriving DecidableEq, Repr

/-- A time-of-day frame (R504, R505), with the unit count of its reception. -/
structure TodFrame where
  seconds : Nat := 0
  locked : Bool := false
  leap61 : Bool := false
  leap59 : Bool := false
  utc : Option Int := none
  count : Nat := 0
  deriving DecidableEq, Repr


/-- Pair states (R526, R547). -/
inductive PairState where
  | solo | linking | refused | syncing | paired | fenced
  deriving DecidableEq, Repr
/-- A session event that this device has sent and that waits for its EVENT_ACK (R533): the staged change it mirrors, or the
reply that is held. -/
structure MirEvent where
  id : Nat := 0
  effective : Nat := 0
  phase : Option Nat := none
  reply : Option Reply := none
  deriving DecidableEq, Repr

/-- A handshake attempt (R529): the epoch and authority that this device computed (0 role A, 1 role B, 2 the folds' owners),
whether both devices serve, the settlement boundary, the tick of the PROPOSE, and which steps are done. -/
structure PairAttempt where
  epoch : Nat := 0
  auth : Nat := 0
  both : Bool := false
  tick : Nat := 0
  asked : Nat := 0
  answered : Bool := false
  mine : Bool := false
  theirs : Bool := false
  deriving DecidableEq, Repr

/-- A frame kept for RETRY (R520): its seq, type, tick, payload bytes and body, and how often it was sent again. -/
structure SentFrame where
  seq : Nat := 0
  typ : Nat := 0
  tick : Nat := 0
  len : Nat := 0
  body : List Nat := []
  again : Nat := 0
  deriving DecidableEq, Repr

/-- An inventory entry (R604); `summary` holds (width in bytes, value) pairs. -/
structure InvEntry where
  kind : Nat := 0
  index : Nat := 0
  state : Nat := 0
  policy : Nat := 255
  fault : Nat := 0
  tick : Nat := 0
  idCrc : BitVec 32 := 0
  summary : List (Nat × Nat) := []
  deriving DecidableEq, Repr


/-- The boot record (R629). -/
structure BootRec where
  fwActive : Nat := 0
  fwPrevious : Nat := 0xFF
  tzActive : Nat := 0
  tzPrevious : Nat := 0xFF
  trial : Nat := 0
  trialWarm : Nat := 0
  activateTick : Nat := 0
  confirmTick : Nat := 0
  fwVersion : Nat := 0
  fwPreviousVersion : Nat := 0
  tzDigest : BitVec 256 := 0
  deriving DecidableEq, Repr

/-- An update journal record (R630). -/
structure UpdRec where
  tick : Nat := 0
  event : Nat := 0
  result : Nat := 0
  reason : Nat := 0
  version : Nat := 0
  digest8 : Nat := 0
  slotFlash : Nat := 0
  deriving DecidableEq, Repr

/-- Inbound SRTP state of a stream (R134, R86). -/
structure SrtpRx where
  /-- Rollover counter (R134). -/
  roc : Nat := 0
  /-- Highest authenticated SRTP index (48 bits) (R134). -/
  highest : Nat := 0
  /-- Some packet of the stream has authenticated (R134). -/
  started : Bool := false
  /-- Indices of the last 128 already received (replay window) (R134). -/
  window : List Nat := []
  /-- Packets still needed to complete probation (MIN_SEQUENTIAL 2) (R86). -/
  probation : Nat := 2
  /-- Last bad sequence number plus one (RFC 3550 A.1) (R86). -/
  badSeq : Option Nat := none
  /-- Sequence-number cycles (extended sequence number) (R86). -/
  cycles : Nat := 0
  /-- Highest sequence number seen (R86). -/
  maxSeq : Nat := 0
  /-- Extended sequence numbers received (last 3,000) (R86). -/
  seen : List Nat := []
  /-- The packet held on probation (R86). -/
  heldPkt : List RtpPkt := []
  deriving DecidableEq, Repr

/-- Jitter and reorder buffer of a stream (R88 to R92). -/
structure JitBuf where
  /-- The anchor is set (R89). -/
  anchored : Bool := false
  /-- Anchor arrival tick (R89). -/
  t0 : Int := 0
  /-- Anchor RTP timestamp (R89). -/
  ts0 : Nat := 0
  /-- Extended sequence number that follows the last packet delivered (R90). -/
  nextExt : Option Nat := none
  /-- Buffered packets with their release ticks (256 audio, 4,096 video) (R88). -/
  pkts : List BufPkt := []
  /-- First tick of the current 600-tick window (R91). -/
  winStart : Nat := 0
  /-- Packets of the window (R91). -/
  winPkts : Nat := 0
  /-- LATE packets of the window (R91). -/
  winLate : Nat := 0
  /-- Smallest margin of the window (R91). -/
  winMargin : Option Int := none
  /-- The frame delivered in its release tick (R90). -/
  released : List BufPkt := []
  /-- Missing-packet mask of that frame (R90). -/
  releasedMask : List Nat := []
  /-- Tick of that release (R90). -/
  releasedTick : Nat := 0
  /-- Sequence numbers marked missing, with gap tick, NACKs sent and limit tick (R96). -/
  missing : List NackItem := []
  deriving DecidableEq, Repr

/-- Decode state of a source stream (R217 to R225, R242). -/
structure VidDec where
  /-- IDLE, WAIT_KEY, CLEAN, DAMAGED, FROZEN (R225). -/
  state : DecState := .idle
  /-- Decoding below target (R222). -/
  layerDown : Bool := false
  /-- Spatial layer decoded (R241). -/
  spatial : Nat := 0
  /-- Temporal layer decoded (R241). -/
  temporal : Nat := 0
  /-- Last picture had 10-bit samples (R241). -/
  tenBit : Bool := false
  /-- Damage map of the last output picture (damaged tile numbers) (R219). -/
  damage : List Nat := []
  /-- A decoded picture is available (R225). -/
  havePic : Bool := false
  /-- Tick in which that picture was decoded (R225). -/
  picTick : Nat := 0
  /-- Tick of the previous decoded picture (R209). -/
  lastPicTick : Nat := 0
  /-- Store generation of the output buffer (R217). -/
  storeGen : BitVec 32 := 0
  /-- Tick of the last refresh request (R223). -/
  lastReq : Option Nat := none
  /-- Tick at which WAIT_KEY or FROZEN was entered (R225). -/
  enterTick : Nat := 0
  /-- SOURCE_STALLED sent for this stay (R225). -/
  stalledTold : Bool := false
  /-- Bands of the current picture that have ended (R213). -/
  curBands : List BandRec := []
  /-- Counters 0 to 8 of VEN_STREAM_CTR_n (R242). -/
  ctr : Tbl Nat := []
  /-- Tick of the last clean random-access picture (R242). -/
  lastCleanKey : Nat := 0
  /-- Pictures presented, newest first, each with the tick from which it has been presented: the two output buffers (R217,
  R222, R225). -/
  out : List (Nat × SrcPic) := []
  /-- The last decoded picture (R220, R267). -/
  lastPic : Option SrcPic := none
  /-- The last clean picture (R222). -/
  cleanPic : Option SrcPic := none
  deriving DecidableEq, Repr

/-- Outbound state of a stream (R97, R140 to R142, R492). -/
structure TxStream where
  /-- Next sequence number the packetiser writes (R140). -/
  seq : Nat := 0
  /-- Outbound rollover counter (R140). -/
  roc : Nat := 0
  /-- The stream's previous SEQ (R140). -/
  lastSeq : Option Nat := none
  /-- Last SRTP index used (R155). -/
  lastIndex : Nat := 0
  /-- At least one packet has used the key (R155). -/
  used : Bool := false
  /-- RTP base b (R492). -/
  tsBase : Nat := 0
  /-- Start tick t0 (R492). -/
  startTick : Nat := 0
  /-- Highest sequence number and cumulative loss of the last report block (R347). -/
  rrHigh : Option (Nat × Nat) := none
  /-- Last output timestamp (R346). -/
  lastTs : Nat := 0
  /-- Tick of the last forwarded packet (R346). -/
  lastFwdTick : Nat := 0
  /-- Retransmission history, oldest first (R97). -/
  history : List HistEntry := []
  /-- Sequence number of the last FIR accepted (R95). -/
  firSeq : Option Nat := none
  /-- Sequence numbers requested and the tick (R98). -/
  rtxAsked : List (Nat × Nat) := []
  /-- KEY_LOW sent (R141). -/
  keyLowTold : Bool := false
  /-- KEY_EXHAUSTED sent (R141). -/
  exhaustedTold : Bool := false
  /-- Mirrored value V (R536). -/
  mirroredV : Nat := 0
  /-- Last output timestamp in the last DIGEST acknowledged (standby) (R535, R543). -/
  mirroredTs : Option Nat := none
  /-- Packets enqueued in this tick (limit M in paired mode) (R524). -/
  tickPkts : Nat := 0
  deriving DecidableEq, Repr

/-- One of the 65,536 stream entries (R83). -/
structure StreamRt where
  /-- The 32-byte entry (R83). -/
  desc : StreamEntry := {}
  /-- Owning leg (R83). -/
  leg : Nat := 0
  /-- The entry belongs to a leg that is not IDLE (R83). -/
  live : Bool := false
  /-- Source record of the entry (R208). -/
  src : SourceRec := {}
  /-- Inbound state (R134). -/
  rx : SrtpRx := {}
  /-- Jitter buffer (R88). -/
  jit : JitBuf := {}
  /-- Decode state (R225). -/
  dec : VidDec := {}
  /-- Outbound state (R140). -/
  tx : TxStream := {}
  /-- Marked ended by BYE (R93). -/
  ended : Bool := false
  /-- LSR kept for RTT (R93). -/
  srLsr : Nat := 0
  /-- Sender clock mapping (RTP timestamp, wall clock) (R93). -/
  srMap : Option (Nat × Nat) := none
  /-- Tick of the last PLI or FIR sent upstream for the stream (R95). -/
  pliTick : Option Nat := none
  /-- Measured kb/s per layer over 60 ticks (key spatial*8+temporal) (R349). -/
  layerRate : Tbl Nat := []
  /-- Bytes per layer in the current 60 ticks (R349). -/
  layerBytes : Tbl Nat := []
  deriving DecidableEq, Repr

/-- Audio state of a leg (R162 to R186, R200). -/
structure AudLeg where
  /-- Mute flag in force (R162). -/
  muted : Bool := false
  /-- Mute flag of the previous tick (R259). -/
  mutedPrev : Bool := false
  /-- Mute flag from the next boundary (R162). -/
  muteNext : Option Bool := none
  /-- Level of the tick in -dBov (R163). -/
  level : Nat := 127
  /-- Voice flag of the tick (R163). -/
  voice : Bool := false
  /-- Score s (R165). -/
  score : Nat := 0
  /-- Hold[c] (R167). -/
  hold : Nat := 0
  /-- Consecutive ticks over the lead's score (R169). -/
  leadTicks : Nat := 0
  /-- Decoded_ticks[c] (R167). -/
  decodedTicks : Nat := 0
  /-- In the decode set of this tick (R167). -/
  inDecodeSet : Bool := false
  /-- Decoder state, named by a number; none when it has been discarded (R173). -/
  decoder : Option Nat := none
  /-- Next decoded block is faded in (R173). -/
  fadeIn : Bool := false
  /-- Decoded blocks waiting for their tick (R171). -/
  blocks : List (List Int) := []
  /-- X_i before the delay line: the block of this tick (R177). -/
  pcm : List Int := []
  /-- Alignment delay line (R186). -/
  delayLine : List (List Int) := []
  /-- D_i in ticks (R186). -/
  delay : Nat := 0
  /-- A block must be removed by this tick (R175). -/
  removeBy : Option Nat := none
  /-- A block of the delay line must be removed by this tick (R175, R186). -/
  lineCut : Option Nat := none
  /-- G_i in 0.25 dB steps (R185). -/
  gainQ : Int := 0
  /-- Blocks of the last 240 ticks that count (R184). -/
  loudWin : List (List Int) := []
  /-- Processed output block of this tick in the mix's channels (member outputs) (R178). -/
  out : List Int := []
  /-- Blocks in the personal encoder's current frame (R182). -/
  outTicks : Nat := 0
  /-- State of the personal encoder, named by a number (R182). -/
  personal : Option Nat := none
  /-- The personal encoder finishes its frame (R182). -/
  leaving : Bool := false
  /-- State of the personal encoder before its current frame (R189). -/
  encBefore : Nat := 0
  /-- Ticks of silence that the personal encoder has seen (R183). -/
  silence : Nat := 0
  /-- Tick in which the last personal encoder of the leg ended (R182). -/
  persEnd : Option Nat := none
  /-- Configuration before the last change (R182). -/
  cfgOld : Option Nat := none
  /-- Tick of the last change of configuration (R182). -/
  cfgFrom : Nat := 0
  /-- State of the personal encoder of the configuration before the change, which finishes its frame (R182). -/
  persOld : Option Nat := none
  /-- A block has been decoded since the leg entered the decode set (R173). -/
  firstBlock : Bool := false
  /-- Limiter gain, 0.01 dB below 1.0 (R181). -/
  limAtt : Nat := 0
  /-- High-pass input state per channel (R180). -/
  hpX : List Int := [0, 0]
  /-- High-pass output state per channel (R180). -/
  hpY : List Int := [0, 0]
  /-- Samples clamped (R181). -/
  clamped : Nat := 0
  /-- Blocks concealed (R200). -/
  concealed : Nat := 0
  /-- Blocks inserted or removed under R175 (R200). -/
  inserted : Nat := 0
  /-- Ticks as a member (R200). -/
  memberTicks : Nat := 0
  /-- Ticks decoded (R200). -/
  decTicks : Nat := 0
  deriving DecidableEq, Repr

/-- Leg adaptation state (R347 to R351). -/
structure AdaptSt where
  /-- Delay_rate, kb/s (R347). -/
  delayRate : Nat := 0
  /-- Loss_rate, kb/s (R347). -/
  lossRate : Nat := 0
  /-- Estimate computed this tick (R347). -/
  estimate : Nat := 0
  /-- Estimate in force (R347). -/
  inForce : Nat := 0
  /-- Accumulated delay (R347). -/
  acc : Int := 0
  /-- Smoothed delay (R347). -/
  sm : Int := 0
  /-- Last 20 groups (send_us, sm) (R347). -/
  win : List (Int × Int) := []
  /-- Prev.send_us (R347). -/
  prevSend : Int := 0
  /-- Prev.recv_us (R347). -/
  prevRecv : Int := 0
  /-- Consecutive overuse groups (R347). -/
  excess : Nat := 0
  /-- Underuse (R347). -/
  under : Bool := false
  /-- Hold ticks (R347). -/
  hold : Nat := 0
  /-- Acknowledged rate (R347). -/
  acked : Nat := 0
  /-- Bytes reported received per tick, last 30 (R347). -/
  ackBytes : List (Nat × Nat) := []
  /-- (tick, packets, lost) reported in the last 60 ticks (R347). -/
  lossWin : List (Nat × Nat × Nat) := []
  /-- Tick of the last feedback (R347). -/
  lastFeedback : Nat := 0
  /-- Last loss_permille (R361). -/
  lossPm : Nat := 0
  /-- Feedback groups waiting for the tick (R347). -/
  groups : List FbGroup := []
  /-- Reserve rate, kb/s (R348). -/
  reserve : Nat := 0
  /-- FlexFEC and retransmission bytes sent, last 60 ticks (R348). -/
  reserveBytes : List (Nat × Nat) := []
  /-- Video share V (R348). -/
  video : Nat := 0
  /-- Ticks V stayed below 3/4 of the current member (R350). -/
  rungLow : Nat := 0
  /-- Ticks V stayed at or above 5/4 of the next higher member (R350). -/
  rungHigh : Nat := 0
  /-- Line class the leg is moving to (R350). -/
  movingTo : Option Nat := none
  /-- Line class that serves the leg (R350). -/
  serving : Option Nat := none
  deriving DecidableEq, Repr

/-- One of a leg's class queues (R363, R373). -/
structure EgQueue where
  /-- FIFO (R363). -/
  pkts : List EgPkt := []
  /-- Deficit in bytes (R373). -/
  deficit : Nat := 0
  /-- Visit flag (R373). -/
  visited : Bool := false
  /-- Left the round, waiting for the bucket (R374). -/
  parked : Bool := false
  deriving DecidableEq, Repr

/-- Egress state of a leg (R363 to R377, R387). -/
structure EgLeg where
  /-- Class queues, keyed by class 2 to 6 (R363). -/
  queues : Tbl EgQueue := []
  /-- Bucket level, 1/192 byte (R371). -/
  level : Int := 0
  /-- Latched shaper rate, kb/s (R371). -/
  rate : Nat := 0
  /-- Latched burst, bytes (R371). -/
  burst : Nat := 0
  /-- Latched quantum, bytes (R373). -/
  quantum : Nat := 0
  /-- Sub-port in use: 1 + 4 × port + sub-port, 0 for none (R63). -/
  subport : Nat := 0
  /-- Last outbound SRTCP index used (R140). -/
  srtcpIndex : Nat := 0
  /-- Highest inbound SRTCP index authenticated (R535). -/
  srtcpIn : Nat := 0
  /-- SRTCP replay window (R134). -/
  srtcpWindow : List Nat := []
  /-- Mirrored value V_c (R536). -/
  mirroredVc : Nat := 0
  /-- SRTCP packets enqueued in this tick (R524). -/
  srtcpTick : Nat := 0
  /-- Group size L, 0 off; a new one applies from a stream's next picture (R377). -/
  fecL : Nat := 0
  /-- The open FEC group of each video stream (R377). -/
  fecRuns : Tbl FecRun := []
  /-- Retransmission bytes requested in this tick (R376). -/
  rtxBytes : Nat := 0
  /-- The device's transport-wide sequence number (R346). -/
  twccSeq : Nat := 0
  /-- Groups scheduled, by tick, waiting for feedback (R347). -/
  groupsSent : List SentGroup := []
  /-- CRC-64 of the tick's packets (R535). -/
  digest : BitVec 64 := 0
  /-- Packets were enqueued in the tick (R535). -/
  digestSent : Bool := false
  /-- Counters 4 to 10 of EGS_LEG_CTR_n (R387). -/
  ctr : Tbl Nat := []
  deriving DecidableEq, Repr

/-- A forwarded leg's slot (R342 to R346, R360). -/
structure FwdSlot where
  /-- Outbound stream entry of the slot (R342). -/
  stream : Nat := 0
  /-- Sender assigned (R342). -/
  sender : Option Nat := none
  /-- Source stream being forwarded (R345). -/
  cur : Option Nat := none
  /-- Spatial and temporal layer forwarded (R344). -/
  curLayer : Nat × Nat := (0, 0)
  /-- Target source stream, spatial and temporal layer (R349). -/
  tgt : Option (Nat × Nat × Nat) := none
  /-- Consecutive ticks a higher target has fitted (R349). -/
  fits : Nat := 0
  /-- No room within V: the pause lasts at least until the slot fits again (R349). -/
  noRoom : Bool := false
  /-- A change waits for its switch point (R345). -/
  waiting : Bool := false
  /-- Tick the wait began (R345). -/
  waitFrom : Nat := 0
  /-- The waiting change is an up-switch (R345). -/
  waitUp : Bool := false
  /-- The waiting change needs a key frame (R345). -/
  needKey : Bool := false
  /-- Slot paused (R345). -/
  paused : Bool := false
  /-- Last input sequence number consumed (R346). -/
  lastIn : Option Nat := none
  /-- Output sequence number (R346). -/
  outSeq : Nat := 0
  /-- Timestamp offset (R346). -/
  tsOffset : Int := 0
  /-- Frame number or picture ID written last (R343). -/
  frameOut : Nat := 0
  /-- Tick of the last PLI for the wait (R345). -/
  lastPli : Nat := 0
  /-- The timestamp offset is set anew at the next packet (R543). -/
  rebase : Bool := false
  deriving DecidableEq, Repr

/-- A laced viewer's cell (R332, R341, R351, R359). -/
structure ViewCell where
  /-- The cell exists (R359). -/
  exists_ : Bool := false
  /-- Leg whose encode the cell takes; none is the placeholder (R332). -/
  occupant : Option Nat := none
  /-- The occupant is the spare (R332). -/
  spare : Bool := false
  /-- Class of that encode (R325). -/
  cls : ClassKey := {}
  /-- Tile rung of that encode (R351). -/
  rung : Nat := 0
  /-- Tile rung that adaptation asks for (R351). -/
  want : Option Nat := none
  /-- Tile rung computed in the last tick (R351). -/
  fitRung : Nat := 0
  /-- Waiting for the new encode's intra tile (R341). -/
  intraWait : Bool := false
  /-- Ticks the computed rung was at or above the current (R351). -/
  raiseTicks : Nat := 0
  /-- The encode the cell moves to (R341). -/
  next : Option (Option Nat × ClassKey × Nat) := none
  deriving DecidableEq, Repr

/-- Lacer state of a laced leg (R333 to R341). -/
structure Viewer where
  /-- The leg is a laced viewer (R333). -/
  on : Bool := false
  /-- Next picture is a synthetic key picture (R336). -/
  keyPending : Bool := true
  /-- Pictures since the last synthetic key picture (R359). -/
  pictures : Nat := 0
  /-- Cells of the viewer's pricking (R332). -/
  cells : Tbl ViewCell := []
  /-- Sequence number to tiles, last 120 ticks (R334). -/
  tileMap : List TileMapItem := []
  /-- Tick of the last synthetic key picture (R339). -/
  lastSynth : Option Nat := none
  /-- Further PLI or FIR have no effect through this tick (R339). -/
  intraUntil : Option Nat := none
  /-- An intra tile made for a PLI or FIR has not entered egress (R339). -/
  intraOwed : Bool := false
  /-- The viewer's own picture count (R333). -/
  pocCount : Nat := 0
  deriving DecidableEq, Repr

/-- One of the 16,384 legs (R28, R31). -/
structure LegRt where
  /-- IDLE, ADMITTING, ACTIVE, RETIRING, FENCED (R31). -/
  state : LegState := .idle
  /-- Descriptor in force (R28). -/
  desc : LegDesc := {}
  /-- Tick at which the leg became ACTIVE (R28). -/
  activeTick : Nat := 0
  /-- Reduction counts (R42). -/
  reduction : List Nat := [0, 0, 0, 0]
  /-- Fault code that fenced the leg (R28). -/
  fenceCause : Nat := 0
  /-- ICE record (R73). -/
  ice : Option IceRec := none
  /-- Tick at which the drain ends (R33). -/
  drainEnd : Option Nat := none
  /-- Police bucket, 1/24 byte (R78). -/
  police : Nat := 0
  /-- SRTCP bucket, 1/600 packet (R80). -/
  srtcpTok : Nat := 0
  /-- STUN bucket, 1/600 packet (R80). -/
  stunTok : Nat := 0
  /-- DTLS bucket, 1/600 packet (R69). -/
  dtlsTok : Nat := 0
  /-- Counters 0 to 12 of NET_PE_LEG_CTR_n (R110). -/
  rxCtr : Tbl Nat := []
  /-- Current side (R64). -/
  sideB : Bool := false
  /-- Transmission stopped (R76). -/
  txStopped : Bool := false
  /-- Transmission resumes at the next boundary (R76). -/
  resumeNext : Bool := false
  /-- Tick of the last valid consent request (R76). -/
  consentTick : Nat := 0
  /-- Last 8 RTT values in ticks (R94). -/
  rtt : List Nat := []
  /-- Remote transport addresses reported, with tick (R75). -/
  cands : List (Nat × Nat × Nat) := []
  /-- Unknown SSRCs reported, with tick (R84). -/
  ssrcTold : List (Nat × Nat) := []
  /-- NACK items sent in this tick (R96). -/
  nackItems : Nat := 0
  /-- NACK items not sent because of the limit of 64 in a tick, counted (R96). -/
  nackOver : Nat := 0
  /-- Authentication failures in the window (R137). -/
  authFails : Nat := 0
  /-- First tick of that window (R137). -/
  authFrom : Nat := 0
  /-- AUTH_FAILURES sent in the window (R137). -/
  authTold : Bool := false
  /-- Caption group (R253). -/
  caption : Nat := 65535
  /-- Caption group from the next boundary (R253). -/
  captionNext : Option Nat := none
  /-- Audio state (R162). -/
  aud : AudLeg := {}
  /-- Adaptation state (R347). -/
  adapt : AdaptSt := {}
  /-- Egress state (R363). -/
  eg : EgLeg := {}
  /-- Forwarder slots (R342). -/
  fwd : List FwdSlot := []
  /-- Lacer state (R333). -/
  view : Viewer := {}
  deriving DecidableEq, Repr

/-- A cell of an output (R256, R257, R285). -/
structure CellSt where
  /-- Wanted occupant (R256). -/
  want : Option Nat := none
  /-- Leg whose picture is displayed (R257). -/
  shown : Option Nat := none
  /-- Displaying a held picture (R257). -/
  held : Bool := false
  /-- Tick the wait for a new occupant's picture began (R257). -/
  waitFrom : Nat := 0
  /-- The picture displayed, whose buffer stays latched (R217, R257). -/
  pic : Option SrcPic := none
  deriving DecidableEq, Repr

/-- Guard state of an output (R271). -/
structure GuardSt where
  /-- SLATE (true) or NORMAL (R271). -/
  slate : Bool := false
  /-- Matching pictures in SLATE (R271). -/
  streak : Nat := 0
  /-- Guards that mismatched in the last checked picture (R283). -/
  mismatch : List Nat := []
  /-- Expected signatures (R284). -/
  expected : Tbl (BitVec 32) := []
  /-- Computed signatures (R284). -/
  seen : Tbl (BitVec 32) := []
  deriving DecidableEq, Repr

/-- Encode state of a rung (R297 to R314, R321). -/
structure RungSt where
  /-- START, RUN, LTR, GIR (R306). -/
  ref : RefState := .start
  /-- Modelled fullness F (R298). -/
  full : Nat := 0
  /-- Overshoot of the previous picture (R299). -/
  excess : Nat := 0
  /-- Effective rate R in b/s (R297). -/
  rate : Nat := 0
  /-- Rate_cap in kb/s (R297). -/
  rateCap : Option Nat := none
  /-- Escalation count (R306). -/
  esc : Nat := 0
  /-- Tick of the last unmerged request (R306). -/
  escTick : Nat := 0
  /-- A refresh is under way that has not entered egress (R305). -/
  refreshOpen : Bool := false
  /-- Refresh kind of the next picture (R306). -/
  action : Option RefreshKind := none
  /-- Stripes coded of a gradual refresh (R307). -/
  girPos : Nat := 0
  /-- Pictures since the last key picture (R303). -/
  pics : Nat := 0
  /-- An unconfirmed long-term candidate is held (R304). -/
  candOn : Bool := false
  /-- Legs that have not acknowledged it, with the first and last sequence number of its packets (R304). -/
  cand : List (Nat × Nat × Nat) := []
  /-- Pictures since the last candidate (R304). -/
  sinceCand : Nat := 0
  /-- Confirmed long-term reference held (R304). -/
  ltr : Bool := false
  /-- Analysis complexities of the last 60 pictures (R299). -/
  complex : List Nat := []
  /-- Analysis complexity of each band of the previous picture (R300). -/
  bandCx : List Nat := []
  /-- B of the last picture (R297). -/
  lastSize : Nat := 0
  /-- (tick, bits) of the last 600 ticks (R299). -/
  sentBits : List (Nat × Nat) := []
  /-- Compose ticks of the pictures waiting (non-live ring) (R310). -/
  waitPics : List Nat := []
  /-- Bands of the current picture that have ended (R311). -/
  curBands : List CodedBand := []
  /-- Tick in which the last refresh's first picture entered egress (R305). -/
  entered : Option Nat := none
  /-- The last picture entered floor mode (R320). -/
  floored : Bool := false
  /-- Mean quantiser of the last picture (R320). -/
  qpLast : Nat := 0
  /-- Counters 0 to 11 of VEN_LC_CTR_n (R321). -/
  ctr : Tbl Nat := []
  /-- Pictures since the stream's first picture (R24). -/
  m : Nat := 0
  /-- Tick in which the last picture settled, whether it was lost, and whether its input was missing (R312). -/
  settled : Option (Nat × Bool × Bool) := none
  /-- Every band of the picture has ended; it waits for the top rung's (R312). -/
  parked : Bool := false
  deriving DecidableEq, Repr

/-- One of the 8,192 line classes (R37). -/
structure LineClass where
  /-- The descriptor is in use (R37). -/
  live : Bool := false
  /-- Descriptor (R37). -/
  desc : LcDesc := {}
  /-- Encode record (R290). -/
  enc : EncRec := {}
  /-- Phase assigned (R37). -/
  phase : Nat := 0
  /-- Ladder number within the fold, in order of formation (R292). -/
  ladder : Nat := 0
  /-- Cells of the composed output (R256). -/
  cells : Tbl CellSt := []
  /-- Guard state (R271). -/
  guard : GuardSt := {}
  /-- Composition bands of the current picture that have ended (R274). -/
  bands : List (Nat × BandEnd) := []
  /-- Compose tick of the picture passed to the encoder (R268). -/
  inputTick : Option Nat := none
  /-- That picture is the slate (R271). -/
  inputSlate : Bool := false
  /-- The slate is to be rendered (R272). -/
  slateDue : Bool := true
  /-- The slate in its buffer (R272). -/
  slatePic : PicRec := {}
  /-- The picture being composed, or the last one composed, as its records make it (R260, R268). -/
  pic : PicRec := {}
  /-- Rung state (R306). -/
  rung : RungSt := {}
  deriving DecidableEq, Repr

/-- A cell encode (R326). -/
structure CellEnc where
  /-- Leg, or none for the placeholder (R326). -/
  occupant : Option Nat := none
  /-- Cell class (R325). -/
  cls : ClassKey := {}
  /-- Tile rung (R326). -/
  rung : Nat := 0
  /-- Rate-control state (R327). -/
  st : RungSt := {}
  /-- Tick of the merged intra request (R339). -/
  intraReq : Option Nat := none
  /-- Bits of that picture (R327). -/
  bits : Nat := 0
  /-- Tick of the last picture produced (R335). -/
  produced : Option Nat := none
  /-- That picture was an intra tile (R340). -/
  codedIntra : Bool := false
  /-- Tick of the last assembly that took it or waited for it (R341). -/
  lastTaken : Nat := 0
  deriving DecidableEq, Repr

/-- A cell render of an occupant and a cell class (R269). -/
structure CellRender where
  /-- Leg, or none for the placeholder (R269). -/
  occupant : Option Nat := none
  /-- Cell class (R269). -/
  cls : ClassKey := {}
  /-- Composition bands of the current picture that have ended (R274). -/
  bands : List (Nat × BandEnd) := []
  /-- Guard state (R271). -/
  guard : GuardSt := {}
  /-- Compose tick of the picture passed to the encoders (R268). -/
  inputTick : Option Nat := none
  /-- That picture is the slate (R271). -/
  inputSlate : Bool := false
  /-- The picture being composed, or the last one composed, as its records make it (R260, R269). -/
  pic : PicRec := {}
  deriving DecidableEq, Repr

/-- A phase of a staged change (R45 to R48). -/
structure StagedPhase where
  /-- Change it belongs to (R46). -/
  id : Nat := 0
  /-- Fold (R45). -/
  fold : Nat := 0
  /-- Boundary at which it switches (R47). -/
  at_ : Nat := 0
  /-- Fully staged in the shadow set (R47). -/
  staged : Bool := false
  /-- Mirrored to the partner (R47). -/
  mirrored : Bool := false
  /-- Its switch has moved (R47). -/
  deferred : Bool := false
  /-- What the switch does to the active set (R45). -/
  ops : List StageOp := []
  /-- The reply owed once the switch tick is fixed (R648). -/
  reply : Option ReplyTo := none
  /-- Admission result of that reply; none where the message owes none (R648). -/
  result : Option AdmitResult := none
  /-- Arrival tick of the event (R32). -/
  arrival : Nat := 0
  deriving DecidableEq, Repr

/-- One of the 4,096 folds (R35). -/
structure FoldRt where
  /-- IDLE, ACTIVE, RETIRING (R35). -/
  state : FoldState := .idle
  /-- Descriptor in force (R35). -/
  desc : FoldDesc := {}
  /-- Audio record in force (R159). -/
  audio : AudioRec := {}
  /-- Fold epoch (R45). -/
  epoch : BitVec 32 := 0
  /-- Pin table of 32 slots (R255). -/
  pins : List Nat := []
  /-- Bellwether list members (R166). -/
  list : List Nat := []
  /-- Lead (R169). -/
  lead : Option Nat := none
  /-- Record published at the end of the last tick (R170). -/
  record : BellRec := {}
  /-- Record of the current tick, published at its end (R170). -/
  draft : BellRec := {}
  /-- Recency list: leg and latest member tick (R255). -/
  recency : List (Nat × Nat) := []
  /-- Decode set for the next tick (R167). -/
  decodeNext : List Nat := []
  /-- List changed in the tick (R659). -/
  listChanged : Bool := false
  /-- Fold mix M of this tick (R177). -/
  mix : List Int := []
  /-- Shared outputs per audio configuration (R178). -/
  outs : Tbl ShOut := []
  /-- Frame phase per configuration (R182). -/
  audioPhase : Tbl Nat := []
  /-- Changes of this tick taken for one epoch, up to 256 (R49). -/
  stagedNow : Nat := 0
  /-- That tick (R49). -/
  stagedTick : Nat := 0
  /-- Fold arrangement of the laced pricking, keyed pricking*32+cell (R331). -/
  arr : Tbl CellSt := []
  /-- Spare per laced pricking (leg+1) (R331). -/
  spare : Tbl Nat := []
  /-- Phase of the lace grid (R330). -/
  gridPhase : Nat := 0
  /-- Cell encodes (R326). -/
  encs : List CellEnc := []
  /-- Cell renders (R269). -/
  renders : List CellRender := []
  /-- Tick of the last resolution per pricking (tick+1) (R331). -/
  arrTick : Tbl Nat := []
  /-- Ladders formed so far (R292). -/
  ladders : Nat := 0
  /-- This fold is active on role B (R521). -/
  ownB : Bool := false
  /-- A fold retirement is under way (R31). -/
  retireTold : Bool := false
  deriving DecidableEq, Repr

/-- An admission in progress (R32, R41). -/
structure PendAdmit where
  /-- Change number (R32). -/
  id : Nat := 0
  /-- Arrival tick (R32). -/
  arrival : Nat := 0
  /-- The fold it changes (R49). -/
  fold : Nat := 0
  /-- The change (R41). -/
  change : StageOp := .foldOut 0
  /-- Who is answered (R648). -/
  reply : Option ReplyTo := none
  /-- Waits in the fold's queue of 64 (R49). -/
  queued : Bool := false
  deriving DecidableEq, Repr

/-- Capacity of each budget and limit after losses, before headroom (R1, R40, R44). -/
structure Caps where
  /-- Media-core cycles per tick (R1). -/
  cores : Nat := 0
  /-- Video-engine cycles per tick (R1). -/
  video : Nat := 0
  /-- Trained peak per tick (R1). -/
  dram : Nat := 0
  /-- Egress bytes per tick (R1). -/
  egress : Nat := 0
  /-- Decodes, and encodes, at a time (R40). -/
  audio : Nat := 0
  /-- Assemblies per tick (R40). -/
  lace : Nat := 0
  /-- Compositors (R40). -/
  cmps : Nat := 0
  /-- Legacy HMAC bytes per tick, ingress half (R113). -/
  hmacIn : Nat := 0
  /-- Legacy HMAC bytes per tick, egress half (R113). -/
  hmacOut : Nat := 0
  /-- Ingress pipelines (R144). -/
  pipesIn : Nat := 0
  /-- Egress pipelines (R144). -/
  pipesOut : Nat := 0
  /-- Mirrored bytes per tick (R523). -/
  mirror : Nat := 0
  /-- Bytes per tick of each port (R378). -/
  ports : List Nat := []
  deriving DecidableEq, Repr

/-- The admission accountant (R38 to R44). -/
structure Admission where
  /-- Capacity in force: what the ceilings are computed from (R44). -/
  caps : Caps := {}
  /-- Admissions in progress (R32). -/
  pend : List PendAdmit := []
  /-- Phases waiting for their boundary (R45). -/
  staged : List StagedPhase := []
  /-- Number of the next change (R46). -/
  nextId : Nat := 0
  /-- Ceilings are to be recomputed at the next boundary (R44). -/
  recount : Bool := false
  deriving DecidableEq, Repr

/-- A port (R64, R65, R69). -/
structure PortSt where
  /-- Ns of loss of lock, when lost (R64). -/
  downSince : Option Nat := none
  /-- Tick since which the port is up (R64). -/
  upSince : Option Nat := none
  /-- Went down since the last boundary (R64). -/
  goneDown : Bool := false
  /-- Punt bucket, 1/600 packet (R69). -/
  punt : Nat := 6000000
  /-- Uncorrectable code words of the last 600 ticks (R100). -/
  fecWin : List (Nat × Nat) := []
  /-- Electrical idle until ModuleReady (R598). -/
  moduleHold : Bool := false
  deriving DecidableEq, Repr

/-- Packet engine (R67 to R110). -/
structure NetSt where
  /-- Ports 0 to 15 (R60). -/
  ports : Tbl PortSt := []
  /-- Packets accepted, in order of arrival time-stamp (R68). -/
  inq : List RxPkt := []
  /-- RTCP packets decrypted and parsed (R93). -/
  rtcpq : List RtcpItem := []
  /-- RTCP packets counted and ignored (R93). -/
  rtcpIgnored : Nat := 0
  /-- Packets accepted in this tick (R81). -/
  tickPkts : Nat := 0
  /-- Bytes accepted in this tick (R81). -/
  tickBytes : Nat := 0
  /-- Announcements to repeat (R65). -/
  announce : List Announce := []
  /-- Local address table in force (R65). -/
  addrs : List AddrEnt := []
  deriving DecidableEq, Repr

/-- A key slot (R117, R138). -/
structure KeySlot where
  /-- Holds a key (R117). -/
  valid : Bool := false
  /-- Suite (R117). -/
  suite : Nat := 0
  /-- KEK that unwrapped the key (R117). -/
  kek : Nat := 0
  /-- The derived session keys, named by the blob's key bytes (R115). -/
  keyId : Nat := 0
  /-- Activate (R122). -/
  activate : Nat := 0
  /-- Activate_rtcp (R122). -/
  activateRtcp : Nat := 0
  /-- Max_index (R122). -/
  maxIndex : Nat := 0
  /-- Max_index_rtcp (R122). -/
  maxRtcp : Nat := 0
  /-- Expire_tick (R122). -/
  expire : Nat := 0
  /-- Generation of the key held (R117). -/
  generation : Nat := 0
  /-- Slot draining (R138). -/
  draining : Bool := false
  /-- Key to install at c + 64; none erases (R138). -/
  install : Option SlotKey := none
  /-- KEY_LOAD reply owed at the installation (R126). -/
  reply : Option ReplyTo := none
  /-- A packet has used the key (R155). -/
  used : Bool := false
  /-- The drain is a promotion from this next slot (R133). -/
  promoteFrom : Option Nat := none
  deriving DecidableEq, Repr

/-- One-time key storage position (R128, R652). -/
structure KekPos where
  /-- Written (R128). -/
  written : Bool := false
  /-- Revoked (R128). -/
  revoked : Bool := false
  /-- Key (R128). -/
  key : BitVec 256 := 0
  deriving DecidableEq, Repr

/-- Cipher engine and key store (R111 to R155). -/
structure CipSt where
  /-- 65,536 key slots (R117). -/
  slots : Tbl KeySlot := []
  /-- Blobs waiting, up to 4,096 (R125). -/
  waiting : List BlobWait := []
  /-- Blobs processed in this tick (R125). -/
  blobsTick : Nat := 0
  /-- Customer KEKs 0 to 3 (R128). -/
  keks : Tbl KekPos := []
  /-- Cycles used in this tick per pipe (R147). -/
  pipeCycles : Tbl Nat := []
  /-- Blocks held per pipe (R112). -/
  pipeBlocks : Tbl Nat := []
  deriving DecidableEq, Repr

/-- Audio complex totals (R194, R196). -/
structure AudSt where
  /-- Decoders that ran in this tick (R194). -/
  decN : Nat := 0
  /-- Encoders that ran in this tick (R194). -/
  encN : Nat := 0
  deriving DecidableEq, Repr

/-- Video engines (R201 to R236). -/
structure VenSt where
  /-- Engines to fence at the next boundary, with cause (R226). -/
  fencePend : List (Nat × Nat) := []
  /-- Decode cycles used in this tick per engine (R237). -/
  decUse : Tbl Nat := []
  /-- Encode cycles used in this tick per engine (R316). -/
  encUse : Tbl Nat := []
  deriving DecidableEq, Repr

/-- Compositors (R260 to R285). -/
structure CmpSt where
  /-- Compositors to fence at the next boundary, with cause (R275). -/
  fencePend : List (Nat × Nat) := []
  /-- Pixels composed in this tick per compositor (R280). -/
  use : Tbl Nat := []
  /-- Image groups (R250). -/
  groups : Tbl ImgGroup := []
  /-- Groups stored, waiting for their boundary (R252). -/
  groupNext : Tbl ImgGroup := []
  /-- Tick in which a stored group was stored (tick+1) (R252). -/
  groupAt : Tbl Nat := []
  /-- Groups marked lost (host groups) (R267). -/
  groupLost : List Nat := []
  /-- Groups made transparent, to be restored (R267). -/
  groupPoison : List Nat := []
  /-- Guard sets (R254). -/
  guardSets : Tbl (List Nat) := []
  /-- Guard sets from the next boundary (R254). -/
  guardNext : Tbl (List Nat) := []
  /-- Image loads in progress (R252). -/
  loads : Tbl LoadBuf := []
  /-- Stream whose decoding starts at the next boundary, per fold (entry+1) (R258). -/
  decNext : Tbl Nat := []
  deriving DecidableEq, Repr

/-- Lacer (R322 to R357). -/
structure LacSt where
  /-- Lanes to fence at the next boundary, with cause (R352). -/
  fencePend : List (Nat × Nat) := []
  /-- Assemblies in this tick (R355). -/
  asmTick : Nat := 0
  /-- Cell encodes that produced a picture in this tick (R355). -/
  encTick : Nat := 0
  deriving DecidableEq, Repr

/-- A port queue of classes 7, 1 and 0 (R363). -/
structure PortQ where
  /-- FIFO, up to 4,096 (R363). -/
  pkts : List EgPkt := []
  deriving DecidableEq, Repr

/-- A sub-port scheduler (R366, R373). -/
structure SubSt where
  /-- Virtual clock, ns in the tick, times 1,000 (R366). -/
  tau : Nat := 0
  /-- Where the last frame on the line ends, ns in the tick, times 1,000 (R366). -/
  free : Nat := 0
  /-- Round of active queues per class: legs in order (R373). -/
  rounds : Tbl (List Nat) := []
  deriving DecidableEq, Repr

/-- Egress scheduler (R362 to R385). -/
structure EgsSt where
  /-- Packets written by the packetisers, waiting to be enqueued (R363). -/
  packetised : List EgPkt := []
  /-- Port queues, keyed port*8+class (R363). -/
  portq : Tbl PortQ := []
  /-- Sub-ports, keyed port*4+sub-port (R366). -/
  subs : Tbl SubSt := []
  /-- Bytes sent in this tick per port (R381). -/
  tickBytes : Tbl Nat := []
  /-- Frames sent in this tick per port (R381). -/
  tickFrames : Tbl Nat := []
  /-- Refill points of this tick already made (R371). -/
  refill : Nat := 0
  deriving DecidableEq, Repr

/-- A Drover task record (R389) with its counters (R422). -/
structure Task where
  /-- The record; its flags are the live event flags (R389). -/
  cfg : TaskRec := {}
  /-- IDLE, READY, SPILLED, RUNNING, DISABLED (R389). -/
  st : TaskState := .disabled
  /-- Flags consumed at readiness (R404). -/
  consumed : BitVec 32 := 0
  /-- Counters 0 to 5 (R422). -/
  ctr : Tbl Nat := []
  deriving DecidableEq, Repr

/-- An entry of a ready list or spill ring (R400). -/
structure ReadyEnt where
  /-- Task (R400). -/
  task : Nat := 0
  /-- Deadline boundary (R407). -/
  deadline : Nat := 0
  /-- Order of readiness (R400). -/
  order : Nat := 0
  /-- First tick in which the entry may be dispatched (R410). -/
  from_ : Nat := 0
  deriving DecidableEq, Repr

/-- A dispatched item (R405, R406). -/
structure RunItem where
  /-- Task (R405). -/
  task : Nat := 0
  /-- Pool (R406). -/
  pool : Nat := 0
  /-- Core or unit (R406). -/
  unit : Nat := 0
  /-- Deadline boundary (R407). -/
  deadline : Nat := 0
  /-- Tick of the grant (R412). -/
  grantTick : Nat := 0
  /-- Ns in the tick of the grant (R408). -/
  grantNs : Nat := 0
  /-- An abort has reached the arbiter (R412). -/
  aborted : Bool := false
  /-- Outcome given by the arbiter (R405). -/
  outcome : Option Outcome4 := none
  deriving DecidableEq, Repr

/-- The Drover (R388 to R423). -/
structure DrvSt where
  /-- 65,536 task records (R388). -/
  tasks : Tbl Task := []
  /-- 8,192 graph records (R395). -/
  graphs : Tbl Graph := []
  /-- Class W on-chip ready list (R400). -/
  readyW : List ReadyEnt := []
  /-- Class G on-chip ready list (R400). -/
  readyG : List ReadyEnt := []
  /-- Class W spill ring (R401). -/
  spillW : List ReadyEnt := []
  /-- Class G spill ring (R401). -/
  spillG : List ReadyEnt := []
  /-- Ns in this tick of the latest Drover command (R408). -/
  clock : Nat := 0
  /-- Items dispatched (R405). -/
  running : List RunItem := []
  /-- Next order of readiness (R400). -/
  order : Nat := 0
  /-- Task-record writes waiting (R394). -/
  writes : List TaskWrite := []
  /-- Cores stalled on their take port: since when, in ns, and the core; longest first (R403). -/
  takers : List (Nat × Nat) := []
  /-- Take and done ports per core (R404). -/
  cores : Tbl CorePort := []
  /-- A sweep follows at the next boundary (R402). -/
  sweep : Bool := false
  /-- Cycles used in this tick per pool (R421). -/
  busy : Tbl Nat := []
  /-- Cores to fence at the next boundary, with cause (R415). -/
  fencePend : List (Nat × Nat) := []
  /-- Clusters whose audio assists have failed (R191). -/
  assistOff : List Nat := []
  /-- Items shed in this tick (R419). -/
  shedN : Nat := 0
  /-- Items dispatched in this tick (R419). -/
  dispN : Nat := 0
  /-- Items resolved under R412 in this tick (R419). -/
  overN : Nat := 0
  /-- Items carried in this tick (R419). -/
  carryN : Nat := 0
  /-- Outcomes told to the owning blocks in this tick (task, outcome, shed) (R413). -/
  outcomes : List (Nat × Outcome4 × Bool) := []
  deriving DecidableEq, Repr

/-- A bobbin queue (R424 to R440). -/
structure BqSt where
  /-- Head (R428). -/
  head : BitVec 32 := 0
  /-- Mark (R428). -/
  mark : BitVec 32 := 0
  /-- Read (R428). -/
  read : BitVec 32 := 0
  /-- Write (R428). -/
  write : BitVec 32 := 0
  /-- Words from head to write (R426). -/
  words : List BqWord := []
  /-- Words still reserved for the packet being written (R429). -/
  left : Nat := 0
  /-- The rest of the packet being written is discarded (R434). -/
  discard : Bool := false
  /-- Pointer of the HELD word that awaits its end mark (R427). -/
  heldAt : Option (BitVec 32) := none
  /-- A word of the current packet had an uncorrectable error (R433). -/
  eccHeld : Bool := false
  /-- A READ waits for the HELD word's end mark (R430). -/
  waiting : Bool := false
  /-- That READ found an uncorrectable error (R433). -/
  waitEcc : Bool := false
  /-- Head before the last RELEASE (R431). -/
  lastHead : BitVec 32 := 0
  deriving DecidableEq, Repr

/-- Bobbin queues. -/
structure BqAll where
  /-- 4,096 queues (R424). -/
  q : Tbl BqSt := []
  /-- Queues to flush at the next boundary (R434). -/
  flush : List Nat := []
  /-- What the last READ or SKIP of a queue returned to its consumer (R430). -/
  port : Tbl BqPortEvent := []
  deriving DecidableEq, Repr

/-- A DRAM bank (R464, R466). -/
structure BankSt where
  /-- Row-disturbance table of 32 entries (row, count) (R464). -/
  rows : List (Nat × Nat) := []
  /-- History h (R466). -/
  hist : BitVec 4 := 0
  /-- Last_row (R466). -/
  lastRow : Option Nat := none
  /-- Open row (R466). -/
  openRow : Option Nat := none
  deriving DecidableEq, Repr

/-- A DRAM rank. -/
structure RankSt where
  /-- Owed count per bank set (R460). -/
  owed : Tbl Int := []
  /-- Doubled refresh rate (R461). -/
  doubled : Bool := false
  /-- Consecutive cool reads (R461). -/
  coolReads : Nat := 0
  /-- Corrected errors of the last 600 ticks (R457). -/
  ceWin : List (Nat × Nat) := []
  /-- Poisoned lines of the last 600 ticks (R457). -/
  ueWin : List (Nat × Nat) := []
  /-- Banks (subchannel*32+group*4+bank) (R464). -/
  banks : Tbl BankSt := []
  deriving DecidableEq, Repr

/-- A DDR5 channel (R442 to R475). -/
structure ChanSt where
  /-- Population found (R442). -/
  dimm : DimmPop := {}
  /-- Outcome per set point (R444). -/
  trained : List Nat := []
  /-- Ranks (R442). -/
  ranks : Tbl RankSt := []
  /-- S_ch (R446). -/
  slices : Nat := 0
  /-- Home slices that are free (R446). -/
  vacant : List Nat := []
  /-- Reserve slices that are not free (R446). -/
  taken : List Nat := []
  /-- Rank migrating to the spare (R471). -/
  migRank : Option Nat := none
  /-- Command waiting for the boundary (R482). -/
  cmdPend : Nat := 0
  /-- Drained automatically: RETRAIN and REJOIN follow (R475). -/
  autoDrain : Bool := false
  /-- Highest owed count in the tick so far (R481). -/
  owedMax : Nat := 0
  deriving DecidableEq, Repr

/-- Memory plane (R442 to R486). -/
structure DmcSt where
  /-- Channels 0 to 11 (R442). -/
  chans : Tbl ChanSt := []
  /-- Remap entries that differ from home: stripe*12+position to (channel, slice+1) (R450). -/
  remap : Tbl (Nat × Nat) := []
  /-- N (R446). -/
  stripes : Nat := 0
  /-- M (R446). -/
  mirrored : Nat := 0
  /-- Set point in force (R443). -/
  setPoint : Nat := 0
  /-- Numbers of the set points that remain (R443). -/
  setPoints : List Nat := []
  /-- Spare-rank mode of the image (R471). -/
  spareMode : Bool := false
  /-- Copier jobs in order (R469). -/
  jobs : List CopyJob := []
  /-- Mirrored entries whose copy is to be rebuilt (R451). -/
  lostCopies : List Nat := []
  /-- Set-point switch in progress: previous set point (R468). -/
  gap : Option Nat := none
  /-- Set-point switch waiting for its boundary (R467). -/
  wantSp : Option Nat := none
  /-- Tick DIMM_HOT was last raised (R463). -/
  hotTick : Option Nat := none
  /-- Tick of the last reading above 85 C (R463). -/
  warmTick : Nat := 0
  /-- Set point in force before DIMM_HOT (R463). -/
  hotFrom : Option Nat := none
  /-- Writes posted to the write-hold area (R468). -/
  hold : List MemReq := []
  /-- Requests that wait for the gap to end (R468). -/
  stalled : List MemReq := []
  /-- Reference cache: lines per set, most recent first (R454, R455). -/
  cache : Tbl (List CacheLine) := []
  /-- Reference-cache hits of the tick (R484). -/
  hitsTick : Nat := 0
  /-- Reference-cache accesses of the tick (R484). -/
  accTick : Nat := 0
  /-- Syntax lines pinned in the cache (R455). -/
  syntaxLines : List CacheLine := []
  /-- Result of the last DRAM_ACCESS read (R456). -/
  lastRead : Option LineRead := none
  /-- Tick of the last ZQ latch (R444). -/
  zq : Nat := 0
  /-- Tick of the last DQS drift compensation (R444). -/
  dqs : Nat := 0
  deriving DecidableEq, Repr

/-- A PTP domain (R495 to R497). -/
structure DomSt where
  /-- Foreign masters from Announce (R495). -/
  masters : List MasterRec := []
  /-- Chosen master (R495). -/
  master : Option MasterRec := none
  /-- Last 64 offset measurements (R497). -/
  meas : List Meas := []
  /-- Two-step Sync waiting for its Follow_Up (R497). -/
  syncPend : Option SyncPend := none
  /-- Delay request outstanding (R496). -/
  reqSent : Option ReqSent := none
  /-- SequenceId of the next request (R496). -/
  reqSeq : Nat := 0
  /-- Source and capture time of the last Sync, 1/32 ns (R497). -/
  lastSync : Option (Int × Int) := none
  /-- Master's logMinDelayReqInterval (R496). -/
  logReq : Int := 0
  /-- Mean path delay, 1/32 ns (R497). -/
  delay : Int := 0
  /-- Consecutive LOCKED ticks (R498). -/
  lockTicks : Nat := 0
  /-- Leap61 announced (R494). -/
  leap61 : Bool := false
  /-- Leap59 announced (R494). -/
  leap59 : Bool := false
  /-- CurrentUtcOffset when valid (R494). -/
  utc : Option Int := none
  deriving DecidableEq, Repr

/-- External input (R505). -/
structure ExtIn where
  /-- Last valid time-of-day frame (R505). -/
  frame : Option TodFrame := none
  /-- Pairs (R505). -/
  meas : List Meas := []
  /-- Consecutive LOCKED ticks (R498). -/
  lockTicks : Nat := 0
  /-- Leap61 flag (R494). -/
  leap61 : Bool := false
  /-- Leap59 flag (R494). -/
  leap59 : Bool := false
  /-- Utc_offset carried (R494). -/
  utc : Option Int := none
  deriving DecidableEq, Repr

/-- Conversion record of a time-stamp unit (R491). -/
structure TsuRec where
  /-- C_b (R491). -/
  cb : Nat := 0
  /-- T_b in 2^-32 ns (R491). -/
  tb : Nat := 0
  /-- I (R491). -/
  inc : Nat := 0
  deriving DecidableEq, Repr

/-- Time (R487 to R516). -/
structure TimSt where
  /-- Absolute tick of the current tick (64 bits) (R19). -/
  tick : Nat := 0
  /-- Grid_valid (R54). -/
  valid : Bool := false
  /-- Timebase seconds at the last boundary (64 bits) (R487). -/
  sec : Nat := 0
  /-- Nanoseconds (R487). -/
  ns : Nat := 0
  /-- Fractional nanoseconds, 2^-32 (R487). -/
  frac : Nat := 0
  /-- Frequency term, ppt (R489). -/
  f : Int := 0
  /-- Phase term, ppt (R489). -/
  p : Int := 0
  /-- F of the last 600 ticks (R500). -/
  fHist : List Int := []
  /-- Theta_sel, ns (R498). -/
  theta : Int := 0
  /-- Domains 1 and 2 (R495). -/
  doms : Tbl DomSt := []
  /-- External input (R505). -/
  ext : ExtIn := {}
  /-- Source forced by message; 0 none (R498). -/
  forced : Nat := 0
  /-- C_b: unit count at the last boundary (R491). -/
  count : Nat := 0
  /-- Nominal ticks since NO_SOURCE (R499). -/
  noSrc : Nat := 0
  /-- Approved step: boundary, source, reply (R498). -/
  stepAt : Option (Nat × Nat × ReplyTo) := none
  /-- Tick of the last TIME_STEP_PENDING (R498). -/
  stepTold : Option Nat := none
  /-- Conversion records of the current and previous tick (R491). -/
  recs : List TsuRec := []
  /-- Leap seconds applied since the selected source's last Announce or frame (R494). -/
  utcLeap : Int := 0
  /-- The initial set is made; ticks start at the next boundary (R499). -/
  startNext : Bool := false
  deriving DecidableEq, Repr

/-- Twin (R517 to R553). -/
structure TwnSt where
  /-- Pair state (R526). -/
  pair : PairState := .solo
  /-- Cross mode (R521). -/
  cross : Bool := false
  /-- Pair_mode is not 0 (R589). -/
  paired : Bool := false
  /-- Role (R521). -/
  roleB : Bool := false
  /-- Authority settled on this device (active/standby) (R528). -/
  authSelf : Bool := true
  /-- Partner's last IDENTITY (R525). -/
  ident : Option Identity := none
  /-- Pair epoch in the partner's frames (R529). -/
  partnerEpoch : BitVec 32 := 0
  /-- Consecutive failed pairing attempts (R529). -/
  fails : Nat := 0
  /-- Attempt in progress (R529). -/
  attempt : Option PairAttempt := none
  /-- Check or result that refused the pair (R526). -/
  refused : Nat := 0
  /-- Tick of the last IDENTITY while REFUSED (R526). -/
  identTick : Nat := 0
  /-- Paths heard since the last boundary: 0 bundle A, 1 bundle B, 2 sideband (R539). -/
  heardNow : List Nat := []
  /-- Flags of the last HEARTBEAT (R519). -/
  partnerFlags : Nat := 0
  /-- Detection boundary d (R541). -/
  lossAt : Option Nat := none
  /-- Takeover boundary (R541). -/
  takeAt : Option Nat := none
  /-- Level of AUS_HB_OUT (R539). -/
  hbOut : Bool := false
  /-- Records received, with their tick (standby) (R531). -/
  mirrorRx : List (Nat × MirrorRec) := []
  /-- Records sent in this tick (authority) (R531). -/
  mirrorTx : Nat := 0
  /-- Bytes of those records (R532). -/
  mirrorBytes : Nat := 0
  /-- Last tick sealed (R532). -/
  sealed : Option Nat := none
  /-- A SEAL that the records held do not match yet: tick, record count, byte count (R532). -/
  sealHeld : Option (Nat × Nat × Nat) := none
  /-- Session events sent, waiting for EVENT_ACK (R533). -/
  events : List MirEvent := []
  /-- Events received for a later tick, with that tick (R533). -/
  shadowEv : List (Nat × SessEvent) := []
  /-- Digest entries of the last ticks (R535). -/
  digests : List (Nat × List DigestEnt) := []
  /-- Unsynced shadow objects (kind*65536+index) and the tick since which (tick+1) (R536). -/
  unsynced : Tbl Nat := []
  /-- Convergence ticks and their objects (R537). -/
  converge : List (Nat × List Nat) := []
  /-- Frames kept per bundle for RETRY (2 MiB) (R520). -/
  retain : Tbl (List SentFrame) := []
  /-- Next sequence number expected per bundle (R520). -/
  rxSeq : Tbl Nat := []
  /-- Next sequence number sent per bundle (R518). -/
  txSeq : Tbl Nat := []
  /-- Consecutive ticks over 20 us per bundle (R520). -/
  slowTicks : Tbl Nat := []
  /-- Ticks with 50 us < delta <= 1 ms (R545). -/
  disagTicks : Nat := 0
  /-- Ticks with delta above 1 ms (R545). -/
  splitTicks : Nat := 0
  /-- Ticks of agreement after a TIME_SPLIT (R545). -/
  okTicks : Nat := 0
  /-- Shadow running stopped by TIME_SPLIT (R545). -/
  split : Bool := false
  /-- After an authority other than the rule of R534: whether this device holds every entry of the local address table, or none (R534). -/
  hold : Option Bool := none
  /-- Planned switchover: boundary, whether it is scheduled, reply (R544). -/
  handover : Option (Nat × Bool × ReplyTo) := none
  /-- Partner reported ready for the activation (R622). -/
  partnerReady : Bool := false
  /-- Partner's ceilings in basis points (R522). -/
  ceilings : List Nat := []
  /-- Every object of this device is synced, and SYNC_DONE sent where it is due (R529). -/
  syncEnter : Bool := false
  /-- SYNC_DONE received, or none is due (R529). -/
  partnerSynced : Bool := false
  /-- The partner's IDENTITY has passed the checks (R527). -/
  identOk : Bool := false
  /-- Objects whose SNAPSHOT waits to be sent (kind*65536+index) (R538). -/
  snapQ : List Nat := []
  /-- Transmit time-stamp of the last TIME frame per bundle (ns+1) (R520). -/
  timeSent : Tbl Nat := []
  /-- The next MIRROR frame uses bundle B (R520). -/
  alt : Bool := false
  /-- Objects whose repair at the partner is owed, with the tick since which (tick+1) (R537). -/
  owed : Tbl Nat := []
  /-- Partner's switchover: boundary, and whether the epoch is committed (R544). -/
  switchIn : Option (Nat × Bool) := none
  deriving DecidableEq, Repr

/-- Pins. -/
structure PinSt where
  /-- AUS_FENCE_IN (R517). -/
  fenceIn : Bool := false
  /-- AUS_FENCE_OUT (R517). -/
  fenceOut : Bool := false
  /-- AUS_HB_IN (R517). -/
  hbIn : Bool := false
  /-- THERMTRIP_N driven low (R713). -/
  thermTrip : Bool := false
  /-- SVC_REQ_N asserted (R686). -/
  svcReq : Bool := false
  /-- SD_PWR_EN (R571). -/
  sdPwr : Bool := false
  /-- SD_VSEL high (R707). -/
  sdVsel : Bool := false
  /-- TIME_PPS_OUT (R504). -/
  ppsOut : Bool := false
  /-- Last frame sent on TIME_TOD_OUT (R504). -/
  todOut : List (BitVec 8) := []
  /-- Channels whose DDR_RESET_N is high (R571). -/
  ddrResetN : List Nat := []
  /-- GP pins driven as outputs (R571, R589) (R701). -/
  gp : BitVec 32 := 0
  /-- NET and AUS transmit lanes at electrical idle (R571). -/
  txIdle : Bool := true
  /-- SVC_MODE (R651). -/
  svcMode : Bool := false
  deriving DecidableEq, Repr

/-- The tally store (R662 to R664). -/
structure TallySt where
  /-- Records readable, oldest first (R662). -/
  recs : List TallyRec := []
  /-- Store sequence number (R662). -/
  seq : BitVec 32 := 0
  /-- Next block (R663). -/
  next : Nat := 0
  /-- Retired blocks (R662). -/
  retired : Nat := 0
  /-- Blocks written since manufacture (R674). -/
  writes : Nat := 0
  /-- K (R566). -/
  optionAttempts : Nat := 0
  /-- Counts since manufacture (R578). -/
  resetCounts : List Nat := [0, 0, 0, 0, 0]
  /-- Ticks in service (R664). -/
  ticksInService : Nat := 0
  /-- Pair epoch (R528). -/
  epoch : BitVec 32 := 0
  /-- Fenced_latched (R540). -/
  fencedLatched : Bool := false
  /-- Pair epoch latched with fenced_latched (R540). -/
  latchEpoch : BitVec 32 := 0
  /-- Stored generation per slot (R124). -/
  gens : Tbl Nat := []
  /-- Remap entries mirrored (R450). -/
  remap : Tbl (Nat × Nat) := []
  /-- Channels out of service (R477). -/
  chOut : List Nat := []
  /-- Failed rank per channel whose spare is used (rank+1) (R477). -/
  spareUsed : Tbl Nat := []
  /-- Boot record (R629). -/
  boot : BootRec := {}
  /-- Fault journal, oldest first (R679). -/
  journal : List JEntry := []
  /-- Next journal sequence number (R679). -/
  journalSeq : Nat := 0
  /-- Update journal (R630). -/
  updJournal : List UpdRec := []
  /-- Inventory entries, key kind*256+index (R604). -/
  inv : Tbl InvEntry := []
  /-- Last counter accepted per management key (plus 1) (R653). -/
  svcAccepted : Tbl Nat := []
  /-- Committed ceiling per key (R654). -/
  svcCeiling : Tbl Nat := []
  /-- Service-port addresses (R656). -/
  svcAddr : SvcAddr := {}
  /-- Ticks since first configured state of recent fatal cold resets (R687). -/
  fatalTicks : List Nat := []
  deriving DecidableEq, Repr

/-- Boot, flash, board (R554 to R580, R581 to R632). -/
structure BootSt where
  /-- The board as found: strap, DIMMs, modules, card, self-test results (R567). -/
  env : BootEnv := {}
  /-- Contents of flash A and flash B (R581). -/
  flash : FlashSet := {}
  /-- Option-block latches (R564). -/
  opt : OptionBlock := {}
  /-- The latch is made (R566). -/
  optLatched : Bool := false
  /-- Image in use (sealed configuration) (R584). -/
  image : Torzer := {}
  /-- Running firmware version (R611). -/
  fwVersion : Nat := 0
  /-- Running state_write (R611). -/
  fwWrite : Nat := 0
  /-- Running state_read_min (R611). -/
  fwReadMin : Nat := 0
  /-- Running state_read_max (R611). -/
  fwReadMax : Nat := 0
  /-- Step 4 waits for the host container (R637). -/
  waitHost : Bool := false
  /-- Container in BAR2 (R637). -/
  hostCont : Option Container := none
  /-- Start-up halted (R568). -/
  halted : Bool := false
  /-- Held in reset (R554). -/
  inReset : Bool := true
  /-- Held in cold reset after a thermal trip (R554). -/
  thermalHold : Bool := false
  /-- Maintenance mode (R570). -/
  maint : Bool := false
  /-- Plane reset to take effect at the boundary (R559). -/
  planePend : Option PlaneCause := none
  /-- Maintenance mode after that plane reset (R570). -/
  planeMaint : Option Bool := none
  /-- A plane reset is in progress (R559). -/
  planeRun : Bool := false
  /-- The media plane is stopped (R67). -/
  planeStopped : Bool := true
  /-- Cause of the plane reset in progress (R576). -/
  planeCause : Option PlaneCause := none
  /-- Management cores are down (R557). -/
  warmRun : Bool := false
  /-- Reset-cause bit of the warm reset in progress (R576). -/
  warmCause : Nat := 0
  /-- Hardware queue of 256 faults (R557). -/
  hwq : List RaisedFault := []
  /-- Words written to BOOT_SOFT_RESET, to act at the boundary (R560). -/
  softPend : List Nat := []
  /-- Block resets whose tests run (R560). -/
  softRun : List Nat := []
  /-- Always-on fatal latch (R687). -/
  alwaysOnFatal : Nat := 0
  /-- Cages whose presence input is asserted, with read tick pending (R598). -/
  presence : List Nat := []
  /-- Module reads scheduled: cage and tick (R598). -/
  reads : List (Nat × Nat) := []
  /-- Cages whose module was asked for high power (R598). -/
  highPower : List Nat := []
  /-- Cages whose module reports a fault in its module state (R724). -/
  moduleFault : List Nat := []
  /-- Cages whose module reported ModuleReady in this tick (R598). -/
  moduleReady : List Nat := []
  /-- VDD_CORE set point, mV (R705). -/
  vddCore : Nat := 750
  /-- SD card: 0 none, 1 reading, 2 mounted, 3 unusable (R599). -/
  sdState : Nat := 0
  /-- Tick of the first configured state (R687). -/
  confTick : Nat := 0
  /-- Highest die temperature since cold reset, in °C (R714). -/
  diePeak : Option Int := none
  /-- Management keys 0 and 1 (R652). -/
  mgmtKeys : Tbl KekPos := []
  deriving DecidableEq, Repr

/-- Update engine (R613 to R628). -/
structure UpdSt where
  /-- Header accepted (R611). -/
  hdr : Option ContHdr := none
  /-- Who is answered (R613). -/
  path : Option ReplyTo := none
  /-- Payload bytes received (R613). -/
  got : Nat := 0
  /-- Container contents (R613). -/
  cont : Option Container := none
  /-- Flashes that hold every section (0 to 2) (R617). -/
  staged : Nat := 0
  /-- Staging in progress (R616). -/
  staging : Bool := false
  /-- T (R619). -/
  at_ : Nat := 0
  /-- Cold flag (R620). -/
  cold : Bool := false
  /-- Preparation complete (R621). -/
  prepared : Bool := false
  /-- Consecutive clean trial ticks (R625). -/
  clean : Nat := 0
  /-- T of the trial (R625). -/
  trialFrom : Nat := 0
  /-- Boundary of the fallback swap (R626). -/
  fallAt : Option Nat := none
  deriving DecidableEq, Repr

/-- Host link (R633 to R650). -/
structure HostSt where
  /-- Messages arrived, in order (R646). -/
  arrived : List ArrMsg := []
  /-- Items written to the device-to-host rings, newest last (R640). -/
  rings : Tbl (List RingItem) := []
  /-- Replies that do not fit yet (R641). -/
  blocked : List Reply := []
  /-- Rings with items since their last signal (R643). -/
  irqPend : List Nat := []
  /-- Time of the last signal per vector, us (R643). -/
  irqLast : Tbl Nat := []
  /-- Pending-bit array (R634). -/
  msix : BitVec 64 := 0
  /-- Function-level resets so far: replies to messages fetched before one are discarded (R636). -/
  flrGen : Nat := 0
  /-- Ring messages fetched in this tick (R646). -/
  fetched : Nat := 0
  /-- Notification sequence per destination (0 ring, 1+n subscriber) (R644). -/
  notifySeq : Tbl Nat := []
  /-- Upper dwords latched by a read, with the next offset (R15). -/
  readLatch : Option (Nat × List (BitVec 32)) := none
  /-- Dword returned by the last read (R635). -/
  lastRead : Option (BitVec 32) := none
  /-- Replies cached per key (R655). -/
  svcCache : List SvcCached := []
  /-- Device's own counter per key (R654). -/
  svcCounter : Tbl Nat := []
  /-- Rate bucket, 1/600 datagram (R653). -/
  svcTokens : Nat := 120000
  /-- Subscriber slots 0 to 3 (R656). -/
  subs : Tbl Subscriber := []
  /-- Collector budget, bytes per tick (R660). -/
  teleBudget : Nat := 150000
  /-- Frame_seq (R657). -/
  teleSeq : BitVec 32 := 0
  /-- Frame assembled for the last tick (R657). -/
  teleFrame : Option TeleFrame := none
  /-- What the service port answered (cleared at each boundary) (R651). -/
  wireSvc : List SvcOut := []
  deriving DecidableEq, Repr

/-- Faults (R676 to R686). -/
structure FaultSt where
  /-- Faults raised, to be committed at the end of the tick (R680). -/
  queue : List RaisedFault := []
  /-- (code, subject, count) not journalled since the previous entry (R679). -/
  suppressed : List (Nat × Nat × Nat) := []
  /-- Entries committed, whose notifications go out in the next tick (R680). -/
  notify : List JEntry := []
  /-- Entries committed at the last boundary (telemetry FAULT section) (R680). -/
  fresh : List JEntry := []
  /-- Replacement-request record: reasons, oldest first (R683). -/
  reasons : List Reason := []
  /-- Tick of the last change (R683). -/
  recTick : Nat := 0
  /-- Seq (R683). -/
  recSeq : BitVec 32 := 0
  /-- Overflow (R685). -/
  overflow : Bool := false
  /-- (code, subject, tick) of the last raising under an at-most-once limit (R680). -/
  told : List (Nat × Nat × Nat) := []
  /-- JOURNAL_OVERFLOW is raised for the next tick (R680). -/
  overflowNext : Bool := false
  deriving DecidableEq, Repr

/-- The device. -/
structure State where
  /-- The queue of commands waiting (the model's own field). -/
  pending : List Instr := []
  /-- Register file: dword index to value; unlisted reads as the field's Cold value (R716). -/
  regs : Tbl (BitVec 32) := []
  /-- 16,384 legs (R28). -/
  legs : Tbl LegRt := []
  /-- 4,096 folds (R35). -/
  folds : Tbl FoldRt := []
  /-- 8,192 line classes (R37). -/
  lcs : Tbl LineClass := []
  /-- 65,536 stream entries (R83). -/
  streams : Tbl StreamRt := []
  /-- Admission accountant (R38). -/
  adm : Admission := {}
  /-- Packet engine (R67). -/
  net : NetSt := {}
  /-- Cipher engine and key store (R111). -/
  cip : CipSt := {}
  /-- Audio complex totals (R194). -/
  aud : AudSt := {}
  /-- Video engines (R201). -/
  ven : VenSt := {}
  /-- Compositors, image groups, guard sets (R243). -/
  cmp : CmpSt := {}
  /-- Lacer (R352). -/
  lac : LacSt := {}
  /-- Egress scheduler (R362). -/
  egs : EgsSt := {}
  /-- Drover (R388). -/
  drv : DrvSt := {}
  /-- Bobbin queues (R424). -/
  bq : BqAll := {}
  /-- Memory plane (R442). -/
  dmc : DmcSt := {}
  /-- DRAM contents: channel*2^37+channel-local address to byte; an unlisted byte is poison (R456). -/
  mem : List Host.Cell := []
  /-- Time (R487). -/
  tim : TimSt := {}
  /-- Twin (R517). -/
  twn : TwnSt := {}
  /-- Pins (R701). -/
  pins : PinSt := {}
  /-- Tally store (R662). -/
  tly : TallySt := {}
  /-- Boot, flash and board (R554). -/
  boot : BootSt := {}
  /-- Update engine (R613). -/
  upd : UpdSt := {}
  /-- Host link and service port (R633). -/
  host : HostSt := {}
  /-- Faults (R676). -/
  flt : FaultSt := {}
  /-- Snapshot selects written in this tick (dword index) (R109). -/
  selPend : List Nat := []
  /-- Frames, announcements and notifications sent since the last boundary (the model's own log). -/
  out : List OutEv := []
  /-- Counter of free values (the model's own field). -/
  free : Nat := 0
  deriving DecidableEq, Repr

/-- Faults of the MODEL, which stop the run; the device's own faults are
journalled (R679). -/
inductive Fault where
  /-- A memory request past the usable size of the device address space (R446); raised by DRAM_ACCESS; safe. -/
  | addressOutside
  deriving DecidableEq, Repr

/-- Refusals of the model. -/
inductive Refusal where
  /-- The command has no meaning yet; raised by its arm in Dispatch; safe. -/
  | notModelled (mnemonic : String)
  deriving DecidableEq, Repr

/-- The block right after reset: power not yet applied or reset asserted, registers at their Cold values, tables empty.
POWER_ON and RESET_PIN run start-up from here (R554). [DESIGN CHOICE, notes/assumptions 2, 3] -/
def State.reset : State := {}

end Sys2Proof.Machine
end

