-- ==== Sys2Proof/Machine/Ops.lean ====
section
/-!
DEFINITION. The named operations over the state that every family shares: sparse tables, the register file, ticks,
faults, tally records, the device-to-host rings, notifications and replies.
-/

namespace Sys2Proof.Machine

/-! ### Sparse tables -/

/-- The entry listed for key `k`. -/
def tfind {α : Type} (k : Nat) : Tbl α → Option α
  | [] => none
  | (k', v) :: t => if k' = k then some v else tfind k t

/-- The value at key `k`, `d` when none is listed. -/
def tget {α : Type} (d : α) (t : Tbl α) (k : Nat) : α := (tfind k t).getD d

/-- The table without an entry for `k`. -/
def tdel {α : Type} (k : Nat) : Tbl α → Tbl α
  | [] => []
  | (k', v) :: t => if k' = k then tdel k t else (k', v) :: tdel k t

/-- The table with `v` put in at `k` in key order, before any entry with a larger key. -/
def tins {α : Type} (k : Nat) (v : α) : Tbl α → Tbl α
  | [] => [(k, v)]
  | (k', v') :: t => if k < k' then (k, v) :: (k', v') :: t else (k', v') :: tins k v t

/-- The table with the value at `k` set to `v`; setting the default removes the entry. -/
def tset {α : Type} [DecidableEq α] (d : α) (t : Tbl α) (k : Nat) (v : α) : Tbl α :=
  if v = d then tdel k t else tins k v (tdel k t)

/-- The table with the value at `k` changed by `f`. -/
def tmod {α : Type} [DecidableEq α] (d : α) (t : Tbl α) (k : Nat) (f : α → α) : Tbl α :=
  tset d t k (f (tget d t k))

/-- The listed keys. -/
def tkeys {α : Type} (t : Tbl α) : List Nat := t.map (·.1)

/-- Is the table in its canonical form: keys strictly ascending and no value equal to the default? -/
def twf {α : Type} [DecidableEq α] (d : α) : Tbl α → Bool
  | [] => true
  | (k, v) :: t => decide (v ≠ d) && t.all (fun e => decide (k < e.1)) && twf d t

/-- `f` run for each element in turn. -/
def State.each {α : Type} (s : State) (xs : List α) (f : State → α → State) : State := xs.foldl f s

/-- `f` run when `c` holds. -/
def State.iff (s : State) (c : Bool) (f : State → State) : State := if c then f s else s

/-! ### Objects by index -/

/-- Leg `l`. -/
def State.leg (s : State) (l : Nat) : LegRt := tget {} s.legs l
/-- Leg `l` changed by `f`. -/
def State.onLeg (s : State) (l : Nat) (f : LegRt → LegRt) : State := { s with legs := tmod {} s.legs l f }
/-- Fold `f`. -/
def State.fold (s : State) (f : Nat) : FoldRt := tget {} s.folds f
/-- Fold `x` changed by `f`. -/
def State.onFold (s : State) (x : Nat) (f : FoldRt → FoldRt) : State := { s with folds := tmod {} s.folds x f }
/-- Line class `c`. -/
def State.lc (s : State) (c : Nat) : LineClass := tget {} s.lcs c
/-- Line class `c` changed by `f`. -/
def State.onLc (s : State) (c : Nat) (f : LineClass → LineClass) : State := { s with lcs := tmod {} s.lcs c f }
/-- Stream entry `e`. -/
def State.stream (s : State) (e : Nat) : StreamRt := tget {} s.streams e
/-- Stream entry `e` changed by `f`. -/
def State.onStream (s : State) (e : Nat) (f : StreamRt → StreamRt) : State :=
  { s with streams := tmod {} s.streams e f }
/-- Key slot `n`. -/
def State.slot (s : State) (n : Nat) : KeySlot := tget {} s.cip.slots n
/-- Key slot `n` changed by `f`. -/
def State.onSlot (s : State) (n : Nat) (f : KeySlot → KeySlot) : State :=
  { s with cip := { s.cip with slots := tmod {} s.cip.slots n f } }
/-- Port `p`. -/
def State.port (s : State) (p : Nat) : PortSt := tget {} s.net.ports p
/-- Port `p` changed by `f`. -/
def State.onPort (s : State) (p : Nat) (f : PortSt → PortSt) : State :=
  { s with net := { s.net with ports := tmod {} s.net.ports p f } }
/-- Task record `n`. -/
def State.task (s : State) (n : Nat) : Task := tget {} s.drv.tasks n
/-- Task record `n` changed by `f`. -/
def State.onTask (s : State) (n : Nat) (f : Task → Task) : State :=
  { s with drv := { s.drv with tasks := tmod {} s.drv.tasks n f } }
/-- Channel `c`. -/
def State.chan (s : State) (c : Nat) : ChanSt := tget {} s.dmc.chans c
/-- Channel `c` changed by `f`. -/
def State.onChan (s : State) (c : Nat) (f : ChanSt → ChanSt) : State :=
  { s with dmc := { s.dmc with chans := tmod {} s.dmc.chans c f } }
/-- Bobbin queue `q`. -/
def State.bobbin (s : State) (q : Nat) : BqSt := tget {} s.bq.q q
/-- Bobbin queue `q` changed by `f`. -/
def State.onBobbin (s : State) (q : Nat) (f : BqSt → BqSt) : State :=
  { s with bq := { s.bq with q := tmod {} s.bq.q q f } }

/-! ### The register file -/

/-- The dword at index `d` (BAR0 offset / 4); unlisted dwords hold their Cold value. -/
def State.dword (s : State) (d : Nat) : BitVec 32 := tget (BitVec.ofNat 32 (coldOf d)) s.regs d
/-- The dword at `d` set to `v`. -/
def State.setDword (s : State) (d : Nat) (v : BitVec 32) : State :=
  { s with regs := tset (BitVec.ofNat 32 (coldOf d)) s.regs d v }
/-- The dword at `d` as a number. -/
def State.getR (s : State) (d : Nat) : Nat := (s.dword d).toNat
/-- The dword at `d` set to `v` modulo 2^32. -/
def State.setR (s : State) (d v : Nat) : State := s.setDword d (BitVec.ofNat 32 v)
/-- Bits [hi:lo] of the dword at `d`. -/
def State.getF (s : State) (d hi lo : Nat) : Nat := bits (s.getR d) hi lo
/-- Bits [hi:lo] of the dword at `d` set to `v`. -/
def State.setF (s : State) (d hi lo v : Nat) : State := s.setR d (putBits (s.getR d) hi lo v)
/-- A 32-bit counter advanced, wrapping at 2^32. [DESIGN CHOICE, notes/assumptions 59] -/
def State.incR (s : State) (d : Nat) (n : Nat := 1) : State := s.setR d (s.getR d + n)
/-- The 64-bit value at dwords `d` and `d + 1`. -/
def State.getR64 (s : State) (d : Nat) : Nat := s.getR d + s.getR (d + 1) * 2 ^ 32
/-- The 64-bit value at dwords `d` and `d + 1` set to `v` modulo 2^64. -/
def State.setR64 (s : State) (d v : Nat) : State := (s.setR d v).setR (d + 1) (v / 2 ^ 32)
/-- A 64-bit counter advanced, wrapping at 2^64. [DESIGN CHOICE, notes/assumptions 59] -/
def State.incR64 (s : State) (d : Nat) (n : Nat := 1) : State := s.setR64 d (s.getR64 d + n)

/-! ### Ticks -/

/-- The absolute tick number of the current tick (R19). -/
def State.now (s : State) : Nat := s.tim.tick

/-- The boundary of tick `t` in nanoseconds after the second that holds it (R18). -/
def boundaryNs (t : Nat) : Nat := (t % 600) * 5000000 / 3

/-- The length of tick `t` in nanoseconds (R18). -/
def tickLen (t : Nat) : Nat := if (t % 600) % 3 = 0 then 1666666 else 1666667

/-- The boundary of tick `t` in nanoseconds on the timebase, from its epoch (R18, R19). -/
def tickNs (t : Nat) : Nat := t / 600 * 1000000000 + boundaryNs t

/-- Nominal picture period of a cadence code, in ticks; none for a reserved code (R36). -/
def cadenceP : Nat → Option Nat
  | 0x0 => some 5 | 0x1 => some 6 | 0x2 => some 10 | 0x3 => some 12 | 0x4 => some 20 | 0x5 => some 24
  | 0x6 => some 25 | 0x7 => some 40 | 0x8 => some 5 | 0x9 => some 10 | 0xA => some 20 | 0xB => some 25
  | _ => none

/-- Is the cadence code a fractional rate f/1.001 (R36)? -/
def fractional (c : Nat) : Bool := decide (8 ≤ c ∧ c ≤ 0xB)

/-- The fold's picture period, 1 for a reserved cadence code. -/
def periodOf (c : Nat) : Nat := (cadenceP c).getD 1

/-- Nominal pictures per second of a cadence code (R36). -/
def nominalFps (c : Nat) : Nat := 600 / periodOf c

/-- The latest due tick at or before tick `t` of a picture of cadence `c` at phase `φ`; none before the first (R23). -/
def pictureDue (c φ t : Nat) : Option Nat :=
  let P := periodOf c
  if fractional c then
    if t < φ then none
    else
      let u := t - φ
      let len := 1001 * P
      let start := u / len * len
      let n := ((u - start) * 1000 + 999) / (1001 * P)
      let m := if start + n * 1001 * P / 1000 ≤ u ∧ n < 1000 then n else n - 1
      some (start + m * 1001 * P / 1000 + φ)
  else if t < φ then none else some ((t - φ) / P * P + φ)

/-- Is a picture of cadence `c` at phase `φ` due in tick `t` (R23, R37)? -/
def isDue (c φ t : Nat) : Bool := pictureDue c φ t == some t

/-- The 90 kHz timestamp offset of picture `m` of a stream of cadence `c`, from the stream's first picture (R24). -/
def pictureTs (c m : Nat) : Nat :=
  if fractional c then m * 90000 * 1001 / (1000 * nominalFps c) else m * 150 * periodOf c

/-! ### Faults (R676 to R680) -/

/-- A fault code: subsystem, class, cause (R676). -/
def faultCode (sub cls cause : Nat) : Nat := sub * 4096 + cls * 256 + cause
/-- The class of a fault code (R676). -/
def classOf (code : Nat) : Nat := code / 256 % 16

/-- Subject words (R678). -/
def subjNone : Nat := 0
/-- A leg. -/
def subjLeg (l : Nat) : Nat := 0x10000000 + l
/-- A fold. -/
def subjFold (f : Nat) : Nat := 0x20000000 + f
/-- A stream entry. -/
def subjStream (e : Nat) : Nat := 0x30000000 + e
/-- A line class. -/
def subjLc (c : Nat) : Nat := 0x40000000 + c
/-- A block instance: subsystem code and instance. -/
def subjInst (sub i : Nat) : Nat := 0x50000000 + sub * 256 + i
/-- A core, lane or pipe within an instance. -/
def subjUnit (sub i u : Nat) : Nat := 0x50000000 + sub * 256 + i + 65536 * (u + 1)
/-- A DRAM rank. -/
def subjRank (c r : Nat) : Nat := 0x60000000 + c * 4 + r
/-- A whole DRAM channel. -/
def subjChan (c : Nat) : Nat := 0x60FFFF00 + c
/-- An image group or guard set. -/
def subjGroup (g : Nat) : Nat := 0x70000000 + g
/-- A bobbin queue. -/
def subjBobbin (q : Nat) : Nat := 0x80000000 + q
/-- A Drover task; graphs are at 65,536 and above. -/
def subjTask (t : Nat) : Nat := 0x90000000 + t
/-- A key slot. -/
def subjSlot (n : Nat) : Nat := 0xA0000000 + n
/-- A BAR0 offset. -/
def subjOffset (o : Nat) : Nat := 0xB0000000 + o % 2 ^ 28
/-- An inventory item: kind × 256 + index. -/
def subjItem (k i : Nat) : Nat := 0xC0000000 + k * 256 + i

/-- The tick field of a journal entry raised now: 0 before grid_valid (R679). -/
def State.faultTick (s : State) : Nat := if s.tim.valid then s.now else 0

/-- A fault put in the queue of its tick; a repeat of a code and subject within the tick adds to suppressed (R680). -/
def State.queueFault (s : State) (f : RaisedFault) : State :=
  let q := s.flt.queue
  if q.any (fun g => g.code = f.code && g.subject = f.subject && g.tick = f.tick) then
    let bump (g : RaisedFault) : RaisedFault :=
      if g.code = f.code && g.subject = f.subject && g.tick = f.tick then { g with suppressed := g.suppressed + 1 } else g
    { s with flt := { s.flt with queue := q.map bump } }
  else { s with flt := { s.flt with queue := q ++ [f] } }

/-- BOOT FAULT_FIFO_OVERFLOW (R557, R573). -/
def fltFifoOverflow : Nat := faultCode 1 0 0x08

/-- A fault is raised (R676 to R680). While the management cores are down it waits in the hardware queue of 256
entries, unless it is fatal (R557). A fatal fault before the first configured state is one of a halt (R568, R679).
[DESIGN CHOICE, notes/assumptions 49] -/
def State.raise (s : State) (code subject : Nat) (detail : List (Nat × Nat) := []) : State :=
  let halt := classOf code = 4 && s.getF Reg.BOOT_STATUS 6 6 ≠ 1
  let f : RaisedFault := { tick := s.faultTick, code := code, subject := subject, detail := detail, hwQueued := s.boot.warmRun, halt := halt }
  if s.boot.warmRun && classOf code != 4 then
    if s.boot.hwq.length < 256 then { s with boot := { s.boot with hwq := s.boot.hwq ++ [f] } }
    else (s.incR Reg.BOOT_FAULT_OVERFLOW).queueFault
      { tick := s.faultTick, code := fltFifoOverflow, subject := subjNone, hwQueued := true }
  else s.queueFault f

/-- A fault raised under a limit of once per `period` ticks for its code and subject; a raising within the limit adds
to the suppressed count of the next entry (R679). -/
def State.raiseOnce (s : State) (code subject period : Nat) (detail : List (Nat × Nat) := []) : State :=
  let same (e : Nat × Nat × Nat) : Bool := e.1 = code && e.2.1 = subject
  let within := match s.flt.told.find? same with
    | some (_, _, t) => decide (s.now < t + period)
    | none => false
  if within then
    let old := (s.flt.suppressed.find? same).elim 0 (fun e => e.2.2)
    let sup := s.flt.suppressed.filter (fun e => !same e) ++ [(code, subject, old + 1)]
    { s with flt := { s.flt with suppressed := sup } }
  else
    let told := s.flt.told.filter (fun e => !same e) ++ [(code, subject, s.now)]
    ({ s with flt := { s.flt with told := told } }).raise code subject detail

/-- MGT ACCESS_IGNORED (R13, R666): the offset is the subject, the value written the detail. -/
def State.accessIgnored (s : State) (d v : Nat) : State :=
  s.raise (faultCode 15 0 1) (subjOffset (d * 4)) [(4, v)]

/-! ### Tally records (R662 to R664) -/

/-- Blocks of a record with `n` payload bytes (R662). -/
def tallyParts (n : Nat) : Nat := Nat.max 1 (ceilDiv n 44)

/-- Is the type a journal type, whose records stay until compaction (R663, R664)? -/
def tallyJournal (typ : Nat) : Bool := typ = 2 || typ = 3

/-- A record committed: it supersedes the earlier record of its type and key unless the type is a journal; blocks are
written in ascending order and wrap (R662, R663). `live` is false for records that are never live (TICK_SUMMARY). -/
def State.tallyCommit (s : State) (typ key bytes : Nat) (payload : List (Nat × Nat)) (live : Bool := true) : State :=
  let n := tallyParts bytes
  let seq := s.tly.seq + 1
  let kept := if tallyJournal typ then s.tly.recs else s.tly.recs.filter (fun r => !(r.typ = typ && r.key = key))
  let recs := if live then kept ++ [{ typ := typ, key := key, seq := seq.toNat, blocks := n, payload := payload }] else s.tly.recs
  let s := { s with tly := { s.tly with seq := seq, recs := recs, next := (s.tly.next + n) % 262144, writes := s.tly.writes + n } }
  let s := s.setR Reg.MGT_TALLY_SEQ seq.toNat
  let s := s.setR64 Reg.MGT_TALLY_WRITES s.tly.writes
  (s.setF Reg.MGT_TALLY_STATUS 17 0 (sumN (recs.map (·.blocks))))

/-! ### Device-to-host rings (R638 to R643) -/

/-- Is ring `r` enabled (R668)? -/
def State.ringOn (s : State) (r : Nat) : Bool := s.getF (Reg.DEV_RING_CONFIG r) 9 9 = 1

/-- Slots that an item of `bytes` bytes needs on ring `r` (R640). -/
def State.ringSlots (s : State) (r bytes : Nat) : Nat :=
  Nat.max 1 (ceilDiv bytes (2 ^ s.getF (Reg.DEV_RING_CONFIG r) 8 5 - 8))

/-- Slots of ring `r` not in the host's hands, modulo 2^32 (R641). -/
def State.ringUsed (s : State) (r : Nat) : Nat :=
  modSub 32 (s.getR (Reg.DEV_RING_TAIL r)) (s.getR (Reg.DEV_RING_HEAD r))

/-- Does an item of `bytes` bytes fit on ring `r` now (R641, R642)? -/
def State.ringFits (s : State) (r bytes : Nat) : Bool :=
  s.ringOn r && decide (s.ringUsed r + s.ringSlots r bytes ≤ 2 ^ s.getF (Reg.DEV_RING_CONFIG r) 4 0)

/-- Does an item of `bytes` bytes need more slots than ring `r` holds (R641)? A disabled ring counts as holding none
of its own limit: its items wait. -/
def State.ringNever (s : State) (r bytes : Nat) : Bool :=
  s.ringOn r && decide (2 ^ s.getF (Reg.DEV_RING_CONFIG r) 4 0 < s.ringSlots r bytes)

/-- An item written to ring `r`, TAIL advanced by its slots, its vector's signal pending (R640, R643).
[DESIGN CHOICE, notes/assumptions 13] -/
def State.ringPut (s : State) (r bytes : Nat) (it : RingItem) : State :=
  if 35 ≤ r then s
  else
    let s := s.incR (Reg.DEV_RING_TAIL r) (s.ringSlots r bytes)
    let rings := tmod [] s.host.rings r (fun l => l ++ [it])
    { s with host := { s.host with rings := rings, irqPend := insertAsc r s.host.irqPend } }

/-- MGT NOTIFY_DROPPED (R666). -/
def fltNotifyDropped : Nat := faultCode 15 0 3

/-- An item that did not fit on ring `r` is dropped and counted, and NOTIFY_DROPPED is raised, at most once per ring per 600 ticks
(R641, R642, R666). [DESIGN CHOICE, notes/assumptions 19] -/
def State.ringDrop (s : State) (r : Nat) : State :=
  if 35 ≤ r then s else (s.incR (Reg.DEV_RING_DROPS r)).raiseOnce fltNotifyDropped (subjUnit 0 0 r) 600

/-! ### The service port's own datagrams (R654) -/

/-- Is the service port enabled (R670)? -/
def State.svcOn (s : State) : Bool := s.getF Reg.DEV_SVC_STATUS 0 0 = 1

/-- A datagram sent under `key` with the device's own counter; the committed ceiling moves ahead of it (R654). -/
def State.svcSend (s : State) (key : Nat) (slot : Option Nat) (body : SvcBody) : State :=
  let c := tget 0 s.host.svcCounter key
  let top := tget 0 s.tly.svcCeiling key
  let s := if c + 1 < top then s
    else
      let s := s.tallyCommit 0xB key 16 [(8, tget 0 s.tly.svcAccepted key - 1), (8, c + 1 + 2 ^ 20)]
      { s with tly := { s.tly with svcCeiling := tset 0 s.tly.svcCeiling key (c + 1 + 2 ^ 20) } }
  let d : SvcOut := { slot := slot, key := key, counter := c + 1, body := body }
  let s := { s with host := { s.host with svcCounter := tset 0 s.host.svcCounter key (c + 1), wireSvc := s.host.wireSvc ++ [d] } }
  s.incR (Reg.DEV_SVC_CTR 5)

/-- The key of the device's notifications and telemetry: key 0, or key 1 once key 0 is revoked (R654). -/
def State.svcOwnKey (s : State) : Nat := if (tget {} s.boot.mgmtKeys 0).revoked then 1 else 0

/-! ### Notifications (R650) -/

/-- A notification to ring 32 and to every subscriber with its notification bit set (R650, R656). A notification that
does not fit on the ring is dropped and counted (R641). -/
def State.notify (s : State) (code fault subject : Nat) (detail : List (Nat × Nat) := []) (tick : Option Nat := none) : State :=
  let mk (s : State) (dest : Nat) : Notif :=
    { code := code, seq := tget 0 s.host.notifySeq dest, tick := tick.getD s.faultTick, fault := fault, subject := subject, detail := detail }
  let bump (s : State) (dest : Nat) : State :=
    { s with host := { s.host with notifySeq := tmod 0 s.host.notifySeq dest (fun n => (n + 1) % 2 ^ 32) } }
  let it := mk s 0
  let s := bump s 0
  let s := if s.ringFits 32 56 then s.ringPut 32 56 (.notify it)
    else s.ringDrop 32
  if s.svcOn then
    s.each (upTo 4) (fun s i =>
      let sub := tget {} s.host.subs i
      if sub.notify && sub.port != 0 then
        (bump (s.svcSend s.svcOwnKey (some i) (.notify (mk s (1 + i)))) (1 + i))
      else s)
  else s

/-! ### Reasons and fenced legs (R31, R685) -/

/-- A reason of the replacement-request record goes when its cause is gone (R685). -/
def State.clearReason (s : State) (c : Reason → Bool) : State :=
  if s.flt.reasons.any c then
    let rs := s.flt.reasons.filter (fun r => !c r)
    { s with flt := { s.flt with reasons := rs, overflow := s.flt.overflow && decide (8 ≤ rs.length) } }
  else s

/-- The reasons for a code and subject leave the replacement-request record (R685). -/
def State.clearReasonOf (s : State) (code subject : Nat) : State :=
  s.clearReason (fun r => r.code = code && r.subject = subject)

/-- Leg state codes (R28). -/
def LegState.code : LegState → Nat
  | .idle => 0 | .admitting => 1 | .active => 2 | .retiring => 3 | .fenced => 4

/-- The LEG_STATE notification (R31, R650). [DESIGN CHOICE, notes/assumptions 25] -/
def State.legStateNote (s : State) (l : Nat) : State :=
  s.notify 0x8010 0 (subjLeg l) [(1, (s.leg l).state.code), (1, 0), (2, (s.leg l).fenceCause)]

/-- A fault attributed to an ACTIVE leg fences it (R31). -/
def State.fenceLeg (s : State) (l cause : Nat) : State :=
  if (s.leg l).state = .active then
    (s.onLeg l (fun g => { g with state := .fenced, fenceCause := cause })).legStateNote l
  else s

/-! ### Replies (R645, R647) -/

/-- OK. -/
def stOK : Nat := 0
/-- ALREADY_COMPLETE. -/
def stAlready : Nat := 1
/-- ABORTED. -/
def stAborted : Nat := 2
/-- FAILED. -/
def stFailed : Nat := 3
/-- DEFERRED. -/
def stDeferred : Nat := 4
/-- INVALID_STATE. -/
def stInvalid : Nat := 5
/-- BUSY. -/
def stBusy : Nat := 6
/-- NOT_AUTHORITY. -/
def stNotAuthority : Nat := 7
/-- REFUSED. -/
def stRefused : Nat := 8
/-- NOT_PERMITTED. -/
def stNotPermitted : Nat := 9
/-- MALFORMED. -/
def stMalformed : Nat := 10
/-- UNKNOWN_TYPE. -/
def stUnknown : Nat := 11

/-- Payload bytes of a tally record in a TALLY_READ reply (R665). -/
def tallyBytes (r : TallyRec) : Nat := 16 + ceilDiv (sumN (r.payload.map (·.1))) 8 * 8

/-- Payload bytes of a reply (R645, R648, R649, R665). -/
def RPay.bytes : RPay → Nat
  | .none => 0
  | .fault _ => 2
  | .tick _ => 8
  | .reason _ => 2
  | .admitted _ => 16
  | .admitLeg _ _ => 144
  | .admitLc _ _ _ => 48
  | .leg _ => 128
  | .fold _ lcs => 64 + 32 * lcs.length
  | .tally rs _ => sumN (rs.map tallyBytes)

/-- A reply is sent to where its request came from (R647): onto the reply ring paired with the submit ring, or as a
datagram under the request's key. A ring reply that does not fit is held, and fetching from the paired submit ring stops
(R641); a reply to a message fetched before a function-level reset is discarded (R636). -/
def State.sendReplyNow (s : State) (r : Reply) : State :=
  match r.dst.src with
  | .ring i =>
    if r.dst.gen ≠ s.host.flrGen then s
    else
      let n := 16 + r.pay.bytes
      let q := 16 + i
      if s.ringFits q n && !s.host.blocked.any (fun b => b.dst.src = .ring i) then s.ringPut q n (.reply r)
      else if s.ringNever q n then s.ringDrop q
      else { s with host := { s.host with blocked := s.host.blocked ++ [r] } }
  | .svc k =>
    let note (c : SvcCached) : SvcCached :=
      if c.key = k && c.seq = r.dst.seq && c.reply.isNone then { c with reply := some r } else c
    let s := { s with host := { s.host with svcCache := s.host.svcCache.map note } }
    s.svcSend k none (.reply r)

/-- Does this device mirror session events to its partner: it is in PAIRED or SYNCING (R526, R533)? -/
def State.mirroring (s : State) : Bool := s.twn.pair = .paired || s.twn.pair = .syncing

/-- The requests that are session events with nothing staged: content changes, key loads and releases (R533). -/
def plainEvent (typ : Nat) : Bool :=
  typ = 0x0104 || typ = 0x010A || typ = 0x010B || typ = 0x010C || typ = 0x010D || typ = 0x010E

/-- Is bundle `b` up (0 A, 1 B; R517, R552)? -/
def State.bundleUp (s : State) (b : Nat) : Bool := s.getF (Reg.TWN_BUNDLE_STATUS b) 0 0 = 1

/-- The bundle on which a frame of type `typ` goes: MIRROR frames alternate while both are up, all others use A, or the one
that is up (R520). -/
def State.ausBundle (s : State) (typ : Nat) : Option Nat :=
  if s.bundleUp 0 && s.bundleUp 1 then some (if typ = 5 && s.twn.alt then 1 else 0)
  else if s.bundleUp 0 then some 0 else if s.bundleUp 1 then some 1 else none

/-- The newest frames of a list that together hold at most `room` bytes, header included (R520). -/
def keepFrames (room : Nat) : List SentFrame → List SentFrame
  | [] => []
  | f :: fs => if f.len + 24 ≤ room then f :: keepFrames (room - (f.len + 24)) fs else []

/-- An Ausil frame of `len` payload bytes sent on bundle `b` and kept for RETRY; newest first in `retain` (R518, R520, R553).
No frame is sent while the media plane is stopped (R559). -/
def State.sendAusOn (s : State) (b typ tick len : Nat) (body : List Nat) : State :=
  if s.boot.planeStopped || !s.bundleUp b then s
  else
    let n := tget 0 s.twn.txSeq b
    let f : SentFrame := { seq := n, typ := typ, tick := tick, len := len, body := body }
    let s := (s.incR64 (Reg.TWN_BUNDLE_TX_FRAMES b)).incR64 (Reg.TWN_BUNDLE_TX_BYTES b) (24 + len)
    let kept := tmod [] s.twn.retain b (fun l => keepFrames (2 * 2 ^ 20) (f :: l))
    { s with twn := { s.twn with txSeq := tset 0 s.twn.txSeq b ((n + 1) % 2 ^ 32), retain := kept }, out := s.out ++ [.ausil b typ tick (n :: body)] }

/-- An Ausil frame sent on the bundle of R520; nothing while no bundle is up. -/
def State.sendAus (s : State) (typ tick len : Nat) (body : List Nat) : State :=
  match s.ausBundle typ with
  | none => s
  | some b =>
    let s := s.sendAusOn b typ tick len body
    if typ = 5 then { s with twn := { s.twn with alt := !s.twn.alt } } else s

/-- A session event sent in an EVENT frame with its effective tick; it waits for the EVENT_ACK that names the frame's seq
(R519, R533). [DESIGN CHOICE, notes/assumptions 53] -/
def State.sendEvent (s : State) (typ effective : Nat) (phase : Option Nat) (held : Option Reply) : State :=
  let n := (s.ausBundle 10).elim 0 (tget 0 s.twn.txSeq)
  let e : MirEvent := { id := n, effective := effective, phase := phase, reply := held }
  ({ s with twn := { s.twn with events := s.twn.events ++ [e] } }).sendAus 10 s.now 16 [typ, effective]

/-- A reply is sent; that of a session event waits for its EVENT_ACK while the pair mirrors (R533). -/
def State.sendReply (s : State) (r : Reply) : State :=
  if s.mirroring && plainEvent r.dst.typ && r.status = stOK then s.sendEvent r.dst.typ (s.now + 1) none (some r)
  else s.sendReplyNow r

/-- A reply with its status and payload. -/
def State.reply (s : State) (dst : ReplyTo) (status : Nat) (pay : RPay := .none) : State :=
  s.sendReply { dst := dst, status := status, pay := pay }

/-- The held replies that now fit are written, oldest first for each ring (R641). -/
def State.flushBlocked (s : State) : State :=
  let todo := s.host.blocked
  ({ s with host := { s.host with blocked := [] } }).each todo (fun s r => s.sendReplyNow r)

/-! ### Requests (R644 to R649) -/

/-- Which paths and modes a request's row of R649 allows. -/
inductive Paths where
  | both | hostOnly | bothMaint | hostMaint
  deriving DecidableEq, Repr

/-- Do the paths allow this source in this mode (R649)? -/
def Paths.allow (p : Paths) (src : MsgSrc) (maint : Bool) : Bool :=
  let isRing := match src with | .ring _ => true | .svc _ => false
  match p with
  | .both => true
  | .hostOnly => isRing
  | .bothMaint => maint
  | .hostMaint => isRing && maint

/-- The requests that R723 turns away before the first tick with INVALID_STATE. -/
def needsGrid (typ : Nat) : Bool :=
  decide (0x0101 ≤ typ ∧ typ ≤ 0x0110) || typ = 0x0202 || typ = 0x0204

/-- The arrival of a request: when its fetch or datagram is recorded, the recorded tick, and the record is taken away;
otherwise the command itself stands for a message that arrived in the tick before (notes/assumptions 5).
[DEDUCED, notes/assumptions 5] -/
def State.arrival (s : State) (m : Msg) (typ : Nat) : Nat × Nat × State :=
  match s.host.arrived.find? (fun a => a.src = m.src && a.typ = typ && a.seq = m.seq) with
  | some a => (a.tick, a.gen, { s with host := { s.host with arrived := s.host.arrived.erase a } })
  | none => (s.now - 1, s.host.flrGen, s)

/-- A request is taken by the firmware. It waits (nothing happens) while the management cores are down (R557), while the
device is held in reset, and in its own tick of arrival (R20). It is answered MALFORMED, NOT_PERMITTED or INVALID_STATE
by R645, R649 and R723; otherwise `k` serves it, given its arrival tick and where its reply goes. -/
def State.request (s : State) (m : Msg) (typ : Nat) (paths : Paths) (k : State → Nat → ReplyTo → State) : State :=
  if s.boot.inReset || s.boot.warmRun || s.boot.halted || s.boot.waitHost then s
  else
    let (t, gen, s') := s.arrival m typ
    if s.tim.valid && t == s.now then s
    else
      let rto : ReplyTo := { src := m.src, typ := typ, seq := m.seq, target := m.target, gen := gen }
      if m.bad then s'.reply rto stMalformed
      else if !paths.allow m.src s.boot.maint then s'.reply rto stNotPermitted
      else if needsGrid typ && !s.tim.valid then s'.reply rto stInvalid
      else k s' t rto

/-! ### Writes of BAR0 that have a command of their own (R12, R13, R15, R567) -/

/-- Is the configuration sealed (R574)? -/
def State.sealed (s : State) : Bool := s.getF Reg.BOOT_STATUS 6 6 = 1

/-- Does a dword decode: outside BOOT only from the seal on (R567)? -/
def State.decodes (s : State) (d : Nat) : Bool := d / 2 ^ 22 = 1 || s.sealed

/-- The mask of a field. -/
def Field.mask (f : Field) : Nat := (2 ^ (f.hi + 1 - f.lo) - 1) * 2 ^ f.lo

/-- The bits of dword `d` whose fields have an access code that `p` picks. -/
def maskOf (d : Nat) (p : Acc → Bool) : Nat := sumN (((fieldsOf d).filter (fun f => p f.acc)).map Field.mask)

/-- Would a write of `v` to dword `d`, which reads `old`, change what its access code ignores: an RO field, an RWL field after
the seal, or a reserved bit? The bits of `free` may be written with either value (R11 to R13). -/
def State.ignores (s : State) (d old v free : Nat) : Bool :=
  let ro := maskOf d (fun a => a = .ro || (a = .rwl && s.sealed))
  let resv := 2 ^ 32 - 1 - maskOf d (fun _ => true)
  (((old ^^^ v) &&& ro) ||| (v &&& resv)) &&& (2 ^ 32 - 1 - free) ≠ 0

/-- A write of `v` to the dword `d` that has a command of its own: nothing in reset, nothing where the location does not
decode; it discards a read latch (R15); a write that would change what is ignored raises ACCESS_IGNORED, the bits of `free`
apart (R13); `k` is its effect. -/
def State.ctrlWrite (s : State) (d v free : Nat) (k : State → State) : State :=
  if s.boot.inReset || !s.decodes d then s
  else
    let s := { s with host := { s.host with readLatch := none } }
    k (if s.ignores d (s.getR d) (v % 2 ^ 32) free then s.accessIgnored d v else s)

/-! ### Authority (R521) -/

/-- Is this device the authority for fold `f`: unpaired, or active for it (R521, R534)? A device with fenced_latched set serves no
leg (R540). [DESIGN CHOICE, notes/assumptions 52] -/
def State.authority (s : State) (f : Nat) : Bool :=
  if s.tly.fencedLatched then false
  else if !s.twn.paired then true
  else if s.twn.cross then (s.fold f).ownB == s.twn.roleB
  else s.twn.authSelf

/-! ### The end of a command -/

/-- Pair state codes (R547). -/
def PairState.code : PairState → Nat
  | .solo => 0 | .linking => 1 | .refused => 2 | .syncing => 3 | .paired => 4 | .fenced => 5

/-- The tick that DEV_TICK_NUMBER shows: 0 until the grid is valid (R53). -/
def State.shownTick (s : State) : Nat := if s.tim.valid then s.now else 0

/-- The status registers that show what the device holds, brought up to date: the tick and the grid (R53, R54, R507), the pair's
state, fence and latch (R547), the committed epoch (R548) and the last tally record (R674). [DEDUCED, notes/assumptions 9] -/
def State.showStatus (s : State) : State :=
  let u := s.setR64 Reg.DEV_TICK_NUMBER s.shownTick
  let u := (u.setF Reg.DEV_TICK_STATUS 9 0 (s.shownTick % 600)).setF Reg.DEV_TICK_STATUS 16 16 (b2n s.tim.valid)
  let u := u.setF Reg.TIME_TB_STATUS 4 4 (b2n s.tim.valid)
  let u := (u.setF Reg.TWN_PAIR_STATUS 2 0 s.twn.pair.code).setF Reg.TWN_PAIR_STATUS 6 6 (b2n s.pins.fenceOut)
  let u := (u.setF Reg.TWN_PAIR_STATUS 7 7 (b2n s.pins.fenceIn)).setF Reg.TWN_PAIR_STATUS 8 8 (b2n s.tly.fencedLatched)
  (u.setR Reg.TWN_EPOCH s.tly.epoch.toNat).setR Reg.MGT_TALLY_SEQ s.tly.seq.toNat

/-- The result of a command: the state it leaves, its status registers up to date, the queue of waiting commands kept as it
was. [DEDUCED, notes/assumptions 9] -/
def finish (s t : State) : Host.Outcome State Fault Refusal := .next { t.showStatus with pending := s.pending }

end Sys2Proof.Machine
end

