-- ==== Sys2Proof/Machine/Inv.lean ====
section
/-!
DEFINITION. The inventory (16 R593, R597 to R605, R609): the fit of DIMMs, modules and the card against the image's
INVENTORY records, the policies, and the inventory entries kept in the tally store.
-/

namespace Sys2Proof.Machine

/-- BOOT FIT_REFUSED (R605). -/
def fltFitRefused : Nat := faultCode 1 4 0x0D
/-- BOOT FIT_DEGRADED (R605). -/
def fltFitDegraded : Nat := faultCode 1 3 0x0E
/-- BOOT FIT_WARN (R605). -/
def fltFitWarn : Nat := faultCode 1 0 0x0F
/-- BOOT IDENTITY_UNREADABLE (R605). -/
def fltUnreadable : Nat := faultCode 1 0 0x11

/-- States of an inventory entry (R604). -/
def invAbsent : Nat := 0
/-- MATCH. -/
def invMatch : Nat := 1
/-- WARN. -/
def invWarn : Nat := 2
/-- DEGRADED. -/
def invDegraded : Nat := 3
/-- REFUSED. -/
def invRefused : Nat := 4
/-- UNREADABLE. -/
def invUnreadable : Nat := 5
/-- UNCHECKED. -/
def invUnchecked : Nat := 6

/-- The image's INVENTORY record for an item (R593). -/
def State.invRec (s : State) (kind index : Nat) : Option InvRec :=
  s.boot.image.inventory.find? (fun r => r.kind = kind && r.index = index)

/-- A match field whose 0 means any (R593). -/
def anyOr (want have_ : Nat) : Bool := want = 0 || want = have_

/-- A match field whose 0xFF means any (R593). -/
def anyFF (want have_ : Nat) : Bool := want = 0xFF || want = have_

/-- An ASCII match field: all spaces or zeros mean any (R593). -/
def anyText (want have_ : List (BitVec 8)) : Bool := want.all (fun b => b = 0x20 || b = 0) || want = have_

/-- Do a channel's DIMMs match (R602)? -/
def dimmMatches (w : InvMatch) (p : DimmPop) : Bool :=
  match w with
  | .dimm dimms ranks density width minRate maker partNo =>
    anyFF dimms p.dimms.length && p.dimms.all (fun d =>
      anyOr ranks d.ranks && anyFF density d.density && anyFF width (b2n d.x8) && decide (minRate ≤ d.rate) && anyOr maker d.maker
        && anyText partNo d.partNo)
      && p.dimms.all (fun d => match p.dimms.head? with
        | some e => d.partNo = e.partNo
        | none => true)
  | _ => false

/-- Does an empty channel match (R602)? -/
def dimmAbsentOk (r : InvRec) : Bool :=
  r.mayBeAbsent || (match r.want with
    | .dimm d _ _ _ _ _ _ => d = 0
    | _ => false)

/-- Does a module match (R602)? -/
def moduleMatches (w : InvMatch) (m : Module) : Bool :=
  match w with
  | .cage identifier iface maxPower oui partNo =>
    anyOr identifier m.identifier && anyOr iface m.iface && (maxPower = 0 || decide (m.powerClass ≤ maxPower)) && anyOr oui m.oui
      && anyText partNo m.partNo
  | _ => false

/-- Does a card match (R602)? -/
def cardMatches (w : InvMatch) (c : Card) : Bool :=
  match w with
  | .card minGib uhs maker => decide (minGib ≤ c.gib) && (uhs = 0 || c.uhs) && anyOr maker c.maker
  | _ => false

/-- Does a partner's serial number and revision match (R602)? -/
def partnerMatches (w : InvMatch) (serial rev : Nat) : Bool :=
  match w with
  | .partner sn revMin => anyOr sn serial && decide (revMin ≤ rev)
  | _ => false

/-- Entries in a state. -/
def State.invCount (s : State) (states : List Nat) : Nat := (s.tly.inv.filter (fun e => states.contains e.2.state)).length

/-- BOOT_INV_SUMMARY brought up to date (R609). -/
def State.invSummary (s : State) : State :=
  s.setR Reg.BOOT_INV_SUMMARY (s.invCount [invMatch] + s.invCount [invWarn] * 2 ^ 6 + s.invCount [invDegraded, invRefused] * 2 ^ 12
    + s.invCount [invAbsent, invUnreadable] * 2 ^ 18 + s.invCount [invUnchecked] * 2 ^ 24)

/-- An inventory entry rewritten in the tally store (R604). A MATCH clears the item's FIT_DEGRADED reason (R724). -/
def State.putInv (s : State) (e : InvEntry) : State :=
  let key := e.kind * 256 + e.index
  let e := { e with tick := s.faultTick, policy := (s.invRec e.kind e.index).elim 255 (·.policy) }
  let s := { s with tly := { s.tly with inv := tins key e (tdel key s.tly.inv) } }
  let s := s.tallyCommit 8 key 32 ([(1, e.kind), (1, e.index), (1, e.state), (1, e.policy), (2, e.fault), (2, 0), (8, e.tick), (4, e.idCrc.toNat)] ++ e.summary)
  let s := if e.state = invMatch then s.clearReasonOf fltFitDegraded (subjItem e.kind e.index) else s
  s.invSummary

/-- What a fit check finds of an item. -/
inductive Found where
  | absent (ok : Bool) | unreadable | present (ok : Bool)
  deriving DecidableEq, Repr

/-- The state, the fault if any, and whether the item is used, of an item found so under a record, at start-up or later
(R597, R602, R603). An item without a record is used as found. -/
def fitResult (r : Option InvRec) (found : Found) (start : Bool) : Nat × Option Nat × Bool :=
  match found, r with
  | .unreadable, _ => (invUnreadable, some fltUnreadable, false)
  | .absent _, none => (invAbsent, none, false)
  | .present _, none => (invUnchecked, none, true)
  | .absent true, some _ => (invAbsent, none, false)
  | .present true, some _ => (invMatch, none, true)
  | .absent false, some r => (invAbsent, some (policyFault r.policy), false)
  | .present false, some r =>
    if r.policy = 2 then (invWarn, some fltFitWarn, true)
    else if r.policy = 0 && start then (invRefused, some fltFitRefused, false)
    else (invDegraded, some fltFitDegraded, false)
where
  /-- The fault of a policy (R603). -/
  policyFault (p : Nat) : Nat := if p = 2 then fltFitWarn else if p = 0 && start then fltFitRefused else fltFitDegraded

/-- An item's fit recorded and reported; whether it is used (R603, R604). [DESIGN CHOICE, notes/assumptions 37] -/
def State.fitItem (s : State) (kind index : Nat) (found : Found) (idCrc : BitVec 32) (summary : List (Nat × Nat)) (start : Bool) : State × Bool :=
  let (st, flt, used) := fitResult (s.invRec kind index) found start
  let s := s.putInv { kind := kind, index := index, state := st, fault := flt.getD 0, idCrc := idCrc, summary := summary }
  (match flt with
    | some f => s.raise f (subjItem kind index)
    | none => s, used)

/-- The summary of a channel (R604). -/
def dimmSummary (p : DimmPop) : List (Nat × Nat) :=
  match p.dimms.head? with
  | none => []
  | some d => [(2, d.maker), (1, d.density), (1, b2n d.x8), (1, d.ranks), (1, p.dimms.length), (1, d.rate)]

/-- A channel's SPD hubs read and fit-checked; whether its DIMMs may be used (R597, R602, R603). -/
def State.fitDimm (s : State) (c : Nat) (p : DimmPop) (start : Bool) : State × Bool :=
  let ok := match s.invRec 0 c with
    | none => true
    | some r => if p.dimms = [] then dimmAbsentOk r else dimmMatches r.want p
  let found := if p.dimms = [] then Found.absent ok else if p.dimms.all (·.readable) then .present ok else .unreadable
  s.fitItem 0 c found (p.dimms.head?.elim 0 (·.idCrc)) (dimmSummary p) start

/-- A cage's module read and fit-checked; whether its port may be used (R598, R602, R603). -/
def State.fitModule (s : State) (cage : Nat) (m : Option Module) (start : Bool) : State × Bool :=
  let r := s.invRec 1 cage
  match m with
  | none => s.fitItem 1 cage (.absent (r.elim true (·.mayBeAbsent))) 0 [] start
  | some m =>
    let found := if m.readable then Found.present (r.elim true (fun r => moduleMatches r.want m)) else .unreadable
    s.fitItem 1 cage found m.idCrc [(1, m.identifier), (1, m.iface), (1, m.powerClass), (3, m.oui)] start

/-- The card read and fit-checked; whether it may be mounted (R599, R602, R603). -/
def State.fitCard (s : State) (c : Option Card) (start : Bool) : State × Bool :=
  let r := s.invRec 2 0
  match c with
  | none => s.fitItem 2 0 (.absent (r.elim true (·.mayBeAbsent))) 0 [] start
  | some c =>
    let found := if c.readable then Found.present (r.elim true (fun r => cardMatches r.want c)) else .unreadable
    s.fitItem 2 0 found c.idCrc [(1, c.maker), (2, c.gib), (1, b2n c.uhs)] start

end Sys2Proof.Machine
end

