-- ==== Sys2Proof/Machine/Mem.lean ====
section
/-!
DEFINITION. DRAM contents (12 R456, R470): bytes by channel and channel-local address. An address that is not listed
belongs to a poisoned line: it has no value (notes/assumptions 4).
-/

namespace Sys2Proof.Machine

/-- Is the memory in its canonical form: addresses strictly rising? -/
def memWf : List Host.Cell → Bool
  | [] => true
  | (a, _) :: m => m.all (fun e => decide (a < e.1)) && memWf m

/-- The byte at an address; none while nothing good is stored there. [DEDUCED, notes/assumptions 4] -/
def memByte (m : List Host.Cell) (a : Nat) : Option (BitVec 8) := tfind a m

/-- A byte stored. -/
def memPut (m : List Host.Cell) (a : Nat) (b : BitVec 8) : List Host.Cell := tins a b (tdel a m)

/-- Bytes stored from an address upward. -/
def memPutAll (m : List Host.Cell) (a : Nat) : List (BitVec 8) → List Host.Cell
  | [] => m
  | b :: bs => memPutAll (memPut m a b) (a + 1) bs

/-- The bytes from `lo` up to, not including, `hi` lost: their lines are poison. [DEDUCED, notes/assumptions 4] -/
def memErase (m : List Host.Cell) (lo hi : Nat) : List Host.Cell := m.filter (fun e => decide (e.1 < lo) || decide (hi ≤ e.1))

/-- The 64 bytes of the line that starts at `base`, unless it is poisoned. [DEDUCED, notes/assumptions 4] -/
def memLine (m : List Host.Cell) (base : Nat) : Option (List (BitVec 8)) :=
  let bs := (upTo 64).filterMap (fun i => memByte m (base + i))
  if bs.length = 64 then some bs else none

/-- `len` bytes at `src` copied to `dst`; what is poison at the source is poison at the destination (R469). -/
def memCopy (m : List Host.Cell) (src dst len : Nat) : List Host.Cell :=
  let part := m.filter (fun e => decide (src ≤ e.1) && decide (e.1 < src + len))
  part.foldl (fun m e => memPut m (e.1 - src + dst) e.2) (memErase m dst (dst + len))

/-- Where channel-local address `a` of channel `c` is kept. -/
def cellAddr (c a : Nat) : Nat := c * 2 ^ 37 + a

/-- Bytes of a slice (R446). -/
def sliceBytes : Nat := 2 ^ 24

end Sys2Proof.Machine
end

