-- ==== Sys2Proof/Machine/DmcOps.lean ====
section
/-!
DEFINITION. The memory plane's shared operations (12): populations and set points, the slice remap table, allocation,
channel loss and drain, and the copier's jobs.
-/

namespace Sys2Proof.Machine

/-- DMC CE_RATE (R478). -/
def fltCeRate : Nat := faultCode 13 0 1
/-- DMC LINE_POISONED (R478). -/
def fltLinePoisoned : Nat := faultCode 13 1 2
/-- DMC RANK_SPARED (R478). -/
def fltRankSpared : Nat := faultCode 13 3 3
/-- DMC CHANNEL_LOST (R478). -/
def fltChannelLost : Nat := faultCode 13 3 4
/-- DMC TRAINING_MARGINAL (R478). -/
def fltTrainingMarginal : Nat := faultCode 13 0 5
/-- DMC DIMM_HOT (R478). -/
def fltDimmHot : Nat := faultCode 13 3 6
/-- DMC MIRROR_DEGRADED (R478). -/
def fltMirrorDegraded : Nat := faultCode 13 1 7
/-- DMC MIRROR_LOST (R478). -/
def fltMirrorLost : Nat := faultCode 13 1 8
/-- DMC CACHE_ECC (R478). -/
def fltCacheEcc : Nat := faultCode 13 0 9
/-- DMC RESERVE_EXHAUSTED (R478). -/
def fltReserveExhausted : Nat := faultCode 13 4 0xA

/-! ### Channels and set points (R442 to R446, R479, R480) -/

/-- Channel states (R479). -/
def chAbsent : Nat := 0
/-- TRAINING. -/
def chTraining : Nat := 1
/-- ACTIVE. -/
def chActive : Nat := 2
/-- DRAINING. -/
def chDraining : Nat := 3
/-- DRAINED. -/
def chDrained : Nat := 4
/-- FENCED. -/
def chFenced : Nat := 5
/-- REJOINING. -/
def chRejoining : Nat := 6

/-- State of channel `c` (R479). -/
def State.chState (s : State) (c : Nat) : Nat := s.getF (Reg.DMC_CH_STATUS c) 2 0
/-- State of channel `c` set; the trained peak may change, and the accountant recounts (R44, R445). -/
def State.setChState (s : State) (c v : Nat) : State :=
  let s := s.setF (Reg.DMC_CH_STATUS c) 2 0 v
  { s with adm := { s.adm with recount := true } }

/-- The channels in service, ascending (R445). -/
def State.chansUp (s : State) : List Nat := (upTo 12).filter (fun c => s.chState c = chActive)

/-- Ranks of a population. -/
def DimmPop.ranks (p : DimmPop) : Nat := sumN (p.dimms.map (·.ranks))

/-- Rank size of a DIMM in GiB: 16 x4 or 8 x8 data devices of its density (R442, R480). -/
def DimmMod.rankGib (d : DimmMod) : Nat := ([16, 24, 32].getD d.density 16) * (if d.x8 then 1 else 2)

/-- Rank size of a population in GiB. -/
def DimmPop.rankGib (p : DimmPop) : Nat := p.dimms.head?.elim 0 (·.rankGib)

/-- Does a channel run with a spare rank: spare-rank mode and at least two ranks (R471)? -/
def State.spareOn (s : State) (p : DimmPop) : Bool := s.dmc.spareMode && decide (2 ≤ p.ranks)

/-- S_ch: the channel's slices, its spare rank excluded (R446). -/
def State.popSlices (s : State) (p : DimmPop) : Nat := (p.ranks - b2n (s.spareOn p)) * p.rankGib * 64

/-- Is the population within the limits of R442? -/
def State.popOk (s : State) (p : DimmPop) : Bool :=
  decide (1 ≤ p.dimms.length ∧ p.dimms.length ≤ 2 ∧ p.ranks ≤ 4) && p.dimms.all (fun d => decide (1 ≤ d.ranks ∧ d.ranks ≤ 2))
    && decide (s.popSlices p ≤ 8192)

/-- The data rate of set point `n` in MT/s, from the image (R443). -/
def State.spRate (s : State) (n : Nat) : Nat := (s.boot.image.device.elim [] (·.rates)).getD n 0 * 100

/-- The trained peak of one channel at a rate (R445). -/
def peakOne (rate : Nat) : Nat := rate * 8 * 1666666 / 1000

/-- The trained peak at set point `n` with the channels in service (R445). -/
def State.peakAt (s : State) (n : Nat) : Nat := if s.dmc.setPoints = [] then 0 else s.chansUp.length * peakOne (s.spRate n)

/-- The trained peak in bytes per tick (R445). -/
def State.trainedPeak (s : State) : Nat := s.peakAt s.dmc.setPoint

/-- Outcomes of training (R444): 0 PASS, 1 MARGINAL, 2 FAIL; two DIMMs fail above 5,600 MT/s (R443).
[DESIGN CHOICE, notes/assumptions 60] -/
def State.trainOutcome (s : State) (p : DimmPop) (outcomes : List Nat) (n : Nat) : Nat :=
  if p.dimms.length = 2 && decide (5600 < s.spRate n) then 2 else outcomes.getD n 0

/-- The ranks of a channel in service, bit n for rank n: all but the spare, which takes the place of the rank that it replaced
(R471, R479). -/
def State.ranksUp (s : State) (c : Nat) : Nat :=
  let p := (s.chan c).dimm
  let home := 2 ^ (p.ranks - b2n (s.spareOn p)) - 1
  if s.getF (Reg.DMC_CH_STATUS c) 6 6 = 1 then home - 2 ^ s.getF (Reg.DMC_CH_STATUS c) 13 12 + 2 ^ (p.ranks - 1) else home

/-- What DMC_CH_STATUS and DMC_CH_GEOMETRY show of a channel's population (R479, R480). -/
def State.showPop (s : State) (c : Nat) : State :=
  let p := (s.chan c).dimm
  let s := s.setR (Reg.DMC_CH_GEOMETRY c) (p.rankGib % 256 + p.dimms.length * 2 ^ 8 + b2n (p.dimms.head?.elim false (·.x8)) * 2 ^ 10
    + (p.dimms.head?.elim 0 (·.density)) * 2 ^ 11 + (s.chan c).slices * 2 ^ 16)
  let s := s.setF (Reg.DMC_CH_STATUS c) 4 3 s.dmc.setPoint
  let s := s.setF (Reg.DMC_CH_STATUS c) 5 5 (b2n (s.spareOn p))
  let s := s.setF (Reg.DMC_CH_STATUS c) 11 8 (s.ranksUp c)
  s.setF (Reg.DMC_CH_STATUS c) 17 16 (s.trainOutcome p (s.chan c).trained s.dmc.setPoint)

/-! ### The slice remap table (R446 to R450) -/

/-- The channel and slice of remap entry `k` (stripe × 12 + position): home unless listed (R448). -/
def State.remapOf (s : State) (k : Nat) : Nat × Nat :=
  match tget (0, 0) s.dmc.remap k with
  | (_, 0) => (k % 12, k / 12)
  | (c, n + 1) => (c, n)

/-- Is entry `k` in a mirrored stripe? -/
def State.entryMirrored (s : State) (k : Nat) : Bool := decide (k / 12 < s.dmc.mirrored)

/-- The entry of the other copy of a mirrored entry (R447). -/
def otherCopy (k : Nat) : Nat := if k % 2 = 0 then k + 1 else k - 1

/-- A stripe's REMAP record committed to the tally store (R450, R664). -/
def State.commitStripe (s : State) (st : Nat) : State :=
  let entries := (upTo 12).map (fun p => s.remapOf (st * 12 + p))
  s.tallyCommit 5 st 36 (entries.flatMap (fun e => [(1, e.1), (2, e.2)]))

/-- Entries switched to new slices, the tally store's mirror with them (R450). -/
def State.switchEntries (s : State) (es : List (Nat × Nat × Nat)) : State :=
  let put (t : Tbl (Nat × Nat)) (e : Nat × Nat × Nat) : Tbl (Nat × Nat) :=
    tset (0, 0) t e.1 (if e.2.1 = e.1 % 12 && e.2.2 = e.1 / 12 then (0, 0) else (e.2.1, e.2.2 + 1))
  let t := es.foldl put s.dmc.remap
  let s := { s with dmc := { s.dmc with remap := t }, tly := { s.tly with remap := t } }
  s.each (dedup (es.map (fun e => e.1 / 12))) (fun s st => s.commitStripe st)

/-- The entries that channel `c` holds, in ascending slice index. -/
def State.entriesOn (s : State) (c : Nat) : List Nat :=
  let home := ((upTo s.dmc.stripes).map (fun st => st * 12 + c)).filter (fun k => (tfind k s.dmc.remap).isNone)
  let moved := (s.dmc.remap.filter (fun e => decide (e.2.2 ≠ 0) && e.2.1 = c)).map (·.1)
  let ins (l : List Nat) (k : Nat) : List Nat :=
    l.takeWhile (fun j => decide ((s.remapOf j).2 < (s.remapOf k).2)) ++ k :: l.dropWhile (fun j => decide ((s.remapOf j).2 < (s.remapOf k).2))
  moved.foldl ins home

/-! ### Free slices and allocation (R446, R470, R472) -/

/-- Free slices of channel `c`. -/
def State.freeCount (s : State) (c : Nat) : Nat :=
  (s.chan c).vacant.length + ((s.chan c).slices - s.dmc.stripes) - (s.chan c).taken.length

/-- Free slices of the channels in service (R485). -/
def State.freeTotal (s : State) : Nat := sumN (s.chansUp.map s.freeCount)

/-- The first number from `a` up that an ascending list does not hold. -/
def firstGap (a : Nat) : List Nat → Nat
  | [] => a
  | x :: xs => if x = a then firstGap (a + 1) xs else a

/-- The lowest free slice of channel `c`. [DESIGN CHOICE, notes/assumptions 36] -/
def State.lowFree (s : State) (c : Nat) : Nat :=
  match (s.chan c).vacant with
  | v :: _ => v
  | [] => firstGap s.dmc.stripes (s.chan c).taken

/-- A slice no longer free. -/
def State.takeSlice (s : State) (c n : Nat) : State :=
  if n < s.dmc.stripes then s.onChan c (fun x => { x with vacant := x.vacant.erase n })
  else s.onChan c (fun x => { x with taken := insertAsc n x.taken })

/-- A slice free again. -/
def State.giveSlice (s : State) (c n : Nat) : State :=
  if n < s.dmc.stripes then s.onChan c (fun x => { x with vacant := insertAsc n x.vacant })
  else s.onChan c (fun x => { x with taken := x.taken.erase n })

/-- The channel that the allocation of R472 takes for entry `k`, channel `gone` excluded: in service, the most free slices,
ties to the lowest number; never the one that holds its other copy. [DESIGN CHOICE, notes/assumptions 36] -/
def State.pickChan (s : State) (gone k : Nat) : Option Nat :=
  let ok (c : Nat) : Bool := c ≠ gone && decide (0 < s.freeCount c) && !(s.entryMirrored k && (s.remapOf (otherCopy k)).1 = c)
  (s.chansUp.filter ok).foldl (fun (b : Option Nat) c => match b with
    | none => some c
    | some d => if s.freeCount d < s.freeCount c then some c else b) none

/-- Destinations for entries under R472, taken as they are allocated; none when the free slices cannot hold them.
[DESIGN CHOICE, notes/assumptions 36] -/
def State.allocate (s : State) (gone : Nat) : List Nat → Option (State × List (Nat × Nat × Nat))
  | [] => some (s, [])
  | k :: ks =>
    match s.pickChan gone k with
    | none => none
    | some c =>
      let n := s.lowFree c
      match State.allocate (s.takeSlice c n) gone ks with
      | none => none
      | some (s, es) => some (s, (k, c, n) :: es)

/-! ### The copier (R469, R470) -/

/-- A job requested: a rebuild goes before every job of another kind (R469). -/
def State.addJob (s : State) (j : CopyJob) : State :=
  let jobs := s.dmc.jobs
  let jobs := if j.kind = .rebuild then jobs.takeWhile (fun x => x.kind = .rebuild) ++ j :: jobs.dropWhile (fun x => x.kind = .rebuild) else jobs ++ [j]
  { s with dmc := { s.dmc with jobs := jobs } }

/-- A slice to be filled with poison before it counts as free (R470). -/
def State.addFill (s : State) (c n : Nat) : State := s.addJob { kind := .fill, chan := c, steps := [{ chan := c, slice := n }] }

/-- Has channel `c` a channel-local space that requests reach: ACTIVE, DRAINING or REJOINING? -/
def State.chanServes (s : State) (c : Nat) : Bool :=
  let st := s.chState c
  decide (c < 12) && (st = chActive || st = chDraining || st = chRejoining)

/-- Is the copier moving or rebuilding entry `k` now (R451, R486)? -/
def State.entryCopying (s : State) (k : Nat) : Bool :=
  s.dmc.lostCopies.contains k || (match s.dmc.jobs.head? with
    | some j => j.kind ≠ .rank && (j.steps.head?.elim false (fun x => x.entry = some k))
    | none => false)

/-! ### Loss, drain and retraining (R472 to R475) -/

/-- Contents of channel `c` lost. -/
def State.eraseChan (s : State) (c : Nat) : State := { s with mem := memErase s.mem (cellAddr c 0) (cellAddr (c + 1) 0) }

/-- A channel's own jobs leave the copier. -/
def State.dropJobs (s : State) (c : Nat) : State :=
  { s with dmc := { s.dmc with jobs := s.dmc.jobs.filter (fun j => !(j.chan = c && j.kind ≠ .rebuild)) } }

/-- Steps of other channels' drains whose destination is on channel `c`. -/
def State.strayMoves (s : State) (c : Nat) : List Nat :=
  s.dmc.jobs.flatMap (fun j => if j.kind = .drain && j.chan ≠ c then (j.steps.filter (fun x => x.chan = c)).filterMap (·.entry) else [])

/-- Those steps given new destinations. -/
def State.redirect (s : State) (c : Nat) (es : List (Nat × Nat × Nat)) : State :=
  let fix (x : CopyStep) : CopyStep :=
    match x.entry, es.find? (fun e => x.entry = some e.1) with
    | some _, some e => if x.chan = c then { x with chan := e.2.1, slice := e.2.2 } else x
    | _, _ => x
  { s with dmc := { s.dmc with jobs := s.dmc.jobs.map (fun j => if j.kind = .drain && j.chan ≠ c then { j with steps := j.steps.map fix } else j) } }

/-- The tally store's list of channels out of service changed (R477). -/
def State.setChOut (s : State) (c : Nat) (out : Bool) : State :=
  { s with tly := { s.tly with chOut := if out then insertAsc c s.tly.chOut else s.tly.chOut.erase c } }

/-- The slices of channel `c` re-homed at once (R472, R473): destinations that a drain has already allocated are taken, the
others follow R472. Mirrored copies are rebuilt first. None when the free slices cannot hold them. -/
def State.rehome (s : State) (c : Nat) : Option State :=
  let drains := s.dmc.jobs.flatMap (fun j => if j.kind = .drain && j.chan = c then j.steps.filterMap (fun x => x.entry.map (fun k => (k, x.chan, x.slice))) else [])
  let need := (s.entriesOn c).filter (fun k => !drains.any (fun e => e.1 = k))
  let stray := s.strayMoves c
  match s.allocate c (need ++ stray) with
  | none => none
  | some (s, es) =>
    let moves := drains ++ es.take need.length
    let s := (s.redirect c (es.drop need.length)).dropJobs c
    let s := (s.switchEntries moves).eraseChan c
    let s := s.onChan c (fun x => { x with vacant := upTo s.dmc.stripes, taken := [], migRank := none, autoDrain := false })
    let s := s.setF (Reg.DMC_CH_STATUS c) 7 7 0
    let lost := (moves.map (·.1)).filter s.entryMirrored
    if lost = [] then some s
    else
      let s := { s with dmc := { s.dmc with lostCopies := lost.foldl (fun l k => insertAsc k l) s.dmc.lostCopies } }
      let steps := lost.map (fun k => ({ entry := some k, chan := (s.remapOf k).1, slice := (s.remapOf k).2 } : CopyStep))
      some ((s.addJob { kind := .rebuild, chan := c, steps := steps }).raise fltMirrorDegraded (subjChan c))

/-- A channel out of service after its slices have left it: FENCED and reported (R472, R474). -/
def State.fenceChan (s : State) (c : Nat) : State :=
  ((s.setChState c chFenced).setChOut c true).raise fltChannelLost (subjChan c)

/-- A channel lost (R472). A DRAINED channel, and one in TRAINING, hold no slices. -/
def State.loseChan (s : State) (c : Nat) : State :=
  if s.chanServes c then
    match s.rehome c with
    | some s => s.fenceChan c
    | none => (s.setChState c chFenced).raise fltReserveExhausted (subjChan c)
  else if s.chState c = chDrained || s.chState c = chTraining then s.fenceChan c
  else s

/-- A drain begun: every slice gets a destination and is copied; refused when the free slices cannot hold them (R473). -/
def State.drainChan (s : State) (c : Nat) (auto : Bool) : State :=
  match s.allocate c (s.entriesOn c) with
  | none => s.setF (Reg.DMC_CH_STATUS c) 18 18 1
  | some (s, es) =>
    let steps := es.map (fun e => ({ entry := some e.1, chan := e.2.1, slice := e.2.2 } : CopyStep))
    let s := (s.setF (Reg.DMC_CH_STATUS c) 18 18 0).setChState c chDraining
    let s := s.onChan c (fun x => { x with autoDrain := auto })
    s.addJob { kind := .drain, chan := c, steps := steps }

/-- An automatic drain of a channel that is ACTIVE (R457, R473, R475). -/
def State.autoDrain (s : State) (c : Nat) : State := if s.chState c = chActive then s.drainChan c true else s

/-- RETRAIN begun (R475). -/
def State.retrainChan (s : State) (c : Nat) : State := s.setChState c chTraining

/-- REJOIN begun: the channel is filled with poison, then its home slices move back in ascending stripe order (R475). -/
def State.rejoinChan (s : State) (c : Nat) : State :=
  let away := ((upTo s.dmc.stripes).map (fun st => st * 12 + c)).filter (fun k => (s.remapOf k).1 ≠ c)
  let steps := away.map (fun k => ({ entry := some k, chan := c, slice := k / 12 } : CopyStep))
  let s := (s.setChState c chRejoining).onChan c (fun x => { x with vacant := upTo s.dmc.stripes, taken := [], autoDrain := false })
  s.addJob { kind := .rejoin, chan := c, steps := { chan := c } :: steps }

/-- A rank's failure (R457, R471): migration to the spare while there is one, else, and for a second rank, what
`other` does. -/
def State.rankFails (s : State) (c r : Nat) (other : State → State) : State :=
  let spareUsed := s.getF (Reg.DMC_CH_STATUS c) 6 6 = 1
  if s.spareOn (s.chan c).dimm && !spareUsed then
    if (s.chan c).migRank = some r then s
    else if (s.chan c).migRank.isSome then other s
    else
      let s := (s.onChan c (fun x => { x with migRank := some r })).setF (Reg.DMC_CH_STATUS c) 7 7 1
      s.addJob { kind := .rank, chan := c, rank := r, steps := [{ chan := c }] }
  else other s

end Sys2Proof.Machine
end

