-- ==== Sys2Proof/Machine/DrvOps.lean ====
section
/-!
DEFINITION. The Drover's shared operations (10): units and pools, readiness, ready lists and spill rings, dispatch, and
the end of an item with its successors and its graph.
-/

namespace Sys2Proof.Machine

/-- DRV TASK_ECC (R416). -/
def fltTaskEcc : Nat := faultCode 6 1 1
/-- DRV SPILL_LOST (R416). -/
def fltSpillLost : Nat := faultCode 6 1 2
/-- DRV OVERRUN (R416). -/
def fltOverrun : Nat := faultCode 6 0 3
/-- DRV SHED (R416). -/
def fltShed : Nat := faultCode 6 0 4

/-! ### Units (R398, R415) -/

/-- Is a media core fenced (R423)? Core `c` of 256 is core c mod 16 of cluster c / 16. -/
def State.coreFenced (s : State) (c : Nat) : Bool := bit (s.getF (Reg.MCA_CORE_STATUS (c / 16)) 15 0) (c % 16)

/-- The units of a pool that are in service (R398). -/
def State.poolUnits (s : State) (pool : Nat) : List Nat :=
  if pool < 16 then ((upTo 16).map (fun i => pool * 16 + i)).filter (fun c => !s.coreFenced c)
  else if pool = 0x10 then (upTo 256).filter (fun c => !s.coreFenced c)
  else if pool = 0x11 then (upTo 256).filter (fun c => !s.coreFenced c && !s.drv.assistOff.contains (c / 16))
  else if pool = 0x20 then (upTo 64).filter (fun i => s.getF (Reg.VEN_FENCE_STATUS i) 0 0 = 0)
  else if pool = 0x21 then (upTo 8).filter (fun i => s.getF (Reg.CMP_FENCE_STATUS i) 0 0 = 0)
  else if pool = 0x22 then (upTo 2).filter (fun i => !bit (s.getR Reg.LAC_STATUS) (12 + i))
  else if pool = 0x23 then [0]
  else []

/-- What one unit of a pool does in `ns` nanoseconds, in the units of the pool's costs: cycles of 1.6 GHz cores and of
1.2 GHz engines and mixer, pixels of a compositor, assemblies of a lane (R1, R40, R352). -/
def poolWork (pool ns : Nat) : Nat :=
  if pool ≤ 0x11 then ns * 16 / 10
  else if pool = 0x20 || pool = 0x23 then ns * 12 / 10
  else if pool = 0x21 then ns * 4
  else ns * 819 / 1666666

/-- May core `c` take items of a pool (R403)? -/
def State.coreTakes (s : State) (c pool : Nat) : Bool :=
  pool = c / 16 || pool = 0x10 || (pool = 0x11 && !s.drv.assistOff.contains (c / 16))

/-! ### Readiness (R390, R391, R400, R401) -/

/-- Counter `n` of a task advanced (R422). -/
def State.taskCount (s : State) (t n : Nat) (k : Nat := 1) : State :=
  s.onTask t (fun x => { x with ctr := tmod 0 x.ctr n (fun v => (v + k) % 2 ^ 32) })

/-- Is an enabled task's wait satisfied (R391)? -/
def TaskRec.waitMet (r : TaskRec) : Bool :=
  r.enabled && (if r.orMode then r.flags &&& r.waitMask != 0 else r.flags &&& r.waitMask = r.waitMask)

/-- The bit of the MISSING flag (R390). -/
def missingBit : BitVec 32 := 0x20000000

/-- A task put at the tail of its class's ready list, or of its spill ring while the list is full or the ring is not
empty (R400, R401). -/
def State.placeReady (s : State) (t : Nat) : State :=
  let r := (s.task t).cfg
  let e : ReadyEnt := { task := t, deadline := s.now + 1, order := s.drv.order, from_ := s.now }
  let d := { s.drv with order := s.drv.order + 1 }
  let list := if r.classG then d.readyG else d.readyW
  let ring := if r.classG then d.spillG else d.spillW
  if 4096 ≤ list.length || !ring.isEmpty then
    let d := if r.classG then { d with spillG := ring ++ [e] } else { d with spillW := ring ++ [e] }
    (({ s with drv := d }).onTask t (fun x => { x with st := .spilled })).incR Reg.DRV_SPILLED_TOTAL
  else
    let d := if r.classG then { d with readyG := list ++ [e] } else { d with readyW := list ++ [e] }
    ({ s with drv := d }).onTask t (fun x => { x with st := .ready })

/-- The graph of a class G task. -/
def State.graphOf (s : State) (t : Nat) : Graph := tget {} s.drv.graphs (s.task t).cfg.graph

/-- Has a node been shed in this tick before it was READY (R397)? -/
def State.shedEarly (s : State) (t : Nat) : Bool :=
  (s.task t).cfg.classG && decide ((s.graphOf t).first ≤ t) && (s.graphOf t).shed.contains (t - (s.graphOf t).first)

/-- An IDLE task whose wait is met becomes READY and consumes its flags (R391). A node that has been shed in this tick stays
IDLE. [DESIGN CHOICE, notes/assumptions 50] -/
def State.testReady (s : State) (t : Nat) : State :=
  let x := s.task t
  if x.st = .idle && x.cfg.waitMet then
    let eat := x.cfg.waitMask ||| missingBit
    let s' := s.onTask t (fun x => { x with consumed := x.cfg.flags &&& eat, cfg := { x.cfg with flags := x.cfg.flags &&& ~~~ eat } })
    if s.shedEarly t then s' else s'.placeReady t
  else s

/-- A task put in its place among tasks of one class that become READY together: ascending task for class W; decreasing cost,
then ascending task, for G (R400). -/
def State.readyIns (s : State) (t : Nat) : List Nat → List Nat
  | [] => [t]
  | x :: xs =>
    let a := (s.task t).cfg
    let b := (s.task x).cfg
    let before := if a.classG then decide (b.cost < a.cost) || (a.cost = b.cost && decide (t < x)) else decide (t < x)
    if before then t :: x :: xs else x :: s.readyIns t xs

/-- Readiness of tasks whose flags were set together is tested, in the order of R400. [DESIGN CHOICE, notes/assumptions 50] -/
def State.testTogether (s : State) (ts : List Nat) : State :=
  let sort (l : List Nat) := l.foldl (fun acc t => s.readyIns t acc) []
  s.each (sort (ts.filter (fun t => !(s.task t).cfg.classG)) ++ sort (ts.filter (fun t => (s.task t).cfg.classG))) (fun s t => s.testReady t)

/-- A flag of a task (R390). -/
def State.orFlag (s : State) (t flag : Nat) (missing : Bool := false) : State :=
  let add := (1#32 <<< flag) ||| (if missing then missingBit else 0)
  s.onTask t (fun x => { x with cfg := { x.cfg with flags := x.cfg.flags ||| add } })

/-- The valid successor entries of a task with one of these kinds. -/
def TaskRec.successors (r : TaskRec) (kinds : List Nat) : List Succ := r.succ.filter (fun e => e.valid && kinds.contains e.kind)

/-! ### Take ports (R400, R403, R404) -/

/-- Take a task out of every ready position. -/
def State.unready (s : State) (t : Nat) : State :=
  let f (l : List ReadyEnt) := l.filter (fun e => e.task ≠ t)
  { s with drv := { s.drv with readyW := f s.drv.readyW, readyG := f s.drv.readyG, spillW := f s.drv.spillW, spillG := f s.drv.spillG } }

/-- The ready entry of a list that a taker of some pools gets: the highest level, the earliest ready (R400). -/
def State.bestEntry (s : State) (list : List ReadyEnt) (ok : Nat → Bool) : Option ReadyEnt :=
  list.foldl (fun (b : Option ReadyEnt) e =>
    let r := (s.task e.task).cfg
    if !ok r.pool || decide (s.now < e.from_) then b
    else match b with
      | none => some e
      | some x => if (s.task x.task).cfg.prio < r.prio then some e else b) none

/-- The take word of R404. -/
def takeWord (t : Nat) (x : Task) (deadline : Nat) : Nat :=
  t + x.cfg.itemType * 2 ^ 16 + x.cfg.prio * 2 ^ 32 + b2n (x.consumed &&& missingBit != 0) * 2 ^ 35 + (deadline - 1) % 2 ^ 23 * 2 ^ 40

/-- The take word with none set (R404). -/
def takeNone : Nat := 2 ^ 63

/-- Core `c`'s port page changed. -/
def State.onCore (s : State) (c : Nat) (f : CorePort → CorePort) : State :=
  { s with drv := { s.drv with cores := tmod {} s.drv.cores c f } }

/-- An item handed to core `c` (R403, R404). -/
def State.handItem (s : State) (c : Nat) (e : ReadyEnt) : State :=
  let x := s.task e.task
  let s := s.unready e.task
  let item : RunItem := { task := e.task, pool := x.cfg.pool, unit := c, deadline := e.deadline, grantTick := s.now, grantNs := s.drv.clock }
  let s := { s with drv := { s.drv with running := s.drv.running ++ [item], dispN := s.drv.dispN + 1 } }
  let s := (s.onTask e.task (fun y => { y with st := .running })).taskCount e.task 0
  s.onCore c (fun p => { p with take := takeWord e.task x e.deadline, context := x.cfg.context, flags := x.consumed })

/-- The cores that wait are served, longest-waiting first, while items of theirs are ready (R403). -/
def State.serveTakers (s : State) : State :=
  s.each s.drv.takers (fun s (_, c) =>
    match s.bestEntry s.drv.readyW (s.coreTakes c) with
    | none => s
    | some e => ({ s with drv := { s.drv with takers := s.drv.takers.filter (·.2 ≠ c) } }).handItem c e)

/-! ### The end of an item (R392, R393, R397, R413) -/

/-- The flags of successor entries set together, and the readiness of their targets and of the tasks `also` tested; at a
boundary that waits for step 5 of R411 (`test` false). -/
def State.tellSuccessors (s : State) (es : List Succ) (missing test : Bool) (also : List Nat := []) : State :=
  let s := s.each es (fun s e => s.orFlag e.target e.flag missing)
  if test then s.testTogether (dedup (es.map (·.target) ++ also)) else s

/-- A task's item ends, or is shed: the task is IDLE, its successors are told, the owning block is told (R392, R393,
R413), and its own readiness is tested again. -/
def State.closeItem (s : State) (t : Nat) (o : Outcome4) (shed : Bool) (test : Bool := true) : State :=
  let good := (o = .completed || o = .alreadyComplete) && !shed
  let r := (s.task t).cfg
  let s := s.onTask t (fun x => { x with st := if x.cfg.enabled then .idle else .disabled })
  let s := if shed then s.taskCount t 2 else if good then s.taskCount t 1 else s.taskCount t 3
  let s := { s with drv := { s.drv with outcomes := s.drv.outcomes ++ [(t, o, shed)] } }
  s.tellSuccessors (r.successors (if good then [0, 2] else [2])) (!good) test [t]

/-- An item counted and closed as shed (R409, R413, R420). -/
def State.shedItem (s : State) (t : Nat) (test : Bool) : State :=
  let prio := (s.task t).cfg.prio
  let s := s.incR (Reg.DRV_SHED prio)
  let s := { s with drv := { s.drv with shedN := s.drv.shedN + 1 } }
  (s.closeItem t .aborted true test).raiseOnce fltShed (subjUnit 6 0 prio) 600

/-- A task that is READY or SPILLED is shed (R409, R411). -/
def State.shedTask (s : State) (t : Nat) (test : Bool := true) : State :=
  let st := (s.task t).st
  if st = .ready || st = .spilled then (s.unready t).shedItem t test else s

/-- The tasks of a graph. -/
def Graph.nodes (g : Graph) : List Nat := fromTo g.first (g.first + g.count)

/-- The nodes of a graph that can be reached from a set of its nodes through successor edges, in `fuel` steps. -/
def State.reachable (s : State) (g : Graph) : Nat → List Nat → List Nat
  | 0, found => found
  | fuel + 1, found =>
    let more := found.flatMap (fun t => ((s.task t).cfg.successors [0, 1, 2]).map (·.target))
    s.reachable g fuel (dedup (found ++ more.filter (fun t => g.nodes.contains t)))

/-- A node of a graph that has not been dispatched in this tick is shed with the loss of another; one that is not READY yet
is shed once and for this tick (R397). [DESIGN CHOICE, notes/assumptions 50] -/
def State.shedNode (s : State) (n : Nat) (test : Bool) : State :=
  let g := s.graphOf n
  let st := (s.task n).st
  if st = .ready || st = .spilled then s.shedTask n test
  else if st = .idle && !g.started.contains (n - g.first) && !g.shed.contains (n - g.first) then
    let mark (g : Graph) : Graph := { g with shed := insertAsc (n - g.first) g.shed }
    ({ s with drv := { s.drv with graphs := tmod {} s.drv.graphs (s.task n).cfg.graph mark } }).shedItem n test
  else s

/-- What the loss of node `t` does to its graph: the nodes not yet dispatched that it reaches are shed; with all_or_none
every node not yet dispatched is, and every running one is aborted (R397). -/
def State.graphLoss (s : State) (t : Nat) (test : Bool := true) : State :=
  let g := s.graphOf t
  if !(s.task t).cfg.classG || !g.nodes.contains t then s
  else
    let hit := if g.allOrNone then g.nodes else s.reachable g g.count [t]
    let s := s.each (hit.filter (· ≠ t)) (fun s n => s.shedNode n test)
    if g.allOrNone then
      let mine (i : RunItem) : Bool := g.nodes.contains i.task && !i.aborted
      let hits := s.drv.running.filter mine
      let s := { s with drv := { s.drv with running := s.drv.running.map (fun i => if mine i then { i with aborted := true, outcome := some .aborted } else i) } }
      s.each hits (fun s i => s.closeItem i.task .aborted false test)
    else s

/-- A READY or SPILLED item shed with its graph's consequences (R397, R409). -/
def State.shedWithGraph (s : State) (t : Nat) (test : Bool := true) : State :=
  let st := (s.task t).st
  if st = .ready || st = .spilled then (s.shedTask t test).graphLoss t test else s

/-- The Drover's time moved on to `ns` into the tick (R408). -/
def State.drvAt (s : State) (ns : Nat) : State := { s with drv := { s.drv with clock := Nat.max s.drv.clock ns } }

/-- Cycles that an item has taken since its grant, at offset `ns` of this tick. -/
def State.cyclesOf (s : State) (i : RunItem) (ns : Nat) : Nat :=
  poolWork i.pool (tickNs s.now + ns - (tickNs i.grantTick + i.grantNs))

/-- The item a unit runs ends with an outcome: it leaves the unit; unless its abort has been given, its task ends now
(R393, R405, R413). -/
def State.endItem (s : State) (i : RunItem) (o : Outcome4) (ns : Nat) : State :=
  let used := s.cyclesOf i ns
  let s := { s with drv := { s.drv with running := s.drv.running.erase i, busy := tmod 0 s.drv.busy i.pool (· + used) } }
  let s := s.onTask i.task (fun x => { x with ctr := tset 0 x.ctr 5 (used % 2 ^ 32) })
  if i.aborted then s
  else
    let s := s.closeItem i.task o false
    if o = .completed || o = .alreadyComplete then s else s.graphLoss i.task

/-- A class G node signals its end, `ns` into the tick (R405, R413): `good` when it completed. -/
def State.endNode (s : State) (node : Option Nat) (ns : Nat) (good : Bool) : State :=
  let s := s.drvAt ns
  match node with
  | none => s
  | some t =>
    match s.drv.running.find? (fun i => i.task = t) with
    | none => s
    | some i => (s.endItem i (if good then .completed else .aborted) s.drv.clock).serveTakers

end Sys2Proof.Machine
end

