-- ==== Sys2Proof/Machine/Drv.lean ====
section
/-!
DEFINITION. The Drover's steps (10): take and done ports, nodes pushed, progress, spill drain, the shed point, task
errors, and its part of a tick boundary.
-/

namespace Sys2Proof.Machine

/-! ### Class W items (R403 to R405) -/

/-- Core `c` joins the cores that wait, since `t` ns: the longest-waiting first, the lowest number among equals (R403). -/
def waitIn (t c : Nat) : List (Nat × Nat) → List (Nat × Nat)
  | [] => [(t, c)]
  | e :: es => if t < e.1 || (t = e.1 && decide (c < e.2)) then (t, c) :: e :: es else e :: waitIn t c es

/-- TAKE: core `c` reads its take port, `ns` into the tick. It waits until an item comes; it reads none when the core is fenced or the Drover
is stopped (R403). -/
def takePort (c ns : Nat) (s : State) : State :=
  let s := s.drvAt ns
  if s.coreFenced c || s.getF Reg.DRV_STATUS 31 31 = 1 then s.onCore c (fun p => { p with take := takeNone, context := 0, flags := 0 })
  else if s.drv.takers.any (fun e => e.2 = c) then s
  else ({ s with drv := { s.drv with takers := waitIn (tickNs s.now + s.drv.clock) c s.drv.takers } }).serveTakers

/-- TAKE (R403). -/
def execTake (c ns : Nat) (s : State) : Host.Outcome State Fault Refusal := finish s (takePort c ns s)

/-- Outcome codes of DONE_RESULT (R50, R404). -/
def Outcome4.code : Outcome4 → Nat
  | .completed => 0 | .alreadyComplete => 1 | .aborted => 2 | .failed => 3

/-- DONE_STATUS: core `c` reports the end of the item it holds. An abort that has reached the arbiter stands; otherwise
the item is COMPLETED, or FAILED with its cause (R405). A task that the core does not hold changes nothing.
[DESIGN CHOICE, notes/assumptions 50] -/
def doneStatus (c t : Nat) (failed : Bool) (s : State) : State :=
  match s.drv.running.find? (fun i => i.unit = c && i.task = t && decide (i.pool ≤ 0x11)) with
  | none => s
  | some i =>
    let o := if i.aborted then .aborted else if failed then .failed else .completed
    if i.outcome.isSome && !i.aborted then s
    else { s with drv := { s.drv with running := s.drv.running.map (fun j => if j = i then { i with outcome := some o } else j) } }

/-- DONE_STATUS (R405). The cause of a failure goes to the owning block. -/
def execDoneStatus (c t : Nat) (failed : Bool) (_cause : Nat) (s : State) : Host.Outcome State Fault Refusal :=
  finish s (doneStatus c t failed s)

/-- DONE_RESULT: the core reads its item's outcome; the item's outputs are committed or discarded, and the item ends
(R393, R404, R405). [DESIGN CHOICE, notes/assumptions 50] -/
def doneResult (c ns : Nat) (s : State) : State :=
  match s.drv.running.find? (fun i => i.unit = c && decide (i.pool ≤ 0x11) && i.outcome.isSome) with
  | none => s
  | some i =>
    let o := i.outcome.getD .aborted
    (((s.drvAt ns).onCore c (fun p => { p with result := o.code })).endItem i o ns).serveTakers

/-- DONE_RESULT (R404). -/
def execDoneResult (c ns : Nat) (s : State) : Host.Outcome State Fault Refusal := finish s (doneResult c ns s)

/-! ### Class G nodes (R396, R406) -/

/-- Cost assigned to a unit of a pool. -/
def State.assigned (s : State) (pool u : Nat) : Nat :=
  sumN ((s.drv.running.filter (fun i => i.pool = pool && i.unit = u)).map (fun i => (s.task i.task).cfg.cost))

/-- Nodes that a unit holds. -/
def State.holds (s : State) (pool u : Nat) : Nat := (s.drv.running.filter (fun i => i.pool = pool && i.unit = u)).length

/-- The unit that the next node of a pool goes to: the least cost assigned, the lowest number among equals, at most two
nodes each (R406). -/
def State.leastUnit (s : State) (pool : Nat) : Option Nat :=
  ((s.poolUnits pool).filter (fun u => decide (s.holds pool u < 2))).foldl (fun (b : Option Nat) u => match b with
    | none => some u
    | some v => if s.assigned pool u < s.assigned pool v then some u else b) none

/-- NODE_PUSH: the first ready node of a pool is pushed to its unit, `ns` into the tick (R400, R406). -/
def nodePush (pool ns : Nat) (s : State) : State :=
  let s := s.drvAt ns
  match s.bestEntry s.drv.readyG (fun p => p = pool), s.leastUnit pool with
  | some e, some u =>
    let r := (s.task e.task).cfg
    let s := s.unready e.task
    let item : RunItem := { task := e.task, pool := pool, unit := u, deadline := e.deadline, grantTick := s.now, grantNs := s.drv.clock }
    let graphs := tmod {} s.drv.graphs r.graph (fun (g : Graph) => { g with started := insertAsc (e.task - g.first) g.started })
    let s := { s with drv := { s.drv with running := s.drv.running ++ [item], dispN := s.drv.dispN + 1, graphs := graphs } }
    (s.onTask e.task (fun y => { y with st := .running })).taskCount e.task 0
  | _, _ => s

/-- NODE_PUSH (R406). -/
def execNodePush (pool ns : Nat) (s : State) : Host.Outcome State Fault Refusal := finish s (nodePush pool ns s)

/-- PROGRESS_POST: the unit that runs a node posts its progress point; the PROGRESS successors' flags are set (R393, R396). -/
def progressPost (t ns : Nat) (s : State) : State :=
  let s := s.drvAt ns
  if s.drv.running.any (fun i => i.task = t && !i.aborted) then
    (s.tellSuccessors ((s.task t).cfg.successors [1]) false true).serveTakers
  else s

/-- PROGRESS_POST (R396). -/
def execProgressPost (t ns : Nat) (s : State) : Host.Outcome State Fault Refusal := finish s (progressPost t ns s)

/-! ### Spill rings (R401, R402) -/

/-- Entries drained from a ring into a list: as many as fit and at most 64. -/
def drainRing (list ring : List ReadyEnt) : List ReadyEnt × List ReadyEnt :=
  let n := Nat.min 64 (4096 - list.length)
  (list ++ ring.take n, ring.drop n)

/-- SPILL_DRAIN: entries whose both copies return poison are dropped and a sweep is due; the others drain in order while
the on-chip list has space (R401, R402). -/
def spillDrain (poisoned : List Nat) (s : State) : State :=
  let ok (e : ReadyEnt) : Bool := !poisoned.contains e.task
  let lost := (s.drv.spillW ++ s.drv.spillG).filter (fun e => !ok e)
  let (rw, sw) := drainRing s.drv.readyW (s.drv.spillW.filter ok)
  let (rg, sg) := drainRing s.drv.readyG (s.drv.spillG.filter ok)
  let moved := (rw.drop s.drv.readyW.length ++ rg.drop s.drv.readyG.length).map (·.task)
  let s := { s with drv := { s.drv with readyW := rw, spillW := sw, readyG := rg, spillG := sg, sweep := s.drv.sweep || !lost.isEmpty } }
  let s := s.each moved (fun s t => s.onTask t (fun x => { x with st := .ready }))
  (s.each lost (fun s e => s.raise fltSpillLost (subjTask e.task))).serveTakers

/-- SPILL_DRAIN (R401). -/
def execSpillDrain (poisoned : List Nat) (s : State) : Host.Outcome State Fault Refusal := finish s (spillDrain poisoned s)

/-- The sweep of R402: tasks marked SPILLED that are in no ring are shed. -/
def State.sweepSpill (s : State) : State :=
  if !s.drv.sweep then s
  else
    let ring := (s.drv.spillW ++ s.drv.spillG).map (·.task)
    let gone := (s.drv.tasks.filter (fun e => e.2.st = .spilled && !ring.contains e.1)).map (·.1)
    let s := { s with drv := { s.drv with sweep := false } }
    (s.each gone (fun s t => s.shedWithGraph t false)).incR Reg.DRV_SWEEPS

/-! ### The shed point (R408 to R410) -/

/-- Entries of a pool that wait in this tick, on chip or spilled. -/
def State.waitingIn (s : State) (pool : Nat) : List ReadyEnt :=
  (s.drv.readyW ++ s.drv.readyG ++ s.drv.spillW ++ s.drv.spillG).filter (fun e => (s.task e.task).cfg.pool = pool && decide (e.from_ ≤ s.now))

/-- D of R408 for a pool at offset `ns`. -/
def State.demand (s : State) (pool ns : Nat) : Nat :=
  sumN ((s.waitingIn pool).map (fun e => (s.task e.task).cfg.cost))
    + sumN ((s.drv.running.filter (fun i => i.pool = pool && !i.aborted)).map (fun i => (s.task i.task).cfg.cost - s.cyclesOf i ns))

/-- C of R408 for a pool at offset `ns`. -/
def State.capacity (s : State) (pool ns : Nat) : Nat :=
  95 * ((s.poolUnits pool).length * poolWork pool (tickLen s.now - ns)) / 100

/-- An entry carried to the next tick (R407, R410). -/
def State.carryTask (s : State) (t : Nat) : State :=
  let f (l : List ReadyEnt) := l.map (fun e => if e.task = t then { e with deadline := s.now + 2, from_ := s.now + 1 } else e)
  let s := { s with drv := { s.drv with readyW := f s.drv.readyW, readyG := f s.drv.readyG, spillW := f s.drv.spillW, spillG := f s.drv.spillG, carryN := s.drv.carryN + 1 } }
  (s.taskCount t 4).incR Reg.DRV_CARRIED_TOTAL

/-- May the item of a task be carried: level 0, or level 1 in a graph with no node dispatched (R410)? -/
def State.mayCarry (s : State) (t : Nat) : Bool :=
  let r := (s.task t).cfg
  r.prio = 0 || (r.prio = 1 && r.classG && (s.graphOf t).started.isEmpty)

/-- A carried item, with its whole graph at level 1 (R410). -/
def State.carryItem (s : State) (t : Nat) : State :=
  let r := (s.task t).cfg
  if r.classG && r.prio = 1 then
    let g : Graph := tget {} s.drv.graphs r.graph
    s.each (g.nodes.filter (fun n => let st := (s.task n).st; st = .ready || st = .spilled)) (fun s n => s.carryTask n)
  else s.carryTask t

/-- An entry put in the order of removal: ascending level, the one that became READY last first, then the higher task
index (R409). -/
def State.removalIns (s : State) (e : ReadyEnt) : List ReadyEnt → List ReadyEnt
  | [] => [e]
  | x :: xs =>
    let pe := (s.task e.task).cfg.prio
    let px := (s.task x.task).cfg.prio
    if pe < px || (pe = px && decide (x.order < e.order)) then e :: x :: xs else x :: s.removalIns e xs

/-- One pool at the shed point (R408 to R410). [DESIGN CHOICE, notes/assumptions 31] -/
def State.shedPool (s : State) (ns pool : Nat) : State :=
  let list := ((s.waitingIn pool).filter (fun e => decide ((s.task e.task).cfg.prio < 6))).foldl (fun acc e => s.removalIns e acc) []
  s.each list (fun s e =>
    if s.demand pool ns ≤ s.capacity pool ns then s
    else if !(s.waitingIn pool).any (fun x => x.task = e.task) then s
    else if s.mayCarry e.task then s.carryItem e.task
    else s.shedWithGraph e.task)

/-- The pool codes of R398. -/
def poolCodes : List Nat := upTo 18 ++ [0x20, 0x21, 0x22, 0x23]

/-- SHED_POINT: 1,250,000 ns into the tick (R408). [DESIGN CHOICE, notes/assumptions 60] -/
def shedPoint (s : State) : State := (s.each poolCodes (fun s p => s.shedPool 1250000 p)).serveTakers

/-- SHED_POINT (R408). -/
def execShedPoint (s : State) : Host.Outcome State Fault Refusal := finish s (shedPoint s)

/-! ### Errors (R416) -/

/-- TASK_ECC: a task record with an uncorrectable error is disabled and its item shed; the firmware rewrites the record
for the next boundary (R416). [DESIGN CHOICE, notes/assumptions 50] -/
def taskEcc (t : Nat) (s : State) : State :=
  let x := s.task t
  let s := (s.raise fltTaskEcc (subjTask t)).shedWithGraph t
  let s := s.onTask t (fun y => { y with st := if y.st = .running then .running else .disabled, cfg := { y.cfg with enabled := false } })
  ({ s with drv := { s.drv with writes := s.drv.writes ++ [TaskWrite.task t { x.cfg with flags := 0 }] } }).serveTakers

/-- TASK_ECC (R416). -/
def execTaskEcc (t : Nat) (s : State) : Host.Outcome State Fault Refusal := finish s (taskEcc t s)

/-! ### The boundary (R390, R394, R411, R412, R419, R421) -/

/-- Items running past their deadline receive their abort; an item whose outcome is already given keeps it (R411 step 1,
R412). -/
def State.overruns (s : State) : State :=
  let late (i : RunItem) : Bool := decide (i.deadline ≤ s.now) && i.outcome.isNone
  let hits := s.drv.running.filter late
  let s := { s with drv := { s.drv with running := s.drv.running.map (fun i => if late i then { i with aborted := true, outcome := some .aborted } else i), overN := hits.length } }
  s.each hits (fun s i =>
    ((s.closeItem i.task .aborted false false).graphLoss i.task false).incR Reg.DRV_OVERRUN_TOTAL |>.raiseOnce fltOverrun (subjUnit 6 0 i.pool) 600)

/-- READY and SPILLED items past their deadline are shed, those of R410 carried (R411 step 2). -/
def State.shedLate (s : State) : State :=
  let late := (s.drv.readyW ++ s.drv.readyG ++ s.drv.spillW ++ s.drv.spillG).filter (fun e => decide (e.deadline ≤ s.now))
  s.each late (fun s e =>
    let st := (s.task e.task).st
    if !(st = .ready || st = .spilled) then s
    else if s.mayCarry e.task then
      let f (l : List ReadyEnt) := l.map (fun x => if x.task = e.task then { x with deadline := s.now + 1, from_ := s.now } else x)
      let s := { s with drv := { s.drv with readyW := f s.drv.readyW, readyG := f s.drv.readyG, spillW := f s.drv.spillW, spillG := f s.drv.spillG, carryN := s.drv.carryN + 1 } }
      (s.taskCount e.task 4).incR Reg.DRV_CARRIED_TOTAL
    else s.shedWithGraph e.task false)

/-- One pending write; it waits while its task is READY, SPILLED or RUNNING (R394). -/
def State.applyWrite (s : State) (w : TaskWrite) : State :=
  match w with
  | .graph n first count all bg =>
    { s with drv := { s.drv with graphs := tset {} s.drv.graphs n { first := first, count := count, allOrNone := all, background := bg } } }
  | .task n r =>
    let x := s.task n
    if x.st = .idle || x.st = .disabled then
      s.onTask n (fun x => { x with cfg := r, st := if r.enabled then .idle else .disabled })
    else { s with drv := { s.drv with writes := s.drv.writes ++ [w] } }

/-- The pending writes take effect (R411 step 3). -/
def State.applyWrites (s : State) (more : List TaskWrite) : State :=
  let ws := s.drv.writes ++ more
  ({ s with drv := { s.drv with writes := [] } }).each ws (fun s w => s.applyWrite w)

/-- Does a periodic task get its TICK flag at boundary `t` (R390)? -/
def TaskRec.ticks (r : TaskRec) (t : Nat) : Bool := r.enabled && r.period ≠ 0 && decide (r.phase ≤ t) && (t - r.phase) % r.period = 0

/-- TICK flags are set, then readiness is tested and the new entries placed (R411 steps 4 and 5). -/
def State.tickFlags (s : State) : State :=
  let ts := (s.drv.tasks.filter (fun e => e.2.cfg.ticks s.now)).map (·.1)
  let s := s.each ts (fun s t => s.onTask t (fun x => { x with cfg := { x.cfg with flags := x.cfg.flags ||| 0x80000000 } }))
  let ready := (s.drv.tasks.filter (fun e => e.2.st = .idle && e.2.cfg.waitMet)).map (·.1)
  (s.testTogether ready).serveTakers

/-- The tick counts and the busy shares of the tick that ended (R419, R421). `len` is its length in ns. -/
def State.drvCounts (s : State) (len : Nat) : State :=
  let s := ((s.setR Reg.DRV_TICK_DISPATCHED s.drv.dispN).setR Reg.DRV_TICK_SHED s.drv.shedN).setR Reg.DRV_TICK_OVERRUN s.drv.overN
  let s := s.setR Reg.DRV_TICK_CARRIED s.drv.carryN
  let s := s.each poolCodes (fun s p =>
    let n := (s.poolUnits p).length
    let full := n * poolWork p len
    s.setR (drvPool p) (putBits (Nat.min 10000 (if full = 0 then 0 else tget 0 s.drv.busy p * 10000 / full)) 24 16 n))
  { s with drv := { s.drv with dispN := 0, shedN := 0, overN := 0, carryN := 0, clock := 0, busy := [], outcomes := [] } }
where
  /-- The DRV_POOL register of a pool code. -/
  drvPool (p : Nat) : Nat := if p < 0x20 then Reg.DRV_POOL p else Reg.DRV_POOL_B (p - 0x20)

/-- The Drover's part of a boundary (R402, R411). `len` is the length of the tick that ended. -/
def State.drvBoundary (s : State) (len : Nat) (writes : List TaskWrite) : State :=
  let s := (s.overruns).shedLate
  let s := (s.drvCounts len).sweepSpill
  let graphs := s.drv.graphs.map (fun (k, g) => (k, { g with started := [], shed := [] }))
  ({ s with drv := { s.drv with graphs := graphs } }).applyWrites writes |>.tickFlags

end Sys2Proof.Machine
end

