-- ==== Sys2Proof/Config.lean ====
section
/-!
DEFINITION. The free values: results that the spec leaves to external standards or does not state. Every constant here
is opaque, so no proof can use a value of it (notes/assumptions 6).
-/

open Sys2Proof.Machine

namespace Sys2Proof.Config

/-- A fresh free number, for the counter of free values in the state. -/
opaque freeNat : Nat → Nat

/-- The state of an audio decoder of a codec after a frame (RFC 6716, G.711, G.722; R157, R171). -/
opaque audDecState : (codec state content : Nat) → Nat
/-- The samples of block `n` that a decoder in a state yields from a frame, converted to 48 kHz (R171, R174). -/
opaque audDecBlock : (codec state content n channels : Nat) → List Int
/-- The samples of a block that the codec's own concealment yields (R172). -/
opaque audConceal : (codec state channels : Nat) → List Int
/-- The level that direct measurement gives a tick of a frame (R164). -/
opaque audMeasure : (codec content n : Nat) → Nat
/-- A block faded in over its 80 samples (R173). -/
opaque fadeIn : List Int → List Int
/-- A block crossfaded over 80 samples into the one that follows (R175). -/
opaque crossfade : List Int → List Int → List Int
/-- Is the frame an encoder would give silence, under its dtx flag (R183)? -/
opaque audEncSilent : (codec bitrate flags state : Nat) → Bool
/-- The state of an audio encoder after a block of the fold's mix or of a member's output (R182). -/
opaque audEncState : (codec rate channels bitrate flags state : Nat) → List Int → Nat
/-- The name of the frame an encoder gives (R182). -/
opaque audEncContent : (codec bitrate flags state : Nat) → Nat
/-- The payload bytes of that frame (R182); Opus chooses them. -/
opaque audEncBytes : (codec bitrate flags state : Nat) → Nat
/-- Momentary loudness of 240 ticks of blocks in 0.1 LUFS (ITU-R BS.1770-4; R184); none below -70 LUFS. -/
opaque loudness : List (List Int) → Option Int
/-- The linear gain in unsigned Q3.13 of a gain in 0.25 dB steps (R185). -/
opaque gainLinear : Int → Nat
/-- The sample value of a ceiling given in 0.1 dB below full scale (R159, R181). -/
opaque ceilingSample : Nat → Nat
/-- The limiter's gain, in 0.01 dB below 1.0, that brings a peak to a ceiling (R181). -/
opaque limiterAtt : (peak ceiling : Nat) → Nat
/-- Sample `n` of a block scaled while the gain, in 0.01 dB below 1.0, goes from one value to another by a linear ramp
over the first 8 samples (R181). -/
opaque limiterScale : (attFrom attTo n : Nat) → Int → Int

/-- A sample of a decoded picture, named by its stream, the tick and the store generation of its decoding, the plane and
the position: the decoding processes of the codecs' standards give it (R204). -/
opaque decodedSample : (entry tick : Nat) → (gen : BitVec 32) → (plane x y : Nat) → Nat
/-- A sample in BT.709 limited range (R265), from the matrix of the scaler record (empty for none), whether the source is in
full range, its bit depth, which sample of the 2 × 2 group it is (0 to 3 luma, 4 Cb, 5 Cr), and the group's four luma and
two chroma samples. -/
opaque to709 : (matrix : List Int) → (fullRange : Bool) → (depth position : Nat) → (group : List Nat) → Nat

/-- The 24-bit check value of a 256-bit key: the first three bytes of AES-256 under it of an all-zero block (R130). -/
opaque keyCheck : BitVec 256 → BitVec 24

/-- The CRC-64 of a leg's packets extended by one packet (ECMA-182, as used by XZ; R535): the digest so far, the traffic
class, and what names the packet's plaintext from its RTP or RTCP header onward. -/
opaque digestStep : (digest : BitVec 64) → (cls ssrc seq ts len content : Nat) → BitVec 64

/-- The bytes of the retransmission history that each stream entry's history may take; the manual gives no size (R97). -/
opaque historyRegion : Nat → Nat

/-- Does the device send a sender report for an outbound stream entry in a tick? The manual says what a report carries
(R493) and not when one is sent. -/
opaque reportDue : (entry tick : Nat) → Bool

/-- The device's 64-bit serial number (R16). -/
opaque serial : BitVec 64

end Sys2Proof.Config
end

