-- ==== Sys2Proof/Machine/NetOps.lean ====
section
/-!
DEFINITION. Packet-engine operations that several families use: drop causes, per-leg receive counters, the local
address table, sides of a port pair, announcements, and packets handed to egress.
-/

namespace Sys2Proof.Machine

/-- A packet or frame dropped by the packet engine for cause `n` (R107). -/
def State.dropNet (s : State) (n : Nat) : State := s.incR (Reg.NET_PE_DROP n)

/-- Receive counter `n` of a leg advanced, wrapping at 2^32 (R110). -/
def State.rxCount (s : State) (l n : Nat) (k : Nat := 1) : State :=
  s.onLeg l (fun g => { g with rxCtr := tmod 0 g.rxCtr n (fun v => (v + k) % 2 ^ 32) })

/-- Legs that are not IDLE, ascending. -/
def State.liveLegs (s : State) : List Nat := (s.legs.filter (fun e => e.2.state != .idle)).map (·.1)

/-- The legs of fold `f` that have been admitted, ascending. -/
def State.foldLegs (s : State) (f : Nat) : List Nat :=
  (s.legs.filter (fun e => e.2.state != .idle && e.2.state != .admitting && e.2.desc.fold = f)).map (·.1)

/-- rtt_ticks of a leg: the mean of its last 8 values rounded up, 60 before the first (R94). -/
def LegRt.rttTicks (g : LegRt) : Nat := if g.rtt = [] then 60 else ceilDiv (sumN g.rtt) g.rtt.length

/-- Does this device hold the entry of the local address table (R534)? -/
def State.holdsAddr (s : State) (e : AddrEnt) : Bool :=
  if !s.twn.paired then true
  else match s.twn.hold with
    | some b => b
    | none => if s.twn.cross then e.ownerB == s.twn.roleB else s.twn.authSelf

/-- The entry of the local address table for an address on a pair, if this device holds it (R65, R67 step 6, R534). -/
def State.localEntry (s : State) (pair vid : Nat) (a : BitVec 128) : Option AddrEnt :=
  s.net.addrs.find? (fun e => e.pair = pair && e.vid = vid && e.addr = a && s.holdsAddr e)

/-- Sub-ports of a port mode and the rate of each in Gb/s (R61, R101). -/
def modeSubports : Nat → Nat × Nat
  | 1 => (4, 10) | 2 => (4, 10) | 3 => (4, 25) | 4 => (4, 25) | 5 => (4, 25)
  | 6 => (2, 50) | 7 => (1, 100) | 8 => (1, 100) | 9 => (1, 100)
  | _ => (0, 0)

/-- Mode code of port `p` (R103). -/
def State.portMode (s : State) (p : Nat) : Nat := s.getF (Reg.NET_PORT_MODE p) 3 0

/-- The sub-ports of port `p` that are up, ascending (R63, R104); none while its module keeps it at electrical idle (R598,
R603). -/
def State.upSubports (s : State) (p : Nat) : List Nat :=
  if (s.port p).moduleHold then [] else (upTo (modeSubports (s.portMode p)).1).filter (fun n => bit (s.getF (Reg.NET_PORT_STATUS p) 3 0) n)

/-- Is port `p` up: in use, with no lane in use out of lock (R64)? -/
def State.portUp (s : State) (p : Nat) : Bool :=
  let n := (modeSubports (s.portMode p)).1
  n != 0 && (s.upSubports p).length = n

/-- The port on which a leg transmits now (R62, R64). -/
def State.legPort (s : State) (l : Nat) : Nat :=
  let g := s.leg l
  g.desc.portPair + (if g.sideB then 8 else 0)

/-- The sub-port on which leg `l` transmits in this tick; none while no sub-port of its port is up (R63). -/
def State.legSubport (s : State) (l : Nat) : Option Nat :=
  let ups := s.upSubports (s.legPort l)
  if ups = [] then none else ups[l % ups.length]?

/-- Bytes of a packet's RTP header extension: the device's own transport-wide sequence number and absolute send time,
in the one-byte form (R83, R346). -/
def StreamEntry.extLen (d : StreamEntry) : Nat :=
  let n := (if d.extTwcc = 0 then 0 else 3) + (if d.extAbs = 0 then 0 else 4)
  if n = 0 then 0 else 4 + ceilDiv n 4 * 4

/-- The IP length of an RTP packet of leg `l` on entry `e` with a payload of `n` bytes (R28, R83, R134). -/
def State.rtpLen (s : State) (l e n : Nat) : Nat :=
  let d := (s.leg l).desc
  n + 12 + (s.stream e).desc.extLen + (if d.ip6 then 48 else 28) + (if d.legacy then 10 else 16)

/-- A packet written by a packetiser for egress tick `t`, in line for PACKET_ENQUEUE (R26, R363). -/
def State.packetiseAt (s : State) (t : Nat) (p : EgPkt) : State :=
  { s with egs := { s.egs with packetised := s.egs.packetised ++ [{ p with tick := t }] } }

/-- A packet that enters egress in this tick. -/
def State.packetise (s : State) (p : EgPkt) : State := s.packetiseAt s.now p

/-- The RTP clock of an outbound stream in tick `t` (R492). -/
def rtpClock (x : TxStream) (rate t : Nat) : Nat :=
  ((x.tsBase : Int) + ((t : Int) - x.startTick) * rate / 600).toNat % 2 ^ 32

/-- A port-queue packet of class `c` on port `p` (R362): `what` 1 ARP, 2 Neighbour Advertisement, 3 STUN success,
4 STUN error 487, 5 PTP, 6 DTLS, 7 host packet. -/
def State.packetisePort (s : State) (p c what len : Nat) (leg : Option Nat := none) : State :=
  s.packetise { leg := leg, port := p, cls := c, kind := .plain what, len := len }

/-- Bytes of an announcement: a gratuitous ARP or an unsolicited Neighbour Advertisement (R65). -/
def announceLen (e : AddrEnt) : Nat := if e.ip6 then 72 else 28

/-- An announcement sent now for address entry `i` on a side, with repeats 60 and 600 ticks later (R65). -/
def State.announce (s : State) (i : Nat) (sideB : Bool) : State :=
  match s.net.addrs[i]? with
  | none => s
  | some e =>
    let s := s.packetisePort (e.pair + if sideB then 8 else 0) 7 (if e.ip6 then 2 else 1) (announceLen e)
    let later (n : Nat) : Announce := { entry := i, pair := e.pair, sideB := sideB, due := s.now + n }
    { s with net := { s.net with announce := s.net.announce ++ [later 60, later 600] } }

/-- The index of the entry of the local address table that a leg uses. -/
def State.addrIndex (s : State) (l : Nat) : Option Nat :=
  let d := (s.leg l).desc
  s.net.addrs.findIdx? (fun e => e.pair = d.portPair && e.addr = d.localAddr && e.vid = (if d.tagged then d.vid else 0))

/-- The legs `ls` take side `b` of their pair; each address of theirs is announced once on the new side (R64, R65). -/
def State.moveSide (s : State) (ls : List Nat) (b : Bool) : State :=
  let s := s.each ls (fun s l => s.onLeg l (fun g => { g with sideB := b }))
  s.each (dedup (ls.filterMap s.addrIndex)) (fun s i => s.announce i b)

/-- NET SIDE_SWITCH (R100). -/
def fltSideSwitch : Nat := faultCode 3 1 2
/-- NET LANE_LOST (R100). -/
def fltLaneLost : Nat := faultCode 3 3 1
/-- NET PAIR_DOWN (R100). -/
def fltPairDown : Nat := faultCode 3 3 3
/-- NET FEC_ERRORS (R100). -/
def fltFecErrors : Nat := faultCode 3 0 4
/-- NET PUNT_OVERFLOW (R100). -/
def fltPuntOverflow : Nat := faultCode 3 0 5
/-- NET HISTORY_EVICT (R100). -/
def fltHistoryEvict : Nat := faultCode 3 0 6

/-- Legs that transmit on port `p`. -/
def State.legsOn (s : State) (p : Nat) : List Nat := s.liveLegs.filter (fun l => s.legPort l = p)

/-- The boundary's part of R64 for port `p`, whose legs were `ls`: when it is down, or has been down since the last boundary
(`gone`), they move to the other side of the pair if that port is up; while both ports are down they are on their home sides. -/
def State.portMove (s : State) (p : Nat) (gone : Bool) (ls : List Nat) : State :=
  let other := (p + 8) % 16
  if ls = [] || (s.portUp p && !gone) then s
  else if s.portUp other then (s.moveSide ls (decide (8 ≤ other))).raise fltSideSwitch (subjInst 3 p)
  else if s.portUp p then s
  else s.each ls (fun s l => s.onLeg l (fun g => { g with sideB := g.desc.homeB }))

/-- The boundary's part of R64: the legs move as their ports are up or down, and PAIR_DOWN is raised for a pair whose second
port went down. [DESIGN CHOICE, notes/assumptions 17] -/
def State.portMoves (s : State) : State :=
  let gone (p : Nat) : Bool := (s.port p).goneDown
  let lost := (upTo 8).filter (fun q => (gone q || gone (q + 8)) && !s.portUp q && !s.portUp (q + 8))
  let plan := (upTo 16).map (fun p => (p, gone p, s.legsOn p))
  let s := s.each (upTo 16) (fun s p => s.onPort p (fun x => { x with goneDown := false }))
  let s := s.each plan (fun s e => s.portMove e.1 e.2.1 e.2.2)
  s.each lost (fun s q => s.raise fltPairDown (subjInst 3 q))

/-- A packet given to the host's punt ring; when it does not fit it is dropped, counted, and PUNT_OVERFLOW is raised
(R69, R641). -/
def State.puntItem (s : State) (it : PuntItem) : State :=
  if s.ringFits 33 it.length then s.ringPut 33 it.length (.punt it)
  else (s.ringDrop 33).raise fltPuntOverflow subjNone

/-- A destination MAC address that is a port's own, broadcast or a listed group passes R67 step 3. A port's own addresses
are those of the local address table's entries for its pair (R65). [DESIGN CHOICE, notes/assumptions 48] -/
def State.dstOk (s : State) (p : Nat) : DstMac → Bool
  | .station m => s.net.addrs.any (fun e => e.pair = p % 8 && e.mac = m)
  | .broadcast => true
  | .listedGroup => true
  | .otherGroup => false

end Sys2Proof.Machine
end

