-- ==== Sys2Proof/Machine/CipOps.lean ====
section
/-!
DEFINITION. The cipher engine and key store (03) as operations: slots and their drains, pipelines, inbound decryption and
outbound encryption. A tag verifies under exactly the session keys and index it was made with (notes/assumptions 7).
-/

namespace Sys2Proof.Machine

/-- CIP KAT_FAIL (R145). -/
def fltKatFail : Nat := faultCode 4 3 1
/-- CIP KEY_STORE_ECC (R145). -/
def fltKeyStoreEcc : Nat := faultCode 4 1 2
/-- CIP KEY_STORE_CORRECTED (R145). -/
def fltKeyStoreCorrected : Nat := faultCode 4 0 3
/-- CIP GENERATION_WRITE (R145). -/
def fltGenerationWrite : Nat := faultCode 4 4 4

/-- The session keys of a key record, named by the master key and salt they are derived from (R115). -/
def keyName (r : KeyRecord) : Nat := r.masterKey.toNat * 2 ^ 112 + r.masterSalt.toNat

/-- What a slot holds, as a key to install. -/
def KeySlot.asKey (k : KeySlot) : SlotKey :=
  { suite := k.suite, kek := k.kek, keyId := k.keyId, activate := k.activate, activateRtcp := k.activateRtcp
    maxIndex := k.maxIndex, maxRtcp := k.maxRtcp, expire := k.expire, generation := k.generation }

/-- A rewrite (some key) or an erase (none) of slot `n` is accepted: the slot drains (R138). -/
def State.drainSlot (s : State) (n : Nat) (key : Option SlotKey) (reply : Option ReplyTo := none)
    (promoteFrom : Option Nat := none) : State :=
  s.onSlot n (fun k => { k with draining := true, install := key, reply := reply, promoteFrom := promoteFrom })

/-- Slot `n` is erased under R138 when it holds or is receiving a key; a load whose key was still to be installed ends
ABORTED (R125, R126). -/
def State.eraseSlot (s : State) (n : Nat) : State :=
  let k := s.slot n
  let s := match k.reply with
    | some rto => if k.draining then (s.incR (Reg.CIP_KS_RESULT 9)).reply rto stAborted else s
    | none => s
  if k.valid || k.draining then s.drainSlot n none else s

/-- The four slots of a leg are erased (R29, R139). -/
def State.eraseLegSlots (s : State) (l : Nat) : State := s.each (upTo 4) (fun s i => s.eraseSlot (4 * l + i))

/-- The generation stored for slot `n` (R124). -/
def State.storedGen (s : State) (n : Nat) : Nat := tget 0 s.tly.gens n

/-- Slot `n`'s generation is raised to `g` and committed with the seven others of its record (R124, R664). -/
def State.storeGen (s : State) (n g : Nat) : State :=
  let s := { s with tly := { s.tly with gens := tset 0 s.tly.gens n g } }
  s.tallyCommit 4 (n / 8) 32 ((upTo 8).map (fun i => (4, tget 0 s.tly.gens (n / 8 * 8 + i))))

/-- The drain of slot `n` ends: the new key is installed, or the slot is zeroised; a promotion then erases the next slot;
the load's reply is sent after its generation is stored (R124, R133, R138). -/
def State.endDrain (s : State) (n : Nat) : State :=
  let k := s.slot n
  if !k.draining then s
  else match k.install with
    | none => s.onSlot n (fun _ => {})
    | some x =>
      let s := s.onSlot n (fun _ =>
        { valid := true, suite := x.suite, kek := x.kek, keyId := x.keyId, activate := x.activate
          activateRtcp := x.activateRtcp, maxIndex := x.maxIndex, maxRtcp := x.maxRtcp, expire := x.expire
          generation := x.generation, used := k.promoteFrom.isSome })
      match k.promoteFrom with
      | some nx => s.onSlot nx (fun _ => {})
      | none =>
        let s := s.storeGen n x.generation
        let s := s.incR (Reg.CIP_KS_RESULT 0)
        match k.reply with
        | some rto => s.reply rto stOK
        | none => s

/-- Promotion: the next key of slot `nx` is to be installed in the current slot `nx - 1`, whose stored generation rises
before the drain ends (R133). -/
def State.promote (s : State) (nx : Nat) : State :=
  let cur := nx - 1
  let k := s.slot nx
  if (s.slot cur).draining then s
  else
    let s := if s.storedGen cur < k.generation then s.storeGen cur k.generation else s
    s.drainSlot cur (some { k.asKey with activate := 0, activateRtcp := 0 }) none (some nx)

/-! ### Pipelines (R111 to R113, R144, R146 to R149) -/

/-- Is pipeline `p` fenced (R146)? -/
def State.pipeFenced (s : State) (p : Nat) : Bool := s.getF (Reg.CIP_PIPE_STATUS p) 0 0 = 1

/-- The pipelines of a direction that can take a packet: not fenced, and with an HMAC unit for the legacy suite
(R112). -/
def State.pipes (s : State) (outbound legacy : Bool) : List Nat :=
  let base := if outbound then 8 else 0
  ((upTo (if legacy then 4 else 8)).map (· + base)).filter (fun p => !s.pipeFenced p)

/-- The pipeline of the direction that holds the fewest blocks, ties to the lowest number (R112). -/
def State.pickPipe (s : State) (outbound legacy : Bool) : Option Nat :=
  (s.pipes outbound legacy).foldl (fun best p =>
    match best with
    | none => some p
    | some b => if tget 0 s.cip.pipeBlocks p < tget 0 s.cip.pipeBlocks b then some p else best) none

/-- A packet of `n` protected bytes enters pipeline `p` at R111's cost. [DESIGN CHOICE, notes/assumptions 33] -/
def State.chargePipe (s : State) (p n : Nat) : State :=
  let c := ceilDiv n 16 + 3
  { s with cip := { s.cip with pipeCycles := tmod 0 s.cip.pipeCycles p (· + c), pipeBlocks := tmod 0 s.cip.pipeBlocks p (· + ceilDiv n 16) } }

/-- A packet dropped by the engine for cause `n`, counted in every pipeline register of its direction (R149).
[DESIGN CHOICE, notes/assumptions 33] -/
def State.dropCip (s : State) (outbound : Bool) (n : Nat) : State :=
  s.each (upTo 8) (fun s p => s.incR (Reg.CIP_PIPE_DROP (p + if outbound then 8 else 0) n))

/-- A packet that completed with good authentication (R148). [DESIGN CHOICE, notes/assumptions 33] -/
def State.countPipe (s : State) (p n : Nat) : State :=
  (s.incR64 (Reg.CIP_PIPE_PACKETS p)).incR64 (Reg.CIP_PIPE_BYTES p) n

/-! ### Inbound (R131 to R137) -/

/-- The SRTP index that RFC 3711 Appendix A estimates for a sequence number (R134 step 1). -/
def estimateIndex (rx : SrtpRx) (seq : Nat) : Nat :=
  if !rx.started then seq
  else
    let sl := rx.highest % 65536
    let roc := rx.highest / 65536
    let v := if sl < 32768 then (if sl + 32768 < seq then (roc + 2 ^ 32 - 1) % 2 ^ 32 else roc)
      else (if seq < sl - 32768 then (roc + 1) % 2 ^ 32 else roc)
    v * 65536 + seq

/-- The slot that an inbound packet uses: next when it is valid and the index has reached its activation (R131). -/
def State.slotIn (s : State) (l : Nat) (rtcp : Bool) (i : Nat) : Nat :=
  let nx := s.slot (4 * l + 1)
  if nx.valid && decide ((if rtcp then nx.activateRtcp else nx.activate) ≤ i) then 4 * l + 1 else 4 * l

/-- The tag length of a leg (R114, R134). -/
def tagLen (legacy : Bool) : Nat := if legacy then 10 else 16

/-- Is index `i` fresh for a replay window of 128 (R134 step 5)? -/
def fresh (started : Bool) (highest : Nat) (window : List Nat) (i : Nat) : Bool :=
  !started || (decide (highest < i + 128) && !window.contains i)

/-- An index entered into a window of 128 (R134 step 7). -/
def windowAdd (highest : Nat) (window : List Nat) (i : Nat) : List Nat :=
  let hi := Nat.max highest i
  insertAsc i (window.filter (fun j => decide (hi < j + 128)))

/-- R137: an authentication failure of leg `l`; AUTH_FAILURES once per window of 600 ticks with more than 100. -/
def State.authFail (s : State) (l : Nat) : State :=
  let g := s.leg l
  let fresh := decide (g.authFrom + 600 ≤ s.now) || g.authFails = 0
  let n := if fresh then 1 else g.authFails + 1
  let told := if fresh then false else g.authTold
  let tell := decide (100 < n) && !told
  let s := s.onLeg l (fun g => { g with authFails := n, authFrom := if fresh then s.now else g.authFrom, authTold := told || tell })
  if tell then s.notify 0x8006 0 (subjLeg l) [(4, n)] else s

/-- What the read of slot `n` shows: an error only where the slot holds a key and grants context loads (R120, R138). -/
def State.eccOf (s : State) (n ecc : Nat) : Nat := if (s.slot n).valid && !(s.slot n).draining then ecc else 0

/-- An ECC error on a slot read: 1 corrected, 2 uncorrectable; an uncorrectable one erases the slot (R120). -/
def State.slotEcc (s : State) (ecc n l : Nat) : State :=
  if ecc = 1 then s.raise fltKeyStoreCorrected (subjSlot n)
  else if ecc = 2 then (s.eraseSlot n).raise fltKeyStoreEcc (subjLeg l)
  else s

/-- R134 steps 2 to 6 for an inbound packet of leg `l` of `len` protected bytes with index `i`: the drop cause, or the
slot and pipeline used. [DESIGN CHOICE, notes/assumptions 7] -/
def State.checkIn (s : State) (l : Nat) (rtcp : Bool) (len minLen i : Nat) (started : Bool) (highest : Nat)
    (window : List Nat) (tag : AuthTag) (ecc : Nat) : Except Nat (Nat × Nat) :=
  let n := s.slotIn l rtcp i
  let k := s.slot n
  if ecc = 2 then .error 4
  else if k.draining then .error 5
  else if !k.valid then .error 4
  else if len < minLen then .error 3
  else if (if rtcp then k.maxRtcp else k.maxIndex) ≤ i then .error 2
  else if k.expire != 0 && decide (k.expire ≤ s.now) then .error 6
  else if !fresh started highest window i then .error 1
  else match s.pickPipe false (k.suite = 3) with
    | none => .error 8
    | some p => if tag.key = k.keyId && tag.suite = k.suite && tag.index = i then .ok (n, p) else .error (16 + p)

/-- What R133 and the counters do for a good inbound packet under slot `n` in pipeline `p`. -/
def State.goodIn (s : State) (l n p len : Nat) (rtcp : Bool) (i : Nat) : State :=
  let k := s.slot n
  let s := (s.chargePipe p len).countPipe p len
  let s := if k.used then s else s.onSlot n (fun k => { k with used := true })
  if n = 4 * l + 1 && decide ((if rtcp then k.activateRtcp else k.activate) + 128 ≤ i) then s.promote n else s

/-- The effect of a failed check: the drop, and for a failed tag the pipeline's work and R137. The rollover counter, the
replay window and the sequence state stay, and the packet is not delivered: its poisoned end mark has every consumer discard
it (R135, R136). -/
def State.badIn (s : State) (l len cause : Nat) : State :=
  if 16 ≤ cause then ((s.chargePipe (cause - 16) len).dropCip false 0).authFail l
  else if cause = 8 then s
  else s.dropCip false cause

/-- The inbound entry of leg `l` with this SSRC (R83, R84). -/
def State.inboundEntry (s : State) (l ssrc : Nat) : Option Nat :=
  let d := (s.leg l).desc
  (fromTo d.streamBase (d.streamBase + d.streamCount)).find? (fun e => let x := (s.stream e).desc; x.inbound && x.ssrc = ssrc)

/-- The outbound entry of leg `l` with this SSRC. -/
def State.outboundEntry (s : State) (l ssrc : Nat) : Option Nat :=
  let d := (s.leg l).desc
  (fromTo d.streamBase (d.streamBase + d.streamCount)).find? (fun e => let x := (s.stream e).desc; x.outbound && x.ssrc = ssrc)

/-- The entries of leg `l`. -/
def State.entries (s : State) (l : Nat) : List Nat :=
  let d := (s.leg l).desc
  fromTo d.streamBase (d.streamBase + d.streamCount)

/-- An inbound SRTP packet through the engine (R134): the state, and whether it was delivered.
[DESIGN CHOICE, notes/assumptions 6, 7] -/
def State.decryptRtp (s : State) (l len : Nat) (tag : AuthTag) (r : RtpFacts) (ecc : Nat) : Bool × State :=
  let legacy := (s.leg l).desc.legacy
  let e := s.inboundEntry l r.ssrc
  let rx : SrtpRx := match e with | some e => (s.stream e).rx | none => {}
  if len < 12 then (false, s.dropCip false 3)
  else
    let i := estimateIndex rx r.seq
    let ecc := s.eccOf (s.slotIn l false i) ecc
    let s := s.slotEcc ecc (s.slotIn l false i) l
    match s.checkIn l false len (r.headerLen + tagLen legacy) i rx.started rx.highest rx.window tag ecc with
    | .error c => (false, s.badIn l len c)
    | .ok (n, p) =>
      let s := match e with
        | some e => s.onStream e (fun x => { x with rx := { x.rx with
            started := true, highest := if x.rx.started then Nat.max x.rx.highest i else i, roc := (if x.rx.started then Nat.max x.rx.highest i else i) / 65536
            window := windowAdd x.rx.highest x.rx.window i } })
        | none => s
      (true, s.goodIn l n p len false i)

/-- An inbound SRTCP packet through the engine, with the E flag 0 or 1 (R116, R134). [DESIGN CHOICE, notes/assumptions 7] -/
def State.decryptRtcp (s : State) (l len index : Nat) (tag : AuthTag) (ecc : Nat) : Bool × State :=
  let g := s.leg l
  let min := 12 + tagLen g.desc.legacy
  if len < min then (false, s.dropCip false 3)
  else
    let ecc := s.eccOf (s.slotIn l true index) ecc
    let s := s.slotEcc ecc (s.slotIn l true index) l
    match s.checkIn l true len min index (g.eg.srtcpWindow != []) g.eg.srtcpIn g.eg.srtcpWindow tag ecc with
    | .error c => (false, s.badIn l len c)
    | .ok (n, p) =>
      let s := s.onLeg l (fun g => { g with eg := { g.eg with
        srtcpIn := Nat.max g.eg.srtcpIn index, srtcpWindow := windowAdd g.eg.srtcpIn g.eg.srtcpWindow index } })
      (true, s.goodIn l n p len true index)

/-! ### Outbound (R132, R140 to R142) -/

/-- The slot that an outbound packet uses now (R132). -/
def State.slotOut (s : State) (l : Nat) : Nat :=
  let nx := s.slot (4 * l + 3)
  if nx.valid && decide (nx.activate ≤ s.now) then 4 * l + 3 else 4 * l + 2

/-- The index of stream `e`'s packet with sequence number `seq` (R140): ROC rises when SEQ falls below the previous. -/
def outIndex (t : TxStream) (seq : Nat) : Nat :=
  match t.lastSeq with
  | some q => (if seq < q then t.roc + 1 else t.roc) * 65536 + seq
  | none => t.roc * 65536 + seq

/-- The checks of R138 and R141 on an outbound packet of `len` protected IP bytes with index `i` under slot `n`. -/
def State.checkOut (s : State) (n len i : Nat) (rtcp : Bool) (ecc : Nat) : Except Nat Nat :=
  let k := s.slot n
  if ecc = 2 then .error 4
  else if k.draining then .error 5
  else if !k.valid then .error 4
  else if 9216 < len then .error 3
  else if (if rtcp then k.maxRtcp else k.maxIndex) ≤ i then .error 2
  else if k.expire != 0 && decide (k.expire ≤ s.now) then .error 6
  else match s.pickPipe true (k.suite = 3) with
    | some p => .ok p
    | none => .error 8

/-- KEY_LOW and KEY_EXHAUSTED of R141 for stream `e` of leg `l` at index `i`. -/
def State.keyWarn (s : State) (l e i max : Nat) (limit : Bool) : State :=
  let t := (s.stream e).tx
  if limit then
    if t.exhaustedTold then s
    else (s.onStream e (fun x => { x with tx := { x.tx with exhaustedTold := true } })).notify 0x8008 0 (subjLeg l) [(2, e), (6, i)]
  else if max ≤ i + 1048576 && !t.keyLowTold then
    (s.onStream e (fun x => { x with tx := { x.tx with keyLowTold := true } })).notify 0x8007 0 (subjLeg l) [(2, e), (6, i)]
  else s

/-- An outbound SRTP packet of stream `e` through the engine: the index it was sent under, none when it was dropped;
its sequence number and index are consumed either way (R140, R141). -/
def State.encryptRtp (s : State) (l e seq len ecc : Nat) : Option Nat × State :=
  let i := outIndex (s.stream e).tx seq
  let n := s.slotOut l
  let ecc := s.eccOf n ecc
  let s := s.slotEcc ecc n l
  let k := s.slot n
  let s := s.onStream e (fun x => { x with tx := { x.tx with roc := i / 65536, lastSeq := some seq, lastIndex := i } })
  match s.checkOut n len i false ecc with
  | .error c =>
    let s := if c = 8 then s else s.dropCip true c
    (none, if c = 2 then s.keyWarn l e i k.maxIndex true else s)
  | .ok p =>
    let s := (s.chargePipe p len).countPipe p len
    let s := if k.used then s else s.onSlot n (fun k => { k with used := true })
    let s := s.onStream e (fun x => { x with tx := { x.tx with used := true } })
    let s := if n = 4 * l + 3 then s.promote n else s
    (some i, s.keyWarn l e i k.maxIndex false)

/-- An outbound SRTCP packet of leg `l`: it takes the next SRTCP index (R140). -/
def State.encryptRtcp (s : State) (l len ecc : Nat) : Option Nat × State :=
  let i := (s.leg l).eg.srtcpIndex + 1
  let n := s.slotOut l
  let ecc := s.eccOf n ecc
  let s := s.slotEcc ecc n l
  let s := s.onLeg l (fun g => { g with eg := { g.eg with srtcpIndex := i } })
  match s.checkOut n len i true ecc with
  | .error c => (none, if c = 8 then s else s.dropCip true c)
  | .ok p =>
    let s := (s.chargePipe p len).countPipe p len
    let s := if (s.slot n).used then s else s.onSlot n (fun k => { k with used := true })
    (some i, if n = 4 * l + 3 then s.promote n else s)

end Sys2Proof.Machine
end

