-- ==== Sys2Proof/Machine/Aud.lean ====
section
/-!
DEFINITION. Audio: bellwether selection and mixing (04). Ranking, scores, the list, the mix and its processing are
integer arithmetic as the spec writes it; codecs, resampling and the limiter's gain curve are uninterpreted (Config).
-/

namespace Sys2Proof.Machine

/-! ### Records and configurations (R156 to R161) -/

/-- hysteresis_db, 0 selecting 6 (R159). -/
def AudioRec.hyst (a : AudioRec) : Nat := if a.hysteresis = 0 then 6 else a.hysteresis
/-- hold_ticks, 0 selecting 12. -/
def AudioRec.hold (a : AudioRec) : Nat := if a.holdTicks = 0 then 12 else a.holdTicks
/-- act_level, 0 selecting 50. -/
def AudioRec.act (a : AudioRec) : Nat := if a.actLevel = 0 then 50 else a.actLevel
/-- lead_hold, 0 selecting 120. -/
def AudioRec.lead (a : AudioRec) : Nat := if a.leadHold = 0 then 120 else a.leadHold
/-- cn_level, 0 selecting 70. -/
def AudioRec.cn (a : AudioRec) : Nat := if a.cnLevel = 0 then 70 else a.cnLevel
/-- limiter_ceiling, 0 selecting 10. -/
def AudioRec.ceiling (a : AudioRec) : Nat := if a.limiterCeiling = 0 then 10 else a.limiterCeiling

/-- bellwether_k, 0 selecting 4 (R35). -/
def FoldDesc.k (d : FoldDesc) : Nat := if d.bellwetherK = 0 then 4 else d.bellwetherK

/-- Sample rate of a rate code in Hz (R160). -/
def rateHz : Nat → Nat
  | 0 => 8000 | 1 => 16000 | 2 => 24000 | 3 => 32000 | _ => 48000

/-- Is the frame size valid for a codec at a rate (R158)? -/
def frameTicksOk (codec rate ticks : Nat) : Bool :=
  ticks * rateHz rate % 600 = 0 &&
  (match codec with
   | 1 => ticks = 3 || ticks = 6 || ticks = 12 || ticks = 24 || ticks = 36
   | 2 => ticks = 6 || ticks = 12 || ticks = 18
   | 3 => ticks = 6 || ticks = 12 || ticks = 18
   | 4 => ticks = 6 || ticks = 12 || ticks = 18
   | 5 => decide (3 ≤ ticks ∧ ticks ≤ 36) && (if rate = 0 || rate = 1 || rate = 3 then ticks % 3 = 0 else true)
   | _ => false)

/-- Is a configuration entry valid (R157, R158, R160)? -/
def AudioCfg.ok (c : AudioCfg) : Bool :=
  !c.reserved && frameTicksOk c.codec c.rate c.frameTicks &&
  (match c.codec with
   | 1 => (c.channels = 1 || c.channels = 2) && (c.rate = 0 || c.rate = 1 || c.rate = 2 || c.rate = 4)
     && decide (6000 ≤ c.bitrate ∧ c.bitrate ≤ 510000)
   | 2 => c.channels = 1 && c.rate = 0 && c.bitrate = 0 && !c.fec && !c.dtx && !c.cbr
   | 3 => c.channels = 1 && c.rate = 0 && c.bitrate = 0 && !c.fec && !c.dtx && !c.cbr
   | 4 => c.channels = 1 && c.rate = 1 && c.bitrate = 0 && !c.fec && !c.dtx && !c.cbr
   | 5 => (c.channels = 1 || c.channels = 2) && decide (c.rate ≤ 4) && c.bitrate = 0 && !c.fec && !c.dtx && !c.cbr
   | _ => false)

/-- Is an audio record valid (R159, R160)? -/
def AudioRec.ok (a : AudioRec) : Bool :=
  !a.reserved && decide (a.margin ≤ 8 ∧ a.hysteresis ≤ 20 ∧ a.actLevel ≤ 127 ∧ a.leadHold ≤ 600 ∧ a.limiterCeiling ≤ 60)
    && (a.holdTicks = 0 || decide (6 ≤ a.holdTicks ∧ a.holdTicks ≤ 120))
    && (a.cnLevel = 0 || decide (40 ≤ a.cnLevel ∧ a.cnLevel ≤ 127))
    && decide (1 ≤ a.configs.length ∧ a.configs.length ≤ 8) && a.configs.all (·.ok)

/-- Channels of the fold's mix: 2 when any configuration has 2 (R156). -/
def AudioRec.mixChannels (a : AudioRec) : Nat := if a.configs.any (fun c => c.channels = 2) then 2 else 1

/-- Configuration `n` of a fold's audio record. -/
def AudioRec.config (a : AudioRec) (n : Nat) : AudioCfg := a.configs[n]?.getD {}

/-- Opus flag byte of a configuration (R160). -/
def AudioCfg.flags (c : AudioCfg) : Nat := b2n c.fec + 2 * b2n c.dtx + 4 * b2n c.cbr

/-- The inbound audio entry of a leg. -/
def State.audioIn (s : State) (l : Nat) : Option Nat :=
  (s.entries l).find? (fun e => let d := (s.stream e).desc; d.kind = 0 && d.inbound)
/-- The outbound audio entry of a leg. -/
def State.audioOut (s : State) (l : Nat) : Option Nat :=
  (s.entries l).find? (fun e => let d := (s.stream e).desc; d.kind = 0 && d.outbound)

/-- Is leg `l` a candidate of its fold (R162)? -/
def State.candidateLeg (s : State) (l : Nat) : Bool :=
  let g := s.leg l
  g.state = .active && g.desc.hasAudio && !g.aud.muted && (s.audioIn l).isSome

/-! ### Levels and scores (R163 to R165) -/

/-- The level of a block in -dBov: the x from 0 to 127 nearest to -10 log10(mean square / full-scale square), found
exactly by comparing 20th powers (R164). Full scale is 2^23. -/
def blockLevel (b : List Int) : Nat :=
  let sum := (b.foldl (fun a x => a + x * x) 0).toNat
  let den := Nat.max 1 b.length * 2 ^ 46
  ((upTo 128).find? (fun x => decide (den ^ 20 ≤ sum ^ 20 * 10 ^ (2 * x + 1)))).getD 127

/-- Blocks of 80 samples in a received frame (R21, R22). -/
def frameBlocks (duration clock : Nat) : Nat := duration * 600 / Nat.max 1 clock

/-- The packet of the frame that covers tick `t`, and the tick's place in it (R163). -/
def StreamRt.covering (r : StreamRt) (t : Nat) : Option (RtpFacts × Nat) :=
  match r.jit.released with
  | [] => none
  | p :: _ =>
    if r.jit.releasedTick ≤ t ∧ t < r.jit.releasedTick + Nat.max 1 (frameBlocks p.rtp.duration r.desc.clockRate) then
      some (p.rtp, t - r.jit.releasedTick)
    else none

/-- Level and voice flag of a candidate in this tick (R163, R164). -/
def State.levelOf (s : State) (l : Nat) : Nat × Bool :=
  match s.audioIn l with
  | none => (127, false)
  | some e =>
    let r := s.stream e
    match r.covering s.now with
    | none => (127, false)
    | some (p, n) =>
      if r.desc.extLevel ≠ 0 then p.level.getD (127, false)
      else if r.desc.codec = 1 then (blockLevel (s.leg l).aud.pcm, false)
      else (clampN 0 127 (Config.audMeasure r.desc.codec p.content n), false)

/-- The score of the next tick (R165): a shift of 2 upwards, of 6 downwards, rounding towards minus infinity. -/
def nextScore (a : AudioRec) (s level : Nat) (voice : Bool) : Nat :=
  let tgt : Int := if level ≤ a.act || (a.honourVflag && voice) then ((127 : Int) - level) * 256 else 0
  let d := tgt - s
  (((s : Int) + (if (s : Int) < tgt then d / 4 else d / 64)).toNat)

/-! ### The bellwether list (R166 to R170) -/

/-- Is `a` ranked before `b`: higher score, then lower index (R166)? -/
def State.ranksBefore (s : State) (a b : Nat) : Bool :=
  let x := (s.leg a).aud.score
  let y := (s.leg b).aud.score
  decide (y < x) || (x = y && decide (a < b))

/-- A leg put in its place of a ranking. -/
def State.rankIns (s : State) (l : Nat) : List Nat → List Nat
  | [] => [l]
  | x :: xs => if s.ranksBefore l x then l :: x :: xs else x :: s.rankIns l xs

/-- Legs in order of rank (R166). -/
def State.rankSort (s : State) (ls : List Nat) : List Nat := ls.foldl (fun acc l => s.rankIns l acc) []

/-- The candidates of fold `f` in order of rank (R166). -/
def State.ranking (s : State) (f : Nat) : List Nat := s.rankSort ((s.foldLegs f).filter s.candidateLeg)

/-- The weakest member (R166). -/
def State.weakest (s : State) (ms : List Nat) : Option Nat := (s.rankSort ms).getLast?

/-- Scores, levels and the reset of legs that are no candidates (R162 to R165). -/
def State.updateScores (s : State) (f : Nat) : State :=
  let a := (s.fold f).audio
  s.each (s.foldLegs f) (fun s l =>
    if s.candidateLeg l then
      let (lv, v) := s.levelOf l
      s.onLeg l (fun g => { g with aud := { g.aud with level := lv, voice := v, score := nextScore a g.aud.score lv v } })
    else s.onLeg l (fun g => { g with aud := { g.aud with level := 127, voice := false, score := 0, hold := 0, leadTicks := 0 } }))

/-- The weakest members of a list beyond `k` removed (R168). [DESIGN CHOICE, notes/assumptions 28] -/
def State.trimList (s : State) (k : Nat) (ms : List Nat) : List Nat := (s.rankSort ms).take k

/-- A leg joins the list: its personal encoder is forked from the shared encoder of its configuration as it stands
before this tick's block, with that output's limiter and noise state (R182). -/
def State.joinList (s : State) (f l : Nat) : State :=
  let o := tget {} (s.fold f).outs (s.leg l).desc.audioConfig
  let s := s.onLeg l (fun g => { g with aud := { g.aud with hold := 0, leadTicks := 0, personal := some o.enc, encBefore := o.encBefore, silence := o.silence, leaving := false, outTicks := o.ticks, limAtt := o.limAtt, hpX := o.hpX, hpY := o.hpY } })
  s.incR64 Reg.AUD_LIST_CHANGES

/-- A member that left: its personal encoder finishes the current frame (R182). -/
def State.leaveList (s : State) (l : Nat) : State :=
  s.onLeg l (fun g => { g with aud := { g.aud with leaving := g.aud.personal.isSome, leadTicks := 0 } })

/-- The lead after a list revision: the old lead while it stays, unless a member has exceeded its score by
256 × hysteresis for lead_hold ticks; else the member that ranks highest (R169). -/
def State.chooseLead (s : State) (f : Nat) (ms : List Nat) : State × Option Nat :=
  let r := s.fold f
  let ranked := s.rankSort ms
  match r.lead with
  | some x =>
    if ms.contains x then
      let need := (s.leg x).aud.score + 256 * r.audio.hyst
      let s := s.each ms (fun s l =>
        if l ≠ x ∧ need ≤ (s.leg l).aud.score then s.onLeg l (fun g => { g with aud := { g.aud with leadTicks := g.aud.leadTicks + 1 } })
        else s.onLeg l (fun g => { g with aud := { g.aud with leadTicks := 0 } }))
      (match ranked.find? (fun l => l ≠ x ∧ r.audio.lead ≤ (s.leg l).aud.leadTicks) with
       | some l => ((s.each ms (fun s l => s.onLeg l (fun g => { g with aud := { g.aud with leadTicks := 0 } }))), some l)
       | none => (s, some x))
    else (s, ranked.head?)
  | none => (s, ranked.head?)

/-- Is the candidate an Opus stream without an audio-level extension, decoded in every tick to be measured (R164)? -/
def State.unlevelledOpus (s : State) (l : Nat) : Bool :=
  match s.audioIn l with
  | some e => let d := (s.stream e).desc; d.codec = 1 && d.extLevel = 0
  | none => false

/-- BELLWETHER_TICK: scores, list, lead, decode set of the next tick, and the record of the tick (R165 to R170). -/
def bellwetherTick (f : Nat) (s : State) : State :=
  let s := s.updateScores f
  let r := s.fold f
  let a := r.audio
  let k := r.desc.k
  let eligible := r.list.filter s.candidateLeg
  let kept := s.trimList k eligible
  let s := s.each (r.list.filter (fun l => !kept.contains l)) (fun s l => s.leaveList l)
  let ms := r.list.filter (fun l => kept.contains l)
  let ranking := s.ranking f
  let full := decide (k ≤ ms.length)
  let w := s.weakest ms
  let wScore := w.elim 0 (fun l => (s.leg l).aud.score)
  let others := ranking.filter (fun l => !ms.contains l)
  let s := s.each others (fun s l =>
    let up := full && decide (wScore + 256 * a.hyst ≤ (s.leg l).aud.score)
    s.onLeg l (fun g => { g with aud := { g.aud with hold := if up then g.aud.hold + 1 else 0 } }))
  let joins := others.find? (fun l =>
    let x := (s.leg l).aud
    decide (0 < x.score ∧ 6 ≤ x.decodedTicks) && (!full || decide (a.hold ≤ x.hold)))
  let (ms', s) := match joins with
    | none => (ms, s)
    | some c =>
      if full then (ms.filter (fun l => some l != w) ++ [c], (w.elim s (fun l => s.leaveList l)).joinList f c)
      else (ms ++ [c], s.joinList f c)
  let (s, lead) := s.chooseLead f ms'
  let ranked := s.rankSort ms'
  let extra := ((ranking.filter (fun l => !ms'.contains l)).filter (fun l => decide (0 < (s.leg l).aud.score))).take a.margin
  let opus := ranking.filter s.unlevelledOpus
  let set := (ms' ++ extra ++ opus).foldl (fun acc l => insertAsc l acc) []
  let recd : BellRec := { tick := s.now, members := ranked.map (fun l => (l, (s.leg l).aud.score)), lead := lead }
  let recency := ms'.foldl (fun acc l => acc.filter (fun e => e.1 != l) ++ [(l, s.now)]) r.recency
  let s := s.each ms' (fun s l => s.onLeg l (fun g => { g with aud := { g.aud with memberTicks := g.aud.memberTicks + 1 } }))
  s.onFold f (fun r => { r with list := ms', lead := lead, draft := recd, decodeNext := set, recency := recency, listChanged := r.listChanged || ms' != r.list })

/-- BELLWETHER_TICK (R167). -/
def execBellwetherTick (f : Nat) (s : State) : Host.Outcome State Fault Refusal := finish s (bellwetherTick f s)

/-- AUDIO_CONTROL: the mute flag changes at the next tick boundary (R162). A leg that is not ADMITTING or ACTIVE answers
INVALID_STATE. -/
def execAudioControl (m : Msg) (mute : Bool) (s : State) : Host.Outcome State Fault Refusal :=
  finish s (s.request m 0x010A .both (fun s _ rto =>
    let g := s.leg m.target
    if !s.authority g.desc.fold then s.reply rto stNotAuthority
    else if g.state = .active || g.state = .admitting then
      (s.onLeg m.target (fun g => { g with aud := { g.aud with muteNext := some mute } })).reply rto stOK
    else s.reply rto stInvalid))

/-! ### Decoding (R171 to R175, R189, R190) -/

/-- AUD AUDIO_SHED (R192). -/
def fltAudioShed : Nat := faultCode 9 0 4
/-- AUD DECODER_STATE_LOST (R192). -/
def fltDecoderLost : Nat := faultCode 9 1 2
/-- AUD ENCODER_STATE_LOST (R192). -/
def fltEncoderLost : Nat := faultCode 9 1 3
/-- AUD ASSIST_FAIL (R192). -/
def fltAssistFail : Nat := faultCode 9 3 1

/-- A mono block placed equally in both channels (R156). -/
def toStereo (b : List Int) : List Int := b.flatMap (fun x => [x, x])

/-- Channels that a received stream is decoded in: 1 for G.711 and G.722, the mix's for Opus and L16 (R156, R157). -/
def streamChannels (codec mix : Nat) : Nat := if codec = 1 || codec = 5 then mix else 1

/-- The blocks of a frame decoded from decoder state `d` (R171). -/
def decodeFrame (codec d ch mix : Nat) (p : RtpFacts) (n : Nat) : List (List Int) :=
  (upTo n).map (fun i =>
    let b := Config.audDecBlock codec d p.content i ch
    if ch < mix then toStereo b else b)

/-- A concealed block (R172). -/
def concealBlock (codec d ch mix : Nat) : List Int :=
  let b := Config.audConceal codec d ch
  if ch < mix then toStereo b else b

/-- AUDIO_DECODE of leg `l` in this tick: in its release tick the frame is decoded into blocks, the tick's block becomes
the leg's sample block, and a missing, shed or lost one is concealed (R171 to R175, R189, R190).
[DESIGN CHOICE, notes/assumptions 6] -/
def audioDecode (l : Nat) (how : WorkEnd) (s : State) : State :=
  match s.audioIn l with
  | none => s
  | some e =>
    let g := s.leg l
    if !g.aud.inDecodeSet then s
    else
      let r := s.stream e
      let a := (s.fold g.desc.fold).audio
      let mix := a.mixChannels
      let ch := streamChannels r.desc.codec mix
      let lost := how = .stateLost
      let s := if lost then s.raise fltDecoderLost (subjLeg l) else s
      let s := if how = .shed then s.raiseOnce fltAudioShed (subjFold g.desc.fold) 600 else s
      let start := g.aud.decoder.isNone || lost
      let d0 := if lost then 0 else g.aud.decoder.getD 0
      let released := decide (r.jit.releasedTick = s.now) && !r.jit.released.isEmpty
      let frame := r.jit.released.head?.map (·.rtp)
      let n := match frame with | some p => frameBlocks p.duration r.desc.clockRate | none => 0
      let good := released && how != .shed
      let conc := concealBlock r.desc.codec d0 ch mix
      let decoded := match frame with
        | some p => if good then decodeFrame r.desc.codec d0 ch mix p n else []
        | none => []
      let fresh := match decoded with
        | [] => []
        | b :: bs =>
          if lost then conc :: (match bs with | [] => [] | x :: xs => Config.fadeIn x :: xs)
          else if start || g.aud.fadeIn then Config.fadeIn b :: bs else b :: bs
      let fade := if lost then decide (decoded.length ≤ 1) else (start || g.aud.fadeIn) && fresh.isEmpty
      let d1 := match frame with
        | some p => if good then Config.audDecState r.desc.codec d0 p.content else d0
        | none => d0
      let begun := g.aud.firstBlock || !fresh.isEmpty
      let queue := g.aud.blocks ++ fresh
      let conceals := (queue.isEmpty && begun) || (lost && fresh.isEmpty)
      let block := if conceals then conc else queue.headD []
      let hidden := b2n conceals + b2n (lost && !fresh.isEmpty)
      let rest := queue.drop 1
      -- R175: a block to be removed goes at the first quiet one, or by a crossfade at the last tick allowed
      let quiet := decide (a.act < blockLevel block)
      let atLimit := match g.aud.removeBy with | some t => decide (t ≤ s.now) | none => false
      let cut := g.aud.removeBy.isSome && (quiet || atLimit) && !rest.isEmpty
      let block' := if cut then (match rest with | b :: _ => (if quiet then b else Config.crossfade block b) | [] => block) else block
      let rest' := if cut then rest.drop 1 else rest
      let s := s.onLeg l (fun g => { g with aud := { g.aud with decoder := some d1, fadeIn := fade, firstBlock := begun, blocks := rest', pcm := block', removeBy := if cut then none else g.aud.removeBy, inserted := g.aud.inserted + b2n cut, concealed := g.aud.concealed + hidden, decTicks := g.aud.decTicks + 1, decodedTicks := g.aud.decodedTicks + 1 } })
      let (lv, voice) := s.levelOf l
      let active := decide (lv ≤ a.act) || (a.honourVflag && voice)
      let s := s.onLeg l (fun g => { g with aud := { g.aud with loudWin := lastN 240 (g.aud.loudWin ++ [if active then block' else []]) } })
      let s := if hidden = 0 then s else s.incR64 Reg.AUD_BLOCKS_CONCEALED hidden
      { s with aud := { s.aud with decN := s.aud.decN + 1 } }

/-- AUDIO_DECODE (R171). -/
def execAudioDecode (l : Nat) (how : WorkEnd) (s : State) : Host.Outcome State Fault Refusal := finish s (audioDecode l how s)

/-! ### Mixing and processing (R177 to R181) -/

/-- Sum of two blocks, a missing sample counting as 0. -/
def addBlocks : List Int → List Int → List Int
  | [], b => b
  | a, [] => a
  | x :: xs, y :: ys => (x + y) :: addBlocks xs ys

/-- Difference of two blocks. -/
def subBlocks (a b : List Int) : List Int := addBlocks a (b.map (fun x => -x))

/-- The contribution of a member: its block, delayed by its alignment, times its gain in Q3.13, rounded to nearest with
ties away from zero (R177). -/
def contribution (gain : Nat) (x : List Int) : List Int := x.map (fun v => roundDivI (gain * v) 8192)

/-- cn_gain[L] = round(65,536 × √3 × 10^(-L/20)), found exactly bit by bit (R180). -/
def cnGain (l : Nat) : Nat :=
  let big : Nat := 2 ^ 20 * (3 * 2 ^ 32) ^ 10
  let up (g : Nat) : Bool := decide ((2 * g - 1) ^ 20 * 10 ^ l ≤ big)
  (upTo 18).foldl (fun g i => let t := g + 2 ^ (17 - i); if up t then t else g) 0

/-- One step of the 32-bit xorshift generator with the triple (13, 17, 5) (R180). -/
def xorshift (x : BitVec 32) : BitVec 32 :=
  let x := x ^^^ (x <<< 13)
  let x := x ^^^ (x >>> 17)
  x ^^^ (x <<< 5)

/-- The generator's state for a seed: the exclusive or of its halves, or 0x9E37_79B9 (R180). -/
def noiseSeed (seed : Nat) : BitVec 32 :=
  let x := BitVec.ofNat 32 seed ^^^ BitVec.ofNat 32 (seed / 2 ^ 32)
  if x = 0 then 0x9E3779B9 else x

/-- The state of the noise loop: generator, high-pass input and output per channel, samples so far. -/
structure Noise where
  x : BitVec 32
  hx : List Int
  hy : List Int
  out : List Int
  deriving DecidableEq, Repr

/-- One sample of channel `ch` (R180): scaled, high-passed near 49 Hz. -/
def noiseStep (gain : Nat) (st : Noise) (ch : Nat) : Noise :=
  let x := xorshift st.x
  let v := x.toInt / 256
  let w := (v * gain + 32768) / 65536
  let y := w - st.hx.getD ch 0 + st.hy.getD ch 0 * 32558 / 32768
  { x := x, hx := st.hx.set ch w, hy := st.hy.set ch y, out := st.out ++ [y] }

/-- The noise of a tick for `n` samples of `nch` channels, and the high-pass state it leaves (R180).
[DESIGN CHOICE, notes/assumptions 28] -/
def comfortNoise (gain seed n nch : Nat) (hx hy : List Int) : Noise :=
  (upTo (n * nch)).foldl (fun st i => noiseStep gain st (i % nch)) { x := noiseSeed seed, hx := hx, hy := hy, out := [] }

/-- An output's processing state (R179 to R181). -/
structure OutProc where
  block : List Int
  att : Nat
  hx : List Int
  hy : List Int
  clamped : Nat
  deriving DecidableEq, Repr

/-- Comfort noise, limiter and saturation of an output block (R179 to R181). -/
def processOut (a : AudioRec) (seed nch : Nat) (b : List Int) (att : Nat) (hx hy : List Int) : OutProc :=
  let nz := comfortNoise (cnGain a.cn) seed 80 nch hx hy
  let add := a.comfortNoise && decide (a.cn < blockLevel b)
  let b := if add then addBlocks b nz.out else b
  let ceil := Config.ceilingSample a.ceiling
  let peak := maxN (b.map Int.natAbs)
  let excess := decide (ceil < (Config.limiterScale att att 8 peak).natAbs)
  let att' := if excess then Config.limiterAtt peak ceil else att - 5
  let scaled := (upTo b.length).map (fun i => Config.limiterScale att att' (if excess then i / nch else 8) (b.getD i 0))
  let sat := scaled.map (clampI (-(ceil : Int)) ceil)
  { block := sat, att := att', hx := nz.hx, hy := nz.hy, clamped := ((upTo b.length).filter (fun i => scaled.getD i 0 != sat.getD i 0)).length }

/-- The downmix of a stereo block: round((L + R) / 2) (R178). -/
def downmix : List Int → List Int
  | l :: r :: t => roundDivI (l + r) 2 :: downmix t
  | _ => []

/-- The block in a configuration's channels (R178, R179). -/
def toChannels (mix want : Nat) (b : List Int) : List Int := if want = 1 ∧ mix = 2 then downmix b else b

/-- Listeners of configuration `c` of fold `f` that take the shared output: its ACTIVE or RETIRING legs with audio that
are not members and run no personal encoder (R178, R182). -/
def State.sharedListeners (s : State) (f c : Nat) : List Nat :=
  (s.foldLegs f).filter (fun l =>
    let g := s.leg l
    (g.state = .active || g.state = .retiring) && g.desc.hasAudio && g.desc.audioConfig = c && g.aud.personal.isNone && (s.audioOut l).isSome)

/-- Does some leg of the fold use configuration `c` in this tick: one whose configuration it is, or one that still finishes a
frame of it after a change (R182, R187)? [DESIGN CHOICE, notes/assumptions 28] -/
def State.configUsed (s : State) (f c : Nat) : Bool :=
  (s.foldLegs f).any (fun l =>
    let g := s.leg l
    (g.state = .active || g.state = .retiring) && g.desc.hasAudio && (s.audioOut l).isSome
      && (g.desc.audioConfig = c || (g.aud.cfgOld = some c && decide (s.now < g.aud.cfgFrom + ((s.fold f).audio.config c).frameTicks))))

/-- The legs that take the shared encoder's frame of configuration `c` that began in tick `s0`: no personal encoder of theirs runs
or ends now, and the configuration was theirs when the frame began (R182). [DESIGN CHOICE, notes/assumptions 28] -/
def State.frameTakers (s : State) (f c s0 : Nat) : List Nat :=
  (s.foldLegs f).filter (fun l =>
    let g := s.leg l
    (g.state = .active || g.state = .retiring) && g.desc.hasAudio && (s.audioOut l).isSome && g.aud.persEnd != some s.now
      && ((g.desc.audioConfig = c && g.aud.personal.isNone && decide (g.aud.cfgFrom ≤ s0))
        || (g.aud.cfgOld = some c && g.aud.persOld.isNone && decide (s0 < g.aud.cfgFrom))))

/-- A leg's block after its delay line, the line it leaves, and whether a block was removed from it: a shorter delay removes the
first quiet block, or the one at the last tick allowed by a crossfade (R175, R177, R186). -/
def AudLeg.aligned (x : AudLeg) (act now : Nat) : List Int × List (List Int) × Bool :=
  let d := x.delay + b2n x.lineCut.isSome
  let line := lastN (d + 1) (x.delayLine ++ [x.pcm])
  if line.length ≠ d + 1 then ([], line, false)
  else
    let b := line.headD []
    match x.lineCut, line.drop 1 with
    | some t, n :: _ =>
      if act < blockLevel b then (n, line.drop 1, true)
      else if t ≤ now then (Config.crossfade b n, line.drop 1, true)
      else (b, line, false)
    | _, _ => (b, line, false)

/-- AUDIO_MIX of fold `f`: contributions, the mix, each member's output without its own part, the shared outputs, and
the processing of each (R177 to R181). [DESIGN CHOICE, notes/assumptions 28] -/
def audioMix (f : Nat) (s : State) : State :=
  let r := s.fold f
  let a := r.audio
  let nch := a.mixChannels
  let s0 := s
  let parts := r.list.map (fun l => (l, contribution (Config.gainLinear (s0.leg l).aud.gainQ) ((s0.leg l).aud.aligned a.act s0.now).1))
  let mix := parts.foldl (fun m p => addBlocks m p.2) []
  let lines := r.list ++ (s.foldLegs f).filter (fun l => (s0.leg l).aud.inDecodeSet && !r.list.contains l)
  let s := s.each lines (fun s l => s.onLeg l (fun g => { g with aud := { g.aud with
    delayLine := (g.aud.aligned a.act s0.now).2.1, lineCut := if (g.aud.aligned a.act s0.now).2.2 then none else g.aud.lineCut, inserted := g.aud.inserted + b2n (g.aud.aligned a.act s0.now).2.2 } }))
  let s := s.each (r.list ++ ((s.foldLegs f).filter (fun l => (s.leg l).aud.leaving && !r.list.contains l))) (fun s l =>
    let x := (s.leg l).aud
    let own := ((parts.find? (fun p => p.1 = l)).map (·.2)).getD []
    let seed := (f * 65536 + 256 + l % 65280) * 2 ^ 32 + s.now
    let o := processOut a seed nch (subBlocks mix own) x.limAtt x.hpX x.hpY
    s.onLeg l (fun g => { g with aud := { g.aud with out := o.block, limAtt := o.att, hpX := o.hx, hpY := o.hy, clamped := g.aud.clamped + o.clamped } }))
  let s := s.each (upTo a.configs.length) (fun s c =>
    let ls := s.sharedListeners f c
    if !s.configUsed f c then s.onFold f (fun r => { r with outs := tdel c r.outs })
    else
      let was := tget {} (s.fold f).outs c
      let x : ShOut := if was.live then was else { live := true, since := s.now }
      let o := processOut a ((f * 65536 + c) * 2 ^ 32 + s.now) nch mix x.limAtt x.hpX x.hpY
      let x' := { x with block := toChannels nch (a.config c).channels o.block, limAtt := o.att, hpX := o.hx, hpY := o.hy }
      let s := s.onFold f (fun r => { r with outs := tset {} r.outs c x' })
      s.each ls (fun s l => s.onLeg l (fun g => { g with aud := { g.aud with clamped := g.aud.clamped + o.clamped, limAtt := o.att } })))
  s.onFold f (fun r => { r with mix := mix })

/-- AUDIO_MIX (R177). -/
def execAudioMix (f : Nat) (s : State) : Host.Outcome State Fault Refusal := finish s (audioMix f s)

/-! ### Encoding (R182, R183, R189, R190) -/

/-- One audio frame handed to leg `l`: its packetiser writes the leg's own SSRC, sequence number and timestamp; the
packet enters egress in the next tick. A frame not sent consumes its sequence number (R182, R189).
[DESIGN CHOICE, notes/assumptions 28] -/
def State.audioPacket (s : State) (l content bytes ticks : Nat) (send : Bool) : State :=
  match s.audioOut l with
  | none => s
  | some e =>
    let r := s.stream e
    let q := r.tx.seq % 65536
    let ts := rtpClock r.tx r.desc.clockRate (s.now + 1 - ticks)
    let s := s.onStream e (fun r => { r with tx := { r.tx with seq := (q + 1) % 65536, lastTs := ts } })
    if send then
      s.packetiseAt (s.now + 1) { leg := some l, cls := 6, kind := .rtp, stream := e, ssrc := r.desc.ssrc, seq := q, ts := ts, len := s.rtpLen l e bytes, content := content }
    else s

/-- Is this the tick that completes a frame of configuration `c` of the fold (R182, R193)? -/
def FoldRt.frameEnds (r : FoldRt) (c now : Nat) : Bool :=
  let F := Nat.max 1 (r.audio.config c).frameTicks
  now % F = tget 0 r.audioPhase c % F

/-- The block of this tick enters an encoder of configuration `c` (R182). -/
def encStep (x : AudioCfg) (state : Nat) (b : List Int) : Nat :=
  Config.audEncState x.codec x.rate x.channels x.bitrate x.flags state b

/-- Is a silent frame left unsent: with dtx set one frame per 400 ms of silence is sent (R183)? -/
def dtxSkips (ticks silence : Nat) : Bool := decide (ticks ≤ silence % 240)

/-- The shared encoder of configuration `c` of fold `f` in this tick; its first frame is the first that begins while it runs
(R182, R183, R189, R190). [DESIGN CHOICE, notes/assumptions 6, 28] -/
def encodeShared (f c : Nat) (how : WorkEnd) (s : State) : State :=
  let r := s.fold f
  let x := r.audio.config c
  let o := tget {} r.outs c
  let lost := how = .stateLost
  let s := if lost then s.raise fltEncoderLost (subjFold f) else s
  let enc := encStep x (if lost then 0 else o.enc) o.block
  let s := { s with aud := { s.aud with encN := s.aud.encN + 1 } }
  let begun := s.now + 1 - Nat.max 1 x.frameTicks
  if r.frameEnds c s.now && decide (begun < o.since) then
    s.onFold f (fun r => { r with outs := tset {} r.outs c { o with enc := 0, encBefore := 0, ticks := 0, silence := 0 } })
  else if r.frameEnds c s.now then
    let ls := s.frameTakers f c begun
    let silent := x.dtx && Config.audEncSilent x.codec x.bitrate x.flags enc
    let sil := if silent then o.silence + x.frameTicks else 0
    let skip := silent && dtxSkips x.frameTicks o.silence
    let content := Config.audEncContent x.codec x.bitrate x.flags enc
    let bytes := Config.audEncBytes x.codec x.bitrate x.flags enc
    let shed := how = .shed
    let o' := { o with enc := if shed then o.encBefore else enc, encBefore := if shed then o.encBefore else enc, ticks := 0, silence := if shed then o.silence else sil }
    let s := s.onFold f (fun r => { r with outs := tset {} r.outs c o' })
    if shed then
      let s := (s.incR64 Reg.AUD_ENCODES_SHED).raiseOnce fltAudioShed (subjFold f) 600
      s.each ls (fun s l => s.audioPacket l content bytes x.frameTicks false)
    else if lost then s.each ls (fun s l => s.audioPacket l content bytes x.frameTicks false)
    else if skip then s
    else (s.incR64 Reg.AUD_FRAMES_ENCODED).each ls (fun s l => s.audioPacket l content bytes x.frameTicks true)
  else s.onFold f (fun r => { r with outs := tset {} r.outs c { o with enc := enc, ticks := o.ticks + 1 } })

/-- What the personal encoder of a leg makes of this tick's block (R182). -/
def FoldRt.persStep (r : FoldRt) (c state : Nat) (out : List Int) : Nat :=
  let x := r.audio.config c
  encStep x state (toChannels r.audio.mixChannels x.channels out)

/-- The personal encoder of leg `l` in the configuration `c` that the leg had before a change: it finishes the frame in which the
change came (R182). [DESIGN CHOICE, notes/assumptions 28] -/
def encodeFormer (f l c st : Nat) (how : WorkEnd) (s : State) : State :=
  let g := s.leg l
  let r := s.fold f
  let x := r.audio.config c
  let enc := r.persStep c (if how = .stateLost then 0 else st) g.aud.out
  let s := { s with aud := { s.aud with encN := s.aud.encN + 1 } }
  if r.frameEnds c s.now then
    let s := s.onLeg l (fun g => { g with aud := { g.aud with persOld := none, persEnd := some s.now } })
    if s.now + 1 - Nat.max 1 x.frameTicks < g.aud.cfgFrom then
      let s := if how = .done then s.incR64 Reg.AUD_FRAMES_ENCODED else s
      s.audioPacket l (Config.audEncContent x.codec x.bitrate x.flags enc) (Config.audEncBytes x.codec x.bitrate x.flags enc) x.frameTicks (how = .done)
    else s
  else s.onLeg l (fun g => { g with aud := { g.aud with persOld := some enc } })

/-- The personal encoder of leg `l` in this tick; one that is leaving ends with its frame, and one of a new configuration starts
with its first whole frame (R182, R183, R189, R190). [DESIGN CHOICE, notes/assumptions 28] -/
def encodePersonal (f l : Nat) (how : WorkEnd) (s : State) : State :=
  let g := s.leg l
  match g.aud.personal with
  | none => s
  | some st =>
    let r := s.fold f
    let c := g.desc.audioConfig
    let x := r.audio.config c
    let lost := how = .stateLost
    let s := if lost then s.raise fltEncoderLost (subjLeg l) else s
    let enc := r.persStep c (if lost then 0 else st) g.aud.out
    let s := { s with aud := { s.aud with encN := s.aud.encN + 1 } }
    if r.frameEnds c s.now && decide (s.now + 1 - Nat.max 1 x.frameTicks < g.aud.cfgFrom) then
      s.onLeg l (fun g => { g with aud := { g.aud with outTicks := 0, personal := if g.aud.leaving then none else some 0, leaving := false, encBefore := 0, silence := 0 } })
    else if r.frameEnds c s.now then
      let silent := x.dtx && Config.audEncSilent x.codec x.bitrate x.flags enc
      let content := Config.audEncContent x.codec x.bitrate x.flags enc
      let bytes := Config.audEncBytes x.codec x.bitrate x.flags enc
      let shed := how = .shed
      let after := if shed then g.aud.encBefore else enc
      let s := s.onLeg l (fun g => { g with aud := { g.aud with
        outTicks := 0, personal := if g.aud.leaving then none else some after, persEnd := if g.aud.leaving then some s.now else g.aud.persEnd, leaving := false, encBefore := after, silence := if shed then g.aud.silence else if silent then g.aud.silence + x.frameTicks else 0 } })
      if shed then ((s.incR64 Reg.AUD_ENCODES_SHED).raiseOnce fltAudioShed (subjFold f) 600).audioPacket l content bytes x.frameTicks false
      else if lost then s.audioPacket l content bytes x.frameTicks false
      else if silent && dtxSkips x.frameTicks g.aud.silence then s
      else (s.incR64 Reg.AUD_FRAMES_ENCODED).audioPacket l content bytes x.frameTicks true
    else s.onLeg l (fun g => { g with aud := { g.aud with personal := some enc, outTicks := g.aud.outTicks + 1 } })

/-- A leg's configuration has changed from `was` at a switch: frames of the new one that begin from now on are its own, and a
frame of the old one in progress is finished (R182). [DESIGN CHOICE, notes/assumptions 28] -/
def State.configChanged (s : State) (l : Nat) (was : Option Nat) : State :=
  s.onLeg l (fun g => { g with aud := { g.aud with
    cfgOld := was, cfgFrom := s.now, persOld := if was.isSome then g.aud.personal else none, personal := if g.aud.leaving then none else g.aud.personal.map (fun _ => 0), leaving := false, outTicks := 0, encBefore := 0, silence := 0 } })

/-- AUDIO_ENCODE: the shared encoder of a configuration, or a leg's personal encoder of its configuration or of the one it had
before a change (R182). -/
def execAudioEncode (f c : Nat) (member : Option Nat) (how : WorkEnd) (s : State) : Host.Outcome State Fault Refusal :=
  finish s (match member with
    | some l =>
      (match (s.leg l).aud.persOld with
       | some st => if (s.leg l).aud.cfgOld = some c then encodeFormer f l c st how s else encodePersonal f l how s
       | none => encodePersonal f l how s)
    | none => encodeShared f c how s)

/-! ### Loudness, alignment, assists (R184 to R186, R191) -/

/-- loudness_target in 0.1 LUFS, 0 selecting -24.0 (R185). -/
def FoldDesc.target (d : FoldDesc) : Int := if d.loudness = 0 then -240 else d.loudness

/-- LOUDNESS_UPDATE: a decoded candidate's gain moves towards target minus measured loudness by at most 0.5 dB, within
-12 dB to +18 dB, in steps of 0.25 dB (R184, R185). [DESIGN CHOICE, notes/assumptions 28] -/
def loudnessUpdate (l : Nat) (s : State) : State :=
  let g := s.leg l
  if s.candidateLeg l && g.aud.decoder.isSome then
    match Config.loudness (g.aud.loudWin.filter (fun b => !b.isEmpty)) with
    | none => s
    | some m =>
      let want := roundDivI (((s.fold g.desc.fold).desc.target - m) * 2) 5
      let step := clampI (-2) 2 (want - g.aud.gainQ)
      s.onLeg l (fun g => { g with aud := { g.aud with gainQ := clampI (-48) 72 (g.aud.gainQ + step) } })
  else s

/-- LOUDNESS_UPDATE (R185). -/
def execLoudnessUpdate (l : Nat) (s : State) : Host.Outcome State Fault Refusal := finish s (loudnessUpdate l s)

/-- Does the fold hold a composed or laced leg (R186)? -/
def State.foldComposes (s : State) (f : Nat) : Bool :=
  (s.foldLegs f).any (fun l => 2 ≤ (s.leg l).desc.videoMode)

/-- Wall-clock time in microseconds that a stream's sender report gives for the timestamp released last (R93, R186). -/
def StreamRt.wallOf (r : StreamRt) : Option Int :=
  match r.srMap, r.jit.released.head? with
  | some (ts0, wall), some p => some ((wall : Int) + fromBits 32 (modSub 32 p.rtp.ts ts0) * 1000000 / Nat.max 1 r.desc.clockRate)
  | _, _ => none

/-- The sender's capture offset in ticks, rounded and held to ±30; 0 while a sender report is missing (R186). -/
def State.captureOffset (s : State) (l : Nat) : Int :=
  let vid := (s.entries l).find? (fun e => let d := (s.stream e).desc; d.kind = 1 && d.inbound && d.decode)
  match vid, s.audioIn l with
  | some v, some a =>
    (match (s.stream v).wallOf, (s.stream a).wallOf with
     | some x, some y => clampI (-30) 30 (roundDivI ((x - y) * 600) 1000000)
     | _, _ => 0)
  | _, _ => 0

/-- LIPSYNC_EVAL: the alignment delay of a leg moves by at most one tick towards
clamp(4 + jitter_video - (2 + jitter_audio) + k, 0, 30); it is 0 without video or where alignment does not apply
(R186). A longer delay inserts a concealed block into a decoded leg's line, a shorter one has a block of it removed within 60
ticks (R175). -/
def lipsyncEval (l : Nat) (s : State) : State :=
  let g := s.leg l
  let r := s.fold g.desc.fold
  let applies := r.audio.lipsync && g.desc.hasVideo && s.foldComposes g.desc.fold
  let want : Int := if applies then clampI 0 30 (4 + g.desc.jitterVideo - (2 + g.desc.jitterAudio) + s.captureOffset l) else 0
  let d : Int := g.aud.delay
  let d' : Int := if d < want then d + 1 else if want < d then d - 1 else d
  let codec := (s.audioIn l).elim 0 (fun e => (s.stream e).desc.codec)
  let mix := r.audio.mixChannels
  let conc := concealBlock codec (g.aud.decoder.getD 0) (streamChannels codec mix) mix
  let longer := decide (d < d')
  let s := s.onLeg l (fun g => { g with aud := { g.aud with delay := d'.toNat } })
  if g.aud.decoder.isNone || d' = d then s
  else if longer then
    (s.onLeg l (fun g => { g with aud := { g.aud with
      delayLine := (match g.aud.delayLine with | [] => [] | _ :: xs => conc :: xs), inserted := g.aud.inserted + 1, concealed := g.aud.concealed + 1 } })).incR64 Reg.AUD_BLOCKS_CONCEALED
  else s.onLeg l (fun g => { g with aud := { g.aud with lineCut := some (s.now + 60) } })

/-- LIPSYNC_EVAL (R186). -/
def execLipsyncEval (l : Nat) (s : State) : Host.Outcome State Fault Refusal := finish s (lipsyncEval l s)

/-- ASSIST_FAIL: a cluster stops taking audio work; the decode and encode limits fall by 512 each and the ceilings are
recomputed at the next boundary (R191, R195). -/
def assistFail (c : Nat) (s : State) : State :=
  if 16 ≤ c || s.drv.assistOff.contains c then s
  else
    let s := { s with drv := { s.drv with assistOff := insertAsc c s.drv.assistOff }, adm := { s.adm with recount := true } }
    let s := s.setF Reg.AUD_LIMITS 13 0 (s.getF Reg.AUD_LIMITS 13 0 - 512)
    let s := s.setF Reg.AUD_LIMITS 29 16 (s.getF Reg.AUD_LIMITS 29 16 - 512)
    (s.setF Reg.AUD_STATUS 30 30 1).raise fltAssistFail (subjInst 8 c)

/-- ASSIST_FAIL (R191). -/
def execAssistFail (c : Nat) (s : State) : Host.Outcome State Fault Refusal := finish s (assistFail c s)

end Sys2Proof.Machine
end

