-- ==== Sys2Proof/Machine/Ven.lean ====
section
/-!
DEFINITION. Video decoding (05): stored tiles and their check, band and picture settlement, the decode state machine,
refresh requests. What a picture's syntax says is carried by the command; every consequence is drawn here.
-/

namespace Sys2Proof.Machine

/-! ### Stored tiles (R214 to R218) -/

/-- One step of the CRC-32C register for a byte, reflected polynomial 0x82F63B78 (R215). -/
def crc32cByte (c : BitVec 32) (b : BitVec 8) : BitVec 32 :=
  (upTo 8).foldl (fun c _ => if c.getLsbD 0 then (c >>> 1) ^^^ 0x82F63B78 else c >>> 1) (c ^^^ b.setWidth 32)

/-- CRC-32C of a byte string (R215, R662). [DESIGN CHOICE, notes/assumptions 62] -/
def crc32c (bs : List (BitVec 8)) : BitVec 32 := ~~~ (bs.foldl crc32cByte 0xFFFFFFFF)

/-- The prediction of a sample of an 8 × 8 block from its left, upper and upper-left neighbours (R216).
[DESIGN CHOICE, notes/assumptions 62] -/
def tilePredict (depth row col a b c : Nat) : Int :=
  if row = 0 ∧ col = 0 then (2 ^ (depth - 1) : Nat)
  else if row = 0 then a
  else if col = 0 then b
  else if Nat.max a b ≤ c then Nat.min a b
  else if c ≤ Nat.min a b then Nat.max a b
  else (a : Int) + b - c

/-- The mapping of a residual to an unsigned value (R216). -/
def mapResidual (e : Int) : Nat := if 0 ≤ e then (2 * e).toNat else (-2 * e - 1).toNat

/-- The mapped residuals of a block of 64 samples (R216). -/
def blockResiduals (depth : Nat) (blk : List Nat) : List Nat :=
  (upTo 64).map (fun i =>
    let r := i / 8
    let c := i % 8
    mapResidual ((blk.getD i 0 : Int) - tilePredict depth r c (blk.getD (i - 1) 0) (blk.getD (i - 8) 0) (blk.getD (i - 9) 0)))

/-- The fewest bits that hold `n`. -/
def bitWidth (n : Nat) : Nat := if n = 0 then 0 else Nat.log2 n + 1

/-- Bits of a coded block: a 4-bit width and 64 values (R216). -/
def blockBits (depth : Nat) (blk : List Nat) : Nat := 4 + 64 * bitWidth (maxN (blockResiduals depth blk))

/-- Sectors that a tile of 24 blocks occupies when stored, and whether it is stored raw (R216). -/
def tileSectors (depth : Nat) (blocks : List (List Nat)) : Nat × Bool :=
  let coded := ceilDiv (sumN (blocks.map (blockBits depth))) 512
  let raw := if depth = 8 then 24 else 30
  if raw ≤ coded then (raw, true) else (coded, false)

/-- Tiles of a picture (R214). -/
def tilesOf (w h : Nat) : Nat := ceilDiv w 32 * ceilDiv h 32

/-- Does a read of a tile pass (R218)? -/
def TileRead.pass (r : TileRead) (expected : Nat) : Bool :=
  decide (1 ≤ r.sectors ∧ r.sectors ≤ 30) && r.tag = expected % 65536 && r.crcOk && !r.poison

/-- The outcome of a fetch: good, good on the second read, or corrupt (R218). -/
inductive FetchEnd where
  | good | retried | corrupt
  deriving DecidableEq, Repr

/-- The check of R218: a tile that fails is read once more, unless the failure was poison. -/
def TileFetch.outcome (f : TileFetch) : FetchEnd :=
  if f.first.pass f.expected then .good
  else if f.first.poison then .corrupt
  else if f.second.pass f.expected then .retried
  else .corrupt

/-- VEN TILE_CORRUPT (R228). -/
def fltTileCorrupt : Nat := faultCode 10 1 5
/-- VEN TILE_RETRY (R228). -/
def fltTileRetry : Nat := faultCode 10 0 6
/-- VEN DECODER_STATE_LOST (R228). -/
def fltVenStateLost : Nat := faultCode 10 1 7
/-- VEN UNSUPPORTED_STREAM (R228). -/
def fltUnsupported : Nat := faultCode 10 0 8

/-- The fetches of engine `i` for stream `e` counted and reported (R218, R228, R239). -/
def State.noteFetches (s : State) (i e : Nat) (fs : List TileFetch) : State :=
  let bad := (fs.filter (fun f => f.outcome = .corrupt)).length
  let re := (fs.filter (fun f => f.outcome = .retried)).length
  let s := s.incR (Reg.VEN_TILE_CORRUPT i) bad
  let s := s.incR (Reg.VEN_TILE_RETRY i) re
  let s := if re = 0 then s else s.raise fltTileRetry (subjStream e)
  if bad = 0 then s else s.raiseOnce fltTileCorrupt (subjStream e) 600

/-! ### Refresh requests (R222, R223) -/

/-- Counter `n` of a decoded stream advanced (R242). -/
def State.venCount (s : State) (e n : Nat) (k : Nat := 1) : State :=
  s.onStream e (fun r => { r with dec := { r.dec with ctr := tmod 0 r.dec.ctr n (fun v => (v + k) % 2 ^ 32) } })

/-- One PLI to the sender of stream `e`, or a FIR when its source record says so and `pli` does not ask for a PLI; at most one request in 60 ticks leaves
the device for a stream, and others merge into it (R95, R222, R223). [DESIGN CHOICE, notes/assumptions 17] -/
def State.upstreamRequest (s : State) (e : Nat) (pli : Bool := false) : State :=
  let r := s.stream e
  let recent := match r.pliTick with | some t => decide (s.now < t + 60) | none => false
  if recent then s
  else
    let s := s.onStream e (fun r => { r with pliTick := some s.now })
    let k : OutRtcp := if r.src.useFir && r.desc.decode && !pli then .fir r.desc.ssrc (s.now % 256) else .pli r.desc.ssrc
    s.packetise { leg := some r.leg, cls := 5, kind := .srtcp k, ssrc := r.desc.ssrc, len := 72 }

/-- A refresh request for a decoded stream (R223). -/
def State.refreshRequest (s : State) (e : Nat) : State :=
  let s := s.onStream e (fun r => { r with dec := { r.dec with lastReq := some s.now } })
  (s.venCount e 4).upstreamRequest e

/-- REFRESH_REPEAT: while the stream is not CLEAN with layer_down clear, a request every max(60, 2 × rtt_ticks) ticks
(R223). -/
def refreshRepeat (e : Nat) (s : State) : State :=
  let r := s.stream e
  let need := r.dec.state != .idle && (r.dec.state != .clean || r.dec.layerDown)
  let gap := Nat.max 60 (2 * (s.leg r.leg).rttTicks)
  let due := match r.dec.lastReq with | some t => decide (t + gap ≤ s.now) | none => true
  if need && due then s.refreshRequest e else s

/-- REFRESH_REPEAT (R223). -/
def execRefreshRepeat (e : Nat) (s : State) : Host.Outcome State Fault Refusal := finish s (refreshRepeat e s)

/-- Decode state code (R241). -/
def DecState.code : DecState → Nat
  | .idle => 0 | .waitKey => 1 | .clean => 2 | .damaged => 3 | .frozen => 4

/-- SOURCE_STALLED: 600 ticks in WAIT_KEY or FROZEN are told to the host, once per entry of the state (R225). -/
def sourceStalled (e : Nat) (s : State) : State :=
  let d := (s.stream e).dec
  if (d.state = .waitKey || d.state = .frozen) && !d.stalledTold && decide (d.enterTick + 600 ≤ s.now) then
    (s.onStream e (fun r => { r with dec := { r.dec with stalledTold := true } })).notify 0x8009 0 (subjStream e) [(1, d.state.code)]
  else s

/-- SOURCE_STALLED (R225). -/
def execSourceStalled (e : Nat) (s : State) : Host.Outcome State Fault Refusal := finish s (sourceStalled e s)

/-! ### Bands and pictures (R211 to R225) -/

/-- A decode state entered: WAIT_KEY and FROZEN note the tick (R225). -/
def VidDec.enter (d : VidDec) (st : DecState) (now : Nat) : VidDec :=
  if d.state = st then d else { d with state := st, enterTick := now, stalledTold := false }

/-- A stream starts to be decoded: WAIT_KEY and a refresh request (R225). -/
def State.startDecode (s : State) (e : Nat) : State :=
  let r := s.stream e
  if r.dec.state = .idle then
    let d : VidDec := { (({} : VidDec).enter .waitKey s.now) with ctr := r.dec.ctr, storeGen := r.dec.storeGen, spatial := r.src.targetSpatial, temporal := r.src.targetTemporal }
    (s.onStream e (fun r => { r with dec := d })).refreshRequest e
  else s

/-- A stream stops being decoded: IDLE, its records discarded (R225). [DESIGN CHOICE, notes/assumptions 13] -/
def State.stopDecode (s : State) (e : Nat) : State :=
  s.onStream e (fun r => { r with dec := { ({} : VidDec) with ctr := r.dec.ctr, storeGen := r.dec.storeGen } })

/-- Tiles of a band that are damaged (R219): concealed ones, those whose fetch was corrupt, and those predicted from
damaged tiles of the references or from damaged neighbours. -/
def DecBand.damagedTiles (b : DecBand) (refDamage : List Nat) : List Nat :=
  let corrupt := (b.fetches.filter (fun f => f.outcome = .corrupt)).map (·.tile)
  let bad := refDamage ++ corrupt
  let fromPred := (b.predicted.filter (fun p => p.2.any (fun t => bad.contains t))).map (·.1)
  dedup (corrupt.filter (fun t => b.tiles.contains t) ++ fromPred)

/-- Is a picture discarded as oversize or early (R209), or not decodable: for a feature, or for a partition that a front end
cannot take (R207, R210)? -/
def discardPicture (r : StreamRt) (p : PicFacts) (now : Nat) : Bool :=
  p.unsupported || decide (4096 * 2304 < p.partition) || decide (r.src.maxWidth < p.width ∨ r.src.maxHeight < p.height)
    || (r.dec.havePic && !p.reference && decide (now < r.dec.lastPicTick + periodOf r.src.maxRate))

/-- A picture presented from this tick on: it takes one of the two output buffers, and the other keeps the newest picture of
an earlier tick (R217, R225). -/
def VidDec.present (d : VidDec) (p : SrcPic) (now : Nat) : VidDec :=
  { d with out := (now, p) :: (d.out.filter (fun e => decide (e.1 < now))).take 1 }

/-- The picture that a frame gives: the decoded one, or, where the frame is not decoded, the co-located samples of the
stream's most recent picture (R217, R220). -/
def VidDec.newPic (d : VidDec) (e : Nat) (p : PicFacts) (drop : Bool) (now : Nat) : SrcPic :=
  match drop, d.lastPic with
  | true, some q => q
  | _, _ => { entry := e, tick := now, gen := d.storeGen + 1, width := p.width, height := p.height, tenBit := p.tenBit, colour := p.colour, before := d.lastPic.map (fun q => (q.tick, q.gen)) }

/-- What is presented after a picture, from the decode state `was` before it: while FROZEN the last clean picture, and in
every other state the picture itself (R222). -/
def VidDec.output (d : VidDec) (was : DecState) (p : SrcPic) (clean : Bool) (now : Nat) : VidDec :=
  let d := if d.state = .frozen then
      (match was, d.cleanPic with
        | .frozen, _ | _, none => d
        | _, some q => d.present q now)
    else d.present p now
  if clean then { d with lastPic := some p, cleanPic := some p } else { d with lastPic := some p }

/-- The picture of a stream that is available at the start of tick `now`: the newest presented in an earlier tick; none while
the stream is not decoded or waits for a key picture (R225, R257). -/
def VidDec.picture (d : VidDec) (now : Nat) : Option SrcPic :=
  if d.havePic && d.state != .idle && d.state != .waitKey then (d.out.find? (fun e => decide (e.1 < now))).map (·.2) else none

/-- The layers at a switch point while layer_down is set: the output rises by one layer, and layer_down clears when target is
reached (R224). -/
def VidDec.rise (d : VidDec) (r : SourceRec) (p : PicFacts) : VidDec :=
  if !d.layerDown || !p.switchPoint then d
  else
    let up := decide (d.spatial < Nat.min r.targetSpatial p.spatial)
    let sp := if up then d.spatial + 1 else d.spatial
    let tp := if !up && decide (d.temporal < Nat.min r.targetTemporal p.temporal) then d.temporal + 1 else d.temporal
    { d with spatial := sp, temporal := tp, layerDown := !(decide (r.targetSpatial ≤ sp ∧ r.targetTemporal ≤ tp)) }

/-- The layers after a clean random-access picture: its own, with every temporal layer above it decodable (R224, R225).
[DESIGN CHOICE, notes/assumptions 62] -/
def VidDec.restart (d : VidDec) (r : SourceRec) (p : PicFacts) (now : Nat) : VidDec :=
  { d with lastCleanKey := now, spatial := p.spatial, temporal := Nat.max p.temporal r.targetTemporal, layerDown := d.layerDown && decide (p.spatial < r.targetSpatial) }

/-- The decode state after a picture, and whether a refresh is asked for (R222, R225). -/
def VidDec.judge (d : VidDec) (r : SourceRec) (p : PicFacts) (clean : Bool) (now : Nat) : VidDec × Bool :=
  if p.missingRef then
    match p.intact with
    | some (sp, tp) =>
      let d := { d with layerDown := true, spatial := sp, temporal := tp }
      (if clean then d.enter .clean now else if d.state = .clean then d.enter .damaged now else d, true)
    | none => (d.enter (if r.nearest then .damaged else .frozen) now, true)
  else if clean then ((d.enter .clean now).rise r p, false)
  else if d.state = .clean then (d.enter .damaged now, true)
  else (d, false)

/-- What a settled picture adds to the stream's counters: decoded or discarded, concealed, missing reference, layer drop (R242). -/
def State.countPicture (s : State) (e : Nat) (p : PicFacts) (drop concealed : Bool) : State :=
  let s := if drop then s.venCount e 6 else s.venCount e 0
  let s := if concealed then s.venCount e 1 else s
  let s := if p.missingRef then s.venCount e 2 else s
  if p.missingRef && p.intact.isSome then s.venCount e 3 else s

/-- The picture's settlement when every band has ended: damage, layers, state, counters (R219 to R225). A RASL picture that
follows a CRA at which decoding started is discarded, and in WAIT_KEY so is every picture but a clean random-access one. -/
def State.settlePicture (s : State) (e : Nat) (p : PicFacts) (bands : List BandRec) : State :=
  let s := s.onStream e (fun r => { r with dec := { r.dec with curBands := [] } })
  let r := s.stream e
  let drop := discardPicture r p s.now
  let all := upTo (tilesOf p.width p.height)
  let concealed := if drop then all else dedup (bands.flatMap (·.concealed))
  let damage := dedup (concealed ++ bands.flatMap (·.damaged))
  let clean := damage.isEmpty
  let pic := r.dec.newPic e p drop s.now
  if p.rasl then s
  else match r.dec.state with
  | .idle => s
  | .waitKey =>
    if p.randomAccess && clean && !drop then
      let s := s.countPicture e p drop false
      s.onStream e (fun r =>
        let d := ({ (r.dec.enter .clean s.now) with layerDown := false, tenBit := p.tenBit }).restart r.src p s.now
        { r with dec := { (d.present pic s.now) with damage := [], havePic := true, picTick := s.now, lastPicTick := s.now, storeGen := d.storeGen + 1, lastPic := some pic, cleanPic := some pic } })
    else if drop then s.venCount e 6 else s
  | was =>
    let s := s.countPicture e p drop (!concealed.isEmpty)
    let d := (s.stream e).dec
    let d := { d with tenBit := p.tenBit, damage := damage, picTick := s.now, lastPicTick := if drop then d.lastPicTick else s.now, storeGen := d.storeGen + 1 }
    let (d, ask) := d.judge r.src p clean s.now
    let d := if p.randomAccess && clean then d.restart r.src p s.now else d
    let s := s.onStream e (fun r => { r with dec := d.output was pic clean s.now })
    if ask then s.refreshRequest e else s

/-- DECODE_BAND_DONE: one band's end; the last one settles the picture (R211 to R225, R238, R239).
[DESIGN CHOICE, notes/assumptions 62] -/
def decodeBandDone (e : Nat) (p : PicFacts) (b : DecBand) (s : State) : State :=
  let s := s.startDecode e
  let r := s.stream e
  let s := match b.how with
    | .done =>
      let s := s.incR64 (Reg.VEN_DEC_BANDS b.engine)
      let s := s.incR64 (Reg.VEN_DEC_PIXELS b.engine) b.samples
      if b.partitionStart then s.incR64 (Reg.VEN_DEC_PICTURES b.engine) else s
    | .shed => s.incR (Reg.VEN_BANDS_SHED b.engine)
    | .aborted => s.incR (Reg.VEN_BANDS_ABORTED b.engine)
  let s := { s with ven := { s.ven with decUse := tmod 0 s.ven.decUse b.engine (· + b.cycles) } }
  let s := s.noteFetches b.engine e b.fetches
  let corrupt := (b.fetches.filter (fun f => f.outcome = .corrupt)).length
  let s := if corrupt = 0 then s else s.venCount e 5 corrupt
  if b.stateLost then
    let s := s.raise fltVenStateLost (subjStream e)
    (s.onStream e (fun r => { r with dec := { (r.dec.enter .waitKey s.now) with curBands := [], havePic := false, out := [], lastPic := none } })).refreshRequest e
  else if p.unsupportedSequence then
    let s := (s.venCount e 6).raiseOnce fltUnsupported (subjStream e) 600
    s.onStream e (fun r => { r with dec := { (r.dec.enter .waitKey s.now) with curBands := [], havePic := false, out := [], lastPic := none } })
  else
    let lost := b.how != .done || !b.present
    let rec' : BandRec := { band := b.band, how := b.how, concealed := if lost then b.tiles else [], damaged := b.damagedTiles r.dec.damage }
    let bands := r.dec.curBands.filter (fun x => x.band != b.band) ++ [rec']
    if b.total ≤ bands.length then s.settlePicture e p bands
    else s.onStream e (fun r => { r with dec := { r.dec with curBands := bands } })

/-- DECODE_BAND_DONE (R213). -/
def execDecodeBandDone (e : Nat) (p : PicFacts) (b : DecBand) (s : State) : Host.Outcome State Fault Refusal :=
  finish s ((decodeBandDone e p b s).endNode b.node b.ns (b.how == .done))

end Sys2Proof.Machine
end

