-- ==== Sys2Proof/Machine/Layout.lean ====
section
/-!
DEFINITION. Geometry of composed and laced pictures: prickings, overlay images, guard conditions, cell classes, and the
cost of composing (06, R322 to R326).
-/

namespace Sys2Proof.Machine

/-! ### Rectangles -/

/-- Is the rectangle empty? -/
def Rect.isEmpty (r : Rect) : Bool := decide (r.x1 ≤ r.x0 ∨ r.y1 ≤ r.y0)

/-- Samples in a rectangle. -/
def Rect.area (r : Rect) : Nat := if r.isEmpty then 0 else ((r.x1 - r.x0) * (r.y1 - r.y0)).toNat

/-- The part that two rectangles share. -/
def Rect.meet (a b : Rect) : Rect :=
  { x0 := max a.x0 b.x0, y0 := max a.y0 b.y0, x1 := min a.x1 b.x1, y1 := min a.y1 b.y1 }

/-- Does `a` lie wholly inside `b`? -/
def Rect.inside (a b : Rect) : Bool := decide (b.x0 ≤ a.x0 ∧ b.y0 ≤ a.y0 ∧ a.x1 ≤ b.x1 ∧ a.y1 ≤ b.y1)

/-- `a` without the part that `b` covers, as disjoint rectangles. -/
def Rect.minus (a b : Rect) : List Rect :=
  let m := a.meet b
  if m.isEmpty then [a]
  else
    [{ a with y1 := m.y0 }, { a with y0 := m.y1 }, { x0 := a.x0, x1 := m.x0, y0 := m.y0, y1 := m.y1 },
      { x0 := m.x1, x1 := a.x1, y0 := m.y0, y1 := m.y1 }].filter (fun r => !r.isEmpty)

/-- Samples of `r` that none of the rectangles `above` covers. -/
def visArea (r : Rect) (above : List Rect) : Nat :=
  sumN ((above.foldl (fun ps b => ps.flatMap (fun p => p.minus b)) [r]).map Rect.area)

/-- The pixel position of a normalised coordinate in a dimension of `d` samples (R247). -/
def mapCoord (u d : Nat) : Nat := 2 * (u * d / 8192)

/-- The extent of a cell in an output of `w` by `h` (R247). -/
def CellEntry.rect (c : CellEntry) (w h : Nat) : Rect :=
  { x0 := mapCoord c.x w, y0 := mapCoord c.y h, x1 := mapCoord c.right w, y1 := mapCoord c.bottom h }

/-- The edge of an image of size `n` whose anchor maps to `a` (R247). -/
def alignEdge (code : Nat) (a : Int) (n : Nat) : Int := if code = 0 then a else if code = 1 then a - n / 2 else a - n

/-! ### Pricking records (R243 to R248) -/

/-- Validity of a cell entry's fields (R244, R248). -/
def CellEntry.ok (c : CellEntry) : Bool :=
  !c.reserved && decide (c.x ≤ 4095 ∧ c.y ≤ 4095 ∧ c.x < c.right ∧ c.right ≤ 4096 ∧ c.y < c.bottom ∧ c.bottom ≤ 4096 ∧ c.z ≤ 63)
    && decide (c.role ≤ 4 ∧ c.fit ≤ 2)
    && (if c.role = 2 then decide (1 ≤ c.arg ∧ c.arg ≤ 8) else if c.role = 3 then decide (c.arg ≤ 31) else c.arg = 0)

/-- Validity of an overlay entry's fields in a pricking of `cells` cells (R245, R248). -/
def OverlayEntry.ok (o : OverlayEntry) (cells : Nat) : Bool :=
  !o.reserved && decide (o.ax ≤ 4096 ∧ o.ay ≤ 4096 ∧ o.halign ≤ 2 ∧ o.valign ≤ 2 ∧ o.z ≤ 63 ∧ o.source ≤ 3 ∧ o.alpha ≤ 255)
    && (if o.source = 0 then o.arg = 0 && o.groupA < 16384
        else if o.source = 3 then decide (o.arg ≤ 15) else decide (o.arg < cells))
    && (o.source = 2 || o.groupB = 0xFFFF)

/-- Are the numbers of a list distinct? -/
def distinct : List Nat → Bool
  | [] => true
  | x :: xs => !xs.contains x && distinct xs

/-- Validity of a pricking (R243, R248). -/
def Pricking.ok (p : Pricking) : Bool :=
  let n := p.cells.length
  let m := p.overlays.length
  !p.reserved && decide (p.id ≤ 1023 ∧ 1 ≤ n ∧ n ≤ 32 ∧ m ≤ 63 ∧ n + m ≤ 64 ∧ p.guards.length ≤ 16)
    && p.cells.all CellEntry.ok && p.overlays.all (fun o => o.ok n)
    && distinct (p.cells.map (·.z) ++ p.overlays.map (·.z)) && distinct p.guards
    && p.guards.all (fun g => match p.overlays[g]? with | some o => o.alpha = 255 | none => false)

/-- The pricking with this id in the image in use. -/
def State.pricking (s : State) (id : Nat) : Option Pricking := s.boot.image.prickings.find? (fun p => p.id = id)

/-! ### Image groups (R250 to R254) -/

/-- The height class of an output (R250). -/
def heightClass (h : Nat) : Nat :=
  if h ≤ 360 then 0 else if h ≤ 540 then 1 else if h ≤ 720 then 2 else if h ≤ 1080 then 3 else if h ≤ 2160 then 4 else 5

/-- Image group `g` as composition sees it. -/
def State.group (s : State) (g : Nat) : ImgGroup := tget {} s.cmp.groups g

/-- The variant of a group for exactly this height class. -/
def ImgGroup.exact (g : ImgGroup) (c : Nat) : Option ImgVariant := g.variants.find? (fun v => v.cls = c)

/-- The variant that an overlay shows: the output's class, or for an overlay without a guard the highest class below
that is present (R250). -/
def ImgGroup.pick (g : ImgGroup) (c : Nat) (guarded : Bool) : Option ImgVariant :=
  if guarded then g.exact c else ((upTo (c + 1)).reverse.filterMap g.exact).head?

/-- Bytes of a stored variant (R251). -/
def ImgVariant.bytes (v : ImgVariant) : Nat :=
  16 + v.width * v.height * 3 / 2 + (if v.alphaPlane then v.width * v.height else 0)

/-- Bytes of a stored group (R251). -/
def ImgGroup.bytes (g : ImgGroup) : Nat := 16 + sumN (g.variants.map ImgVariant.bytes)

/-- The checks of R252 on the fields and samples of a group. -/
def ImgGroup.ok (g : ImgGroup) : Bool :=
  !g.reserved && g.variants.all (fun v => !v.reserved && decide (v.cls ≤ 5 ∧ 2 ≤ v.width ∧ v.width ≤ 3840 ∧ v.width % 2 = 0)
      && decide (2 ≤ v.height ∧ v.height ≤ 2160 ∧ v.height % 2 = 0) && v.crc = crc32c v.samples && v.isOpaque != v.alphaPlane
      && decide (16 + v.samples.length = v.bytes))
    && decide ((g.variants.map (·.cls)).Pairwise (· < ·))

/-- Guard set `n`, 16 groups; an unwritten set hides every overlay (R254). -/
def State.guardSet (s : State) (n : Nat) : List Nat := tget [] s.cmp.guardSets n

/-- The group that a GUARD_SET entry of fold `f` names; none hides the overlay (R254). -/
def State.guardGroup (s : State) (f entry : Nat) : Option Nat :=
  let n := (s.fold f).desc.guardSet
  if n = 0xFFFF then none
  else match (s.guardSet n)[entry]? with
    | some g => if g = 0xFFFF then none else some g
    | none => none

/-- A group code, none for 0xFFFF. -/
def groupCode (g : Nat) : Option Nat := if g = 0xFFFF then none else some g

/-- The groups that an overlay of fold `f` can show (R249). -/
def State.canShow (s : State) (f : Nat) (o : OverlayEntry) : List Nat :=
  if o.source = 0 then (groupCode o.groupA).toList
  else if o.source = 1 then dedup ((s.foldLegs f).filterMap (fun l => groupCode (s.leg l).caption))
  else if o.source = 2 then dedup ([o.groupA, o.groupB].filterMap groupCode)
  else (s.guardGroup f o.arg).toList

/-! ### Outputs -/

/-- The geometry of an output: its size, its cells with their extents, and its overlays with the pixel position of
their anchors and whether they are guarded. -/
structure OutGeo where
  w : Nat := 0
  h : Nat := 0
  cells : List (Nat × CellEntry × Rect) := []
  overlays : List (Nat × OverlayEntry × Int × Int × Bool) := []
  deriving DecidableEq, Repr

/-- A list with its positions. -/
def indexed {α : Type} (xs : List α) : List (Nat × α) := (upTo xs.length).zip xs

/-- The geometry of a pricking at an output of `w` by `h` (R247). -/
def Pricking.geo (p : Pricking) (w h : Nat) : OutGeo :=
  { w := w, h := h, cells := (indexed p.cells).map (fun (i, c) => (i, c, c.rect w h)),
    overlays := (indexed p.overlays).map (fun (i, o) => (i, o, (mapCoord o.ax w : Int), (mapCoord o.ay h : Int), p.guards.contains i)) }

/-- Does an anchor lie in a cell: at or beyond its left and top edges and before its right and bottom edges, or on those
where they are the picture's (R269)? -/
def CellEntry.holds (c : CellEntry) (ax ay : Nat) : Bool :=
  decide (c.x ≤ ax ∧ c.y ≤ ay) && (ax < c.right || (c.right = 4096 && ax = 4096)) && (ay < c.bottom || (c.bottom = 4096 && ay = 4096))

/-- The geometry of the render of cell `i` of a pricking laced at a grid's size: the cell's own size, coordinates
relative to the cell (R269). -/
def Pricking.cellGeo (p : Pricking) (i gw gh : Nat) : OutGeo :=
  match p.cells[i]? with
  | none => {}
  | some c =>
    let r := c.rect gw gh
    let w := (r.x1 - r.x0).toNat
    let h := (r.y1 - r.y0).toNat
    let mine := (p.geo gw gh).overlays.filter (fun e => c.holds e.2.1.ax e.2.1.ay)
    { w := w, h := h, cells := [(i, c, { x0 := 0, y0 := 0, x1 := w, y1 := h })],
      overlays := mine.map (fun (n, o, x, y, g) => (n, o, x - r.x0, y - r.y0, g)) }

/-- The extent of an overlay that shows an image of `iw` by `ih` (R247). -/
def placeAt (o : OverlayEntry) (x y : Int) (iw ih : Nat) : Rect :=
  let l := alignEdge o.halign x iw
  let t := alignEdge o.valign y ih
  { x0 := l, y0 := t, x1 := l + iw, y1 := t + ih }

/-- An overlay as the cost model takes it: the largest of the variants it can show, not opaque if any is not (R277). -/
def State.costVariant (s : State) (f : Nat) (o : OverlayEntry) (cls : Nat) (guarded : Bool) : Option (Nat × Nat × Bool) :=
  let vs := (s.canShow f o).filterMap (fun g => (s.group g).pick cls guarded)
  let big := vs.foldl (fun (b : Option ImgVariant) v => match b with
    | none => some v
    | some u => if u.width * u.height < v.width * v.height then some v else some u) none
  big.map (fun v => (v.width, v.height, o.alpha = 255 && vs.all (·.isOpaque)))

/-- The layers of an output as the cost model takes them: order, extent, opacity, and the overlay's index. Every cell
is taken as fully covered (R277). -/
def State.costLayers (s : State) (f : Nat) (g : OutGeo) : List (Nat × Rect × Bool × Option Nat) :=
  let whole : Rect := { x0 := 0, y0 := 0, x1 := g.w, y1 := g.h }
  g.cells.map (fun (_, c, r) => (c.z, r, true, none))
    ++ g.overlays.filterMap (fun (i, o, x, y, gd) =>
      (s.costVariant f o (heightClass g.h) gd).map (fun (iw, ih, opq) => (o.z, (placeAt o x y iw ih).meet whole, opq, some i)))

/-- The opaque extents above order `z`. -/
def opaqueAbove (ls : List (Nat × Rect × Bool × Option Nat)) (z : Nat) : List Rect :=
  (ls.filter (fun l => decide (z < l.1) && l.2.2.1)).map (·.2.1)

/-- The composition pixels of the lines from `y0` up to `y1` of an output (R273, R277). -/
def State.pixelsIn (s : State) (f : Nat) (g : OutGeo) (y0 y1 : Nat) : Nat :=
  let ls := s.costLayers f g
  let span : Rect := { x0 := 0, y0 := y0, x1 := g.w, y1 := y1 }
  g.w * (y1 - y0) + sumN (ls.map (fun (z, r, opq, o) => if opq || o.isNone then 0 else visArea (r.meet span) (opaqueAbove ls z)))

/-- Composition pixels X of an output (R277). -/
def State.composePixels (s : State) (f : Nat) (g : OutGeo) : Nat := s.pixelsIn f g 0 g.h

/-- Bands that a picture of `x` composition pixels is cut into (R273). [DESIGN CHOICE, notes/assumptions 29] -/
def composeBands (x : Nat) : Nat := clampN 1 8 (ceilDiv x 6000000)

/-- The first line of band `k` of `n` in a picture of `h` lines: bands are runs of 32-line rows, the larger ones first
(R273). [DESIGN CHOICE, notes/assumptions 29] -/
def bandStart (h n k : Nat) : Nat :=
  let rows := ceilDiv h 32
  Nat.min h (32 * (k * (rows / n) + Nat.min k (rows % n)))

/-- The composition pixels of each band of an output (R273). -/
def State.bandPixels (s : State) (f : Nat) (g : OutGeo) : List Nat :=
  let n := composeBands (s.composePixels f g)
  (upTo n).map (fun k => s.pixelsIn f g (bandStart g.h n k) (bandStart g.h n (k + 1)))

/-- Bytes of a raw tile at a bit depth, and its 8-byte entry (R230, R277). -/
def tileBytes (tenBit : Bool) : Nat := (if tenBit then 1920 else 1536) + 8

/-- The source entry of a leg: its inbound video entry with decode set (R83). -/
def State.sourceEntry (s : State) (l : Nat) : Option Nat :=
  (s.entries l).find? (fun e => let d := (s.stream e).desc; d.kind = 1 && d.inbound && d.decode)

/-- S: the largest source picture among the fold's source records (R277). -/
def State.largestSource (s : State) (f : Nat) : Nat :=
  maxN ((s.foldLegs f).filterMap (fun l => (s.sourceEntry l).map (fun e => (s.stream e).src.maxWidth * (s.stream e).src.maxHeight)))

/-- DRAM bytes charged for composing an output (R277). -/
def State.composeDram (s : State) (f : Nat) (g : OutGeo) (tenBit : Bool) : Nat :=
  let ls := s.costLayers f g
  let S := s.largestSource f
  let cellPart := sumN (g.cells.map (fun (_, c, r) =>
    ceilDiv (S * visArea r (opaqueAbove ls c.z)) (Nat.max 1 (1024 * r.area)) * tileBytes tenBit))
  let ovPart := sumN (ls.map (fun (z, r, opq, o) => if o.isNone then 0 else visArea r (opaqueAbove ls z) * (if opq then 3 else 5) / 2))
  tilesOf g.w g.h * tileBytes tenBit + cellPart + ovPart

/-- Media-core cycles charged for composing an output: the layers of its geometry (R277). -/
def OutGeo.cores (g : OutGeo) : Nat := 4000 + 300 * (g.cells.length + g.overlays.length)

/-- R249 for one output: every image that a guarded overlay can show has an opaque variant of the output's class, wholly
inside the output, that no higher layer meets. `shows` limits the check to overlays that can show one of the groups it
holds; the empty list checks all of them. -/
def State.guardsFit (s : State) (f : Nat) (g : OutGeo) : Bool :=
  let cls := heightClass g.h
  let whole : Rect := { x0 := 0, y0 := 0, x1 := g.w, y1 := g.h }
  let ls := s.costLayers f g
  g.overlays.all (fun (_, o, x, y, gd) => !gd || (s.canShow f o).all (fun n =>
    match (s.group n).exact cls with
    | none => false
    | some v =>
      let r := placeAt o x y v.width v.height
      v.isOpaque && r.inside whole && ls.all (fun (z, q, _) => decide (z ≤ o.z) || (r.meet q).isEmpty)))

/-! ### Laced prickings and cell classes (R322 to R327) -/

/-- Sum of the first `n` column or row units, in samples, held to the picture. -/
def gridEdge (units : List Nat) (size n : Nat) : Nat := Nat.min size (64 * sumN (units.take n))

/-- The grid edges along one axis, the picture edge last. -/
def gridEdges (units : List Nat) (size : Nat) : List Nat := (upTo (units.length + 1)).map (gridEdge units size)

/-- Validity of a grid record (R322, R323). -/
def LaceGrid.ok (g : LaceGrid) : Bool :=
  let cw := 64 * sumN g.colSb
  let rh := 64 * sumN g.rowSb
  !g.reserved && (g.codec = 0x20 || g.codec = 0x21 || g.codec = 0x50)
    && decide (g.id ≤ 1023 ∧ 1 ≤ g.rungCount ∧ g.rungCount ≤ 6 ∧ 256 ≤ g.width ∧ g.width ≤ 3840 ∧ g.width % 2 = 0)
    && decide (128 ≤ g.height ∧ g.height ≤ 2160 ∧ g.height % 2 = 0 ∧ 1 ≤ g.cols ∧ g.cols ≤ 20 ∧ 1 ≤ g.rows ∧ g.rows ≤ 22)
    && decide (g.cols * g.rows ≤ 64 ∧ g.colSb.length = g.cols ∧ g.rowSb.length = g.rows)
    && (g.bufferTicks = 0 || decide (3 ≤ g.bufferTicks ∧ g.bufferTicks ≤ 240))
    && (if g.codec = 0x50 then decide (1 ≤ g.baseQ ∧ g.baseQ ≤ 255) else decide (g.baseQ ≤ if g.codec = 0x20 then 51 else 63))
    && decide (g.kbps.length = 6) && decide ((g.kbps.take g.rungCount).Pairwise (· > ·)) && (g.kbps.drop g.rungCount).all (· = 0)
    && (g.kbps.take g.rungCount).all (fun k => decide (0 < k))
    && (g.colSb ++ g.rowSb).all (fun u => decide (1 ≤ u ∧ u ≤ 64))
    && decide (g.width ≤ cw ∧ cw ≤ g.width + 62 ∧ g.height ≤ rh ∧ rh ≤ g.height + 62)
    && (g.codec = 0x50 || (g.colSb.take (g.cols - 1)).all (fun u => decide (4 ≤ u)))

/-- The grid class of a fold, if it has one. -/
def State.gridOf (s : State) (f : Nat) : Option LaceGrid :=
  let n := (s.fold f).desc.laceGrid
  if n = 0xFFFF then none else s.boot.image.grids.find? (fun g => g.id = n)

/-- Can a pricking be laced on a grid (R324)? Overlay extents are taken at every image the overlay can show. -/
def State.laceable (s : State) (f : Nat) (p : Pricking) (g : LaceGrid) : Bool :=
  let geo := p.geo g.width g.height
  let xs := gridEdges g.colSb g.width
  let ys := gridEdges g.rowSb g.height
  let on (es : List Nat) (v : Int) : Bool := es.any (fun e => (e : Int) = v)
  let rs := geo.cells.map (·.2.2)
  let whole : Rect := { x0 := 0, y0 := 0, x1 := g.width, y1 := g.height }
  rs.all (fun r => on xs r.x0 && on xs r.x1 && on ys r.y0 && on ys r.y1)
    && (indexed rs).all (fun (i, r) => (indexed rs).all (fun (j, q) => i = j || (r.meet q).isEmpty))
    && visArea whole rs = 0
    && geo.overlays.all (fun (_, o, x, y, gd) => (s.canShow f o).all (fun n =>
        match (s.group n).pick (heightClass g.height) gd with
        | none => true
        | some v => rs.any (fun r => (placeAt o x y v.width v.height).inside r)))

/-- The pricking that a laced leg shows: its viewer_pricking, or the fold's (R324). -/
def State.viewerPricking (s : State) (l : Nat) : Nat :=
  let d := (s.leg l).desc
  if d.viewerPricking = 0xFFFF then (s.fold d.fold).desc.pricking else d.viewerPricking

/-- The laced legs of a fold. -/
def State.lacedLegs (s : State) (f : Nat) : List Nat := (s.foldLegs f).filter (fun l => (s.leg l).desc.videoMode = 2)

/-- The prickings that the fold's laced legs show: the fold's first, then the others in ascending id (R325). -/
def State.lacedPrickings (s : State) (f : Nat) : List Nat :=
  let ids := (s.lacedLegs f).map s.viewerPricking
  let own := (s.fold f).desc.pricking
  (if ids.contains own then [own] else []) ++ (ids.foldl (fun acc i => insertAsc i acc) []).filter (· != own)

/-- The class of cell `i` of a pricking on a grid (R325). -/
def Pricking.classOf (p : Pricking) (g : LaceGrid) (i : Nat) : ClassKey :=
  match p.cells[i]? with
  | none => {}
  | some c =>
    let r := c.rect g.width g.height
    let span (units : List Nat) (size : Nat) (a b : Int) : List Nat :=
      ((indexed units).filter (fun (n, _) => decide (a ≤ gridEdge units size n ∧ (gridEdge units size n : Int) < b))).map (·.2)
    let own (o : OverlayEntry) : OverlayEntry :=
      let o := { o with ax := 0, ay := 0 }
      if (o.source = 1 || o.source = 2) && o.arg = i then { o with arg := 32 } else o
    { cols := span g.colSb g.width r.x0 r.x1, rows := span g.rowSb g.height r.y0 r.y1,
      overlays := (p.cellGeo i g.width g.height).overlays.map (fun (_, o, x, y, gd) => (own o, x, y, gd)) }

/-- The cells of the fold's laced prickings in the order of R325: pricking, cell, class. -/
def State.lacedCells (s : State) (f : Nat) : List (Nat × Nat × ClassKey) :=
  match s.gridOf f with
  | none => []
  | some g => (s.lacedPrickings f).flatMap (fun id =>
      match s.pricking id with
      | none => []
      | some p => (upTo p.cells.length).map (fun i => (id, i, p.classOf g i)))

/-- The cell classes of a fold, by number (R325). -/
def State.cellClasses (s : State) (f : Nat) : List ClassKey :=
  (s.lacedCells f).foldl (fun acc c => if acc.contains c.2.2 then acc else acc ++ [c.2.2]) []

/-- Size of a cell class on a grid: that of its first cell in the order of R325. -/
def State.classGeo (s : State) (f : Nat) (k : ClassKey) : OutGeo :=
  match s.gridOf f, (s.lacedCells f).find? (fun c => c.2.2 = k) with
  | some g, some (id, i, _) => (match s.pricking id with | some p => p.cellGeo i g.width g.height | none => {})
  | _, _ => {}

/-- The target rate in kb/s of tile rung `r` of a class of `area` samples (R327). -/
def LaceGrid.rungRate (g : LaceGrid) (r area : Nat) : Nat := ceilDiv (g.kbps.getD r 0 * area) 921600

/-! ### Pictures of line classes -/

/-- The geometry of a line class's output. -/
def State.lcGeo (s : State) (c : Nat) : OutGeo :=
  let d := (s.lc c).desc
  match s.pricking d.pricking with
  | some p => p.geo d.width d.height
  | none => { w := d.width, h := d.height }

/-- The line classes of a fold that are live. -/
def State.foldLcs (s : State) (f : Nat) : List Nat :=
  (s.lcs.filter (fun e => e.2.live && e.2.desc.fold = f)).map (·.1)

/-- Are 10-bit samples the line class's bit depth (R286)? -/
def LineClass.tenBit (c : LineClass) : Bool := c.desc.codec = 0x21 || (c.desc.codec = 0x50 && c.enc.av1Ten)

/-- Every output of a fold: the pictures of its line classes and one render per cell class. -/
def State.foldOutputs (s : State) (f : Nat) : List OutGeo :=
  (s.foldLcs f).map s.lcGeo ++ (s.cellClasses f).map (s.classGeo f)

end Sys2Proof.Machine
end

