-- ==== Sys2Proof/Machine/Pix.lean ====
section
/-!
DEFINITION. The samples of composed pictures (06, R260 to R272): layer records, fitting, scaling, colour handling, blending,
culling of covered layers, and the signature of a guard region. Decoded samples are those of the codecs' standards and are
free values (notes/assumptions 6).
-/

namespace Sys2Proof.Machine

/-! ### Blending (R262) -/

/-- The alpha of an overlay sample: layer alpha `ag` and image alpha `ai` (R262). -/
def blendAlpha (ag ai : Nat) : Nat := (ag * ai + 127) / 255

/-- An overlay sample `f` blended with alpha `a` over the value `b` beneath it (R262). -/
def blend (a f b : Nat) : Nat := (a * f + (255 - a) * b + 127) / 255

/-! ### Fit modes (R263) -/

/-- Where a source span lands along one axis: `m` source samples from offset `o`, in `n` samples of the cell from `d`. -/
structure AxisFit where
  m : Nat := 0
  o : Nat := 0
  n : Nat := 0
  d : Nat := 0
  deriving DecidableEq, Repr

/-- `n` samples of the cell's `c` at a centred even offset (R263). -/
def centred (c n : Nat) : Nat := 2 * ((c - n) / 4)

/-- A scale-up beyond 8 limited to 8 and centred (R263). -/
def AxisFit.limit (a : AxisFit) (c : Nat) : AxisFit := if 8 * a.m < a.n then { a with n := 8 * a.m, d := centred c (8 * a.m) } else a

/-- The centred width that CROP takes of a source of `s` samples, whose other axis has `u`, for a cell of `c` whose other
axis has `v` (R263). -/
def cropSpan (s u c v : Nat) : AxisFit :=
  let m := 2 * (u * c / (2 * v))
  { m := m, o := 2 * ((s - m) / 4), n := c, d := 0 }

/-- The placement of a source of `sw` by `sh` in a cell of `cw` by `ch`, by fit mode: 0 CROP, 1 FIT, else STRETCH; the
horizontal axis, then the vertical one (R263). -/
def fitAxes (fit sw sh cw ch : Nat) : AxisFit × AxisFit :=
  let wide := decide (sh * cw ≤ sw * ch)
  let x : AxisFit := { m := sw, o := 0, n := cw, d := 0 }
  let y : AxisFit := { m := sh, o := 0, n := ch, d := 0 }
  let p := if fit = 0 then (if wide then (cropSpan sw sh cw ch, y) else (x, cropSpan sh sw ch cw))
    else if fit = 1 then
      if wide then
        let n := 2 * (sh * cw / (2 * sw))
        (x, { y with n := n, d := centred ch n })
      else
        let n := 2 * (sw * ch / (2 * sh))
        ({ x with n := n, d := centred cw n }, y)
    else (x, y)
  (p.1.limit cw, p.2.limit ch)

/-! ### Scaling (R264) -/

/-- Sample `i` of a line halved `k` times: the rounded mean of a pair, a final odd sample dropped (R264). -/
def halved (f : Nat → Nat) : Nat → Nat → Nat
  | 0, i => f i
  | k + 1, i => (halved f k (2 * i) + halved f k (2 * i + 1) + 1) / 2

/-- How often an axis of `m` source samples for `n` is halved: until m / n is at most 4; `fuel` bounds the count (R264). -/
def halvings (m n : Nat) : (fuel : Nat) → Nat
  | 0 => 0
  | k + 1 => if 4 * n < m then halvings (m / 2) n k + 1 else 0

/-- One axis of a scale: its halvings, and the span, offset and length that are left of the source after them. -/
structure ScaleAxis where
  k : Nat := 0
  m : Nat := 1
  o : Nat := 0
  len : Nat := 1
  n : Nat := 1
  deriving DecidableEq, Repr

/-- The axis of a scale of `a` from a source of `len` samples (R264). The whole axis is halved, its span and offset with it.
[DESIGN CHOICE, notes/assumptions 63] -/
def AxisFit.scale (a : AxisFit) (len : Nat) : ScaleAxis :=
  let k := if a.n = 0 then 0 else halvings a.m a.n 16
  { k := k, m := a.m / 2 ^ k, o := a.o / 2 ^ k, len := Nat.max 1 (len / 2 ^ k), n := a.n }

/-- The source position of output sample `i`, in 1/64 sample (R264). -/
def ScaleAxis.pos (a : ScaleAxis) (i : Nat) : Int := (((2 * i + 1) * a.m * 32 / a.n : Nat) : Int) - 32 + 64 * a.o

/-- The taps of a phase with the positions that they take, held to the picture: `first` is the offset of the first tap
(R264). -/
def ScaleAxis.taps (a : ScaleAxis) (table : List (List Int)) (first : Int) (i : Nat) : List (Int × Nat) :=
  let p := a.pos i
  (indexed (table.getD (p % 64).toNat [])).map (fun (j, t) => (t, (clampI 0 ((a.len : Int) - 1) (p / 64 + first + (j : Int))).toNat))

/-- A sum of integers. -/
def sumI (xs : List Int) : Int := xs.foldl (· + ·) 0

/-- Output sample (`i`, `j`) of a separable scale of the plane `f` to a bit depth: the horizontal sums unrounded, one
rounding at the end, clipped (R264). -/
def scaleSample (table : List (List Int)) (first : Int) (x y : ScaleAxis) (depth : Nat) (f : Nat → Nat → Nat) (i j : Nat) : Nat :=
  let src (a b : Nat) : Nat := halved (fun v => halved (fun u => f u v) x.k a) y.k b
  let row (b : Nat) : Int := sumI ((x.taps table first i).map (fun (t, a) => t * (src a b : Int)))
  let sum := sumI ((y.taps table first j).map (fun (t, b) => t * row b))
  (clampI 0 ((2 ^ depth - 1 : Nat) : Int) ((sum + 8192) / 16384)).toNat

/-! ### Source samples and colour (R265, R267) -/

/-- The bits of a sample. -/
def depthOf (tenBit : Bool) : Nat := if tenBit then 10 else 8

/-- A plane's dimension: luma (plane 0) at full size, chroma at half, rounded up. -/
def planeDim (plane n : Nat) : Nat := if plane = 0 then n else ceilDiv n 2

/-- The tile of a picture of width `w` that holds sample (`x`, `y`) of a plane (R214). -/
def tileAt (w plane x y : Nat) : Nat :=
  let u := if plane = 0 then 32 else 16
  y / u * ceilDiv w 32 + x / u

/-- A decoded sample as the compositor fetches it: a corrupt tile is replaced by the co-located one of the stream's previous
decoded picture, or by 2^(depth - 1) (R267). -/
def SrcPic.fetch (p : SrcPic) (subs : List TileSub) (plane x y : Nat) : Nat :=
  let d := depthOf p.tenBit
  match subs.find? (fun t => t.entry = p.entry && t.tile = tileAt p.width plane x y) with
  | none => Config.decodedSample p.entry p.tick p.gen plane x y % 2 ^ d
  | some t => match t.previous, p.before with
    | true, some (n, g) => Config.decodedSample p.entry n g plane x y % 2 ^ d
    | _, _ => 2 ^ (d - 1)

/-- The fetched samples in BT.709 limited range (R265): used as they are, or through the full-range rescale and the scaler
record's matrix, whose rounding and chroma siting no rule gives: the result is a free value of the 2 × 2 group that holds
the sample. [DESIGN CHOICE, notes/assumptions 63] -/
def SrcPic.in709 (p : SrcPic) (r : ScalerRec) (subs : List TileSub) (plane x y : Nat) : Nat :=
  if p.colour.matrix = .bt709 && !p.colour.fullRange then p.fetch subs plane x y
  else
    let m := match p.colour.matrix with | .bt709 => [] | .bt601 => r.m601 | .bt2020 => r.m2020
    let gx := if plane = 0 then x / 2 else x
    let gy := if plane = 0 then y / 2 else y
    let luma := [(0, 0), (1, 0), (0, 1), (1, 1)].map (fun (i, j) =>
      p.fetch subs 0 (Nat.min (p.width - 1) (2 * gx + i)) (Nat.min (p.height - 1) (2 * gy + j)))
    let d := depthOf p.tenBit
    let pos := if plane = 0 then x % 2 + 2 * (y % 2) else 3 + plane
    Nat.min (2 ^ d - 1) (Config.to709 m p.colour.fullRange d pos (luma ++ [p.fetch subs 1 gx gy, p.fetch subs 2 gx gy]))

/-- A sample brought from the source's bit depth to the output's (R265). -/
def toDepth (srcTen outTen : Bool) (x : Nat) : Nat :=
  match srcTen, outTen with
  | true, false => Nat.min 255 ((x + 2) / 4)
  | false, true => x * 4
  | _, _ => x

/-- Sample (`x`, `y`) of a plane of an image variant, and of its alpha plane as plane 3 (R251). -/
def ImgVariant.sample (v : ImgVariant) (plane x y : Nat) : Nat :=
  let n := v.width * v.height
  let i := if plane = 0 then y * v.width + x
    else if plane = 3 then n * 3 / 2 + y * v.width + x
    else n + (plane - 1) * (n / 4) + y * (v.width / 2) + x
  (v.samples.getD i 0).toNat

/-- The alpha of an image sample, 255 for opaque variants (R262). -/
def ImgVariant.alphaAt (v : ImgVariant) (x y : Nat) : Nat := if v.isOpaque then 255 else v.sample 3 x y

/-! ### Pictures (R262 to R266) -/

/-- Luma samples per sample of a plane, along each axis. -/
def lumaStep (plane : Nat) : Nat := if plane = 0 then 1 else 2

/-- A background sample of a plane at the output's bit depth. -/
def PicRec.ground (p : PicRec) (plane : Nat) : Nat := toDepth false p.tenBit (p.background.getD plane 0)

/-- Size of a layer's source. -/
def LayerSrc.size : LayerSrc → Nat × Nat
  | .picture p => (p.width, p.height)
  | .image _ v => (v.width, v.height)
  | .background => (0, 0)

/-- A sample of a cell's source at the output's bit depth, before scaling (R265). An image that a cell shows is taken
without its alpha. [DESIGN CHOICE, notes/assumptions 63] -/
def PicRec.source (p : PicRec) (r : ScalerRec) (src : LayerSrc) (plane x y : Nat) : Nat :=
  match src with
  | .picture q => toDepth q.tenBit p.tenBit (q.in709 r p.subs plane x y)
  | .image _ v => toDepth false p.tenBit (v.sample plane x y)
  | .background => p.ground plane

/-- The taps of the scaler record for a plane, and the offset of their first one (R264). -/
def ScalerRec.planeTaps (r : ScalerRec) (plane : Nat) : List (List Int) × Int := if plane = 0 then (r.luma, -2) else (r.chroma, -1)

/-- Half of an axis placement, for a chroma plane. -/
def AxisFit.forPlane (a : AxisFit) (plane : Nat) : AxisFit :=
  if plane = 0 then a else { m := ceilDiv a.m 2, o := a.o / 2, n := a.n / 2, d := a.d / 2 }

/-- A sample of a cell, `x` and `y` counted in the plane from the cell's corner: the source as the fit mode places and scales
it, the background in the bars, and for an image that returned a poisoned line (R262 to R264, R267).
[DESIGN CHOICE, notes/assumptions 63] -/
def PicRec.cellSample (p : PicRec) (r : ScalerRec) (l : LayerRec) (plane x y : Nat) : Nat :=
  let bare := match l.src with | .background => true | .image g _ => p.clear.contains g | .picture _ => false
  if bare then p.ground plane
  else
    let (sw, sh) := l.src.size
    let (fx, fy) := fitAxes l.fit sw sh (l.rect.x1 - l.rect.x0).toNat (l.rect.y1 - l.rect.y0).toNat
    let a := fx.forPlane plane
    let b := fy.forPlane plane
    if decide (a.d ≤ x ∧ x < a.d + a.n ∧ b.d ≤ y ∧ y < b.d + b.n) then
      let (table, first) := r.planeTaps plane
      scaleSample table first (a.scale (planeDim plane sw)) (b.scale (planeDim plane sh)) (depthOf p.tenBit) (p.source r l.src plane) (x - a.d) (y - b.d)
    else p.ground plane

/-- Does a group that an overlay shows appear in this picture: not when its variant returned a poisoned line (R267)? -/
def PicRec.visible (p : PicRec) (l : LayerRec) : Bool :=
  match l.overlay, l.src with
  | some _, .image g _ => !p.clear.contains g
  | _, _ => true

/-- A layer applied to the value `b` beneath it at sample (`x`, `y`) of a plane (R262). -/
def PicRec.apply (p : PicRec) (r : ScalerRec) (plane x y : Nat) (b : Nat) (l : LayerRec) : Nat :=
  let u := lumaStep plane
  let lx : Int := (u * x : Nat)
  let ly : Int := (u * y : Nat)
  if decide (l.rect.x0 ≤ lx ∧ lx < l.rect.x1 ∧ l.rect.y0 ≤ ly ∧ ly < l.rect.y1) && p.visible l then
    let ix := (lx - l.rect.x0).toNat
    let iy := (ly - l.rect.y0).toNat
    match l.overlay, l.src with
    | some _, .image _ v => blend (blendAlpha l.alpha (v.alphaAt ix iy)) (toDepth false p.tenBit (v.sample plane (ix / u) (iy / u))) b
    | some _, _ => b
    | none, _ => p.cellSample r l plane (ix / u) (iy / u)
  else b

/-- Is a layer opaque over its whole area: a cell, or an overlay of alpha 255 with an opaque variant (R266)? -/
def PicRec.covers (p : PicRec) (l : LayerRec) : Bool :=
  match l.overlay, l.src with
  | none, _ => true
  | some _, .image _ v => l.alpha = 255 && v.isOpaque && p.visible l
  | some _, _ => false

/-- The extent of the 32 × 32 tile of the output that holds luma sample (`x`, `y`). -/
def PicRec.tileRect (p : PicRec) (x y : Nat) : Rect :=
  { x0 := x / 32 * 32, y0 := y / 32 * 32, x1 := Nat.min p.w (x / 32 * 32 + 32), y1 := Nat.min p.h (y / 32 * 32 + 32) }

/-- The layers that are fetched for a tile of the output: from the topmost one that is opaque over the whole tile upward
(R266). -/
def PicRec.layersOf (p : PicRec) (tile : Rect) : List LayerRec :=
  p.layers.foldl (fun acc l => if p.covers l && tile.inside l.rect then [l] else acc ++ [l]) []

/-- Output sample (`x`, `y`) of a plane: the background, then the tile's layers in ascending z (R262, R266).
[DESIGN CHOICE, notes/assumptions 62] -/
def PicRec.sample (p : PicRec) (r : ScalerRec) (plane x y : Nat) : Nat :=
  let u := lumaStep plane
  (p.layersOf (p.tileRect (u * x) (u * y))).foldl (p.apply r plane x y) (p.ground plane)

/-! ### Signatures (R270) -/

/-- The bytes of a plane inside a rectangle of luma samples, rows top to bottom; bits [9:2] of a 10-bit sample (R270). -/
def PicRec.planeBytes (p : PicRec) (r : ScalerRec) (q : Rect) (plane : Nat) : List (BitVec 8) :=
  let u := lumaStep plane
  let xs := fromTo (q.x0.toNat / u) (q.x1.toNat / u)
  (fromTo (q.y0.toNat / u) (q.y1.toNat / u)).flatMap (fun y => xs.map (fun x =>
    let v := p.sample r plane x y
    BitVec.ofNat 8 (if p.tenBit then v / 4 else v)))

/-- The signature of a guard region (R270). -/
def PicRec.signature (p : PicRec) (r : ScalerRec) (q : Rect) : BitVec 32 :=
  crc32c (p.planeBytes r q 0 ++ p.planeBytes r q 1 ++ p.planeBytes r q 2)

/-- The signature of the overlay with this index; 0 where the picture does not show it (R270). -/
def PicRec.guardSignature (p : PicRec) (r : ScalerRec) (o : Nat) : BitVec 32 :=
  match p.layers.find? (fun l => l.overlay = some o) with
  | some l => p.signature r l.rect
  | none => 0

/-! ### Layer records (R260, R272) -/

/-- The scaler record in use (R264, R592). -/
def State.scaler (s : State) : ScalerRec := s.boot.image.scaler.getD {}

/-- The source of a cell that displays a picture, or of one without: the pricking's placeholder, or the background (R243,
R257). [DESIGN CHOICE, notes/assumptions 63] -/
def State.cellSource (s : State) (p : Pricking) (h : Nat) (pic : Option SrcPic) : LayerSrc :=
  match pic, groupCode p.placeholder with
  | some q, _ => .picture q
  | none, none => .background
  | none, some g => match (s.group g).pick (heightClass h) false with
    | some v => .image g v
    | none => .background

/-- A layer put into its place by ascending z (R262). -/
def insertLayer (l : LayerRec) : List LayerRec → List LayerRec
  | [] => [l]
  | x :: xs => if l.z < x.z then l :: x :: xs else x :: insertLayer l xs

/-- The groups that stay transparent: a Torzer group until it is restored, a host group that is lost until it is loaded again
(R267, R596). -/
def State.badGroups (s : State) : List Nat := s.cmp.groupPoison ++ s.cmp.groupLost

/-- The slate of a fold at an output's size: its slate group stretched over black, or black (R272).
[DESIGN CHOICE, notes/assumptions 63] -/
def State.slateRec (s : State) (f w h : Nat) (ten : Bool) : PicRec :=
  let img := (groupCode (s.fold f).desc.slate).bind (fun g => ((s.group g).pick (heightClass h) false).map (fun v => LayerSrc.image g v))
  { w := w, h := h, tenBit := ten, clear := s.badGroups,
    layers := (img.map (fun i => { rect := { x0 := 0, y0 := 0, x1 := w, y1 := h }, src := i, fit := 2 : LayerRec })).toList }

end Sys2Proof.Machine
end

