-- ==== Sys2Proof/Machine/Cmp.lean ====
section
/-!
DEFINITION. Composition (06): occupants, bands, guards and slates, image groups taking effect, and their faults.
-/

namespace Sys2Proof.Machine

/-- CMP GUARD_MISMATCH (R276). -/
def fltGuardMismatch : Nat := faultCode 11 1 5
/-- CMP TILE_CORRUPT (R276). -/
def fltCmpTileCorrupt : Nat := faultCode 11 1 6
/-- CMP TILE_RETRY (R276). -/
def fltCmpTileRetry : Nat := faultCode 11 0 7
/-- CMP IMAGE_POISON (R276). -/
def fltImagePoison : Nat := faultCode 11 1 8
/-- CMP COLOUR_UNSUPPORTED (R276). -/
def fltColour : Nat := faultCode 11 0 9
/-- BOOT RECORD_RESTORE (R605). [DESIGN CHOICE, notes/assumptions 49] -/
def fltRecordRestore : Nat := faultCode 1 1 0x10

/-! ### Occupants (R255 to R258) -/

/-- May leg `l` of fold `f` occupy a cell: ACTIVE with video (R255)? -/
def State.mayOccupy (s : State) (f l : Nat) : Bool :=
  let g := s.leg l
  g.state = .active && g.desc.hasVideo && g.desc.fold = f

/-- The candidates of a cell, in order (R255), from the bellwether record of the last tick and the recency list. -/
def State.candidates (s : State) (f : Nat) (c : CellEntry) : List Nat :=
  let r := s.fold f
  let recent := r.recency.map (·.1)
  let ranks := r.record.members.map (·.1)
  let raw := if c.role = 1 then r.record.lead.toList ++ recent
    else if c.role = 2 then ranks.drop (c.arg - 1) ++ recent
    else if c.role = 3 then (r.pins[c.arg]?.toList).filter (· ≠ 0xFFFF)
    else if c.role = 4 then recent
    else []
  dedup (raw.filter (s.mayOccupy f))

/-- One cell of the resolution of R256: the occupant wanted, and the legs placed so far. -/
def State.resolveCell (s : State) (f : Nat) (c : CellEntry) (want : Option Nat) (placed : List Nat) : Option Nat × List Nat :=
  let cs := s.candidates f c
  let keep := match want with
    | some w => (c.role = 2 || c.role = 4) && cs.contains w && !placed.contains w
    | none => false
  let w := if keep then want else cs.find? (fun l => !placed.contains l)
  (w, placed ++ w.toList)

/-- The cells of a pricking with a given role, with their indices. -/
def Pricking.withRole (p : Pricking) (role : Nat) : List (Nat × CellEntry) := (indexed p.cells).filter (fun e => e.2.role = role)

/-- The wanted occupant of every cell (R256): PINNED, LEAD, RANK, RECENT, ascending cell index within each. Cells of
role EMPTY want none. `now` gives the occupant that each cell wants so far. -/
def State.resolve (s : State) (f : Nat) (p : Pricking) (now : Nat → Option Nat) : List (Nat × Option Nat) :=
  let order := [3, 1, 2, 4].flatMap p.withRole
  (order.foldl (fun (acc : List (Nat × Option Nat) × List Nat) e =>
    let r := s.resolveCell f e.2 (now e.1) acc.2
    (acc.1 ++ [(e.1, r.1)], r.2)) ([], [])).1

/-- The decoded picture of leg `l` that is available at the start of this tick (R225, R257). -/
def State.picture (s : State) (l : Nat) : Option SrcPic := (s.sourceEntry l).bind (fun e => (s.stream e).dec.picture s.now)

/-- A cell with its wanted occupant: what it displays in this tick (R257). -/
def State.displayCell (s : State) (c : CellSt) (want : Option Nat) : CellSt :=
  match want with
  | none => {}
  | some w => match s.picture w with
    | some q => { want := want, shown := want, pic := some q }
    | none =>
      let start := if c.held && c.want = want then c.waitFrom else s.now
      if c.shown.isNone || decide (start + 120 ≤ s.now) then { want := want, shown := none, waitFrom := start }
      else { want := want, shown := c.shown, held := true, waitFrom := start, pic := c.pic }

/-- The decoding of one new occupant's stream is asked for: at most one per fold per tick, the first in cell order; it
starts at the next boundary (R258). -/
def State.askDecode (s : State) (f : Nat) (wants : List (Nat × Option Nat)) : State :=
  if tget 0 s.cmp.decNext f ≠ 0 then s
  else
    let byCell := (upTo 32).filterMap (fun i => (wants.find? (fun e => e.1 = i)).bind (·.2))
    match byCell.filterMap s.sourceEntry |>.find? (fun e => (s.stream e).dec.state = .idle) with
    | some e => { s with cmp := { s.cmp with decNext := tset 0 s.cmp.decNext f (e + 1) } }
    | none => s

/-- The occupants of line class `c` are resolved at the start of its compose tick (R256 to R258). -/
def State.resolveLc (s : State) (c : Nat) : State :=
  let x := s.lc c
  match s.pricking x.desc.pricking with
  | none => s
  | some p =>
    let wants := s.resolve x.desc.fold p (fun i => (tget {} x.cells i).want)
    let cells := wants.foldl (fun t (i, w) => tset {} t i (s.displayCell (tget {} t i) w)) x.cells
    (s.onLc c (fun x => { x with cells := cells })).askDecode x.desc.fold wants

/-- The arrangement of one laced pricking of a fold, and its spare: the first leg of the recency list with video that no
cell of the arrangement holds (R331). -/
def State.resolveArr (s : State) (f id : Nat) : State :=
  let r := s.fold f
  if tget 0 r.arrTick id = s.now + 1 then s
  else match s.pricking id with
    | none => s
    | some p =>
      let key (i : Nat) := id * 32 + i
      let wants := s.resolve f p (fun i => (tget {} r.arr (key i)).want)
      let arr := wants.foldl (fun t (i, w) => tset {} t (key i) (s.displayCell (tget {} t (key i)) w)) r.arr
      let held := wants.filterMap (·.2)
      let spare := (r.recency.map (·.1)).find? (fun l => s.mayOccupy f l && !held.contains l)
      let s := s.onFold f (fun r => { r with arr := arr, spare := tset 0 r.spare id ((spare.map (· + 1)).getD 0), arrTick := tset 0 r.arrTick id (s.now + 1) })
      s.askDecode f (wants ++ [(31, spare)])

/-- The leg whose picture a cell of an arrangement displays: the occupant whose encode the cell takes (R257, R331).
[DESIGN CHOICE, notes/assumptions 29] -/
def State.arrOccupant (s : State) (f id i : Nat) : Option Nat := (tget {} (s.fold f).arr (id * 32 + i)).shown

/-! ### Overlays as shown (R253, R254, R259) -/

/-- The group that an overlay shows over cells that display the legs that `shown` gives; none when it is not shown. -/
def State.showsGroup (s : State) (f : Nat) (shown : Nat → Option Nat) (o : OverlayEntry) : Option Nat :=
  if o.source = 0 then groupCode o.groupA
  else if o.source = 3 then s.guardGroup f o.arg
  else match shown o.arg with
    | none => none
    | some l =>
      if o.source = 1 then groupCode (s.leg l).caption
      else groupCode (if (s.leg l).aud.mutedPrev then o.groupA else o.groupB)

/-- The expected signature of each guard of an output, by overlay index; guards of overlays not shown are not checked
(R254, R270). -/
def State.expectedGuards (s : State) (f : Nat) (g : OutGeo) (shown : Nat → Option Nat) : List (Nat × BitVec 32) :=
  (g.overlays.filter (·.2.2.2.2)).filterMap (fun (i, o, _) =>
    match s.showsGroup f shown o with
    | none => none
    | some n => ((s.group n).exact (heightClass g.h)).map (fun v => (i, v.crc)))

/-! ### Pictures (R260, R261) -/

/-- The layer records of an output, latched for its compose tick: every cell with the picture that it displays, every
overlay that is shown (R253, R259, R260). [DESIGN CHOICE, notes/assumptions 63] -/
def State.picRec (s : State) (f : Nat) (p : Pricking) (g : OutGeo) (ten : Bool) (shown : Nat → Option Nat) (pic : Nat → Option SrcPic) : PicRec :=
  let cells := g.cells.map (fun (i, c, r) => ({ z := c.z, rect := r, src := s.cellSource p g.h (pic i), fit := c.fit : LayerRec }))
  let overlays := g.overlays.filterMap (fun (i, o, x, y, gd) =>
    (s.showsGroup f shown o).bind (fun n => ((s.group n).pick (heightClass g.h) gd).map (fun v =>
      ({ z := o.z, rect := placeAt o x y v.width v.height, src := .image n v, overlay := some i, alpha := o.alpha : LayerRec }))))
  { w := g.w, h := g.h, tenBit := ten, background := p.background, clear := s.badGroups, layers := (cells ++ overlays).foldl (fun ls l => insertLayer l ls) [] }

/-- The source tiles that a band found corrupt, with what replaces each (R267). -/
def ComposeBand.subs (b : ComposeBand) : List TileSub :=
  (b.fetches.filter (fun e => e.2.outcome = .corrupt)).map (fun (e, f) =>
    { entry := e, tile := f.tile, previous := b.standIns.any (fun (e', g) => e' = e && g.tile = f.tile && g.outcome != .corrupt) })

/-- A picture after what one of its bands found in its fetches (R267). -/
def PicRec.meetBand (p : PicRec) (b : ComposeBand) : PicRec := { p with clear := p.clear ++ b.poisoned, subs := p.subs ++ b.subs }

/-- The signature of each guard of a picture, by guard number: what the band's path made it, else that of the picture's own
samples (R270). -/
def State.signatures (s : State) (p : PicRec) (order : Nat → Nat) (want seen : List (Nat × BitVec 32)) : List (Nat × BitVec 32) :=
  want.map (fun (o, _) => (order o, ((seen.find? (fun e => e.1 = order o)).map (·.2)).getD (p.guardSignature s.scaler o)))

/-- The streams of PQ or HLG transfer whose pictures a picture shows (R265). -/
def PicRec.hdrStreams (p : PicRec) : List Nat :=
  dedup (p.layers.filterMap (fun l => match l.src with
    | .picture q => if q.colour.hdr then some q.entry else none
    | _ => none))

/-! ### Guards (R270, R271) -/

/-- The guard state after a checked picture: the state, and whether the slate is passed (R271). -/
def GuardSt.check (g : GuardSt) (mismatch : Bool) : Bool × Nat :=
  if mismatch then (true, 0)
  else if !g.slate then (false, 0)
  else if g.streak = 2 then (false, 0)
  else (true, g.streak + 1)

/-- The guards of a picture compared: the new guard state (R270, R271). `order` gives the number of a guarded overlay. -/
def GuardSt.compare (g : GuardSt) (order : Nat → Nat) (want : List (Nat × BitVec 32)) (seen : List (Nat × BitVec 32)) : GuardSt :=
  let saw (o : Nat) (w : BitVec 32) : BitVec 32 := ((seen.find? (fun e => e.1 = order o)).map (·.2)).getD w
  let bad := (want.filter (fun e => saw e.1 e.2 != e.2)).map (fun e => order e.1)
  let (slate, streak) := g.check (!bad.isEmpty)
  { slate := slate, streak := streak, mismatch := bad,
    expected := want.foldl (fun t e => tset 0 t (order e.1) e.2) [], seen := want.foldl (fun t e => tset 0 t (order e.1) (saw e.1 e.2)) [] }

/-- What a guard comparison makes the device tell and count (R271, R281): `before` and `after` are the guard states.
[DESIGN CHOICE, notes/assumptions 29] -/
def State.tellGuard (s : State) (subject : Nat) (before after : GuardSt) : State :=
  let s := if after.mismatch.isEmpty then s else s.incR Reg.CMP_GUARD_MISMATCHES
  let s := if after.slate then s.incR64 Reg.CMP_SLATE_PICTURES else s
  if after.slate && !before.slate then
    let n := after.mismatch.headD 0
    let want := (tget 0 after.expected n).toNat
    let saw := (tget 0 after.seen n).toNat
    (s.raise fltGuardMismatch subject [(1, n), (3, 0), (4, want)]).notify 0x800A 0 subject [(1, n), (3, 0), (4, want), (4, saw)]
  else if before.slate && !after.slate then s.notify 0x800B 0 subject
  else s

/-! ### Bands (R267, R273, R274) -/

/-- The work of one band counted for its compositor (R280, R281). -/
def State.countBand (s : State) (b : ComposeBand) (pixels : Nat) : State :=
  let i := b.compositor
  match b.how with
  | .done =>
    let s := (s.incR64 (Reg.CMP_BANDS i)).incR64 (Reg.CMP_PIXELS_TOTAL i) pixels
    let s := s.incR64 (Reg.CMP_TILES_CULLED i) b.culled
    { s with cmp := { s.cmp with use := tmod 0 s.cmp.use i (· + pixels) } }
  | .shed => s.incR (Reg.CMP_BANDS_SHED i)
  | .aborted => s.incR (Reg.CMP_BANDS_ABORTED i)

/-- The fetches of one band: tiles substituted and retried are counted and reported (R267, R276). -/
def State.composeFetches (s : State) (b : ComposeBand) : State :=
  let i := b.compositor
  let s := s.each b.fetches (fun s (e, f) => match f.outcome with
    | .good => s
    | .retried => (s.incR (Reg.CMP_TILE_RETRY i)).raise fltCmpTileRetry (subjStream e)
    | .corrupt => (s.incR (Reg.CMP_TILE_CORRUPT i)).raiseOnce fltCmpTileCorrupt (subjStream e) 600)
  s.each b.standIns (fun s (e, f) => match f.outcome with
    | .retried => (s.incR (Reg.CMP_TILE_RETRY i)).raise fltCmpTileRetry (subjStream e)
    | _ => s)

/-- An image variant returned a poisoned line: the variant is transparent for the picture; a Torzer group waits to be
restored, a host group is lost (R267). -/
def State.imagePoison (s : State) (g : Nat) : State :=
  let s := s.raise fltImagePoison (subjGroup g)
  if g < 4096 then { s with cmp := { s.cmp with groupPoison := insertAsc g s.cmp.groupPoison } }
  else if s.cmp.groupLost.contains g then s
  else ({ s with cmp := { s.cmp with groupLost := insertAsc g s.cmp.groupLost } }).notify 0x800C 0 (subjGroup g)

/-- The reports that a band of picture `p` makes; COLOUR_UNSUPPORTED once for a picture (R265, R267). -/
def State.bandReports (s : State) (p : PicRec) (b : ComposeBand) : State :=
  let s := (s.composeFetches b).each b.poisoned State.imagePoison
  s.each (if b.band = 0 then p.hdrStreams else []) (fun s e => s.raiseOnce fltColour (subjStream e) 600)

/-- The number of a guard: its place in the pricking's guard list (R246, R283). -/
def Pricking.guardNo (p : Pricking) (o : Nat) : Nat := (p.guards.findIdx? (· = o)).getD 0

/-- A picture of a line class whose every band has ended (R268, R271, R274). A discarded picture leaves the guard state
unchanged and the encoder without an input. -/
def State.settleLc (s : State) (c : Nat) (seen : List (Nat × BitVec 32)) (discard : Bool) : State :=
  if discard then s
  else
    let x := s.lc c
    match s.pricking x.desc.pricking with
    | none => s
    | some p =>
      let want := s.expectedGuards x.desc.fold (s.lcGeo c) (fun i => (tget {} x.cells i).shown)
      let after := x.guard.compare p.guardNo want (s.signatures x.pic p.guardNo want seen)
      let wait := if x.enc.nonLive then x.rung.waitPics ++ [s.now] else x.rung.waitPics
      let s := s.onLc c (fun x => { x with guard := after, inputTick := some s.now, inputSlate := after.slate, rung := { x.rung with waitPics := wait } })
      s.tellGuard (subjLc c) x.guard after

/-- A slate that is due is rendered, for the line class's size (R272). -/
def State.renderSlate (s : State) (c : Nat) : State :=
  let x := s.lc c
  if x.slateDue then s.onLc c (fun x => { x with slateDue := false, slatePic := s.slateRec x.desc.fold x.desc.width x.desc.height x.tenBit }) else s

/-- The layer records of a line class's picture latched for the compose tick (R260). [DESIGN CHOICE, notes/assumptions 63] -/
def State.latchLc (s : State) (c : Nat) : State :=
  let x := s.lc c
  match s.pricking x.desc.pricking with
  | none => s
  | some p =>
    let cell (i : Nat) := tget {} x.cells i
    s.onLc c (fun x => { x with pic := s.picRec x.desc.fold p (s.lcGeo c) x.tenBit (fun i => (cell i).shown) (fun i => if (cell i).shown.isSome then (cell i).pic else none) })

/-- A band of a line class's picture. The first band of a picture resolves the occupants, latches the layer records and
renders a slate that is due; the last one settles the picture (R256, R260, R272, R274). A band whose line class has gone is only
counted. -/
def State.lcBand (s : State) (c : Nat) (b : ComposeBand) : State :=
  let s := if (s.lc c).bands.isEmpty && (s.lc c).live then ((s.resolveLc c).renderSlate c).latchLc c else s
  let g := s.lcGeo c
  let f := (s.lc c).desc.fold
  let px := s.bandPixels f g
  if !(s.lc c).live then s.countBand b (px.getD b.band 0)
  else
  let s := s.onLc c (fun x => { x with pic := x.pic.meetBand b })
  let s := (s.countBand b (px.getD b.band 0)).bandReports (s.lc c).pic b
  let bands := (s.lc c).bands ++ [(b.band, b.how)]
  if bands.length < px.length then s.onLc c (fun x => { x with bands := bands })
  else (s.onLc c (fun x => { x with bands := [] })).settleLc c b.seen (bands.any (fun e => e.2 != .done))

/-- A fold's render for an occupant and a class. [DESIGN CHOICE, notes/assumptions 29] -/
def FoldRt.render (r : FoldRt) (o : Option Nat) (k : ClassKey) : CellRender :=
  (r.renders.find? (fun e => e.occupant = o && e.cls = k)).getD { occupant := o, cls := k }

/-- A render put in place of the one with its occupant and class. -/
def State.setRender (s : State) (f : Nat) (x : CellRender) : State :=
  s.onFold f (fun r => { r with renders := r.renders.filter (fun e => !(e.occupant = x.occupant && e.cls = x.cls)) ++ [x] })

/-- The picture of leg `l` that the laced cells of fold `f` display: the one available, or the one that a cell holds (R257). -/
def State.shownPicture (s : State) (f l : Nat) : Option SrcPic :=
  match s.picture l with
  | some q => some q
  | none => ((s.fold f).arr.find? (fun e => e.2.shown = some l)).bind (·.2.pic)

/-- The layer records of a cell render: the occupant's picture, and every overlay of the cell (R260, R269). -/
def State.cellRec (s : State) (f : Nat) (o : Option Nat) (k : ClassKey) : PicRec :=
  match ((s.lacedCells f).find? (fun e => e.2.2 = k)).bind (fun e => s.pricking e.1) with
  | none => {}
  | some p => s.picRec f p (s.classGeo f k) (match s.gridOf f with | some g => g.codec = 0x21 | none => false) (fun _ => o) (fun _ => o.bind (s.shownPicture f))

/-- A band of a cell render (R269, R271, R274): the overlays follow the occupant; a mismatch replaces the render with the
slate. A band of a class that the fold no longer has is only counted. -/
def State.cellBand (s : State) (f : Nat) (o : Option Nat) (cls : Nat) (b : ComposeBand) : State :=
  let s := s.each (s.lacedPrickings f) (fun s id => s.resolveArr f id)
  let k := (s.cellClasses f).getD cls {}
  let g := s.classGeo f k
  let px := s.bandPixels f g
  if (s.cellClasses f).length ≤ cls then s.countBand b (px.getD b.band 0)
  else
  let x := (s.fold f).render o k
  let pic := (if x.bands.isEmpty then s.cellRec f o k else x.pic).meetBand b
  let s := (s.countBand b (px.getD b.band 0)).bandReports pic b
  let bands := x.bands ++ [(b.band, b.how)]
  if bands.length < px.length then s.setRender f { x with bands := bands, pic := pic }
  else if bands.any (fun e => e.2 != .done) then s.setRender f { x with bands := [], pic := pic }
  else
    let p := ((s.lacedCells f).find? (fun e => e.2.2 = k)).bind (fun e => s.pricking e.1)
    let order := (p.map Pricking.guardNo).getD (fun _ => 0)
    let want := s.expectedGuards f g (fun _ => o)
    let after := x.guard.compare order want (s.signatures pic order want b.seen)
    (s.setRender f { x with bands := [], pic := pic, guard := after, inputTick := some s.now, inputSlate := after.slate }).tellGuard (subjFold f) x.guard after

/-- COMPOSE_BAND_DONE: one composition band ends (R274). -/
def composeBandDone (o : CompOut) (b : ComposeBand) (s : State) : State :=
  match o with
  | .lc c => s.lcBand c b
  | .cell f occ cls => s.cellBand f occ cls b

/-- COMPOSE_BAND_DONE (R274). -/
def execComposeBandDone (o : CompOut) (b : ComposeBand) (s : State) : Host.Outcome State Fault Refusal :=
  finish s ((composeBandDone o b s).endNode b.node b.ns (b.how == .done))

/-- HELD_PICTURE_TIMEOUT: a cell that has displayed a held picture for 120 ticks shows the placeholder (R257). -/
def heldPictureTimeout (c i : Nat) (s : State) : State :=
  let x := tget {} (s.lc c).cells i
  if x.held && decide (x.waitFrom + 120 ≤ s.now) then
    s.onLc c (fun l => { l with cells := tset {} l.cells i { x with shown := none, held := false, pic := none } })
  else s

/-- HELD_PICTURE_TIMEOUT (R257). -/
def execHeldPictureTimeout (c i : Nat) (s : State) : Host.Outcome State Fault Refusal := finish s (heldPictureTimeout c i s)

/-! ### Image groups (R252, R267, R596) -/

/-- A group stored, to take effect at the next boundary (R252). -/
def State.storeGroup (s : State) (g : Nat) (x : ImgGroup) : State :=
  { s with cmp := { s.cmp with groupNext := tset {} s.cmp.groupNext g x, groupAt := tset 0 s.cmp.groupAt g (s.now + 1) } }

/-- IMAGE_GROUP_COMMIT: a group stored in an earlier tick takes effect whole; it is lost or poisoned no more (R252). -/
def imageGroupCommit (g : Nat) (s : State) : State :=
  let at_ := tget 0 s.cmp.groupAt g
  if at_ = 0 || decide (s.now + 1 ≤ at_) then s
  else
    { s with cmp := { s.cmp with
        groups := tset {} s.cmp.groups g (tget {} s.cmp.groupNext g), groupNext := tdel g s.cmp.groupNext, groupAt := tdel g s.cmp.groupAt,
        groupLost := s.cmp.groupLost.filter (· ≠ g), groupPoison := s.cmp.groupPoison.filter (· ≠ g) } }

/-- IMAGE_GROUP_COMMIT (R252). -/
def execImageGroupCommit (g : Nat) (s : State) : Host.Outcome State Fault Refusal := finish s (imageGroupCommit g s)

/-- IMAGE_GROUP_RESTORE: a poisoned Torzer group is read again from the slot in use, or, when its crc fails there, from
the other flash where that holds the digest in use; `first` and `other` say whether each copy's crc passes. When neither
does, the group stays transparent (R267, R596). -/
def imageGroupRestore (g : Nat) (first other : Bool) (s : State) : State :=
  if !s.cmp.groupPoison.contains g then s
  else if first || other then
    s.storeGroup g (((s.boot.image.groups.find? (fun e => e.1 = g)).map (·.2)).getD {})
  else s.raiseOnce fltRecordRestore (subjGroup g) 600

/-- IMAGE_GROUP_RESTORE (R596). -/
def execImageGroupRestore (g : Nat) (first other : Bool) (s : State) : Host.Outcome State Fault Refusal :=
  finish s (imageGroupRestore g first other s)

end Sys2Proof.Machine
end

