-- ==== Sys2Proof/Machine/Enc.lean ====
section
/-!
DEFINITION. Encoding (07): ladders, bands and their charges, the rate model, references and refresh, and the settlement
of a picture when its bands have ended. The bits a band codes and the packets that carry them come with the command.
-/

namespace Sys2Proof.Machine

/-- VEN ENC_REF_CORRUPT (R315). -/
def fltEncRef : Nat := faultCode 10 1 0x20
/-- VEN ENCODER_STATE_LOST (R315). -/
def fltEncState : Nat := faultCode 10 1 0x21
/-- VEN ENC_PICTURE_LOST (R315). -/
def fltEncLost : Nat := faultCode 10 0 0x22
/-- VEN LAG_DROP (R315). -/
def fltLagDrop : Nat := faultCode 10 0 0x23
/-- VEN MISSING_INPUT (R315). -/
def fltMissingInput : Nat := faultCode 10 0 0x24

/-! ### Codecs and records (R286 to R291) -/

/-- The codec codes that the encode pipe produces (R286). -/
def encCodecs : List Nat := [0x10, 0x11, 0x12, 0x20, 0x21, 0x30, 0x40, 0x50]

/-- The codec's highest quantiser (R291). -/
def qpTop (codec : Nat) : Nat :=
  if codec < 0x20 then 51 else if codec = 0x20 then 51 else if codec = 0x21 then 63 else if codec = 0x30 then 127 else 255

/-- Side of a coding block: macroblocks of 16, CTBs and superblocks of 64 (R286). -/
def blockSide (codec : Nat) : Nat := if codec < 0x20 || codec = 0x30 then 16 else 64

/-- Validity of an encode record for a line class (R290, R291). -/
def EncRec.ok (e : EncRec) (codec : Nat) : Bool :=
  let top := if e.qpMax = 0 then qpTop codec else e.qpMax
  !e.reserved && (e.buffer = 0 || decide (3 ≤ e.buffer ∧ e.buffer ≤ 240))
    && (e.peak = 0 || decide (100 ≤ e.peak ∧ e.peak ≤ 250)) && decide (e.qpMax ≤ qpTop codec ∧ e.qpMin < top)
    && (e.girPictures = 0 || decide (2 ≤ e.girPictures ∧ e.girPictures ≤ 60)) && decide (e.keyInterval ≤ 65535)
    && (e.ltrInterval = 0 || decide (2 ≤ e.ltrInterval ∧ e.ltrInterval ≤ 3600))
    && (e.lagLimit = 0 || decide (1 ≤ e.lagLimit ∧ e.lagLimit ≤ 600)) && (!e.av1Ten || codec = 0x50)

/-- The lag limit of a non-live encode (R290). -/
def EncRec.lag (e : EncRec) : Nat := if e.lagLimit = 0 then 600 else e.lagLimit

/-- The size limits of an encode (R288). -/
def encSizeOk (codec w h : Nat) : Bool :=
  decide (w % 2 = 0 ∧ h % 2 = 0 ∧ 64 ≤ w ∧ w ≤ 7680 ∧ 64 ≤ h ∧ h ≤ 4320)
    && (!(codec = 0x30 || codec = 0x40) || decide (w ≤ 4096 ∧ h ≤ 2304))

/-! ### Ladders and charges (R292 to R296) -/

/-- The members of the ladder of line class `c`, ascending. -/
def State.ladderOf (s : State) (c : Nat) : List Nat :=
  let x := s.lc c
  (s.foldLcs x.desc.fold).filter (fun k => (s.lc k).ladder = x.ladder)

/-- Luma samples of a line class's picture. -/
def LineClass.area (c : LineClass) : Nat := c.desc.width * c.desc.height

/-- The top rung of a set of line classes: the largest area, the lowest rung number among equals (R292). -/
def State.topOf (s : State) (ms : List Nat) : Option Nat :=
  ms.foldl (fun (b : Option Nat) k => match b with
    | none => some k
    | some t =>
      let x := s.lc k
      let y := s.lc t
      if y.area < x.area || (x.area = y.area && x.desc.rung < y.desc.rung) then some k else b) none

/-- Video-engine cycles of a rung of `n` luma samples (R295). -/
def rungCycles (top ten : Bool) (n : Nat) : Nat :=
  if top then (if ten then 3 * n else ceilDiv (12 * n) 5) else (if ten then ceilDiv (3 * n) 4 else ceilDiv (3 * n) 5)

/-- Bands of a rung whose share is `c` cycles (R296). -/
def encBands (c : Nat) : Nat := Nat.max 1 (ceilDiv c 1800000)

/-- DRAM bytes of one picture of a rung of `w` by `h` (R295). -/
def rungDram (top ten : Bool) (w h kbps period : Nat) : Nat :=
  (if top then 5 else 4) * tilesOf w h * tileBytes ten + ceilDiv (kbps * period * 5) 24

/-! ### The rate model (R297 to R302) -/

/-- What the rate model and the reference rules of a rung take from its descriptor and record. -/
structure EncPar where
  kbps : Nat := 0
  period : Nat := 1
  w : Nat := 64
  h : Nat := 64
  codec : Nat := 0x10
  ten : Bool := false
  top : Bool := true
  vbr : Bool := false
  bufferTicks : Nat := 30
  peak : Nat := 150
  keyInterval : Nat := 0
  gir : Bool := false
  girPictures : Nat := 10
  ltr : Bool := false
  ltrInterval : Nat := 60
  cell : Bool := false
  deriving DecidableEq, Repr

/-- Effective rate R in b/s (R297). -/
def EncPar.rate (p : EncPar) : Nat := p.kbps * 1000
/-- Nominal picture size (R297). -/
def EncPar.nominal (p : EncPar) : Nat := p.rate * p.period / 600
/-- Buffer size B (R297). -/
def EncPar.buffer (p : EncPar) : Nat := p.rate * p.bufferTicks / 600
/-- Coding-block columns. -/
def EncPar.blockCols (p : EncPar) : Nat := ceilDiv p.w (blockSide p.codec)
/-- Coding-block rows. -/
def EncPar.blockRows (p : EncPar) : Nat := ceilDiv p.h (blockSide p.codec)
/-- Bands of the rung's picture (R296). -/
def EncPar.bands (p : EncPar) : Nat := Nat.min p.blockRows (encBands (rungCycles p.top p.ten (p.w * p.h)))
/-- Block rows of band `k`: heights differ by at most one row, the taller first (R296). -/
def EncPar.bandRows (p : EncPar) (k : Nat) : Nat := p.blockRows / p.bands + (if k < p.blockRows % p.bands then 1 else 0)
/-- The fallback reserve of band `k`: 64 header bits and 2 bits for each block, 4 in an intra picture (R300). -/
def EncPar.reserve (p : EncPar) (k : Nat) (intra : Bool) : Nat :=
  64 + (if intra then 4 else 2) * p.bandRows k * p.blockCols
/-- The sum S of the reserves (R300). -/
def EncPar.reserves (p : EncPar) (intra : Bool) : Nat := sumN ((upTo p.bands).map (fun k => p.reserve k intra))

/-- The parameters of a line class's rung; `rate_cap` limits its rate (R297). -/
def State.lcPar (s : State) (c : Nat) : EncPar :=
  let x := s.lc c
  let d := x.desc
  let vbr := d.rateMode = 1
  { kbps := match x.rung.rateCap with | some k => Nat.min d.targetRate k | none => d.targetRate,
    period := periodOf d.cadence, w := d.width, h := d.height, codec := d.codec, ten := x.tenBit,
    top := s.topOf (s.ladderOf c) = some c, vbr := vbr,
    bufferTicks := if x.enc.buffer = 0 then (if vbr then 120 else 30) else x.enc.buffer,
    peak := if x.enc.peak = 0 then 150 else x.enc.peak, keyInterval := x.enc.keyInterval, gir := x.enc.gir,
    girPictures := if x.enc.girPictures = 0 then 10 else x.enc.girPictures, ltr := x.enc.ltr,
    ltrInterval := if x.enc.ltrInterval = 0 then 60 else x.enc.ltrInterval }

/-- The parameters of a cell encode's rung: CBR-live at the class's rate, no rate_cap (R327). -/
def State.cellPar (s : State) (f : Nat) (k : ClassKey) (rung : Nat) : EncPar :=
  match s.gridOf f with
  | none => {}
  | some g =>
    let geo := s.classGeo f k
    { kbps := g.rungRate rung (geo.w * geo.h), period := periodOf (s.fold f).desc.cadence, w := geo.w, h := geo.h,
      codec := g.codec, ten := g.codec = 0x21, top := rung = 0, bufferTicks := if g.bufferTicks = 0 then 30 else g.bufferTicks,
      cell := true }

/-- F just before the next picture is removed: the start value where the rung has none, held to a changed B (R297, R298). -/
def RungSt.fullness (r : RungSt) (p : EncPar) : Nat :=
  if r.ref = .start && !p.cell || r.lastSize = 0 then 9 * p.buffer / 10 else Nat.min r.full p.buffer

/-- q of capped VBR in Q8 (R299). -/
def RungSt.qFactor (r : RungSt) (p : EncPar) : Nat :=
  let n := r.complex.length
  let mean := sumN r.complex / Nat.max 1 n
  let q := if mean = 0 then 256 else (r.complex.getLast?.getD 0) * 256 / mean
  let q := clampN 128 (256 * p.peak / 100) q
  if p.rate < sumN (r.sentBits.map (·.2)) then Nat.min q 256 else q

/-- The target T_n of a picture (R299). -/
def RungSt.target (r : RungSt) (p : EncPar) : Nat :=
  let F := r.fullness p
  let base : Int := if p.vbr then (p.nominal * r.qFactor p / 256 : Nat) else (p.nominal : Int) + ((F : Int) - (p.buffer / 2 : Nat)) / 8
  let x := base - r.excess
  Nat.min F (Nat.max (p.nominal / 4) x.toNat)

/-- The share w_k of band `k` as a fraction: of the previous picture's complexity, or of the rows where there is none that counts,
as after a key picture (R300). -/
def RungSt.share (r : RungSt) (p : EncPar) (k : Nat) : Nat × Nat :=
  let sum := sumN r.bandCx
  if r.bandCx.length = p.bands && sum ≠ 0 then (r.bandCx.getD k 0, sum) else (p.bandRows k, Nat.max 1 p.blockRows)

/-- The soft budget b_k (R300). -/
def RungSt.softBudget (r : RungSt) (p : EncPar) (k : Nat) : Nat := r.target p * (r.share p k).1 / (r.share p k).2

/-- The hard budget h_k (R300). -/
def RungSt.hardBudget (r : RungSt) (p : EncPar) (k : Nat) (intra : Bool) : Nat :=
  p.reserve k intra + (r.fullness p - p.reserves intra) * (r.share p k).1 / (r.share p k).2

/-- The fallback reserve of a row (R300). -/
def EncPar.rowReserve (p : EncPar) (intra : Bool) : Nat := (if intra then 4 else 2) * p.blockCols

/-- A band while its rows are coded: the bits spent, floor mode, and what CodedBand counts (R301). -/
structure RowState where
  spent : Nat := 0
  atFloor : Bool := false
  floored : Nat := 0
  fallback : Nat := 0
  stripeFell : Bool := false
  deriving DecidableEq, Repr

/-- One row coded, with `left` bits reserved for the rows after it: a row that would break the hard budget `h` is re-coded
as its fallback, within the row's reserve; a spent soft budget `b` starts floor mode (R301). -/
def RowState.row (x : RowState) (b h left reserve : Nat) (r : EncRow) : RowState :=
  let coded := if x.atFloor then r.atMax else r.model
  let falls := decide (h < x.spent + coded + left)
  let n := if falls then Nat.min reserve r.fallback else coded
  { spent := x.spent + n, atFloor := x.atFloor || falls || decide (b ≤ x.spent + n), floored := x.floored + b2n (x.atFloor && !falls),
    fallback := x.fallback + b2n falls, stripeFell := x.stripeFell || (falls && r.stripe) }

/-- The rows of a band coded in order against its budgets; a row's reserve is `reserve` bits (R301). -/
def RowState.rows (b h reserve : Nat) : List EncRow → RowState → RowState
  | [], x => x
  | r :: rs, x => RowState.rows b h reserve rs (x.row b h (reserve * rs.length) reserve r)

/-- A band coded by a rung in its state (R300, R301). The header takes no more than its 64 reserved bits.
[DESIGN CHOICE, notes/assumptions 62] -/
def RungSt.codeBand (r : RungSt) (p : EncPar) (intra : Bool) (b : EncBand) : CodedBand :=
  let x := RowState.rows (r.softBudget p b.band) (r.hardBudget p b.band intra) (p.rowReserve intra) b.rows { spent := Nat.min 64 b.header }
  { band := b.band, engine := b.engine, how := b.how, bits := x.spent, floored := x.floored, fallback := x.fallback, stripeFell := x.stripeFell,
    complexity := b.complexity, qp := b.qp, stateLost := b.stateLost, packets := b.packets }

/-- F after a picture of `a` bits, and the bits it has with filler (R298). -/
def EncPar.drain (p : EncPar) (F a : Nat) : Nat × Nat :=
  if p.vbr then (Nat.min p.buffer (F - a + p.rate * p.peak / 100 * p.period / 600), a)
  else
    let n := F - a + p.nominal
    if n ≤ p.buffer then (n, a)
    else if p.codec = 0x30 || p.codec = 0x40 then (p.buffer, a)
    else (p.buffer, a + (n - p.buffer))

/-- A picture that is not encoded or not produced: F grows by T_nom (R302, R312). -/
def RungSt.skip (r : RungSt) (p : EncPar) : RungSt :=
  { r with full := Nat.min p.buffer (r.fullness p + p.nominal), lastSize := p.buffer }

/-- Counter `n` of a rung advanced (R321). -/
def RungSt.count (r : RungSt) (n : Nat) (k : Nat := 1) : RungSt :=
  { r with ctr := tmod 0 r.ctr n (fun v => (v + k) % 2 ^ 32) }

/-- What the next picture of a rung is (R303, R306): none for an ordinary picture. -/
def RungSt.kind (r : RungSt) (p : EncPar) : Option RefreshKind :=
  if r.ref = .start then some .key
  else if p.keyInterval ≠ 0 && decide (p.keyInterval ≤ r.pics + 1) then some .key
  else match r.action with
    | some k => some k
    | none => if r.ref = .gir then some .gir else none

/-- The reference state after a completed picture of kind `k` in tick `t` (R303 to R307). [DESIGN CHOICE, notes/assumptions 30] -/
def RungSt.advance (r : RungSt) (p : EncPar) (k : Option RefreshKind) (stripeFell : Bool) (t : Nat) : RungSt :=
  let first := r.refreshOpen
  let r := { r with pics := r.pics + 1, sinceCand := r.sinceCand + 1, m := r.m + 1 }
  let entered := if first || k.isSome && r.ref = .start then some (t + 1) else r.entered
  let r := { r with refreshOpen := false, entered := entered, action := none }
  match k with
  | none => r
  | some .key => { r.count 1 with ref := .run, pics := 0, ltr := false, candOn := false, cand := [], girPos := 0, entered := some (t + 1), bandCx := [] }
  | some .ltr => { r.count 2 with ref := .run }
  | some .gir =>
    let pos := if stripeFell then r.girPos else r.girPos + 1
    if p.girPictures ≤ pos then { r.count 3 with ref := .run, girPos := 0 } else { r with ref := .gir, girPos := pos }

/-- The rate state after a completed picture: `a` bits before filler, complexity of each band (R298, R299). -/
def RungSt.afterBits (r : RungSt) (p : EncPar) (a : Nat) (cx : List Nat) (t : Nat) : RungSt :=
  let T := r.target p
  let (F, sent) := p.drain (r.fullness p) a
  let F := if r.ref = .start && !p.cell then 9 * p.buffer / 10 else F
  { r with full := F, lastSize := p.buffer, excess := sent - T, bandCx := cx, complex := lastN 60 (r.complex ++ [sumN cx]),
           sentBits := (r.sentBits ++ [(t, sent)]).filter (fun e => decide (t < e.1 + 600)), rate := p.rate }

/-! ### Handing a picture to the legs -/

/-- The outbound video entry of a leg. -/
def State.videoOut (s : State) (l : Nat) : Option Nat :=
  (s.entries l).find? (fun e => let d := (s.stream e).desc; d.kind = 1 && d.outbound)

/-- The number of a picture due in tick `t` at a cadence and phase (R23, R36). -/
def pictureIndex (c φ t : Nat) : Nat :=
  let P := periodOf c
  if fractional c then
    let u := t - φ
    let len := 1001 * P
    u / len * 1000 + ((u % len) * 1000 + 999) / (1001 * P)
  else (t - φ) / P

/-- The RTP timestamp on stream `x` of a picture of cadence `c` whose compose tick is `t` (R24, R310, R492). -/
def videoTs (x : TxStream) (rate c φ t : Nat) : Nat :=
  if fractional c then (x.tsBase + pictureTs c (pictureIndex c φ t - pictureIndex c φ x.startTick)) % 2 ^ 32
  else rtpClock x rate t

/-- The packets of one picture handed to leg `l` on entry `e` with timestamp `ts`: the stream's next sequence numbers,
the last packet marked; they enter egress in the next tick (R26, R83). The first and last sequence number are returned. -/
def State.sendPicture (s : State) (l e cls ts pic content : Nat) (lens : List Nat) : State × Nat × Nat :=
  let first := (s.stream e).tx.seq % 65536
  let n := lens.length
  let s := s.each (indexed lens) (fun s (i, len) =>
    let r := s.stream e
    let q := r.tx.seq % 65536
    let s := s.onStream e (fun r => { r with tx := { r.tx with seq := (q + 1) % 65536, lastTs := ts } })
    s.packetiseAt (s.now + 1) { leg := some l, cls := cls, kind := .rtp, stream := e, ssrc := r.desc.ssrc, seq := q, ts := ts, marker := i + 1 = n, len := s.rtpLen l e len, content := content, pic := pic })
  (s, first, (first + n - 1) % 65536)

/-- The legs that line class `c` serves (R350). -/
def State.servedBy (s : State) (c : Nat) : List Nat :=
  (s.foldLegs (s.lc c).desc.fold).filter (fun l =>
    let g := s.leg l
    g.state = .active && g.desc.videoMode = 3 && g.adapt.serving.getD g.desc.lineClass = c)

/-- The legs that wait for a refresh picture of line class `c` move to it (R350). -/
def State.takeMovers (s : State) (c : Nat) : State :=
  s.each ((s.foldLegs (s.lc c).desc.fold).filter (fun l => (s.leg l).adapt.movingTo = some c)) (fun s l =>
    s.onLeg l (fun g => { g with adapt := { g.adapt with serving := some c, movingTo := none } }))

/-- A completed picture of line class `c`, composed in tick `t`, handed to every leg it serves; the sequence numbers it
took on each; those of a non-live rung leave in the background window (R26, R304, R309, R310). -/
def State.handPicture (s : State) (c t : Nat) (lens : List Nat) : State × List (Nat × Nat × Nat) :=
  let x := s.lc c
  let cls := if x.enc.nonLive then 2 else 4
  (s.servedBy c).foldl (fun (acc : State × List (Nat × Nat × Nat)) l =>
    match acc.1.videoOut l with
    | none => acc
    | some e =>
      let r := acc.1.stream e
      let ts := videoTs r.tx r.desc.clockRate x.desc.cadence x.phase t
      let out := acc.1.sendPicture l e cls ts t (c * 2 ^ 32 + t % 2 ^ 32) lens
      (out.1, acc.2 ++ [(l, out.2.1, out.2.2)])) (s, [])

/-! ### Settlement (R302, R310 to R314) -/

/-- The rung state of line class `c` changed. -/
def State.onRung (s : State) (c : Nat) (f : RungSt → RungSt) : State := s.onLc c (fun x => { x with rung := f x.rung })

/-- The compose tick of the picture that a rung takes in this tick: the one passed in the last tick, or the oldest of a
non-live ring; none when the compositor passed none (R268, R310, R313). -/
def State.encInput (s : State) (c : Nat) : Option Nat :=
  let x := s.lc c
  if x.enc.nonLive then x.rung.waitPics.find? (· < s.now)
  else match x.inputTick with
    | some t => if t + 1 = s.now then some t else none
    | none => none

/-- The filler of a picture counted for the engine of its last band (R298, R317). -/
def State.countFiller (s : State) (bands : List CodedBand) (filler : Nat) : State :=
  match bands.getLast? with
  | some b => if filler = 0 then s else s.incR64 (Reg.VEN_ENC_BITS b.engine) filler
  | none => s

/-- One rung's picture whose bands have all ended (R302, R311 to R313). `topLost` and `topMissing` say what became of the
ladder's top rung. -/
def State.settleRung (s : State) (c : Nat) (topLost topMissing : Bool) : State :=
  let x := s.lc c
  let p := s.lcPar c
  let r := x.rung
  let bands := r.curBands
  let input := s.encInput c
  let missing := input.isNone || topMissing
  let lost := topLost || bands.any (fun b => b.how != .done) || (missing && r.ref = .start)
  let k := r.kind p
  let intra := k = some .key
  let done (r : RungSt) (lost : Bool) : RungSt :=
    { r with curBands := [], parked := false, settled := some (s.now, lost, missing), waitPics := r.waitPics.filter (fun t => some t ≠ input) }
  if lost then
    (s.onRung c (fun r => done ((r.skip p).count 4) true)).raiseOnce fltEncLost (subjLc c) 600
  else if r.fullness p < p.reserves intra then s.onRung c (fun r => done ((r.skip p).count 4) false)
  else
    let a := sumN (bands.map (·.bits))
    let lens := bands.flatMap (·.packets)
    let t := input.getD (s.now - 1)
    let qp := sumN (bands.map (·.qp)) / Nat.max 1 bands.length
    let rows := sumN (bands.map (·.floored))
    let falls := sumN (bands.map (·.fallback))
    let moves := k.isSome && !missing
    let s := if moves then s.takeMovers c else s
    let (s, sent) := s.handPicture c t lens
    let s := s.countFiller bands ((p.drain (r.fullness p) a).2 - a)
    let fin (r : RungSt) : RungSt :=
      let sentBits := (p.drain (r.fullness p) a).2
      let r1 := r.afterBits p a (bands.map (·.complexity)) s.now
      let r2 := if missing then r1.count 5 else r1.advance p k (bands.any (·.stripeFell)) s.now
      let r3 := ((r2.count 0).count 6 rows).count 7 falls
      let r4 := { r3 with ctr := tset 0 r3.ctr 11 (sentBits % 2 ^ 32), floored := decide (0 < rows), qpLast := qp }
      let cand := p.ltr && !missing && decide (p.ltrInterval ≤ r4.sinceCand)
      done (if cand then { r4 with candOn := true, cand := sent, sinceCand := 0 } else r4) false
    let s := s.onRung c fin
    if missing then s.raiseOnce fltMissingInput (subjLc c) 600 else s

/-- The ladder's pictures that have ended settle: the top rung's first, the others once it has (R312).
[DESIGN CHOICE, notes/assumptions 30] -/
def State.settleLadder (s : State) (c : Nat) : State :=
  let ms := s.ladderOf c
  match s.topOf ms with
  | none => s
  | some top =>
    let s := if (s.lc top).rung.parked then s.settleRung top false false else s
    match (s.lc top).rung.settled with
    | some (t, lost, missing) =>
      if t = s.now then
        s.each (ms.filter (fun m => m ≠ top && (s.lc m).rung.parked)) (fun s m => s.settleRung m lost missing)
      else s
    | none => s

/-- The work of one encode band counted for its engine; `x` is the band as coded (R316 to R318). -/
def State.countEncBand (s : State) (b : EncBand) (x : CodedBand) (samples : Nat) : State :=
  let i := b.engine
  let s := { s with ven := { s.ven with encUse := tmod 0 s.ven.encUse i (· + b.cycles) } }
  let s := s.incR (Reg.VEN_ENC_REF_CORRUPT i) b.corruptRefs
  match b.how with
  | .done =>
    let s := (s.incR64 (Reg.VEN_ENC_BANDS i)).incR64 (Reg.VEN_ENC_PIXELS i) samples
    let s := s.incR64 (Reg.VEN_ENC_BITS i) x.bits
    (s.incR (Reg.VEN_ENC_ROWS_FLOORED i) x.floored).incR (Reg.VEN_ENC_ROWS_FALLBACK i) x.fallback
  | .shed => s.incR (Reg.VEN_ENC_BANDS_SHED i)
  | .aborted => s.incR (Reg.VEN_ENC_BANDS_ABORTED i)

/-- An encode band of a line class's rung (R296, R301, R308, R311, R314). A poisoned state record sends the rung to START; a
slate tile that fails at the fetch has the slate rendered again (R272). The band of a line class that has retired counts for its
engine only (R312). -/
def State.lcEncBand (s : State) (c : Nat) (b : EncBand) : State :=
  let p := s.lcPar c
  let r := (s.lc c).rung
  let x := r.codeBand p (r.kind p = some .key) b
  let s := s.countEncBand b x (p.bandRows b.band * blockSide p.codec * p.w)
  if !(s.lc c).live then s
  else
  let s := if b.corruptRefs = 0 then s else s.raiseOnce fltEncRef (subjLc c) 600
  let s := if b.slateBad && (s.lc c).inputSlate then s.onLc c (fun x => { x with slateDue := true }) else s
  let s := if b.stateLost then
      (s.onRung c (fun r => { r with ref := .start, action := none, refreshOpen := false, ltr := false, candOn := false, cand := [], girPos := 0 })).raise fltEncState (subjLc c)
    else s
  let bands := (s.lc c).rung.curBands ++ [if b.stateLost then { x with how := .aborted } else x]
  let s := s.onRung c (fun r => { r with curBands := bands, parked := decide (p.bands ≤ bands.length) })
  if decide (p.bands ≤ bands.length) then s.settleLadder c else s

/-! ### Cell encodes (R326 to R330, R335, R340) -/

/-- A fold's cell encode for an occupant, class and tile rung. -/
def FoldRt.cellEnc (r : FoldRt) (o : Option Nat) (k : ClassKey) (rung : Nat) : CellEnc :=
  (r.encs.find? (fun e => e.occupant = o && e.cls = k && e.rung = rung)).getD { occupant := o, cls := k, rung := rung }

/-- A cell encode put in place of the one with its occupant, class and tile rung. -/
def State.setCellEnc (s : State) (f : Nat) (x : CellEnc) : State :=
  s.onFold f (fun r => { r with encs := r.encs.filter (fun e => !(e.occupant = x.occupant && e.cls = x.cls && e.rung = x.rung)) ++ [x] })

/-- Is the picture of a cell encode an intra tile: a request of an earlier tick waits, and the render of the last tick is
there (R339, R340)? -/
def State.cellIntra (s : State) (f : Nat) (x : CellEnc) : Bool :=
  match x.intraReq with
  | some t => decide (t < s.now) && ((s.fold f).render x.occupant x.cls).inputTick = some (s.now - 1)
  | none => false

/-- A band of a cell encode. Its picture is an intra tile when a request made in an earlier tick is waiting (R339, R340);
a picture not produced is replaced by skip tiles at assembly (R335). -/
def State.cellEncBand (s : State) (f : Nat) (o : Option Nat) (cls rung : Nat) (b : EncBand) : State :=
  let k := (s.cellClasses f).getD cls {}
  let p := s.cellPar f k rung
  let x := (s.fold f).cellEnc o k rung
  let intra := s.cellIntra f x
  let coded := x.st.codeBand p intra b
  let s := s.countEncBand b coded (p.bandRows b.band * blockSide p.codec * p.w)
  let s := if b.corruptRefs = 0 then s else s.raiseOnce fltEncRef (subjFold f) 600
  let s := if b.stateLost then s.raise fltEncState (subjFold f) else s
  let bands := x.st.curBands ++ [coded]
  if bands.length < p.bands then s.setCellEnc f { x with st := { x.st with curBands := bands } }
  else
    let lost := bands.any (fun b => b.how != .done || b.stateLost)
    let st := { x.st with curBands := [] }
    if lost then
      let st := if bands.any (·.stateLost) then ({} : RungSt) else st.skip p
      (s.setCellEnc f { x with st := st.count 4 }).raiseOnce fltEncLost (subjFold f) 600
    else if st.fullness p < p.reserves intra then s.setCellEnc f { x with st := (st.skip p).count 4 }
    else
      let a := sumN (bands.map (·.bits))
      let s := s.countFiller bands ((p.drain (st.fullness p) a).2 - a)
      let st := (st.afterBits p a (bands.map (·.complexity)) s.now).count 0
      let s := s.setCellEnc f { x with st := st, produced := some s.now, codedIntra := intra, bits := a, intraReq := if intra then none else x.intraReq }
      let s := { s with lac := { s.lac with encTick := s.lac.encTick + 1 } }
      if intra then s.incR64 Reg.LAC_INTRA_TILES else s

/-- ENCODE_BAND_DONE: one encode band ends (R311). -/
def encodeBandDone (o : EncOut) (b : EncBand) (s : State) : State :=
  match o with
  | .lc c => s.lcEncBand c b
  | .cell f occ cls rung => s.cellEncBand f occ cls rung b

/-- ENCODE_BAND_DONE (R311). -/
def execEncodeBandDone (o : EncOut) (b : EncBand) (s : State) : Host.Outcome State Fault Refusal :=
  finish s ((encodeBandDone o b s).endNode b.node b.ns (b.how == .done))

/-! ### Refresh requests (R304 to R306) -/

/-- A refresh request of leg `l` reaches line class `c` (R305, R306). A request of a leg that moves to the rung merges
only into a refresh that is still pending (R350). -/
def State.refreshRung (s : State) (c l : Nat) (fir move : Bool) : State :=
  let x := s.lc c
  if !x.live then s
  else
    let r := x.rung.count 8
    let late := match r.entered with | some e => decide (s.now ≤ e + (s.leg l).rttTicks + 1) && !move | none => false
    let r := { r with candOn := r.candOn && !(r.cand.any (fun e => e.1 = l)) }
    if r.refreshOpen || r.ref = .start || late then s.onRung c (fun _ => r.count 9)
    else
      let n := if r.escTick + 600 ≤ s.now then 0 else r.esc
      let p := s.lcPar c
      let r := { r with esc := n + 1, escTick := s.now, refreshOpen := true }
      let r := if r.ref = .gir then { r with ref := .run, girPos := 0, action := some .key }
        else if !fir && n = 0 && r.ltr then { r with ref := .ltr, action := some .ltr }
        else if !fir && n ≤ 1 && p.gir then { r with ref := .gir, girPos := 0, action := some .gir }
        else { r with ref := .run, action := some .key }
      s.onRung c (fun _ => r)

/-- A receiver report or feedback of leg `l` acknowledges sequence number `q`: the leg has what the long-term candidate
needs when `q` lies beyond its last packet; the candidate is confirmed when every leg that receives the rung has (R304). -/
def State.ackCandidate (s : State) (l q : Nat) : State :=
  let g := s.leg l
  let c := g.adapt.serving.getD g.desc.lineClass
  let served := s.servedBy c
  s.onRung c (fun r =>
    if r.candOn then
      let rest := r.cand.filter (fun e => served.contains e.1 && !(e.1 = l && decide (0 < modSub 16 q e.2.2 ∧ modSub 16 q e.2.2 < 32768)))
      if rest.isEmpty then { r with candOn := false, cand := [], ltr := true } else { r with cand := rest }
    else r)

/-- A NACK of leg `l` that covers packets of the long-term candidate gives the candidate up (R304). -/
def State.nackCandidate (s : State) (l : Nat) (seqs : List Nat) : State :=
  let g := s.leg l
  let c := g.adapt.serving.getD g.desc.lineClass
  s.onRung c (fun r =>
    let hit (e : Nat × Nat × Nat) := e.1 = l && seqs.any (fun q => decide (modSub 16 q e.2.1 ≤ modSub 16 e.2.2 e.2.1))
    if r.candOn && r.cand.any hit then { r with candOn := false, cand := [] } else r)

/-- ESCALATION_RESET: 600 ticks without an unmerged request return the count to 0 (R306). -/
def escalationReset (c : Nat) (s : State) : State :=
  if (s.lc c).live && decide ((s.lc c).rung.escTick + 600 ≤ s.now) then s.onRung c (fun r => { r with esc := 0 }) else s

/-- ESCALATION_RESET (R306). -/
def execEscalationReset (c : Nat) (s : State) : Host.Outcome State Fault Refusal := finish s (escalationReset c s)

/-- LAG_DROP: a waiting picture that its lag limit has reached is discarded as a rate skip (R310).
[DESIGN CHOICE, notes/assumptions 30] -/
def lagDrop (c : Nat) (s : State) : State :=
  let x := s.lc c
  match x.rung.waitPics.head? with
  | none => s
  | some t =>
    if x.live && decide (t + x.enc.lag ≤ s.now) then
      let p := s.lcPar c
      (s.onRung c (fun r => { ((r.skip p).count 4).count 10 with waitPics := r.waitPics.drop 1 })).raiseOnce fltLagDrop (subjLc c) 600
    else s

/-- LAG_DROP (R310). -/
def execLagDrop (c : Nat) (s : State) : Host.Outcome State Fault Refusal := finish s (lagDrop c s)

end Sys2Proof.Machine
end

