-- ==== Sys2Proof/Machine/Lac.lean ====
section
/-!
DEFINITION. Lacing, layer forwarding and leg adaptation (08): arrangements and assemblies of laced viewers, intra tiles,
forwarder slots and the packets they pass, the estimator, and what each tick's estimate decides.
-/

namespace Sys2Proof.Machine

/-- LAC TILE_MAP_LOST (R353). -/
def fltTileMap : Nat := faultCode 12 1 2
/-- LAC ASSEMBLY_LOST (R353). -/
def fltAssemblyLost : Nat := faultCode 12 0 3
/-- LAC FWD_PAUSED (R353). -/
def fltFwdPaused : Nat := faultCode 12 0 4
/-- LAC ADAPT_STATE_LOST (R353). -/
def fltAdaptLost : Nat := faultCode 12 1 5

/-! ### Intra tiles (R338, R339) -/

/-- A tile-refresh request for a cell encode; requests for one encode merge until its intra tile is coded (R338, R339). -/
def State.requestIntra (s : State) (f : Nat) (o : Option Nat) (k : ClassKey) (rung : Nat) : State :=
  let x := (s.fold f).cellEnc o k rung
  if x.intraReq.isSome then s.incR Reg.LAC_INTRA_MERGED
  else s.setCellEnc f { x with intraReq := some s.now, lastTaken := s.now }

/-- Intra tiles requested for every cell of a viewer (R338). -/
def State.requestAll (s : State) (l : Nat) : State :=
  let g := s.leg l
  s.each g.view.cells (fun s (_, c) =>
    let (o, k, r) := c.next.getD (c.occupant, c.cls, c.rung)
    s.requestIntra g.desc.fold o k r)

/-- The prickings of a laced viewer and its fold's grid. -/
def State.viewerLayout (s : State) (l : Nat) : Option (Pricking × LaceGrid) :=
  match s.pricking (s.viewerPricking l), s.gridOf (s.leg l).desc.fold with
  | some p, some g => some (p, g)
  | _, _ => none

/-- A PLI or FIR from a laced viewer (R338, R339). A FIR calls for a synthetic key picture unless one was sent in the
last 60 ticks. It has no further effect while the viewer's intra tiles are owed or have entered egress within rtt_ticks. -/
def State.viewerRefresh (s : State) (l : Nat) (fir : Bool) : State :=
  let v := (s.leg l).view
  let key := fir && !(match v.lastSynth with | some t => decide (s.now ≤ t + 60) | none => false)
  let idle := v.intraOwed || (match v.intraUntil with | some t => decide (s.now ≤ t) | none => false)
  if key then s.onLeg l (fun g => { g with view := { g.view with keyPending := true, intraOwed := true } })
  else if idle then s.incR Reg.LAC_INTRA_MERGED
  else (s.requestAll l).onLeg l (fun g => { g with view := { g.view with intraOwed := true } })

/-- A missed NACK of a laced viewer asks for the encodes whose tiles the missed packets carried (R334, R338). -/
def State.viewerMiss (s : State) (l : Nat) (seqs : List Nat) : State :=
  let g := s.leg l
  let items := g.view.tileMap.filter (fun i => seqs.contains i.seq)
  s.each (items.flatMap (·.encs)) (fun s (c, o, r) => s.requestIntra g.desc.fold o (tget {} g.view.cells c).cls r)

/-! ### Assemblies (R331 to R337, R341) -/

/-- The tile rungs that a laced viewer's cells are allowed: from the cap down to min(floor, rung_count - 1) (R351). -/
def State.rungSpan (s : State) (l : Nat) : Nat × Nat :=
  let d := (s.leg l).desc
  match s.gridOf d.fold with
  | some g => (Nat.min d.rungCap (g.rungCount - 1), Nat.min d.rungFloor (g.rungCount - 1))
  | none => (d.rungCap, d.rungFloor)

/-- The encode that cell `i` of viewer `l` asks for: the fold arrangement's occupant, the spare where that is the viewer
itself, and the tile rung that adaptation asks for (R332, R351); whether it is the spare. -/
def State.wantEncode (s : State) (l i : Nat) (p : Pricking) (g : LaceGrid) : (Option Nat × ClassKey × Nat) × Bool :=
  let f := (s.leg l).desc.fold
  let own := s.arrOccupant f p.id i
  let isSelf := own = some l
  let spare := match tget 0 (s.fold f).spare p.id with | 0 => none | n + 1 => some n
  let c := tget {} (s.leg l).view.cells i
  let (_, low) := s.rungSpan l
  ((if isSelf then spare else own, p.classOf g i, c.want.getD low), isSelf)

/-- The tiles that a class spans. -/
def ClassKey.tiles (k : ClassKey) : Nat := k.cols.length * k.rows.length

/-- A cell encode marked as taken or waited for in this assembly (R341). -/
def State.touchEnc (s : State) (f : Nat) (e : Option Nat × ClassKey × Nat) : State :=
  s.setCellEnc f { (s.fold f).cellEnc e.1 e.2.1 e.2.2 with lastTaken := s.now }

/-- Cell `i` of a viewer in an assembly (R335, R341): it moves to the encode it asks for in the picture whose intra tile
is coded; the encode it takes gives its tiles, or skip tiles when it produced no picture. -/
def State.laceCell (s : State) (l i : Nat) (p : Pricking) (g : LaceGrid) : State :=
  let f := (s.leg l).desc.fold
  let (want, spare) := s.wantEncode l i p g
  let c := tget {} (s.leg l).view.cells i
  let taken := (c.occupant, c.cls, c.rung)
  let ready (e : Option Nat × ClassKey × Nat) : Bool :=
    let x := (s.fold f).cellEnc e.1 e.2.1 e.2.2
    x.produced = some (s.now - 1) && x.codedIntra
  let (s, c) :=
    if want = taken then (s, { c with next := none, spare := spare, intraWait := c.intraWait && !ready want })
    else if c.next = some want then
      if ready want then (s, { c with occupant := want.1, cls := want.2.1, rung := want.2.2, spare := spare, next := none, intraWait := false })
      else (s, c)
    else (s.requestIntra f want.1 want.2.1 want.2.2, { c with next := some want, intraWait := true })
  let c := { c with exists_ := true }
  let e := (c.occupant, c.cls, c.rung)
  let x := (s.fold f).cellEnc e.1 e.2.1 e.2.2
  let s := if x.produced = some (s.now - 1) then s else s.incR Reg.LAC_SKIP_TILES c.cls.tiles
  let s := s.touchEnc f e
  let s := match c.next with | some n => s.touchEnc f n | none => s
  s.onLeg l (fun v => { v with view := { v.view with cells := tset {} v.view.cells i c } })

/-- The cell of a pricking whose extent holds grid tile `t`. -/
def tileCell (p : Pricking) (g : LaceGrid) (t : Nat) : Option Nat :=
  let x : Int := gridEdge g.colSb g.width (t % Nat.max 1 g.cols)
  let y : Int := gridEdge g.rowSb g.height (t / Nat.max 1 g.cols)
  ((p.geo g.width g.height).cells.find? (fun (_, _, r) => decide (r.x0 ≤ x ∧ x < r.x1 ∧ r.y0 ≤ y ∧ y < r.y1))).map (·.1)

/-- The packets of an assembly handed to the viewer, and its tile map of the last 120 ticks (R334). -/
def State.sendLaced (s : State) (l : Nat) (p : Pricking) (g : LaceGrid) (pkts : List LacePacket) : State :=
  match s.videoOut l with
  | none => s
  | some e =>
    let f := (s.leg l).desc.fold
    let r := s.stream e
    let t := s.now - 2
    let ts := videoTs r.tx r.desc.clockRate (s.fold f).desc.cadence (s.fold f).gridPhase t
    let (s, first, _) := s.sendPicture l e 4 ts t (2 ^ 50 + l * 2 ^ 32 + t % 2 ^ 32) (pkts.map (·.length))
    let item (n : Nat) (k : LacePacket) : TileMapItem :=
      let cells := dedup (k.tiles.filterMap (tileCell p g))
      { seq := (first + n) % 65536, tick := s.now,
        encs := cells.map (fun c => let x := tget {} (s.leg l).view.cells c; (c, x.occupant, x.rung)) }
    let items := (indexed pkts).map (fun (n, k) => item n k)
    s.onLeg l (fun v => { v with view := { v.view with pocCount := v.view.pocCount + 1, tileMap := v.view.tileMap.filter (fun i => decide (s.now < i.tick + 120)) ++ items } })

/-- A synthetic key picture: every block flat grey, every cell of the viewer at the encode it asks for with an intra tile
requested (R336). -/
def State.synthKey (s : State) (l : Nat) (p : Pricking) (g : LaceGrid) (pkts : List LacePacket) : State :=
  let cell (s : State) (i : Nat) : ViewCell :=
    let (want, spare) := s.wantEncode l i p g
    { tget {} (s.leg l).view.cells i with exists_ := true, occupant := want.1, cls := want.2.1, rung := want.2.2, spare := spare, next := none, intraWait := true }
  let n := p.cells.length
  let s := s.onLeg l (fun v => { v with view := { v.view with cells := [] , pocCount := 0, pictures := 0, keyPending := false, lastSynth := some s.now } })
    |>.each (upTo n) (fun t i => t.onLeg l (fun v => { v with view := { v.view with cells := tset {} v.view.cells i (cell s i) } }))
  ((s.incR64 Reg.LAC_SYNTH_KEYS).requestAll l).sendLaced l p g pkts

/-- The viewer's owed intra tiles are settled once no cell of it waits: its PLI and FIR have no effect through the egress
tick plus rtt_ticks (R339). -/
def State.settleOwed (s : State) (l : Nat) : State :=
  let g := s.leg l
  let open_ := g.view.cells.any (fun (_, c) => ((s.fold g.desc.fold).cellEnc c.occupant c.cls c.rung).intraReq.isSome || c.next.isSome)
  if g.view.intraOwed && !open_ then
    s.onLeg l (fun v => { v with view := { v.view with intraOwed := false, intraUntil := some (s.now + 1 + g.rttTicks) } })
  else s

/-- LACE_ASSEMBLY: a laced viewer's picture, in the tick after the cell encodes (R333 to R337, R341).
[DESIGN CHOICE, notes/assumptions 13, 31] -/
def laceAssembly (l lane : Nat) (how : BandEnd) (pkts : List LacePacket) (mapLost : Bool) (s : State) : State :=
  if (s.leg l).state ≠ .active then s
  else match s.viewerLayout l with
  | none => s
  | some (p, g) =>
    let s := if mapLost then
        ((s.raise fltTileMap (subjLeg l)).onLeg l (fun v => { v with view := { v.view with tileMap := [] } })).viewerRefresh l false
      else s
    if how != .done || bit (s.getR Reg.LAC_STATUS) (12 + lane) then
      ((s.incR Reg.LAC_ASSEMBLIES_LOST).onLeg l (fun v => { v with view := { v.view with keyPending := true } })).raiseOnce fltAssemblyLost (subjLeg l) 600
    else if (s.leg l).view.keyPending then s.synthKey l p g pkts
    else
      let s := s.each (upTo p.cells.length) (fun s i => s.laceCell l i p g)
      let s := (s.incR64 Reg.LAC_ASSEMBLIES).sendLaced l p g pkts
      let s := { s with lac := { s.lac with asmTick := s.lac.asmTick + 1 } }
      (s.onLeg l (fun v => { v with view := { v.view with pictures := Nat.min 65535 (v.view.pictures + 1) } })).settleOwed l

/-- LACE_ASSEMBLY (R333). -/
def execLaceAssembly (l lane : Nat) (how : BandEnd) (pkts : List LacePacket) (mapLost : Bool) (node : Option Nat) (s : State) : Host.Outcome State Fault Refusal :=
  finish s ((laceAssembly l lane how pkts mapLost s).endNode node s.drv.clock (how == .done))

/-- Cell encodes that no viewer took in the last picture end (R341). Run at each boundary. -/
def State.endEncodes (s : State) (f : Nat) : State :=
  s.onFold f (fun r => { r with
    encs := r.encs.filter (fun e => match e.produced with
      | some t => decide (s.now ≤ t + 1 ∨ t < e.lastTaken)
      | none => decide (s.now ≤ e.lastTaken + 600)) })

/-! ### Forwarder slots (R342 to R346) -/

/-- Video sources of a sender: its inbound video entries by simulcast index (R83, R344). -/
def State.senderEntries (s : State) (l : Nat) : List Nat :=
  let es := (s.entries l).filter (fun e => let d := (s.stream e).desc; d.kind = 1 && d.inbound)
  [0, 1, 2].flatMap (fun k => es.filter (fun e => (s.stream e).desc.layer = k))

/-- The senders that a forwarded leg's slots take, in order (R342). -/
def State.forwardCandidates (s : State) (l : Nat) : List Nat :=
  let f := (s.leg l).desc.fold
  let r := s.fold f
  dedup (((r.record.lead.toList ++ r.record.members.map (·.1) ++ r.recency.map (·.1))).filter
    (fun c => c ≠ l && (s.leg c).desc.hasVideo && (s.leg c).state = .active))

/-- The layers that a sender offers within a leg's layer_cap, lowest first: source entry, spatial and temporal layer, and
the rate measured with the layers it depends on (R349). -/
def State.layerChoices (s : State) (l sender : Nat) : List ((Nat × Nat × Nat) × Nat) :=
  let d := (s.leg l).desc
  (s.senderEntries sender).flatMap (fun e =>
    let r := s.stream e
    if d.capSpatial < r.desc.layer then []
    else
      let known := if r.layerRate = [] then [0] else tkeys r.layerRate
      let ok := known.filter (fun k => decide (k / 8 ≤ d.capSpatial ∧ k % 8 ≤ d.capTemporal))
      ok.map (fun k => ((e, k / 8, k % 8),
        sumN ((r.layerRate.filter (fun x => decide (x.1 / 8 ≤ k / 8 ∧ x.1 % 8 ≤ k % 8))).map (·.2)))))

/-- Does a change from one selection to another need a key frame (R344)? -/
def State.needsKey (s : State) (cur : Option Nat) (from_ to_ : Nat × Nat) (entry : Nat) : Bool :=
  cur ≠ some entry || (from_.1 < to_.1 && (s.stream entry).desc.codec / 16 = 4)

/-- A slot's new target: the change waits for its switch point; one that needs a key frame sends a PLI to the new stream's
sender now (R344, R345). -/
def State.retarget (s : State) (l k : Nat) (t : Nat × Nat × Nat) : State :=
  match (s.leg l).fwd[k]? with
  | none => s
  | some x =>
    if x.tgt = some t then s
    else
      let same := x.cur = some t.1 && x.curLayer = t.2
      let key := s.needsKey x.cur x.curLayer t.2 t.1
      let up := x.cur = some t.1 && (decide (x.curLayer.1 < t.2.1) || (x.curLayer.1 = t.2.1 && decide (x.curLayer.2 < t.2.2)))
        || (match x.cur with | some c => c ≠ t.1 && (s.stream c).leg = (s.stream t.1).leg && decide ((s.stream c).desc.layer < (s.stream t.1).desc.layer) | none => false)
      let y := { x with tgt := some t, waiting := !same, waitFrom := s.now, waitUp := up, needKey := key, fits := 0, lastPli := s.now }
      let s := s.onLeg l (fun g => { g with fwd := g.fwd.set k y })
      if key && !same then s.upstreamRequest t.1 else s

/-- A slot pauses: a pause that has begun goes on and counts no second time (R345, R349). -/
def State.pauseSlot (s : State) (l k : Nat) (x : FwdSlot) : State :=
  if x.paused then s.onLeg l (fun g => { g with fwd := g.fwd.set k x }) else (s.onLeg l (fun g => { g with fwd := g.fwd.set k { x with paused := true } })).incR Reg.LAC_FWD_PAUSES

/-- FORWARD_ASSIGN: at the start of a tick the slots of a forwarded leg take their senders from the last bellwether record;
a slot whose sender is no longer ACTIVE pauses at once (R342, R345). -/
def forwardAssign (l : Nat) (s : State) : State :=
  let g := s.leg l
  if g.state ≠ .active || g.desc.videoMode ≠ 1 then s
  else
    let outs := (s.entries l).filter (fun e => let d := (s.stream e).desc; d.kind = 1 && d.outbound)
    let slots := (indexed outs).map (fun (k, e) => { (g.fwd[k]?).getD {} with stream := e })
    let s := s.onLeg l (fun g => { g with fwd := slots })
    let cs := s.forwardCandidates l
    s.each (upTo outs.length) (fun s k =>
      match (s.leg l).fwd[k]? with
      | none => s
      | some x =>
        let s := match x.cur with
          | some c => if (s.leg (s.stream c).leg).state = .active then s else s.pauseSlot l k x
          | none => s
        let to_ := cs[k]?
        if to_ = x.sender then s
        else
          let s := s.onLeg l (fun g => { g with fwd := g.fwd.set k { (g.fwd[k]?.getD {}) with sender := to_ } })
          match to_ with
          | none => s.onLeg l (fun g => { g with fwd := g.fwd.set k { (g.fwd[k]?.getD {}) with tgt := none, cur := none, waiting := false } })
          | some c =>
            match (s.layerChoices l c).head? with
            | some (t, _) => s.retarget l k t
            | none => s)

/-- FORWARD_ASSIGN (R342). -/
def execForwardAssign (l : Nat) (s : State) : Host.Outcome State Fault Refusal := finish s (forwardAssign l s)

/-- FWD_SWITCH_TIMEOUT: a down-switch or sender change that has waited more than 60 ticks pauses its slot (R345). -/
def fwdSwitchTimeout (l k : Nat) (s : State) : State :=
  match (s.leg l).fwd[k]? with
  | none => s
  | some x =>
    if x.waiting && !x.waitUp && !x.paused && decide (x.waitFrom + 60 < s.now) then
      (s.pauseSlot l k x).raiseOnce fltFwdPaused (subjStream x.stream) 600
    else s

/-- FWD_SWITCH_TIMEOUT (R345). -/
def execFwdSwitchTimeout (l k : Nat) (s : State) : Host.Outcome State Fault Refusal := finish s (fwdSwitchTimeout l k s)

/-- FWD_PLI_REPEAT: an up-switch that waits for a key frame repeats its PLI every 600 ticks (R345). -/
def fwdPliRepeat (l k : Nat) (s : State) : State :=
  match (s.leg l).fwd[k]? with
  | none => s
  | some x =>
    match x.tgt with
    | some t =>
      if x.waiting && x.waitUp && x.needKey && decide (x.lastPli + 600 ≤ s.now) then
        (s.onLeg l (fun g => { g with fwd := g.fwd.set k { x with lastPli := s.now } })).upstreamRequest t.1
      else s
    | none => s

/-- FWD_PLI_REPEAT (R345). -/
def execFwdPliRepeat (l k : Nat) (s : State) : Host.Outcome State Fault Refusal := finish s (fwdPliRepeat l k s)

/-- Is a packet at the switch point of a slot's target (R344)? -/
def FwdSlot.switchPoint (x : FwdSlot) (e : Nat) (v : VidFacts) : Bool :=
  match x.tgt with
  | none => false
  | some (t, sp, tp) =>
    x.waiting && t = e && v.first &&
      (if x.cur ≠ some e || x.needKey then v.randomAccess
       else if decide (x.curLayer.1 < sp ∨ x.curLayer.2 < tp) then v.switchUp && decide (v.spatial ≤ sp ∧ v.temporal ≤ tp)
       else true)

/-- A packet of source entry `e` through slot `k` of leg `l` (R344 to R346). `ext` is its extended sequence number. The
packet is forwarded when its layers are selected; packets withheld and pauses consume nothing; a gap in the input is kept.
A slot whose pause ended without a change of selection goes on with the first packet of a frame.
[DESIGN CHOICE, notes/assumptions 17] -/
def State.forwardOne (s : State) (l k e ext : Nat) (p : RtpFacts) : State :=
  match (s.leg l).fwd[k]? with
  | none => s
  | some x =>
    let sw := x.switchPoint e p.vid
    let change := sw && x.cur ≠ some e
    let r := s.stream x.stream
    let base := (p.ts : Int)
    let delta := Nat.max 1 ((s.now - r.tx.lastFwdTick) * r.desc.clockRate / 600)
    let off : Int := if change || x.rebase then (if r.tx.used || r.tx.lastFwdTick ≠ 0 then (r.tx.lastTs : Int) + delta - base else (r.tx.tsBase : Int) - base) else x.tsOffset
    let x := if sw then
        { x with cur := some e, curLayer := (x.tgt.map (·.2)).getD (0, 0), waiting := false, paused := x.noRoom, tsOffset := off, lastIn := if change then none else x.lastIn, rebase := change && x.noRoom }
      else
        let x := if x.paused && !x.noRoom && p.vid.first && x.cur = some e && x.tgt = some (e, x.curLayer) then { x with paused := false } else x
        if x.rebase && !x.paused && x.cur = some e then { x with tsOffset := off, rebase := false } else x
    let s := if sw then s.incR Reg.LAC_FWD_SWITCHES else s
    let late := match x.lastIn with | some q => decide (ext ≤ q) | none => false
    if x.cur ≠ some e || late then s.onLeg l (fun g => { g with fwd := g.fwd.set k x })
    else if x.paused then s.onLeg l (fun g => { g with fwd := g.fwd.set k { x with lastIn := some ext } })
    else
      let gap := match x.lastIn with | some q => ext - q - 1 | none => 0
      let chosen := decide (p.vid.spatial ≤ x.curLayer.1 ∧ p.vid.temporal ≤ x.curLayer.2)
      let seq := (r.tx.seq + gap) % 65536
      let ts := toBits 32 (base + x.tsOffset)
      let x := { x with lastIn := some ext, outSeq := if chosen then seq else x.outSeq, frameOut := if chosen && p.vid.first then x.frameOut + 1 else x.frameOut }
      let s := s.onLeg l (fun g => { g with fwd := g.fwd.set k x })
      if chosen then
        let s := s.onStream x.stream (fun r => { r with tx := { r.tx with seq := (seq + 1) % 65536, lastTs := ts, lastFwdTick := s.now } })
        let pkt : EgPkt := { leg := some l, cls := 4, kind := .rtp, stream := x.stream, ssrc := r.desc.ssrc, seq := seq, ts := ts, marker := p.marker, len := s.rtpLen l x.stream p.payload, content := p.content, pic := ts, vid := p.vid }
        (s.packetise pkt).incR64 Reg.LAC_FWD_PACKETS
      else s.onStream x.stream (fun r => { r with tx := { r.tx with seq := seq } })

/-- A packet of source entry `e` through every slot of its fold that takes it or waits for it (R346).
[DESIGN CHOICE, notes/assumptions 17] -/
def State.forwardPacket (s : State) (e ext : Nat) (p : RtpFacts) : State :=
  let f := (s.leg (s.stream e).leg).desc.fold
  s.each (s.foldLegs f) (fun s l =>
    if (s.leg l).state = .active && (s.leg l).desc.videoMode = 1 then
      s.each (upTo (s.leg l).fwd.length) (fun s k =>
        match (s.leg l).fwd[k]? with
        | some x => if x.cur = some e || (x.tgt.map (·.1)) = some e then s.forwardOne l k e ext p else s
        | none => s)
    else s)

/-- Bytes of an inbound video packet added to its layer's measurement (R349). [DESIGN CHOICE, notes/assumptions 12] -/
def State.measureLayer (s : State) (e : Nat) (p : RtpFacts) : State :=
  s.onStream e (fun r => { r with layerBytes := tmod 0 r.layerBytes (p.vid.spatial * 8 + p.vid.temporal) (· + p.payload) })

/-! ### Feedback (R93, R347) -/

/-- Does a feedback item name the packet? Transport-wide feedback names it by the number the device wrote, RFC 8888 by its
SSRC and sequence number (R93, R346). -/
def FbItem.names (i : FbItem) (p : SentPkt) : Bool :=
  match i.ssrc with
  | some x => p.ssrc = x && p.seq = i.seq
  | none => p.twcc = some i.seq

/-- A packet with what feedback says of it; what has been said stands. [DESIGN CHOICE, notes/assumptions 64] -/
def SentPkt.tell (p : SentPkt) (items : List FbItem) : SentPkt :=
  if p.reported.isSome then p else { p with reported := (items.find? (fun i => i.names p)).map (·.arrival) }

/-- Has feedback reported every packet of the group? Where packets carry transport-wide numbers, every one of those.
[DESIGN CHOICE, notes/assumptions 64] -/
def SentGroup.whole (x : SentGroup) : Bool :=
  let ps := x.pkts.filter (fun p => p.twcc.isSome)
  (if ps.isEmpty then x.pkts else ps).all (fun p => p.reported.isSome)

/-- Feedback of a leg: each packet reported is noted in its group; groups fully reported wait for ADAPT_TICK (R347).
[DESIGN CHOICE, notes/assumptions 64] -/
def State.feedback (s : State) (l : Nat) (items : List FbItem) : State :=
  let old := (s.leg l).eg.groupsSent
  let groups := old.map (fun x => { x with pkts := x.pkts.map (·.tell items) })
  let before := old.flatMap (·.pkts)
  let fresh := ((before.zip (groups.flatMap (·.pkts))).filter (fun e => e.1.reported.isNone && e.2.reported.isSome)).map (·.2)
  let got := fresh.filter (fun p => p.reported.any (·.isSome))
  let (whole, rest) := groups.partition (·.whole)
  let made := whole.filterMap (fun x =>
    (x.pkts.filterMap (fun p => p.reported.getD none)).getLast?.map (fun a => ({ sendUs := (x.sendUs : Int), recvUs := (a : Int) } : FbGroup)))
  s.onLeg l (fun g => { g with
    eg := { g.eg with groupsSent := rest },
    adapt := { g.adapt with
      groups := g.adapt.groups ++ made, lastFeedback := s.now, ackBytes := g.adapt.ackBytes ++ [(s.now, sumN (got.map (·.len)))],
      lossWin := g.adapt.lossWin ++ [(s.now, fresh.length, fresh.length - got.length)] } })

/-- A report block of leg `l` on its outbound entry `e`: packets and losses since the last block (R347). -/
def State.reportLoss (s : State) (l e : Nat) (r : Report) : State :=
  let s' := s.onStream e (fun x => { x with tx := { x.tx with rrHigh := some (r.highest, r.cumulative) } })
  match (s.stream e).tx.rrHigh with
  | none => s'.onLeg l (fun g => { g with adapt := { g.adapt with lastFeedback := s.now } })
  | some (h, c) =>
    let n := modSub 32 r.highest h
    s'.onLeg l (fun g => { g with adapt := { g.adapt with lastFeedback := s.now, lossWin := g.adapt.lossWin ++ [(s.now, n, r.cumulative - c)] } })

/-! ### The estimator (R347) -/

/-- Least-squares slope of a window of (send, value) points, in parts per million, rounded down.
[DESIGN CHOICE, notes/assumptions 12] -/
def lsqSlope (win : List (Int × Int)) : Int :=
  let n : Int := win.length
  let x0 := (win.head?.map (·.1)).getD 0
  let sx := (win.map (fun p => p.1 - x0)).foldl (· + ·) 0
  let sy := (win.map (·.2)).foldl (· + ·) 0
  let sxx := (win.map (fun p => (p.1 - x0) * (p.1 - x0))).foldl (· + ·) 0
  let sxy := (win.map (fun p => (p.1 - x0) * p.2)).foldl (· + ·) 0
  let den := n * sxx - sx * sx
  if den = 0 then 0 else 1000000 * (n * sxy - sx * sy) / den

/-- One group through the delay filter (R347). -/
def AdaptSt.group (a : AdaptSt) (g : FbGroup) : AdaptSt :=
  let d := (g.recvUs - a.prevRecv) - (g.sendUs - a.prevSend)
  let acc := a.acc + d
  let sm := a.sm + (acc - a.sm) / 16
  let win := lastN 20 (a.win ++ [(g.sendUs, sm)])
  let slope := lsqSlope win
  { a with prevRecv := g.recvUs, prevSend := g.sendUs, acc := acc, sm := sm, win := win,
           excess := if 8 ≤ win.length ∧ 2000 < slope then a.excess + 1 else 0,
           under := decide (8 ≤ win.length ∧ slope < -2000) }

/-- The loss of the last 60 ticks in ‰ (R347). -/
def AdaptSt.loss (a : AdaptSt) : Nat :=
  let n := sumN (a.lossWin.map (·.2.1))
  if n = 0 then 0 else Nat.min 1000 (sumN (a.lossWin.map (·.2.2)) * 1000 / n)

/-- adapt_tick of leg `l` in tick `t` (R347). -/
def AdaptSt.step (a : AdaptSt) (l t lo hi : Nat) : AdaptSt :=
  let a : AdaptSt := { a with ackBytes := a.ackBytes.filter (fun e => decide (t < e.1 + 30)), lossWin := a.lossWin.filter (fun e => decide (t < e.1 + 60)) }
  let a : AdaptSt := { (a.groups.foldl AdaptSt.group a) with groups := [] }
  let acked := sumN (a.ackBytes.map (·.2)) * 4 / 25
  let a : AdaptSt := { a with acked := acked }
  let a : AdaptSt := if 2 ≤ a.excess then { a with delayRate := Nat.min a.delayRate (acked * 85 / 100), hold := 30, excess := 0 }
    else if 0 < a.hold then { a with hold := a.hold - 1 }
    else if !a.under then { a with delayRate := Nat.min (a.delayRate + a.delayRate / 8192 + 1) (acked * 2 + 500) }
    else a
  let a : AdaptSt := if t % 60 = l % 60 then
      let lam := a.loss
      let a : AdaptSt := { a with lossPm := lam }
      let a : AdaptSt := if 100 < lam then { a with lossRate := a.lossRate * (1000 - lam / 2) / 1000 }
        else if lam < 20 then { a with lossRate := Nat.max a.lossRate a.delayRate } else a
      if a.lastFeedback + 60 ≤ t then { a with delayRate := a.delayRate / 2 } else a
    else a
  { a with estimate := clampN lo (Nat.max lo hi) (Nat.min a.delayRate a.lossRate) }

/-- The audio term of the video share in kb/s (R348). -/
def AudioCfg.share (c : AudioCfg) : Nat :=
  if c.codec = 1 then ceilDiv c.bitrate 1000 + 16
  else if c.codec = 5 then rateHz c.rate / 1000 * c.channels * 16 + 16 else 80

/-- The reserve: FlexFEC and retransmission rate sent in the last 60 ticks, in kb/s (R348). -/
def AdaptSt.reserveRate (a : AdaptSt) : Nat := sumN (a.reserveBytes.map (·.2)) * 2 / 25

/-- The video share V of the estimate in force (R348). -/
def State.videoShare (s : State) (l : Nat) : Nat :=
  let g := s.leg l
  let audio := if g.desc.hasAudio then ((s.fold g.desc.fold).audio.config g.desc.audioConfig).share else 0
  g.adapt.inForce - audio - g.adapt.reserveRate

/-! ### What the share decides (R349 to R351) -/

/-- The selections of R349: every slot's lowest layer while the sum fits, then each slot raised in order. `slots` are
the choices of each slot; none for a slot that does not fit. -/
def fillSlots (V : Nat) (slots : List (List ((Nat × Nat × Nat) × Nat))) : List (Option (Nat × Nat × Nat)) :=
  let low := slots.foldl (fun (acc : List (Option ((Nat × Nat × Nat) × Nat)) × Nat) cs =>
    match cs.head? with
    | none => (acc.1 ++ [none], acc.2)
    | some c => if acc.2 + c.2 ≤ V then (acc.1 ++ [some c], acc.2 + c.2) else (acc.1 ++ [none], acc.2)) ([], 0)
  let up := (low.1.zip slots).foldl (fun (acc : List (Option (Nat × Nat × Nat)) × Nat) e =>
    match e.1 with
    | none => (acc.1 ++ [none], acc.2)
    | some b =>
      let best := (e.2.reverse.find? (fun c => decide (acc.2 - b.2 + c.2 ≤ V ∧ b.2 ≤ c.2))).getD b
      (acc.1 ++ [some best.1], acc.2 - b.2 + best.2)) ([], low.2)
  up.1

/-- Is one selection of a sender above another? -/
def State.above (s : State) (a b : Nat × Nat × Nat) : Bool :=
  let ka := (s.stream a.1).desc.layer
  let kb := (s.stream b.1).desc.layer
  decide (kb < ka) || (ka = kb && (decide (b.2.1 < a.2.1) || (a.2.1 = b.2.1 && decide (b.2.2 < a.2.2))))

/-- The forwarded layers of a leg (R349): a lower target at once, a higher one after 120 ticks. -/
def State.adaptForwarded (s : State) (l V : Nat) : State :=
  let slots := (s.leg l).fwd
  let picks := fillSlots V (slots.map (fun x => (x.sender.map (s.layerChoices l)).getD []))
  s.each (indexed picks) (fun s (k, pick) =>
    match (s.leg l).fwd[k]? with
    | none => s
    | some x =>
      match pick with
      | none => if x.sender.isSome then s.pauseSlot l k { x with noRoom := true, fits := 0 } else s
      | some t =>
        let s := s.onLeg l (fun g => { g with fwd := g.fwd.set k { x with noRoom := false } })
        match x.tgt with
        | none => s.retarget l k t
        | some c =>
          if t = c then s.onLeg l (fun g => { g with fwd := g.fwd.set k { x with noRoom := false, fits := 0 } })
          else if s.above t c then
            if 119 ≤ x.fits then s.retarget l k t
            else s.onLeg l (fun g => { g with fwd := g.fwd.set k { x with noRoom := false, fits := x.fits + 1 } })
          else s.retarget l k t)

/-- The members of a leg's ladder within its rung_range, by rung number (R350). -/
def State.reach (s : State) (l : Nat) : List Nat :=
  let d := (s.leg l).desc
  let ms := (s.ladderOf d.lineClass).filter (fun c => let r := (s.lc c).desc.rung; decide (d.rungCap ≤ r ∧ r ≤ d.rungFloor))
  (upTo 6).flatMap (fun r => ms.filter (fun c => (s.lc c).desc.rung = r))

/-- The rate_cap of line class `c`: the lowest V among the legs it serves that do not wait to move down; none when it
serves no leg (R350). -/
def State.updateCap (s : State) (c : Nat) : State :=
  let vs := ((s.servedBy c).filter (fun l => match (s.leg l).adapt.movingTo with
    | some m => decide ((s.lc m).desc.rung ≤ (s.lc c).desc.rung)
    | none => true)).map (fun l => (s.leg l).adapt.video)
  let cap := vs.foldl (fun (b : Option Nat) v => match b with | none => some v | some x => some (Nat.min x v)) none
  s.onRung c (fun r => { r with rateCap := cap })

/-- The composed rung of a leg (R350). -/
def State.adaptComposed (s : State) (l V : Nat) : State :=
  let g := s.leg l
  let cur := g.adapt.serving.getD g.desc.lineClass
  let ms := s.reach l
  let at_ := (ms.findIdx? (· = cur)).getD 0
  let low := ms[at_ + 1]?
  let high := if at_ = 0 then none else ms[at_ - 1]?
  let rate (c : Nat) := (s.lc c).desc.targetRate
  let nLow := if 4 * V < 3 * rate cur then g.adapt.rungLow + 1 else 0
  let nHigh := match high with | some h => if 5 * rate h ≤ 4 * V then g.adapt.rungHigh + 1 else 0 | none => 0
  let to_ := if g.adapt.movingTo.isSome then none
    else if 30 ≤ nLow then low else if 300 ≤ nHigh then high else none
  let s := s.onLeg l (fun g => { g with adapt := { g.adapt with rungLow := if to_.isSome then 0 else nLow, rungHigh := if to_.isSome then 0 else nHigh, serving := some cur, movingTo := if to_.isSome then to_ else g.adapt.movingTo } })
  let s := match to_ with | some c => s.refreshRung c l false true | none => s
  s.each (s.ladderOf g.desc.lineClass) (fun s c => s.updateCap c)

/-- The tile rungs that V gives the cells of a laced viewer: every cell at its lowest, then each raised in order (R351).
`cells` are the rates of each cell by rung, in order. -/
def fillRungs (V cap low : Nat) (cells : List (Nat → Nat)) : List Nat :=
  let start := sumN (cells.map (fun r => r low))
  (cells.foldl (fun (acc : List Nat × Nat) r =>
    let best := ((fromTo cap (low + 1)).find? (fun k => decide (acc.2 - r low + r k ≤ V))).getD low
    (acc.1 ++ [best], acc.2 - r low + r best)) ([], start)).1

/-- The cells of a laced viewer in the order of R351: LEAD cells first. -/
def Pricking.rungOrder (p : Pricking) : List Nat :=
  let is := indexed p.cells
  (is.filter (fun e => e.2.role = 1)).map (·.1) ++ (is.filter (fun e => e.2.role ≠ 1)).map (·.1)

/-- The tile rungs of a laced viewer (R351): lower rungs apply at the next picture; one raise at a time, the first cell
in order whose computed rung has been at or above its current one for 120 ticks. -/
def State.adaptLaced (s : State) (l V : Nat) : State :=
  match s.viewerLayout l with
  | none => s
  | some (p, g) =>
    let (cap, low) := s.rungSpan l
    let order := p.rungOrder
    let f := (s.leg l).desc.fold
    let rateOf (i : Nat) (r : Nat) : Nat :=
      let geo := s.classGeo f (p.classOf g i)
      g.rungRate r (geo.w * geo.h)
    let picks := order.zip (fillRungs V cap low (order.map rateOf))
    let s := s.each picks (fun s (i, r) => s.onLeg l (fun v =>
      let c := tget {} v.view.cells i
      let cur := c.want.getD low
      let c := { c with fitRung := r, raiseTicks := if r ≤ cur then c.raiseTicks + 1 else 0, want := some (if cur < r then r else cur) }
      { v with view := { v.view with cells := tset {} v.view.cells i c } }))
    match picks.find? (fun e => let c := tget {} (s.leg l).view.cells e.1; decide (e.2 < c.want.getD low) && decide (120 ≤ c.raiseTicks) && !c.next.isSome) with
    | none => s
    | some (i, r) =>
      if picks.any (fun e => (tget {} (s.leg l).view.cells e.1).next.isSome) then s
      else s.onLeg l (fun v => { v with view := { v.view with cells := tmod {} v.view.cells i (fun c => { c with want := some r, raiseTicks := 0 }) } })

/-- The FlexFEC group size that a loss gives (R377). -/
def fecGroupSize (old lam : Nat) : Nat :=
  if lam < 10 || (lam < 20 && old = 0) then 0 else if lam < 50 then 10 else if lam < 100 then 5 else 3

/-- ADAPT_TICK: the estimator of a leg, and what its estimate in force decides (R347 to R351, R377). The item may be shed,
or its state in DRAM be poisoned, when the rates restart at egress_min (R353). -/
def adaptTick (l : Nat) (how : WorkEnd) (s : State) : State :=
  let g := s.leg l
  if g.state ≠ .active then s
  else match how with
  | .shed => s
  | .stateLost =>
    let lo := g.desc.egressMin
    (s.onLeg l (fun g => { g with adapt := { ({} : AdaptSt) with delayRate := lo, lossRate := lo, estimate := lo, inForce := g.adapt.inForce, serving := g.adapt.serving, lastFeedback := s.now } })).raise fltAdaptLost (subjLeg l)
  | .done =>
    let a := { g.adapt with reserveBytes := g.adapt.reserveBytes.filter (fun e => decide (s.now < e.1 + 60)) }
    let a := a.step l s.now g.desc.egressMin g.desc.egressMax
    let hasFec := (s.entries l).any (fun e => let d := (s.stream e).desc; d.kind = 3 && d.outbound)
    let eg := if hasFec && s.now % 60 = l % 60 then { g.eg with fecL := fecGroupSize g.eg.fecL a.lossPm } else g.eg
    let s := s.onLeg l (fun g => { g with adapt := { a with reserve := a.reserveRate }, eg := eg })
    let V := s.videoShare l
    let s := s.onLeg l (fun g => { g with adapt := { g.adapt with video := V } })
    if g.desc.videoMode = 1 then s.adaptForwarded l V
    else if g.desc.videoMode = 2 then s.adaptLaced l V
    else if g.desc.videoMode = 3 then s.adaptComposed l V
    else s

/-- ADAPT_TICK (R347). -/
def execAdaptTick (l : Nat) (how : WorkEnd) (s : State) : Host.Outcome State Fault Refusal := finish s (adaptTick l how s)

end Sys2Proof.Machine
end

