-- ==== Sys2Proof/Machine/Egs.lean ====
section
/-!
DEFINITION. Egress scheduling (09): class queues, gates, pacing, deficit round robin, stale packets, FlexFEC, and the
frames that leave.
-/

namespace Sys2Proof.Machine

/-- EGS STALE_DROPS (R379). -/
def fltStale : Nat := faultCode 5 0 2
/-- EGS QUEUE_OVERFLOW (R379). -/
def fltQueueOverflow : Nat := faultCode 5 0 3

/-! ### Counting and dropping (R385, R387) -/

/-- Counter `n` of a leg's egress advanced (R387). -/
def State.egCount (s : State) (l n : Nat) (k : Nat := 1) : State :=
  s.onLeg l (fun g => { g with eg := { g.eg with ctr := tmod 0 g.eg.ctr n (fun v => (v + k) % 2 ^ 32) } })

/-- A packet of port `p` dropped for cause `n` (R385). -/
def State.egDrop (s : State) (p n : Nat) : State := s.incR (Reg.EGS_DROP p n)

/-- Queue of class `c` of a leg. -/
def LegRt.queue (g : LegRt) (c : Nat) : EgQueue := tget {} g.eg.queues c

/-- Queue of class `c` of leg `l` changed. -/
def State.onQueue (s : State) (l c : Nat) (f : EgQueue → EgQueue) : State :=
  s.onLeg l (fun g => { g with eg := { g.eg with queues := tmod {} g.eg.queues c f } })

/-- Packets queued for a leg (R363). -/
def LegRt.queued (g : LegRt) : Nat := sumN (g.eg.queues.map (fun e => e.2.pkts.length))

/-- Sub-port state, keyed by port × 4 + sub-port. -/
def State.sub (s : State) (k : Nat) : SubSt := tget {} s.egs.subs k

/-- Sub-port `k` changed. -/
def State.onSub (s : State) (k : Nat) (f : SubSt → SubSt) : State :=
  { s with egs := { s.egs with subs := tmod {} s.egs.subs k f } }

/-- The key of the sub-port that R63 and R64 give a leg now. -/
def State.subNow (s : State) (l : Nat) : Option Nat := (s.legSubport l).map (fun n => s.legPort l * 4 + n)

/-- The key of the sub-port a leg uses in this tick, as evaluated at its boundary (R63). -/
def State.legSub (s : State) (l : Nat) : Option Nat := match (s.leg l).eg.subport with | 0 => none | k + 1 => some k

/-- A queue that drops have emptied leaves its round, with no credit (R373, R374). -/
def State.settleQueue (s : State) (l c : Nat) : State :=
  if !((s.leg l).queue c).pkts.isEmpty then s
  else
    let s := s.onQueue l c (fun q => { q with deficit := 0, visited := false, parked := false })
    match s.legSub l with
    | some k => s.onSub k (fun x => { x with rounds := tmod [] x.rounds c (fun ls => ls.filter (· ≠ l)) })
    | none => s

/-- The repair packets of a leg whose group holds a source packet that was dropped go with it, under the same cause (R377). -/
def State.dropRepair (s : State) (l port cause : Nat) (p : EgPkt) : State :=
  if p.cls ≠ 4 then s
  else
    let q := (s.leg l).queue 3
    let hit (r : EgPkt) : Bool := r.protects = p.stream && r.group.contains p.seq
    if q.pkts.any hit then
      let s := (s.onQueue l 3 (fun q => { q with pkts := q.pkts.filter (fun r => !hit r) })).settleQueue l 3
      s.each (q.pkts.filter hit) (fun s _ => s.egDrop port cause)
    else s

/-- The open FEC group of a leg's stream (R377). -/
def State.fecRun (s : State) (l e : Nat) : FecRun := tget {} (s.leg l).eg.fecRuns e

/-- The open FEC group of a leg's stream changed (R377). -/
def State.onFec (s : State) (l e : Nat) (f : FecRun → FecRun) : State :=
  s.onLeg l (fun g => { g with eg := { g.eg with fecRuns := tmod {} g.eg.fecRuns e f } })

/-- A source packet of a leg dropped before it was scheduled (R363, R365, R375, R377). -/
def State.dropLegPkt (s : State) (l cause : Nat) (p : EgPkt) : State :=
  let port := s.legPort l
  let s := (s.egDrop port cause).dropRepair l port cause p
  let s := if cause = 0 then s.egCount l 6 else if cause = 1 then s.egCount l 7 else s
  if p.cls = 4 && (s.fecRun l p.stream).seqs.contains p.seq then s.onFec l p.stream (fun x => { x with drop := some cause }) else s

/-- Every queue of a leg discarded for a cause (R364, R365, R379). -/
def State.discardQueues (s : State) (l cause : Nat) : State :=
  let port := s.legPort l
  let n := (s.leg l).queued
  let s := s.each (upTo n) (fun s _ => s.egDrop port cause)
  let s := s.onLeg l (fun g => { g with eg := { g.eg with queues := [], fecRuns := [] } })
  { s with egs := { s.egs with subs := s.egs.subs.map (fun (k, x) => (k, { x with rounds := x.rounds.map (fun (c, ls) => (c, ls.filter (· ≠ l))) })) } }

/-! ### Rounds (R373, R374) -/

/-- A queue joins the tail of its round with a deficit of 0 and no visit (R374). -/
def State.wake (s : State) (l c : Nat) : State :=
  match s.legSub l with
  | none => s
  | some k =>
    if (tget [] (s.sub k).rounds c).contains l then s
    else
      let s := s.onQueue l c (fun q => { q with deficit := 0, visited := false, parked := false })
      s.onSub k (fun x => { x with rounds := tmod [] x.rounds c (fun ls => ls ++ [l]) })

/-- A packet at the tail of a leg's queue; a queue that was empty wakes, unless it is parked (R374). -/
def State.pushLeg (s : State) (l : Nat) (p : EgPkt) : State :=
  let q := (s.leg l).queue p.cls
  let s := s.onQueue l p.cls (fun q => { q with pkts := q.pkts ++ [p] })
  if q.pkts.isEmpty && !q.parked then s.wake l p.cls else s

/-! ### Enqueue (R363, R365, R376, R377, R524) -/

/-- Pv of a leg: the period of its fold's cadence, 1 without video (R362, R371). -/
def State.legPv (s : State) (l : Nat) : Nat :=
  let d := (s.leg l).desc
  if d.hasVideo then periodOf (s.fold d.fold).desc.cadence else 1

/-- Shaper bytes of one tick at a rate in kb/s, rounded up (R371). -/
def tickBytes (rate : Nat) : Nat := ceilDiv (rate * 5) 24

/-- The port class queue takes a packet, or drops it when it holds 4,096 (R363). -/
def State.enqueuePort (s : State) (p : EgPkt) : State :=
  let k := p.port * 8 + p.cls
  let stopped : Bool := match p.leg with | some l => (s.leg l).txStopped && !(p.kind = .plain 3 || p.kind = .plain 4) | none => false
  if stopped then s.egDrop p.port 4
  else if 4096 ≤ (tget ({} : PortQ) s.egs.portq k).pkts.length then
    (s.egDrop p.port 1).raiseOnce fltQueueOverflow (subjInst 5 p.port) 600
  else { s with egs := { s.egs with portq := tmod ({} : PortQ) s.egs.portq k (fun q => { q with pkts := q.pkts ++ [p] }) } }

/-- Does a limit of paired operation drop the packet at enqueue (R524)? -/
def State.overTwin (s : State) (l : Nat) (p : EgPkt) : Bool :=
  s.twn.paired && (match p.kind with
    | .rtp => decide (512 ≤ (s.stream p.stream).tx.tickPkts)
    | .srtcp _ => decide (16 ≤ (s.leg l).eg.srtcpTick)
    | .plain _ => false)

/-- The packet counted against the limits of R524 and in the leg's digest (R535). -/
def State.noteEnqueued (s : State) (l : Nat) (p : EgPkt) : State :=
  let s := match p.kind with
    | .rtp => s.onStream p.stream (fun r => { r with tx := { r.tx with tickPkts := r.tx.tickPkts + 1 } })
    | .srtcp _ => s.onLeg l (fun g => { g with eg := { g.eg with srtcpTick := g.eg.srtcpTick + 1 } })
    | .plain _ => s
  s.onLeg l (fun g => { g with eg := { g.eg with digest := Config.digestStep g.eg.digest p.cls p.ssrc p.seq p.ts p.len p.content, digestSent := true } })

/-- The leg's FlexFEC entry (R83, R377). -/
def State.fecEntry (s : State) (l : Nat) : Option Nat :=
  (s.entries l).find? (fun e => let d := (s.stream e).desc; d.kind = 3 && d.outbound)

/-- The open group of stream `v` of a leg closes: one of two or more packets yields its repair packet, which is dropped at once
where a packet of the group has been (R377). [DESIGN CHOICE, notes/assumptions 31] -/
def State.closeGroup (s : State) (l v : Nat) : State :=
  let x := s.fecRun l v
  let s := s.onFec l v (fun x => { x with seqs := [], len := 0, drop := none })
  match s.fecEntry l with
  | none => s
  | some e =>
    if x.seqs.length < 2 then s
    else
      let r := s.stream e
      let p : EgPkt := { leg := some l, cls := 3, kind := .rtp, stream := e, ssrc := r.desc.ssrc, seq := r.tx.seq % 65536, ts := rtpClock r.tx r.desc.clockRate s.now, len := x.len + 12, pic := x.pic.getD 0, tick := s.now, group := x.seqs, protects := v }
      let s := s.onStream e (fun r => { r with tx := { r.tx with seq := (r.tx.seq + 1) % 65536 } })
      match x.drop with
      | some c => s.egDrop (s.legPort l) c
      | none =>
        if 1024 ≤ (s.leg l).queued then (s.egDrop (s.legPort l) 1).egCount l 7
        else ((s.pushLeg l p).noteEnqueued l p).egCount l 10

/-- A class 4 packet joins its stream's FEC group, which closes at L packets or at the last packet of a picture; a new L
applies from the next picture (R377). -/
def State.protect (s : State) (l : Nat) (p : EgPkt) : State :=
  if p.cls ≠ 4 || (s.fecEntry l).isNone then s
  else
    let v := p.stream
    let s := if (s.fecRun l v).pic = some p.pic then s
      else (s.closeGroup l v).onFec l v (fun x => { x with size := (s.leg l).eg.fecL, pic := some p.pic })
    let size := (s.fecRun l v).size
    if size = 0 then s
    else
      let s := s.onFec l v (fun x => { x with seqs := x.seqs ++ [p.seq], len := Nat.max x.len p.len })
      if p.marker || decide (size ≤ (s.fecRun l v).seqs.length) then s.closeGroup l v else s

/-- A retransmission is built at enqueue, under the leg's limit for the tick (R376). -/
def State.buildRtx (s : State) (l : Nat) (p : EgPkt) : Option EgPkt × State :=
  match p.rtxOf with
  | none => (some p, s)
  | some _ =>
    let g := s.leg l
    if g.state ≠ .active then (none, s)
    else if tickBytes g.eg.rate / 4 < g.eg.rtxBytes + p.len then (none, (s.egDrop (s.legPort l) 6).egCount l 9)
    else
      let r := s.stream p.stream
      let s := s.onStream p.stream (fun r => { r with tx := { r.tx with seq := (r.tx.seq + 1) % 65536 } })
      let s := s.onLeg l (fun g => { g with eg := { g.eg with rtxBytes := g.eg.rtxBytes + p.len } })
      (some { p with seq := r.tx.seq % 65536, ssrc := r.desc.ssrc }, s)

/-- A packet of classes 6 to 2 at its leg's queue (R363, R365). -/
def State.enqueueLeg (s : State) (l : Nat) (p : EgPkt) : State :=
  let g := s.leg l
  if g.state = .idle || g.state = .fenced then s.dropLegPkt l 3 p
  else if g.txStopped then s.dropLegPkt l 4 p
  else match s.buildRtx l p with
  | (none, s) => s
  | (some p, s) =>
    if (s.legSub l).isNone then s.dropLegPkt l 2 p
    else if 1024 ≤ g.queued || s.overTwin l p then
      ((s.protect l p).dropLegPkt l 1 p).raiseOnce fltQueueOverflow (subjLeg l) 600
    else ((s.pushLeg l p).noteEnqueued l p).protect l p

/-- PACKET_ENQUEUE: the oldest packetised packet whose egress tick has come enters its queue (R26, R363). -/
def packetEnqueue (s : State) : State :=
  match s.egs.packetised.find? (fun p => decide (p.tick ≤ s.now)) with
  | none => s
  | some p =>
    let s := { s with egs := { s.egs with packetised := s.egs.packetised.erase p } }
    let p := { p with tick := s.now }
    if p.cls = 7 || p.cls ≤ 1 then s.enqueuePort p
    else match p.leg with
      | some l => s.enqueueLeg l p
      | none => s

/-- PACKET_ENQUEUE (R363). -/
def execPacketEnqueue (s : State) : Host.Outcome State Fault Refusal := finish s (packetEnqueue s)

/-- PACKET_SEND: an Ethernet frame of the host in class 0 of a port (R362, R649). -/
def execPacketSend (m : Msg) (length : Nat) (s : State) : Host.Outcome State Fault Refusal :=
  finish s (s.request m 0x0110 .hostOnly (fun s _ rto =>
    if 15 < m.target then s.reply rto stMalformed
    else (s.packetise { port := m.target, cls := 0, kind := .plain 7, len := length - 14 }).reply rto stOK))

/-! ### Gates (R368 to R370) -/

/-- The template that port `p` uses in tick `t` (R368). -/
def State.gateTemplate (s : State) (p t : Nat) : Nat :=
  let n := t % Nat.max 1 (s.getF (Reg.EGS_GATE_CONFIG p) 9 0)
  bits (s.getR (Reg.EGS_GATE_LIST p (n / 8))) (4 * (n % 8) + 3) (4 * (n % 8))

/-- The window that holds offset `ns` of a tick under template `t` of port `p`: its number, mask and end (R368). -/
def State.gateWindow (s : State) (p t tick ns : Nat) : Nat × Nat × Nat :=
  let at_ (w : Nat) := s.getR (Reg.EGS_WINDOW p t w)
  let ends (w : Nat) := if bit (at_ w) 31 || w = 3 then tickLen tick else bits (at_ w) 20 0
  let w := ((upTo 4).find? (fun w => bit (at_ w) 31 || w = 3 || decide (ns < bits (at_ w) 20 0))).getD 3
  (w, bits (at_ w) 28 21, ends w)

/-- Does class `c` stay open on port `p` from offset `ns` of tick `t` for `dur` ns, across windows and boundaries (R370)?
Before the first tick every gate is open (R723). Looks through at most `fuel` windows. -/
def State.openFor (s : State) (p c : Nat) : (fuel t ns dur : Nat) → Bool
  | 0, _, _, _ => false
  | fuel + 1, t, ns, dur =>
    let (_, mask, e) := s.gateWindow p (s.gateTemplate p t) t ns
    if !s.tim.valid then true
    else if !bit mask c then false
    else if ns + dur ≤ e then true
    else if tickLen t ≤ e then s.openFor p c fuel (t + 1) 0 (dur - (e - ns))
    else s.openFor p c fuel t e (dur - (e - ns))

/-! ### Selection (R366, R367, R370 to R373) -/

/-- Bytes of a packet's Ethernet frame: header, the leg's VLAN tag, FCS, at least 64. [DESIGN CHOICE, notes/assumptions 31] -/
def State.frameBytes (s : State) (p : EgPkt) : Nat :=
  Nat.max 64 (p.len + 18 + match p.leg with | some l => if (s.leg l).desc.tagged then 4 else 0 | none => 0)

/-- Wire time in ns of a frame of `b` bytes at `rate` Gb/s (R366). -/
def wireNs (b rate : Nat) : Nat := ceilDiv (8 * (b + 20)) (Nat.max 1 rate)

/-- What a scheduled frame of `b` bytes advances τ by, in 1/1,000 ns (R366). -/
def tauStep (b rate : Nat) : Nat := 8 * (b + 20) * 100000 / (98 * Nat.max 1 rate)

/-- Would a packet's index break the cap of R542? [DESIGN CHOICE, notes/assumptions 17] -/
def State.overCap (s : State) (l : Nat) (p : EgPkt) : Bool :=
  if (s.twn.pair = .syncing || s.twn.pair = .paired) && s.authority (s.leg l).desc.fold then
    match p.kind with
    | .rtp => let t := (s.stream p.stream).tx; decide (t.mirroredV + 1024 < outIndex t p.seq)
    | .srtcp _ => decide ((s.leg l).eg.mirroredVc + 32 < (s.leg l).eg.srtcpIndex + 1)
    | .plain _ => false
  else false

/-- What a round of the deficit scheme found. -/
inductive Picked where
  | none
  | hold
  | some (l : Nat) (p : EgPkt)
  deriving DecidableEq, Repr

/-- Is a class paced (R362, R372)? -/
def paced (c : Nat) : Bool := decide (2 ≤ c ∧ c ≤ 4)

/-- pick_class of R373 on sub-port `k` at offset `ns`, with `n` queues of the round still to look at. -/
def State.pickClass (s : State) (k c ns rate : Nat) : Nat → Picked × State
  | 0 => (.none, s)
  | n + 1 =>
    match tget [] (s.sub k).rounds c with
    | [] => (.none, s)
    | l :: rest =>
      let q := (s.leg l).queue c
      let leave (s : State) := s.onSub k (fun x => { x with rounds := tset [] x.rounds c rest })
      let rotate (s : State) := s.onSub k (fun x => { x with rounds := tset [] x.rounds c (rest ++ [l]) })
      match q.pkts with
      | [] => ((leave s).onQueue l c (fun q => { q with deficit := 0, visited := false })).pickClass k c ns rate n
      | p :: ps =>
        if paced c && decide ((s.leg l).eg.level < 0) then
          ((leave s).onQueue l c (fun q => { q with parked := true, visited := false, deficit := 0 })).pickClass k c ns rate n
        else if s.overCap l p then
          let s := if p.capHeld then s else (s.onQueue l c (fun q => { q with pkts := { p with capHeld := true } :: ps })).incR Reg.TWN_CAP_HOLDS
          (s.onSub k (fun x => { x with rounds := tset [] x.rounds c (rest ++ [l]) })).pickClass k c ns rate n
        else
          let d := if q.visited then q.deficit else q.deficit + (s.leg l).eg.quantum
          if d < p.len then ((rotate s).onQueue l c (fun q => { q with deficit := d, visited := false })).pickClass k c ns rate n
          else if !s.openFor (k / 4) c 16 s.now ns (wireNs (s.frameBytes p) rate) then
            let s := s.onQueue l c (fun q => { q with pkts := { p with gateHeld := true } :: ps, deficit := d, visited := true })
            (.hold, if p.gateHeld then s else s.incR (Reg.EGS_GUARD_HOLDS (k / 4)))
          else if ps.isEmpty then
            (.some l p, (leave s).onQueue l c (fun q => { q with pkts := [], deficit := 0, visited := false }))
          else (.some l p, s.onQueue l c (fun q => { q with pkts := ps, deficit := d - p.len, visited := true }))

/-- The first class from `cs` that yields a packet, in priority order (R367). -/
def State.pickFrom (s : State) (k ns rate : Nat) : List Nat → Picked × State
  | [] => (.none, s)
  | c :: cs =>
    let mask := (s.gateWindow (k / 4) (s.gateTemplate (k / 4) s.now) s.now ns).2.1
    if !bit mask c then s.pickFrom k ns rate cs
    else match s.pickClass k c ns rate (tget [] (s.sub k).rounds c).length with
      | (.some l p, s) => (.some l p, s)
      | (_, s) => s.pickFrom k ns rate cs

/-- May a fold's frames leave this device's MAC: it is the fold's authority and has not handed it over (R365, R521, R544)? -/
def State.mayTransmit (s : State) (f : Nat) : Bool :=
  s.authority f && !s.pins.fenceIn && s.twn.pair != .fenced

/-- A frame on the line, or discarded at the MAC as TWIN_FENCED (R365, R384). -/
def State.transmit (s : State) (port sub ns : Nat) (ok : Bool) (p : EgPkt) (index : Option Nat) : State :=
  if !ok then s.egDrop port 5
  else
    let b := s.frameBytes p
    let s := (s.incR64 (Reg.EGS_TC_FRAMES port p.cls)).incR64 (Reg.EGS_TC_BYTES port p.cls) b
    let s := (s.incR64 (Reg.NET_PORT_TX_FRAMES port)).incR64 (Reg.NET_PORT_TX_BYTES port) b
    { s with egs := { s.egs with tickBytes := tmod 0 s.egs.tickBytes port (· + b), tickFrames := tmod 0 s.egs.tickFrames port (· + 1) },
             out := s.out ++ [.frame port sub ns p index] }

/-- The retransmission entry that repairs entry `e` of leg `l` (R83, R97). -/
def State.rtxEntry (s : State) (l e : Nat) : Option Nat :=
  (s.entries l).find? (fun x => let d := (s.stream x).desc; d.kind = 2 && d.outbound && d.repairOf = e)

/-- The newest entries of a history, kept oldest first, whose packets and 16-byte headers fit in `room` bytes (R97).
[DESIGN CHOICE, notes/assumptions 16] -/
def fitHistory (room : Nat) (hs : List HistEntry) : List HistEntry :=
  (hs.reverse.foldl (fun (acc : List HistEntry × Nat × Bool) h =>
    if acc.2.2 && decide (h.length + 16 ≤ acc.2.1) then (h :: acc.1, acc.2.1 - (h.length + 16), true) else (acc.1, acc.2.1, false)) ([], room, true)).1

/-- A scheduled packet in its stream's retransmission history; entries that no longer fit its region leave, the oldest first
(R97, R100, R376). -/
def State.keepHistory (s : State) (l : Nat) (p : EgPkt) : State :=
  let d := (s.stream p.stream).desc
  if p.kind = .rtp && d.kind = 1 && (s.rtxEntry l p.stream).isSome then
    let keep := if d.historyTicks = 0 then 600 else d.historyTicks
    let e : HistEntry := { seq := p.seq, tick := s.now, length := p.len, ssrc := p.ssrc, rtp := { ssrc := p.ssrc, seq := p.seq, ts := p.ts, marker := p.marker, content := p.content, vid := p.vid } }
    let all := (s.stream p.stream).tx.history.filter (fun h => decide (s.now < h.tick + keep)) ++ [e]
    let kept := fitHistory (Config.historyRegion p.stream) all
    let s := s.onStream p.stream (fun r => { r with tx := { r.tx with history := kept } })
    if kept.length < all.length then s.raise fltHistoryEvict (subjStream p.stream) else s
  else s

/-- The packet joins its leg's group of the tick for the estimator, and the reserve when it repairs (R346 to R348).
[DESIGN CHOICE, notes/assumptions 64] -/
def State.noteSent (s : State) (l ns : Nat) (p : EgPkt) : State :=
  let us := (tickNs s.now + ns) / 1000
  let r := s.stream p.stream
  let numbered := r.desc.extTwcc ≠ 0
  let s := if p.kind = .rtp then
      s.onLeg l (fun g =>
        let q := g.eg.twccSeq % 65536
        let x : SentPkt := { twcc := if numbered then some q else none, stream := p.stream, ssrc := p.ssrc, seq := p.seq, len := p.len }
        let gs := g.eg.groupsSent
        let old := (gs.find? (fun y => y.tick = s.now)).getD { tick := s.now }
        let gs := gs.filter (fun y => decide (y.tick ≠ s.now ∧ s.now < y.tick + 600)) ++ [{ old with sendUs := us, pkts := old.pkts ++ [x] }]
        { g with eg := { g.eg with twccSeq := if numbered then (q + 1) % 65536 else g.eg.twccSeq, groupsSent := gs } })
    else s
  if p.cls = 3 then s.onLeg l (fun g => { g with adapt := { g.adapt with reserveBytes := g.adapt.reserveBytes ++ [(s.now, p.len)] } }) else s

/-- A packet of classes 6 to 2 scheduled at `ns`: the bucket is debited, the packet encrypted, kept and sent; the device writes
its own transport-wide sequence number where the stream carries one (R140, R346, R366, R372, R376).
[DESIGN CHOICE, notes/assumptions 64] -/
def State.schedule (s : State) (k ns rate ecc l : Nat) (p : EgPkt) : State :=
  let b := s.frameBytes p
  let s := s.onLeg l (fun g => { g with eg := { g.eg with level := max (g.eg.level - 192 * p.len) (-(192 * (g.eg.burst : Int))) } })
  let s := s.onSub k (fun x => { x with tau := Nat.max x.tau (ns * 1000) + tauStep b rate, free := (ns + wireNs b rate) * 1000 })
  let twcc := if p.kind = .rtp && (s.stream p.stream).desc.extTwcc ≠ 0 then some ((s.leg l).eg.twccSeq % 65536) else none
  let s := (s.keepHistory l p).noteSent l ns p
  let (index, s) := match p.kind with
    | .rtp => s.encryptRtp l p.stream p.seq p.len ecc
    | _ => s.encryptRtcp l p.len ecc
  match index with
  | none => s
  | some i =>
    let s := (s.egCount l 4).egCount l 5 p.len
    let s := if p.rtxOf.isSome then s.egCount l 8 else s
    s.transmit (k / 4) (k % 4) ns (s.mayTransmit (s.leg l).desc.fold) { p with twcc := twcc } (some i)

/-- Could a frame of class `c` that takes `dur` ns start at some point from offset `ns` of tick `t` up to `limit` (R370)? -/
def State.startsBefore (s : State) (p c : Nat) : (fuel t ns dur limit : Nat) → Bool
  | 0, _, _, _, _ => false
  | fuel + 1, t, ns, dur, limit =>
    if limit ≤ ns then false
    else if s.openFor p c 16 t ns dur then true
    else
      let (_, _, e) := s.gateWindow p (s.gateTemplate p t) t ns
      if tickLen t ≤ e then s.startsBefore p c fuel (t + 1) 0 dur (limit - tickLen t) else s.startsBefore p c fuel t e dur limit

/-- The offset of the next refill point (R371). -/
def State.nextRefill (s : State) : Nat := if 8 ≤ s.egs.refill then tickLen s.now else s.egs.refill * tickLen s.now / 8

/-- Is a frame of classes 6 to 2 waiting on sub-port `k` whose τ would come before `limit`? A parked queue waits at least for
the next refill point. (R366, R372.) -/
def State.scheduledBefore (s : State) (k ns rate limit : Nat) : Bool :=
  let t0 := Nat.max ns (ceilDiv (s.sub k).tau 1000)
  let could (l c t : Nat) : Bool := match ((s.leg l).queue c).pkts with
    | [] => false
    | p :: _ => !s.overCap l p && s.startsBefore (k / 4) c 16 s.now t (wireNs (s.frameBytes p) rate) limit
  let soon (l : Nat) : Bool := decide (0 ≤ (s.leg l).eg.level + 5 * (s.leg l).eg.rate)
  [6, 5, 4, 3, 2].any (fun c =>
    (tget [] (s.sub k).rounds c).any (fun l =>
      if paced c && decide ((s.leg l).eg.level < 0) then soon l && could l c (Nat.max t0 s.nextRefill) else could l c t0))
  || (decide (s.nextRefill < limit) && s.liveLegs.any (fun l => s.legSub l = some k && soon l
      && [4, 3, 2].any (fun c => ((s.leg l).queue c).parked && could l c (Nat.max t0 s.nextRefill))))

/-- A frame of classes 7, 1 or 0 of a port that may start now: the line is free, its gate stays open, and it ends before any
scheduled frame's τ (R366). -/
def State.pickPort (s : State) (k ns rate : Nat) : Option EgPkt :=
  let port := k / 4
  if ns * 1000 < (s.sub k).free then none
  else [7, 1, 0].findSome? (fun c =>
    match (tget ({} : PortQ) s.egs.portq (port * 8 + c)).pkts with
    | [] => none
    | p :: _ =>
      let w := wireNs (s.frameBytes p) rate
      if s.openFor port c 16 s.now ns w && !s.scheduledBefore k ns rate (ns + w) then some p else none)

/-- A port-queue frame sent (R366). -/
def State.sendPort (s : State) (port sub ns rate : Nat) (p : EgPkt) : State :=
  let s := s.onSub (port * 4 + sub) (fun x => { x with free := (ns + wireNs (s.frameBytes p) rate) * 1000 })
  let s := { s with egs := { s.egs with portq := tmod ({} : PortQ) s.egs.portq (port * 8 + p.cls) (fun q => { q with pkts := q.pkts.drop 1 }) } }
  let ok := match p.leg with | some l => s.mayTransmit (s.leg l).desc.fold | none => !s.pins.fenceIn && s.twn.pair != .fenced
  let lane := port * 4 + sub * (4 / Nat.max 1 (modeSubports (s.portMode port)).1)
  let s := if p.kind = .plain 5 then s.incR (Reg.TIME_TSU_ONE_STEP lane) else s
  s.transmit port sub ns ok p none

/-- FRAME_SELECT: the selection of a sub-port at offset `ns` of the tick (R366, R367). A frame of
classes 7, 1 and 0 starts only where it ends before the next scheduled frame's τ. [DESIGN CHOICE, notes/assumptions 60] -/
def frameSelect (port sub ns ecc : Nat) (s : State) : State :=
  let k := port * 4 + sub
  let rate := (modeSubports (s.portMode port)).2
  if s.boot.planeStopped || !(s.upSubports port).contains sub then s
  else
    let portFrame (s : State) : State := match s.pickPort k ns rate with
      | some p => s.sendPort port sub ns rate p
      | none => s
    if ns * 1000 < (s.sub k).tau then portFrame s
    else match s.pickFrom k ns rate [6, 5, 4, 3, 2] with
      | (.some l p, s) => s.schedule k ns rate ecc l p
      | (_, s) => portFrame s

/-- FRAME_SELECT (R367). -/
def execFrameSelect (port sub ns ecc : Nat) (s : State) : Host.Outcome State Fault Refusal :=
  finish s (frameSelect port sub ns ecc s)

/-! ### Refill points and stale packets (R371, R374, R375) -/

/-- Rate, burst and quantum latched, the level clipped to the new cap (R371, R373). -/
def State.latchShaper (s : State) (l : Nat) : State :=
  let pv := s.legPv l
  s.onLeg l (fun g =>
    let rate := g.adapt.inForce
    let burst := Nat.max 3000 (tickBytes rate * pv)
    { g with eg := { g.eg with rate := rate, burst := burst, quantum := Nat.max 9216 (tickBytes rate), level := min g.eg.level (192 * (burst : Int)) } })

/-- One leg at a refill point: its bucket gains 5 × rate units, and its parked queues wake when the level is back at 0. -/
def State.refillLeg (s : State) (first : Bool) (l : Nat) : State :=
  let s := if first then s.latchShaper l else s
  let s := s.onLeg l (fun g => { g with eg := { g.eg with level := min (g.eg.level + 5 * g.eg.rate) (192 * (g.eg.burst : Int)) } })
  if (s.leg l).eg.level < 0 then s
  else s.each [4, 3, 2] (fun s c =>
    let q := (s.leg l).queue c
    if q.parked then
      let s := s.onQueue l c (fun q => { q with parked := false })
      if q.pkts.isEmpty then s else s.wake l c
    else s)

/-- REFILL_POINT: the next of the tick's eight refill points (R371, R374). -/
def refillPoint (s : State) : State :=
  if 8 ≤ s.egs.refill then s
  else
    let first := s.egs.refill = 0
    let s := { s with egs := { s.egs with refill := s.egs.refill + 1 } }
    s.each (s.liveLegs.filter (fun l => let st := (s.leg l).state; st = .active || st = .retiring)) (fun s l => s.refillLeg first l)

/-- REFILL_POINT (R371). -/
def execRefillPoint (s : State) : Host.Outcome State Fault Refusal := finish s (refillPoint s)

/-- The last tick in which a packet is not stale (R362). -/
def State.staleAfter (s : State) (l : Nat) (p : EgPkt) : Nat :=
  if p.cls = 6 || p.cls = 5 then p.tick + 1
  else if p.cls = 2 then p.tick + 600
  else p.tick + periodOf (s.fold (s.leg l).desc.fold).desc.cadence

/-- STALE_DROP: every packet past its stale limit is dropped, its sequence number and index consumed (R375). -/
def staleDrop (s : State) : State :=
  s.each s.liveLegs (fun s l =>
    let old := (s.leg l).eg.queues.flatMap (fun (_, q) => q.pkts.filter (fun p => decide (s.staleAfter l p < s.now)))
    if old.isEmpty then s
    else
      let s := s.each old (fun s p =>
        if !((s.leg l).queue p.cls).pkts.contains p then s else
        let s := s.onQueue l p.cls (fun q => { q with pkts := q.pkts.erase p })
        let s := match p.kind with
          | .rtp => s.onStream p.stream (fun r => let i := outIndex r.tx p.seq; { r with tx := { r.tx with roc := i / 65536, lastSeq := some p.seq, lastIndex := i } })
          | .srtcp _ => s.onLeg l (fun g => { g with eg := { g.eg with srtcpIndex := g.eg.srtcpIndex + 1 } })
          | .plain _ => s
        (s.dropLegPkt l 0 p).settleQueue l p.cls)
      s.raiseOnce fltStale (subjLeg l) 600)

/-- STALE_DROP (R375). -/
def execStaleDrop (s : State) : Host.Outcome State Fault Refusal := finish s (staleDrop s)

/-! ### The boundary (R364) -/

/-- A leg's sub-port is evaluated for the new tick. Its queues follow it in order; those of a sub-port that is down are
discarded (R63, R364). -/
def State.moveQueues (s : State) (l : Nat) : State :=
  let was := s.legSub l
  let now := s.subNow l
  if now = was then s
  else
    let lost := match was with | some k => !(s.upSubports (k / 4)).contains (k % 4) | none => false
    let drop (x : SubSt) : SubSt := { x with rounds := x.rounds.map (fun (c, ls) => (c, ls.filter (· ≠ l))) }
    let s := match was with | some k => s.onSub k drop | none => s
    let s := if lost || now.isNone then s.discardQueues l 2 else s
    let s := s.onLeg l (fun g => { g with eg := { g.eg with subport := (now.map (· + 1)).getD 0 } })
    s.each ((s.leg l).eg.queues) (fun s (c, q) => if q.pkts.isEmpty || q.parked then s else s.wake l c)

/-- The virtual clocks and the tick's counts at a boundary (R366, R381). `len` is the length of the tick that ended. -/
def State.egressBoundary (s : State) (len : Nat) : State :=
  let s := s.each (upTo 16) (fun s p => (s.setR (Reg.EGS_TICK_BYTES p) (tget 0 s.egs.tickBytes p)).setR (Reg.EGS_TICK_FRAMES p) (tget 0 s.egs.tickFrames p))
  let subs := s.egs.subs.filterMap (fun (k, x) =>
    let y := { x with tau := x.tau - len * 1000, free := x.free - len * 1000, rounds := x.rounds.filter (fun e => !e.2.isEmpty) }
    if y = {} then none else some (k, y))
  let s := { s with egs := { s.egs with subs := subs, tickBytes := [], tickFrames := [], refill := 0 } }
  s.each s.liveLegs (fun s l => s.onLeg l (fun g => { g with eg := { g.eg with rtxBytes := 0, srtcpTick := 0 } }))

end Sys2Proof.Machine
end

