-- ==== Sys2Proof/Machine/Load.lean ====
section
/-!
DEFINITION. The admission accountant's loads and ceilings (R1, R2, R38 to R44, R719): what every admitted leg, fold and
line class charges, computed from the descriptors themselves.
-/

namespace Sys2Proof.Machine

/-! ### Charges -/

/-- The jobs whose phase admission chooses: a ladder, named by its number in a fold, the audio encodes of a
configuration, and a lace grid. -/
inductive JobKey where
  | ladder (f n : Nat)
  | audio (f cfg : Nat)
  | grid (f : Nat)
  deriving DecidableEq, Repr

/-- What a charge is made against. 0 to 2 media cores, video engines, DRAM; 3 egress bytes; 4 ingress bytes; 5 decodes;
6 encodes; 7 assemblies; 8 composition pixels; 9, 10 legacy HMAC halves; 11 ingress packets; 12 egress packets; 13, 14
cipher directions; 15 mirroring; 16 + p the egress of port p. -/
abbrev ResKey := Nat

/-- The limiting-resource code of R43 under which a resource is reported (R43, R113, R144, R378, R523). -/
def resCode (k : ResKey) : Nat :=
  if k ≤ 9 then k else if k = 10 then 9 else if k = 11 || k = 13 || k = 15 then 4 else 3

/-- A periodic charge (R38): `frac` marks a fractional-rate job. Composition pixels are charged by band (R273). -/
structure Charge where
  key : ResKey := 0
  job : Option JobKey := none
  frac : Bool := false
  period : Nat := 1
  stage : Nat := 0
  cost : Nat := 0
  bands : List Nat := []
  deriving DecidableEq, Repr

/-- A charge made in every tick. -/
def perTick (k : ResKey) (c : Nat) : Charge := { key := k, cost := c }

/-! ### Legs (R102, R113, R144, R354, R378, R523) -/

/-- B_in of R102. -/
def LegDesc.bytesIn (d : LegDesc) : Nat := ceilDiv (d.policeRate * 5) 24
/-- B_out of R102. -/
def LegDesc.bytesOut (d : LegDesc) : Nat := ceilDiv (d.egressMax * 5) 24

/-- What one admitted leg charges in every tick. -/
def State.legCharges (s : State) (l : Nat) : List Charge :=
  let d := (s.leg l).desc
  let bi := d.bytesIn
  let ni := ceilDiv bi 256
  let bo := d.bytesOut
  let no := ceilDiv bo 1024
  let es := (s.entries l).map (fun e => (s.stream e).desc)
  let buffered := es.any (fun x => x.inbound && (x.kind = 0 || (x.kind = 1 && x.decode)))
  let rtx := es.any (fun x => x.outbound && x.kind = 2)
  let egress := bo + 102 * no
  [perTick 0 (601 + (if d.videoMode = 1 then 1500 else 0) + (if d.hasVideo then 1200 else 300)),
    perTick 2 ((if buffered then 2 * bi + 128 * ni else 0) + (if rtx then ceilDiv (bo * 5) 4 + 16 * ceilDiv bo 256 else 0)),
    perTick 3 egress, perTick 4 bi, perTick 11 ni, perTick 12 no,
    perTick 9 (if d.legacy then bi else 0), perTick 10 (if d.legacy then bo else 0),
    perTick 13 (ceilDiv bi 16 + 4 * ni), perTick 14 (ceilDiv bo 16 + 4 * no),
    perTick 15 (if s.twn.paired then bi + 24 * ni else 0),
    perTick (16 + d.portPair + (if d.homeB then 8 else 0)) egress]

/-! ### Audio (R187, R193) -/

/-- Cycles and DRAM bytes per tick of a decode, at a configuration's channels and frame size (R193). -/
def decodeCost (x : StreamEntry) (c : AudioCfg) : Nat × Nat :=
  let resample := if x.codec = 1 || (x.codec = 5 && x.clockRate = 48000) then 0 else 1500 * c.channels
  let base := if x.codec = 1 then (if c.channels = 1 then 9000 else 14000)
    else (if x.codec = 4 then 4000 else if x.codec = 5 then 200 else 500) * c.channels
  (base + resample, if x.codec = 1 then ceilDiv 8192 (Nat.max 1 c.frameTicks) else if x.codec = 4 then ceilDiv 1024 (Nat.max 1 c.frameTicks) else 0)

/-- Cycles and DRAM bytes per frame of an encode (R193). -/
def audioEncodeCost (c : AudioCfg) : Nat × Nat :=
  let resample := if c.rate = 4 then 0 else 1500 * c.channels
  let base := if c.codec = 1 then (if c.channels = 1 then 30000 else 46000)
    else (if c.codec = 4 then 5500 else if c.codec = 5 then 200 else 700) * c.channels
  (c.frameTicks * (base + resample), if c.codec = 1 then 32768 else if c.codec = 4 then 1024 else 0)

/-- The legs of a fold that can be candidates (R187), with their inbound audio entry and configuration. -/
def State.possible (s : State) (f : Nat) : List (Nat × StreamEntry × AudioCfg) :=
  (s.foldLegs f).filterMap (fun l =>
    let d := (s.leg l).desc
    if d.hasAudio then (s.audioIn l).map (fun e => (l, (s.stream e).desc, (s.fold f).audio.config d.audioConfig)) else none)

/-- What a fold's audio charges. Decode slots of legs with video: those of measured Opus legs are their own, the others share
K + M. [DESIGN CHOICE, notes/assumptions 22] -/
def State.audioCharges (s : State) (f : Nat) : List Charge :=
  let r := s.fold f
  let a := r.audio
  let K := r.desc.k
  let cs := s.possible f
  let n := cs.length
  let own (c : Nat × StreamEntry × AudioCfg) : Bool := c.2.1.codec = 1 && c.2.1.extLevel = 0
  let vid (c : Nat × StreamEntry × AudioCfg) : Bool := (s.leg c.1).desc.hasVideo
  let U := (cs.filter own).length
  let D := Nat.min (K + a.margin + U) n
  let costs := cs.map (fun c => decodeCost c.2.1 c.2.2)
  let measured := (cs.filter (fun c => c.2.1.codec != 1 && c.2.1.extLevel = 0)).length
  let slots := Nat.min (K + a.margin) (cs.filter (fun c => vid c && !own c)).length + (cs.filter (fun c => vid c && own c)).length
  let line := if a.lipsync && s.foldComposes f then 640 * a.mixChannels * slots else 0
  let users (i : Nat) : Nat := ((s.foldLegs f).filter (fun l => let d := (s.leg l).desc; d.hasAudio && d.audioConfig = i)).length
  let used := (upTo a.configs.length).filter (fun i => users i != 0)
  let best := used.foldl (fun (b : Option Nat) i => match b with
    | none => some i
    | some j => if (audioEncodeCost (a.config j)).1 < (audioEncodeCost (a.config i)).1 then some i else b) none
  let personal (i : Nat) : Nat := if best = some i then Nat.min K n else 0
  [perTick 0 (D * maxN (costs.map (·.1)) + 300 * measured + 2000 + 40 * n), perTick 2 (D * maxN (costs.map (·.2)) + line),
    perTick 5 D, perTick 6 (used.length + Nat.min K n)]
    ++ used.flatMap (fun i =>
      let c := a.config i
      let e := audioEncodeCost c
      let j := some (JobKey.audio f i)
      let P := Nat.max 1 c.frameTicks
      [{ key := 0, job := j, period := P, stage := 0, cost := e.1 * (1 + personal i) },
        { key := 2, job := j, period := P, stage := 0, cost := e.2 * (1 + personal i) },
        { key := 0, job := j, period := P, stage := 1, cost := 1200 * users i }])

/-! ### Decoding (R229 to R232, R721) -/

/-- κ of R229 as a fraction: HEVC and VP9 take 1.32 at 8 bits. -/
def kappaOf (codec : Nat) (ten : Bool) : Nat × Nat :=
  if codec < 0x20 || codec = 0x30 then (120, 100) else if codec = 0x50 then (if ten then (1875, 1000) else (150, 100))
  else if ten then (165, 100) else (132, 100)

/-- The size of the layer `k` below one of `w` by `h` (R231). -/
def layerSize (w h : Nat) : Nat → Nat × Nat
  | 0 => (w, h)
  | k + 1 => let (a, b) := layerSize w h k; (2 * ceilDiv a 4, 2 * ceilDiv b 4)

/-- Back-end cycles of one picture of a layer of `n` samples (R211, R229, R231). -/
def layerCycles (codec : Nat) (ten : Bool) (n : Nat) : Nat :=
  let (a, b) := kappaOf codec ten
  let parts := Nat.max 1 (ceilDiv n 9437184)
  let bands := ceilDiv (ceilDiv (n * a) (parts * b)) 1800000
  ceilDiv (n * a) b + 30000 * parts * bands + 20000

/-- Cycles and DRAM bytes of one picture of every spatial layer up to target (R229, R230, R231). -/
def pictureCost (x : StreamEntry) (r : SourceRec) : Nat × Nat :=
  let ten := r.tenBit || x.codec = 0x42
  let sizes := (upTo (r.targetSpatial + 1)).map (layerSize r.maxWidth r.maxHeight)
  (sumN (sizes.map (fun (w, h) => layerCycles x.codec ten (w * h))), sumN (sizes.map (fun (w, h) => 3 * tilesOf w h * tileBytes ten)))

/-- The source streams of a fold's legs (R83). -/
def State.sources (s : State) (f : Nat) : List StreamRt :=
  ((s.foldLegs f).filterMap s.sourceEntry).map s.stream

/-- The prickings that a fold's composed line classes or laced legs show, each once (R721). -/
def State.shownPrickings (s : State) (f : Nat) : List Nat :=
  dedup ((s.foldLcs f).map (fun c => (s.lc c).desc.pricking) ++ s.lacedPrickings f)

/-- The count of decodes that a fold is charged (R721). -/
def State.occupantCount (s : State) (f : Nat) : Nat :=
  let cells := sumN ((s.shownPrickings f).map (fun id => match s.pricking id with
    | some p => (p.cells.filter (fun c => c.role != 0)).length
    | none => 0))
  Nat.min (cells + b2n (s.lacedLegs f != [])) (s.sources f).length

/-- What a fold's occupants charge in every tick (R231, R721). -/
def State.decodeCharges (s : State) (f : Nat) : List Charge :=
  let n := s.occupantCount f
  let costs := (s.sources f).map (fun r =>
    let c := pictureCost r.desc r.src
    let P := periodOf r.src.maxRate
    (ceilDiv c.1 P, ceilDiv c.2 P))
  [perTick 1 (n * maxN (costs.map (·.1))), perTick 2 (n * maxN (costs.map (·.2)))]

/-- The decode reserve (R232): the largest picture of the streams that some fold is charged for. -/
def State.decodeReserve (s : State) (fs : List Nat) : List Charge :=
  let costs := (fs.filter (fun f => s.occupantCount f != 0)).flatMap (fun f => (s.sources f).map (fun r => pictureCost r.desc r.src))
  [perTick 1 (maxN (costs.map (·.1))), perTick 2 (maxN (costs.map (·.2)))]

/-! ### Composition, encoding and lacing (R277, R295, R354) -/

/-- What composing `n` pictures of an output charges (R273, R277). -/
def State.composeCharges (s : State) (f : Nat) (g : OutGeo) (ten : Bool) (job : JobKey) (cad n : Nat) : List Charge :=
  let P := periodOf cad
  let mk (k c : Nat) : Charge := { key := k, job := some job, frac := fractional cad, period := P, stage := 1, cost := c }
  let bands := s.bandPixels f g
  [mk 0 (n * g.cores), mk 2 (n * s.composeDram f g ten),
    { mk 8 (n * sumN bands) with bands := (List.replicate n bands).flatten }]

/-- What one rung of a picture charges at the encoders, `n` times (R295). -/
def encodeCharges (job : JobKey) (cad : Nat) (top ten : Bool) (w h kbps n : Nat) : List Charge :=
  let P := periodOf cad
  let c := rungCycles top ten (w * h)
  let mk (k x : Nat) : Charge := { key := k, job := some job, frac := fractional cad, period := P, stage := 2, cost := n * x }
  [mk 1 c, mk 2 (rungDram top ten w h kbps P), mk 0 (8000 + 1000 * encBands c)]

/-- The job of a line class's ladder. -/
def State.ladderJob (s : State) (c : Nat) : JobKey := .ladder (s.lc c).desc.fold (s.lc c).ladder

/-- What a line class charges (R277, R295). -/
def State.lcCharges (s : State) (c : Nat) : List Charge :=
  let x := s.lc c
  let d := x.desc
  let j := s.ladderJob c
  s.composeCharges d.fold (s.lcGeo c) x.tenBit j d.cadence 1
    ++ encodeCharges j d.cadence (s.topOf (s.ladderOf c) = some c) x.tenBit d.width d.height d.targetRate 1

/-- U of a cell class (R354). -/
def State.classCount (s : State) (f : Nat) (k : ClassKey) : Nat :=
  let vids := ((s.foldLegs f).filter (fun l => (s.leg l).desc.hasVideo)).length
  let cells := s.lacedCells f
  Nat.min (vids + 1) (sumN ((s.lacedPrickings f).map (fun id => (cells.filter (fun c => c.1 = id && c.2.2 = k)).length + 1)))

/-- What a fold's lacing charges (R354). -/
def State.laceCharges (s : State) (f : Nat) : List Charge :=
  match s.gridOf f with
  | none => []
  | some g =>
    let j := JobKey.grid f
    let cad := (s.fold f).desc.cadence
    let P := periodOf cad
    let ten := g.codec = 0x21
    let perLeg (l : Nat) : List Charge :=
      let mk (k c : Nat) : Charge := { key := k, job := some j, frac := fractional cad, period := P, stage := 3, cost := c }
      [mk 7 1, mk 0 (3000 + 40 * (g.cols * g.rows)), mk 2 (2 * ceilDiv ((s.leg l).desc.egressMax * P * 5) 24)]
    (s.cellClasses f).flatMap (fun k =>
        let geo := s.classGeo f k
        let n := s.classCount f k
        s.composeCharges f geo ten j cad n
          ++ (upTo g.rungCount).flatMap (fun r => encodeCharges j cad (r = 0) ten geo.w geo.h (g.rungRate r (geo.w * geo.h)) n))
      ++ (s.lacedLegs f).flatMap perLeg

/-- Everything that a fold charges. -/
def State.foldCharges (s : State) (f : Nat) : List Charge :=
  (s.foldLegs f).flatMap s.legCharges ++ s.audioCharges f ++ s.decodeCharges f ++ (s.foldLcs f).flatMap s.lcCharges ++ s.laceCharges f

/-- The folds that are not IDLE. -/
def State.liveFolds (s : State) : List Nat := (s.folds.filter (fun e => e.2.state != .idle)).map (·.1)

/-- Everything that the folds `fs` charge, the decode reserve included. -/
def State.charges (s : State) (fs : List Nat) : List Charge := fs.flatMap s.foldCharges ++ s.decodeReserve fs

/-! ### Peaks (R38, R39, R273) -/

/-- The phase of a job in the state, unless `at_` gives one. -/
def State.phaseOf (s : State) (at_ : List (JobKey × Nat)) (j : JobKey) : Nat :=
  match at_.find? (fun e => e.1 = j) with
  | some (_, p) => p
  | none =>
    match j with
    | .ladder f n => (((s.foldLcs f).filter (fun c => (s.lc c).ladder = n)).head?).elim 0 (fun c => (s.lc c).phase)
    | .audio f c => tget 0 (s.fold f).audioPhase c
    | .grid f => (s.fold f).gridPhase

/-- A charge with its residue (φ + s) mod P. -/
structure Placed where
  frac : Bool := false
  period : Nat := 1
  res : Nat := 0
  cost : Nat := 0
  bands : List Nat := []
  deriving DecidableEq, Repr

/-- A charge at the phase of its job. -/
def State.place (s : State) (at_ : List (JobKey × Nat)) (c : Charge) : Placed :=
  let φ := match c.job with | some j => s.phaseOf at_ j | none => 0
  { frac := c.frac, period := c.period, res := (φ + c.stage) % Nat.max 1 c.period, cost := c.cost, bands := c.bands }

/-- Does the charge go into the 600-tick vector (R38)? -/
def Placed.inVector (p : Placed) : Bool := !p.frac && 600 % Nat.max 1 p.period = 0

/-- The groups of R39 among the charges: fractional mark and period. -/
def groupsOf (ps : List Placed) : List (Bool × Nat) :=
  (ps.filter (fun p => !p.inVector)).foldl (fun acc p => if acc.contains (p.frac, p.period) then acc else acc ++ [(p.frac, p.period)]) []

/-- The members of a group at residue `u`. -/
def groupAt (ps : List Placed) (g : Bool × Nat) (u : Nat) : List Placed :=
  ps.filter (fun p => !p.inVector && p.frac == g.1 && p.period = g.2 && p.res = u)

/-- The ticks whose loads can differ: one period common to every charge of the vector. -/
def vectorSpan (ps : List Placed) : Nat := (ps.filter Placed.inVector).foldl (fun n p => Nat.lcm n (Nat.max 1 p.period)) 1

/-- The members of the vector due in tick `t`. -/
def vectorAt (ps : List Placed) (t : Nat) : List Placed := ps.filter (fun p => p.inVector && t % Nat.max 1 p.period = p.res)

/-- Sum of the costs. -/
def costOf (ps : List Placed) : Nat := sumN (ps.map (·.cost))

/-- The highest load of any tick: the vector and the group charges (R38, R39, R40). -/
def peakLoad (ps : List Placed) : Nat :=
  maxN ((upTo (vectorSpan ps)).map (fun t => costOf (vectorAt ps t)))
    + sumN ((groupsOf ps).map (fun g => maxN ((upTo g.2).map (fun u => costOf (groupAt ps g u)))))

/-- A number put in a descending list. -/
def insertDesc (x : Nat) : List Nat → List Nat
  | [] => [x]
  | y :: ys => if y < x then x :: y :: ys else y :: insertDesc x ys

/-- `x` added to the least of the loads, the first among equals. -/
def addLeast (x : Nat) (loads : List Nat) : List Nat :=
  match loads.foldl (fun (b : Option Nat) v => match b with | none => some v | some w => if v < w then some v else b) none with
  | none => []
  | some m => let i := (loads.findIdx (· = m)); loads.set i (m + x)

/-- The load of the fullest of `n` compositors when the bands are placed in decreasing order, each on the compositor with
the least load (R273). With no compositor left nothing fits. -/
def packBands (n : Nat) (bands : List Nat) : Nat :=
  if bands = [] then 0 else if n = 0 then 2 ^ 64
  else maxN ((bands.foldl (fun acc b => insertDesc b acc) []).foldl (fun ls b => addLeast b ls) (List.replicate n 0))

/-- The bands that a group adds to every tick: of the residue whose pixels total most, then with the largest single
band, then the lowest (R273). -/
def groupBands (ps : List Placed) (g : Bool × Nat) : List Nat :=
  let at_ (u : Nat) : List Nat := (groupAt ps g u).flatMap (·.bands)
  let best := (upTo g.2).foldl (fun (b : Option Nat) u => match b with
    | none => some u
    | some v =>
      let x := at_ u
      let y := at_ v
      if sumN y < sumN x || (sumN x = sumN y && maxN y < maxN x) then some u else b) none
  best.elim [] at_

/-- The load of the fullest compositor in any tick (R273). -/
def peakPixels (n : Nat) (ps : List Placed) : Nat :=
  let common := (groupsOf ps).flatMap (groupBands ps)
  maxN ((upTo (vectorSpan ps)).map (fun t => packBands n ((vectorAt ps t).flatMap (·.bands) ++ common)))

/-! ### Ceilings (R1, R2, R40, R44, R113, R144, R378, R522, R523, R719) -/

/-- The headroom in force (R56). -/
def State.headroom (s : State) : Nat := s.getF Reg.DEV_ADMIT_CONFIG 5 0

/-- A limit with the headroom taken (R719). -/
def State.less (s : State) (b : Nat) : Nat := (100 - s.headroom) * b / 100

/-- Bytes per tick of port `p`: the rates of its sub-ports that are up (R101, R378). -/
def State.portBytes (s : State) (p : Nat) : Nat := (s.upSubports p).length * (modeSubports (s.portMode p)).2 * 10 ^ 9 / 4800

/-- Bytes per tick that the sub-ports that are up can send (R101). -/
def State.egressCap (s : State) : Nat :=
  Nat.min 166666666 (sumN ((upTo 16).map (fun p => (s.upSubports p).length * (modeSubports (s.portMode p)).2)) * 10 ^ 9 / 4800)

/-- Cipher pipelines of a direction that are not fenced (R144). -/
def State.pipesLeft (s : State) (outbound : Bool) : List Nat :=
  (upTo 8).filter (fun i => !s.pipeFenced (i + if outbound then 8 else 0))

/-- The bundles that are up (R523). -/
def State.bundlesUp (s : State) : Nat := ((upTo 2).filter (fun b => s.getF (Reg.TWN_BUNDLE_STATUS b) 0 0 = 1)).length

/-- Capacity as it remains now (R44). -/
def State.capsNow (s : State) : Caps :=
  let half (outbound : Bool) : Nat := ((s.pipesLeft outbound).filter (· < 4)).length * 5208333
  let hm (outbound : Bool) : Nat := if ((s.pipesLeft outbound).filter (· < 4)).length = 4 then 20833333 else half outbound
  { cores := (s.poolUnits 0x10).length * 2666666, video := (s.poolUnits 0x20).length * 2000000, dram := s.trainedPeak,
    egress := s.egressCap, audio := 8192 - 512 * s.drv.assistOff.length, lace := if (s.poolUnits 0x22).length = 2 then 1638 else (s.poolUnits 0x22).length * 819,
    cmps := (s.poolUnits 0x21).length, hmacIn := hm false, hmacOut := hm true, pipesIn := (s.pipesLeft false).length,
    pipesOut := (s.pipesLeft true).length, mirror := if s.bundlesUp = 1 then 33333333 else 66666667,
    ports := (upTo 16).map s.portBytes }

/-- The four budgets of a device without losses (R1, R57). [DESIGN CHOICE, notes/assumptions 22] -/
def State.budget (s : State) (k : Nat) : Nat :=
  if k = 0 then 256 * 2666666 else if k = 1 then 64 * 2000000
  else if k = 2 then 12 * peakOne (s.spRate 0) else 166666666

/-- The device's own ceiling of a resource; none where no limit applies. -/
def State.ownCeiling (s : State) (k : ResKey) : Option Nat :=
  let c := s.adm.caps
  if k = 0 then some (s.less c.cores)
  else if k = 1 then some (s.less c.video)
  else if k = 2 then some (Nat.min (s.less c.dram) (8 * c.dram / 10))
  else if k = 3 then some (s.less c.egress)
  else if k = 4 then some (s.less 83333333)
  else if k = 5 || k = 6 then some c.audio
  else if k = 7 then some (s.less c.lace)
  else if k = 8 then some (s.less 6666666)
  else if k = 9 then some (s.less c.hmacIn)
  else if k = 10 then some (s.less c.hmacOut)
  else if k = 11 || k = 12 then some (s.less 500000)
  else if k = 13 then (if c.pipesIn < 7 then some (s.less (c.pipesIn * 2000000)) else none)
  else if k = 14 then (if c.pipesOut < 7 then some (s.less (c.pipesOut * 2000000)) else none)
  else if k = 15 then (if s.twn.paired then some (s.less c.mirror) else none)
  else some (s.less (c.ports.getD (k - 16) 0))

/-- A ceiling in basis points of its budget, rounded down (R57, R525). -/
def State.ceilingBp (s : State) (k : Nat) : Nat := Nat.min 65535 (((s.ownCeiling k).getD 0) * 10000 / Nat.max 1 (s.budget k))

/-- The ceiling a resource is admitted against: a paired device takes the lower of both devices' budgets (R522). -/
def State.ceiling (s : State) (k : ResKey) : Option Nat :=
  match s.ownCeiling k with
  | none => none
  | some c =>
    match s.twn.ceilings[k]? with
    | some bp => if s.twn.pair = .paired then some (Nat.min c (bp * s.budget k / 10000)) else some c
    | none => some c

/-- Every resource a charge can be made against. -/
def allKeys : List ResKey := upTo 32

/-- The load of a resource: its peak in any tick, or the fullest compositor. -/
def State.loadOf (s : State) (at_ : List (JobKey × Nat)) (cs : List Charge) (k : ResKey) : Nat :=
  let ps := (cs.filter (fun c => c.key = k)).map (s.place at_)
  if k = 8 then peakPixels s.adm.caps.cmps ps else peakLoad ps

/-- A common multiple of every period up to 40. -/
def commonPeriod : Nat := 5342931457063200

/-- What the charges put on a resource on average, scaled: it tells whether a change adds cost to it (R44). -/
def totalOf (cs : List Charge) (k : ResKey) : Nat :=
  sumN ((cs.filter (fun c => c.key = k)).map (fun c => c.cost * (commonPeriod / Nat.max 1 c.period)))

/-- The folds that this device owns in cross mode (R522). -/
def State.ownFolds (s : State) : List Nat := s.liveFolds.filter (fun f => (s.fold f).ownB == s.twn.roleB)

/-- The admitted load of a resource and its ceiling. -/
def State.loadNow (s : State) (k : ResKey) : Nat := s.loadOf [] (s.charges s.liveFolds) k

/-- Is the load of resource `k` above its ceiling (R44)? -/
def State.over (s : State) (k : ResKey) : Bool :=
  match s.ceiling k with
  | none => false
  | some c => decide (c < s.loadNow k)

/-- DEV_ADMIT_OVERCOMMIT (R59). -/
def State.overcommit (s : State) : Nat :=
  sumN ((upTo 10).map (fun n => if allKeys.any (fun k => resCode k = n && s.over k) then 2 ^ n else 0))

/-- The capacity left is taken into the ceilings at a boundary (R44, R101, R682). [DESIGN CHOICE, notes/assumptions 12] -/
def State.recount (s : State) : State :=
  { s with adm := { s.adm with caps := s.capsNow, recount := false } }

end Sys2Proof.Machine
end

