-- ==== Sys2Proof/Machine/AdmOps.lean ====
section
/-!
DEFINITION. Admission (R28 to R49): validity of descriptors, placing of phases, the reduction steps, staging, and the
replies that admission owes.
-/

namespace Sys2Proof.Machine

/-! ### Validity of what a message carries (R30, R35, R37, R73, R83, R157, R160, R161, R205, R208) -/

/-- Video codec codes of stream entries (R205). -/
def videoCodecs : List Nat := [0x10, 0x11, 0x12, 0x20, 0x21, 0x30, 0x40, 0x42, 0x50]

/-- Validity of a stream entry (R30, R72, R83, R157, R205). -/
def StreamEntry.ok (x : StreamEntry) : Bool :=
  !x.reserved && decide (x.ssrc < 2 ^ 32 ∧ x.kind ≤ 3 ∧ x.pt ≤ 127 ∧ ¬ (64 ≤ x.pt ∧ x.pt ≤ 95) ∧ x.layer ≤ 2)
    && x.rtcpMux && x.bundle && (!x.decode || (x.kind = 1 && x.inbound)) && !(x.kind = 3 && x.inbound)
    && decide (x.extLevel ≤ 255 ∧ x.extDd ≤ 255 ∧ x.extTwcc ≤ 255 ∧ x.extAbs ≤ 255 ∧ 1 ≤ x.clockRate ∧ x.historyTicks ≤ 3000)
    && (if x.kind = 0 then
          decide (1 ≤ x.codec ∧ x.codec ≤ 5)
            && (if x.codec = 1 then x.clockRate = 48000
                else if x.codec = 5 then [8000, 16000, 24000, 32000, 48000].contains x.clockRate else x.clockRate = 8000)
        else x.kind != 1 || videoCodecs.contains x.codec)
    && (x.kind = 2 || x.repairOf = 0xFFFF)

/-- Validity of a source record for an entry of codec `codec` (R205, R208). -/
def SourceRec.ok (r : SourceRec) (codec : Nat) : Bool :=
  !r.reserved && decide (16 ≤ r.maxWidth ∧ r.maxWidth ≤ 7680 ∧ 16 ≤ r.maxHeight ∧ r.maxHeight ≤ 4320 ∧ r.maxRate ≤ 0xB)
    && decide (r.targetSpatial ≤ 15 ∧ r.targetTemporal ≤ 15) && (!r.tenBit || [0x21, 0x42, 0x50].contains codec)

/-- Validity of an ICE record (R73). -/
def IceRec.ok (r : IceRec) : Bool :=
  let len (xs : List (BitVec 8)) (a b : Nat) : Bool := decide (a ≤ xs.length ∧ xs.length ≤ b)
  !r.reserved && len r.localUfrag 4 32 && len r.remoteUfrag 4 32 && len r.pwd 22 60

/-- Validity of a leg descriptor's own fields (R28, R30). -/
def LegDesc.ok (d : LegDesc) : Bool :=
  !d.reserved && decide (d.fold ≤ 4095 ∧ d.videoMode ≤ 3 ∧ d.portPair ≤ 7 ∧ d.vid ≤ 4095 ∧ d.pcp ≤ 7)
    && decide (d.localPort ≤ 65535 ∧ d.remotePort ≤ 65535 ∧ 1 ≤ d.streamCount ∧ d.streamCount ≤ 16 ∧ d.streamBase + d.streamCount ≤ 65536)
    && decide (d.jitterAudio ≤ 60 ∧ d.jitterVideo ≤ 60 ∧ d.egressMin ≤ d.egressMax ∧ d.capSpatial ≤ 15 ∧ d.capTemporal ≤ 15)
    && decide (d.policeRate < 2 ^ 32 ∧ d.policeBurst < 2 ^ 32 ∧ d.egressMax < 2 ^ 32)
    && decide (d.rungFloor ≤ 5 ∧ d.rungCap ≤ d.rungFloor)
    && (d.viewerPricking = 0xFFFF || decide (d.viewerPricking ≤ 1023))
    && (if d.videoMode = 3 then decide (d.lineClass ≤ 8191) else d.lineClass = 0xFFFF)

/-- Do two legs use one 5-tuple (R30)? -/
def LegDesc.sameTuple (a b : LegDesc) : Bool :=
  a.localAddr = b.localAddr && a.remoteAddr = b.remoteAddr && a.localPort = b.localPort && a.remotePort = b.remotePort

/-- Is what LEG_ARRIVE or LEG_UPDATE carries for leg `l` a descriptor that the device accepts in state `s` (R30, R83,
R161)? [DESIGN CHOICE, notes/assumptions 23] -/
def State.legValid (s : State) (l : Nat) (d : LegDesc) (streams : List StreamEntry) (src : Option SourceRec)
    (ice : Option IceRec) : Bool :=
  let a := (s.fold d.fold).audio
  let decs := streams.filter (·.decode)
  d.ok && streams.all StreamEntry.ok && decide (streams.length = d.streamCount) && decide (decs.length ≤ 1)
    && (match decs.head?, src with
        | some x, some r => r.ok x.codec
        | none, none => true
        | _, _ => false)
    && (match ice with | some r => r.ok | none => true)
    && (indexed streams).all (fun (i, x) => x.kind != 2 || (decide (d.streamBase ≤ x.repairOf ∧ x.repairOf < d.streamBase + d.streamCount)
          && x.repairOf != d.streamBase + i && (match streams[x.repairOf - d.streamBase]? with | some y => decide (y.kind ≤ 1) | none => false)))
    && (!d.hasAudio || (decide (d.audioConfig < a.configs.length)
          && streams.all (fun x => !(x.kind = 0 && x.outbound) || x.codec = (a.config d.audioConfig).codec)))
    && s.legs.all (fun (k, g) => k = l || g.state = .idle || (!d.sameTuple g.desc
          && (decide (d.streamBase + d.streamCount ≤ g.desc.streamBase) || decide (g.desc.streamBase + g.desc.streamCount ≤ d.streamBase))))
    && (d.videoMode != 3 || ((s.lc d.lineClass).live && (s.lc d.lineClass).desc.fold = d.fold))

/-- Validity of a fold descriptor and its audio record (R35, R159). -/
def State.foldValid (s : State) (d : FoldDesc) (a : AudioRec) : Bool :=
  !d.reserved && a.ok && decide (d.bellwetherK ≤ 8 ∧ d.pricking ≤ 1023 ∧ d.owner ≤ 1 ∧ d.cadence ≤ 0xB)
    && (d.loudness = 0 || decide (-400 ≤ d.loudness ∧ d.loudness ≤ -100))
    && (d.guardSet = 0xFFFF || decide (d.guardSet ≤ 4095)) && (d.slate = 0xFFFF || decide (d.slate ≤ 16383))
    && (d.laceGrid = 0xFFFF || s.boot.image.grids.any (fun g => g.id = d.laceGrid))

/-- Validity of a line class and its encode record (R37, R286, R288, R290). -/
def State.lcValid (s : State) (d : LcDesc) (e : EncRec) : Bool :=
  !d.reserved && e.ok d.codec && encCodecs.contains d.codec && encSizeOk d.codec d.width d.height
    && decide (d.fold ≤ 4095 ∧ d.rung ≤ 5 ∧ d.cadence ≤ 0xB ∧ d.rateMode ≤ 1 ∧ 1 ≤ d.targetRate ∧ d.targetRate ≤ 1000000)
    && (s.pricking d.pricking).isSome

/-! ### The planned state -/

/-- Stream entries of leg `l` as a descriptor names them; an entry that keeps what it was keeps its runtime state (R83).
[DESIGN CHOICE, notes/assumptions 24, 25] -/
def State.setStreams (s : State) (l : Nat) (d : LegDesc) (streams : List StreamEntry) (src : Option SourceRec) : State :=
  let old := s.entries l
  let keep := (upTo streams.length).map (· + d.streamBase)
  let s := s.each (old.filter (fun e => !keep.contains e)) (fun s e => s.onStream e (fun _ => {}))
  s.each (indexed streams) (fun s (i, x) =>
    let e := d.streamBase + i
    let r := if x.decode then src.getD {} else {}
    s.onStream e (fun o =>
      if o.live && o.leg = l && o.desc.ssrc = x.ssrc && o.desc.kind = x.kind && o.desc.inbound == x.inbound && o.desc.outbound == x.outbound && o.desc.codec = x.codec
        then { o with desc := x, src := r } else { desc := x, leg := l, live := true, src := r }))

/-- The active set after one part of a change, as far as charges go: a leg that leaves is charged until it has drained. -/
def State.planOp (s : State) : StageOp → State
  | .legIn l d xs src ice cs | .legSet l d xs src ice cs =>
    (s.onLeg l (fun g => { g with state := .active, desc := d, ice := ice, reduction := cs })).setStreams l d xs src
  | .legOut _ => s
  | .foldIn f d a => s.onFold f (fun r => { r with state := .active, desc := d, audio := a, ownB := decide (d.owner = 1) })
  | .foldOut _ => s
  | .lcIn c d e n φ => (s.onLc c (fun _ => { live := true, desc := d, enc := e, ladder := n, phase := φ })).onFold d.fold (fun r => { r with ladders := Nat.max r.ladders (n + 1) })
  | .lcOut c => s.onLc c (fun _ => {})
  | .layout f p pins => s.onFold f (fun r => { r with desc := { r.desc with pricking := p }, pins := pins })
  | .audioPhase f c φ => s.onFold f (fun r => { r with audioPhase := tset 0 r.audioPhase c φ })
  | .gridPhase f φ => s.onFold f (fun r => { r with gridPhase := φ })

/-- The active set after a list of parts. -/
def State.planOps (s : State) (ops : List StageOp) : State := ops.foldl State.planOp s

/-- The active set after every change that is staged (R46). -/
def State.planned (s : State) : State := s.adm.staged.foldl (fun s p => s.planOps p.ops) s

/-! ### Placing (R40, R41) -/

/-- What a fit is checked over: the folds counted and whether the ceilings are halved (R522). -/
structure View where
  folds : List Nat := []
  halve : Bool := false
  deriving DecidableEq, Repr

/-- The views that a change of fold `f` is checked in: the whole device, and in cross mode the owner's half (R522). -/
def State.views (s : State) (f : Nat) : List View :=
  { folds := s.liveFolds } ::
    (if s.twn.paired && s.twn.cross then [{ folds := s.liveFolds.filter (fun g => (s.fold g).ownB == (s.fold f).ownB), halve := true }] else [])

/-- The ceiling of a resource in a view. -/
def State.viewCeiling (s : State) (v : View) (k : ResKey) : Option Nat :=
  (s.ceiling k).map (fun c => if v.halve then c / 2 else c)

/-- A ratio of load to ceiling as a fraction; a ceiling of 0 makes any load infinite. [DESIGN CHOICE, notes/assumptions 22] -/
def ratioOf (load : Nat) (ceil : Option Nat) : Nat × Nat :=
  match ceil with
  | none => (0, 1)
  | some 0 => if load = 0 then (0, 1) else (1, 0)
  | some c => (load, c)

/-- Is fraction `a` below fraction `b`? -/
def fracLt (a b : Nat × Nat) : Bool := decide (a.1 * b.2 < b.1 * a.2)

/-- The larger of two fractions. -/
def fracMax (a b : Nat × Nat) : Nat × Nat := if fracLt a b then b else a

/-- The resources that do not fit: above their ceilings, unless they already were and the change adds nothing to them
(R40, R44); each with its ratio. [DESIGN CHOICE, notes/assumptions 22] -/
def State.misfits (s : State) (v : View) (at_ : List (JobKey × Nat)) (old new : List Charge) : List (ResKey × Nat × Nat) :=
  allKeys.filterMap (fun k =>
    let load := s.loadOf at_ new k
    let c := s.viewCeiling v k
    match c with
    | none => none
    | some n =>
      if load ≤ n then none
      else if n < s.loadOf [] old k && totalOf new k ≤ totalOf old k then none
      else some (k, ratioOf load c))

/-- The limiting-resource code of the worst of the resources that do not fit (R41, R43). -/
def worstCode (ms : List (ResKey × Nat × Nat)) : Option Nat :=
  (ms.foldl (fun (b : Option (ResKey × Nat × Nat)) m => match b with
    | none => some m
    | some w => if fracLt w.2 m.2 then some m else b) none).map (fun m => resCode m.1)

/-- The jobs of some charges, with their periods. -/
def jobsOf (cs : List Charge) : List (JobKey × Nat) :=
  cs.foldl (fun acc c => match c.job with
    | some j => if acc.any (fun e => e.1 = j) then acc else acc ++ [(j, c.period)]
    | none => acc) []

/-- A job's charges. -/
def chargesOf (cs : List Charge) (j : JobKey) : List Charge := cs.filter (fun c => c.job = some j)

/-- The phase of a new job: the lowest that minimises the highest ratio of load to ceiling over all resources and ticks
(R41). `a` is the state that holds the ceilings; resources that the job does not touch have the same ratio at every phase. -/
def State.bestPhase (a : State) (v : View) (at_ : List (JobKey × Nat)) (fixed : List Charge) (j : JobKey) (P : Nat) (mine : List Charge) : Nat :=
  let mineKeys := dedup (mine.map (·.key))
  let all := fixed ++ mine
  let ratioAt (at_ : List (JobKey × Nat)) (k : ResKey) : Nat × Nat := ratioOf (a.loadOf at_ all k) (a.viewCeiling v k)
  let rest := (allKeys.filter (fun k => !mineKeys.contains k)).foldl (fun m k => fracMax m (ratioAt at_ k)) (0, 1)
  let score (φ : Nat) : Nat × Nat := mineKeys.foldl (fun m k => fracMax m (ratioAt ((j, φ) :: at_) k)) rest
  ((upTo P).foldl (fun (b : Option (Nat × Nat × Nat)) φ =>
    let r := score φ
    match b with
    | none => some (φ, r)
    | some (_, w) => if fracLt r w then some (φ, r) else b) none).elim 0 (·.1)

/-- Jobs by their largest single cost, the largest first (R41). [DESIGN CHOICE, notes/assumptions 22] -/
def insertJob (cs : List Charge) (x : JobKey × Nat) : List (JobKey × Nat) → List (JobKey × Nat)
  | [] => [x]
  | y :: ys => if maxN ((chargesOf cs y.1).map (·.cost)) < maxN ((chargesOf cs x.1).map (·.cost)) then x :: y :: ys else y :: insertJob cs x ys

/-- Places the new jobs of state `a` over state `b` (R41): their phases, or the limiting resource. Jobs already admitted
keep their phases. [DESIGN CHOICE, notes/assumptions 22] -/
def placeJobs (b a : State) (f : Nat) : Except Nat (List (JobKey × Nat)) :=
  let run (v : View) (given : List (JobKey × Nat)) : Except Nat (List (JobKey × Nat)) :=
    let old := b.charges (v.folds.filter (fun g => (b.fold g).state != .idle))
    let new := a.charges v.folds
    let was := jobsOf old
    let fresh := (jobsOf new).filter (fun j => !was.contains j)
    let order := fresh.foldl (fun acc j => insertJob new j acc) []
    let fixed := new.filter (fun c => match c.job with | some j => !fresh.any (fun e => e.1 = j) | none => true)
    let step (acc : Except Nat (List (JobKey × Nat) × List Charge)) (j : JobKey × Nat) : Except Nat (List (JobKey × Nat) × List Charge) :=
      match acc with
      | .error e => .error e
      | .ok (at_, cs) =>
        let mine := chargesOf new j.1
        let at_ := if given.any (fun e => e.1 = j.1) then at_ else at_ ++ [(j.1, a.bestPhase v at_ cs j.1 j.2 mine)]
        let cs := cs ++ mine
        match worstCode (a.misfits v at_ old cs) with
        | some c => .error c
        | none => .ok (at_, cs)
    match worstCode (a.misfits v given old fixed) with
    | some c => .error c
    | none => (order.foldl step (.ok (given, fixed))).map (·.1)
  (a.views f).foldl (fun acc v => match acc with
    | .error e => .error e
    | .ok at_ => run v at_) (.ok [])

/-! ### Ladders and reductions (R42, R292, R294) -/

/-- May line class `c` with descriptor `d` and record `e` be a member of the ladder `ms` (R292)? -/
def State.ladderTakes (s : State) (ms : List Nat) (d : LcDesc) (e : EncRec) : Bool :=
  let all := ms.map (fun k => ((s.lc k).desc, (s.lc k).enc)) ++ [(d, e)]
  let top := all.foldl (fun (b : LcDesc) x => if b.width * b.height < x.1.width * x.1.height then x.1 else b) d
  decide (ms.length < 6)
    && all.all (fun x => x.1.pricking = d.pricking && x.1.codec = d.codec && x.1.cadence = d.cadence && x.2.nonLive == e.nonLive)
    && all.all (fun x => decide (x.1.width ≤ top.width ∧ x.1.height ≤ top.height ∧ top.width ≤ 8 * x.1.width ∧ top.height ≤ 8 * x.1.height))
    && !ms.any (fun k => (s.lc k).desc.rung = d.rung)
    && all.all (fun x => all.all (fun y => !(decide (x.1.rung < y.1.rung) && decide (x.1.width * x.1.height < y.1.width * y.1.height))))

/-- The ladders of a fold by number, in the order in which they were formed. -/
def State.ladderNumbers (s : State) (f : Nat) : List Nat := ((s.foldLcs f).map (fun c => (s.lc c).ladder)).foldl (fun acc n => insertAsc n acc) []

/-- The ways in which a change can be taken: a line class joins a ladder at its phase, or forms its own (R292, R294). -/
def State.variants (s : State) : StageOp → List StageOp
  | .lcIn c d e _ _ =>
    let joins := (s.ladderNumbers d.fold).filter (fun n => s.ladderTakes ((s.foldLcs d.fold).filter (fun k => (s.lc k).ladder = n)) d e)
    joins.map (fun n => .lcIn c d e n (s.phaseOf [] (.ladder d.fold n))) ++ [.lcIn c d e (s.fold d.fold).ladders 0]
  | op => [op]

/-- The numerators of the scales of rungs 0 to 5, in twelfths (R42). -/
def rungTwelfths : List Nat := [12, 8, 6, 4, 3, 2]

/-- A line class created as `o`, with its rung lowered `k` times (R42); none when the step no longer applies. -/
def LcDesc.rungDown (o d : LcDesc) (k : Nat) : Option LcDesc :=
  let r := o.rung + k
  let a := rungTwelfths.getD r 0
  let b := rungTwelfths.getD o.rung 12
  let w := 2 * (o.width * a / (2 * b))
  let h := 2 * (o.height * a / (2 * b))
  if 5 < r || w < 64 || h < 64 then none
  else some { d with rung := r, width := w, height := h, targetRate := ceilDiv (o.targetRate * w * h) (o.width * o.height) }

/-- The cadence code of twice the period, if R36 has one. -/
def halfRate : Nat → Option Nat
  | 0 => some 2 | 1 => some 3 | 2 => some 4 | 3 => some 5 | 4 => some 7 | 8 => some 9 | 9 => some 0xA | _ => none

/-- A leg descriptor without video (R42, step 4). [DESIGN CHOICE, notes/assumptions 25] -/
def LegDesc.audioOnly (d : LegDesc) : LegDesc := { d with videoMode := 0, lineClass := 0xFFFF }

/-- Reduction step `step` applied to the change once more; `counts` are the applications so far and `o` the change as it
came (R42). -/
def reduceOp (o : StageOp) (counts : List Nat) (step : Nat) : StageOp → Option StageOp
  | .legIn l d xs src ice cs =>
    if step = 1 && d.videoMode = 1 && d.capSpatial != 0 then some (.legIn l { d with capSpatial := d.capSpatial - 1 } xs src ice cs)
    else if step = 4 && d.videoMode != 0 then some (.legIn l d.audioOnly xs src ice cs) else none
  | .legSet l d xs src ice cs =>
    if step = 1 && d.videoMode = 1 && d.capSpatial != 0 then some (.legSet l { d with capSpatial := d.capSpatial - 1 } xs src ice cs)
    else if step = 4 && d.videoMode != 0 then some (.legSet l d.audioOnly xs src ice cs) else none
  | .lcIn c d e n φ =>
    let orig := match o with | .lcIn _ x _ _ _ => x | _ => d
    if step = 2 then (orig.rungDown d (counts.getD 1 0 + 1)).map (fun x => .lcIn c x e n φ)
    else if step = 3 && counts.getD 2 0 = 0 then (halfRate d.cadence).map (fun cad => .lcIn c { d with cadence := cad } e n φ) else none
  | _ => none

/-- Is every pricking that a laced leg of fold `f` shows one that can be laced on the fold's grid (R324)? -/
def State.laceOk (s : State) (f : Nat) : Bool :=
  s.lacedLegs f = [] || (match s.gridOf f with
    | none => false
    | some g => (s.lacedPrickings f).all (fun id => match s.pricking id with | some p => s.laceable f p g | none => false))

/-- What a change must meet beside the charges, in the state it leaves: R249 and R324, and the limit of 64 line classes
(R37). [DESIGN CHOICE, notes/assumptions 23] -/
def State.planOk (a : State) : StageOp → Bool
  | .legIn _ d .. | .legSet _ d .. => a.laceOk d.fold
  | .foldIn f .. | .layout f .. => a.laceOk f && (a.foldOutputs f).all (a.guardsFit f)
  | .lcIn c d .. => a.guardsFit d.fold (a.lcGeo c) && decide ((a.foldLcs d.fold).length ≤ 64)
  | _ => true

/-- The phases of placed jobs as parts of the change; a line class takes its ladder's. -/
def withPhases (op : StageOp) (at_ : List (JobKey × Nat)) : List StageOp :=
  let op := match op with
    | .lcIn c d e n φ => (match at_.find? (fun x => x.1 = .ladder d.fold n) with | some (_, p) => .lcIn c d e n p | none => .lcIn c d e n φ)
    | x => x
  op :: at_.filterMap (fun (j, φ) => match j with
    | .audio f c => some (.audioPhase f c φ)
    | .grid f => some (.gridPhase f φ)
    | .ladder .. => none)

/-- One attempt to place a change over the planned state `b` (R41): its parts with their phases, or the limiting
resource. -/
def tryChange (b : State) (f : Nat) (op : StageOp) : Except Nat (List StageOp) :=
  (b.variants op).foldl (fun acc v => match acc with
    | .ok r => .ok r
    | .error _ =>
      let a := b.planOp v
      if !a.planOk v then .error 0xF
      else match placeJobs b a f with
        | .error c => .error c
        | .ok at_ => .ok (withPhases v at_)) (.error 0xF)

/-- The reductions of one step, each tried in turn while the step applies (R41, R42). The fuel is above the number of
times any step can apply. -/
def reduceStep (b : State) (f : Nat) (o : StageOp) (step : Nat) : Nat → StageOp → List Nat → Nat → StageOp × List Nat × Nat × Option (List StageOp)
  | 0, op, cs, lim => (op, cs, lim, none)
  | fuel + 1, op, cs, lim =>
    match reduceOp o cs step op with
    | none => (op, cs, lim, none)
    | some op =>
      let cs := cs.set (step - 1) (cs.getD (step - 1) 0 + 1)
      match tryChange b f op with
      | .ok r => (op, cs, lim, some r)
      | .error c => reduceStep b f o step fuel op cs c

/-- Does the descriptor of the change forbid reductions (R28)? -/
def StageOp.noDegrade : StageOp → Bool
  | .legIn _ d .. | .legSet _ d .. => d.noDegrade
  | _ => false

/-- The decision on a change (R41): its parts with phases, its reduction counts and the resource that limited it last; or
that resource and the counts. -/
def decideChange (b : State) (f : Nat) (op : StageOp) : Except (Nat × List Nat) (List StageOp × List Nat × Nat) :=
  match tryChange b f op with
  | .ok r => .ok (r, [0, 0, 0, 0], 0)
  | .error c =>
    if op.noDegrade then .error (c, [0, 0, 0, 0])
    else
      let go (acc : StageOp × List Nat × Nat × Option (List StageOp)) (step : Nat) : StageOp × List Nat × Nat × Option (List StageOp) :=
        match acc with
        | (x, cs, lim, none) => reduceStep b f op step 16 x cs lim
        | done => done
      match [1, 2, 3, 4].foldl go (op, [0, 0, 0, 0], c, none) with
      | (_, cs, lim, some r) => .ok (r, cs, lim)
      | (_, cs, lim, none) => .error (lim, cs)

/-! ### Replies (R28, R35, R37, R648) -/

/-- A leg's descriptor with its reply fields (R28). [DESIGN CHOICE, notes/assumptions 58] -/
def State.legInfo (s : State) (l : Nat) : LegInfo :=
  let g := s.leg l
  { state := g.state.code, desc := g.desc, activeTick := g.activeTick, reduction := g.reduction, fenceCause := g.fenceCause }

/-- What R648 appends for a change: a leg's descriptor or a line class's. -/
def State.admitPay (s : State) (r : AdmitResult) : StageOp → RPay
  | .legIn l .. | .legSet l .. => .admitLeg r (s.legInfo l)
  | .lcIn _ d _ _ φ => .admitLc r d φ
  | _ => .admitted r

/-- The change of a staged phase, by its first part. -/
def StagedPhase.head (p : StagedPhase) : StageOp := p.ops.head?.getD (.foldOut p.fold)

/-- The leg descriptor as a switch will leave it: a reply names the descriptor as admitted (R28, R648). -/
def State.phasePay (s : State) (p : StagedPhase) (r : AdmitResult) : RPay :=
  match p.head with
  | .legIn l d _ _ _ cs => .admitLeg r { s.legInfo l with desc := d, reduction := cs }
  | .legSet l d _ _ _ cs => .admitLeg r { s.legInfo l with desc := d, reduction := cs }
  | op => s.admitPay r op

/-- The switch tick of a staged phase is fixed: the reply goes out (R47, R648). [DEDUCED, notes/assumptions 21] -/
def State.phaseReply (s : State) (p : StagedPhase) : State :=
  match p.reply with
  | none => s
  | some rto =>
    let told (x : StagedPhase) : StagedPhase := if x.id = p.id then { x with reply := none } else x
    let s := { s with adm := { s.adm with staged := s.adm.staged.map told } }
    let st := if p.deferred then stDeferred else stOK
    match p.result with
    | some r => s.reply rto st (s.phasePay p { r with effective := p.at_ })
    | none => if p.deferred then s.reply rto st (.tick p.at_) else s.reply rto stOK

/-- A phase put in the shadow set in this tick (R45 to R47): it switches at the first boundary that is at least 2 ticks
after the arrival and that follows a boundary at which it is staged. While the pair mirrors, its switch tick is fixed once
the partner has acknowledged it (R533). [DEDUCED, notes/assumptions 21] -/
def State.stage (s : State) (fold arrival : Nat) (ops : List StageOp) (rto : Option ReplyTo) (r : Option AdmitResult) : State :=
  let T := Nat.max (arrival + 2) (s.now + 2)
  let id := s.adm.nextId
  let p : StagedPhase := { id := id, fold := fold, at_ := T, staged := true, mirrored := !(s.mirroring && s.authority fold), ops := ops, reply := rto, result := r, arrival := arrival }
  let typ := rto.elim 0 (·.typ)
  let s := { s with adm := { s.adm with nextId := id + 1, staged := s.adm.staged ++ [p] } }
  if p.mirrored then s.phaseReply p else s.sendEvent typ T (some id) none

/-- The partner has acknowledged the staged phase `id`: it counts as mirrored, and moves when a boundary has passed (R47). -/
def State.phaseMirrored (s : State) (id : Nat) : State :=
  match s.adm.staged.find? (fun p => p.id = id && !p.mirrored) with
  | none => s
  | some p =>
    let T := Nat.max p.at_ (s.now + 2)
    let late := decide (p.at_ < T)
    let q : StagedPhase := { p with mirrored := true, at_ := T, deferred := p.deferred || late }
    let s := if late && !p.deferred then s.incR Reg.DEV_EPOCH_DEFERRED else s
    ({ s with adm := { s.adm with staged := s.adm.staged.map (fun (x : StagedPhase) => if x.id = id then q else x) } }).phaseReply q

/-- A REFUSE of a change that owes an admission result (R30, R43, R58, R648). -/
def State.refuse (s : State) (rto : Option ReplyTo) (op : StageOp) (code : Nat) (counts : List Nat) : State :=
  let s := s.incR Reg.DEV_ADMIT_REFUSED
  match rto with
  | none => s
  | some rto =>
    let pay := match op with
      | .legIn l .. | .legSet l .. => RPay.admitLeg { outcome := 2, limiting := code, effective := 0, counts := counts } (s.legInfo l)
      | _ => .admitted { outcome := 2, limiting := code, effective := 0, counts := counts }
    s.reply rto stOK pay

end Sys2Proof.Machine
end

