-- ==== Sys2Proof/Machine/Adm.lean ====
section
/-!
DEFINITION. Session requests on legs, folds and line classes, the admission decision, epoch switches and drains
(01, R28 to R59).
-/

namespace Sys2Proof.Machine

/-! ### Taking a change (R31, R49) -/

/-- A change of a running fold taken in its order of arrival: up to 256 of one tick are staged together, then up to 64
wait in the fold's queue; beyond that the request is BUSY (R49). `k` takes it, told whether it waits.
[DESIGN CHOICE, notes/assumptions 58] -/
def State.takeChange (s : State) (f : Nat) (rto : ReplyTo) (k : State → Bool → State) : State :=
  let r := s.fold f
  let n := if r.stagedTick = s.now then r.stagedNow else 0
  let waiting := (s.adm.pend.filter (fun p => p.fold = f && p.queued)).length
  if n < 256 && waiting = 0 then k (s.onFold f (fun r => { r with stagedNow := n + 1, stagedTick := s.now })) false
  else if waiting < 64 then k s true
  else s.reply rto stBusy

/-- An admission begun: it waits for the accountant's decision (R32). -/
def State.beginAdmission (s : State) (f arrival : Nat) (op : StageOp) (rto : ReplyTo) (queued : Bool) : State :=
  let id := s.adm.nextId
  let p : PendAdmit := { id := id, arrival := arrival, fold := f, change := op, reply := some rto, queued := queued }
  { s with adm := { s.adm with nextId := id + 1, pend := s.adm.pend ++ [p] } }

/-- A change that needs no admission: it is staged at once, or waits its turn in the queue (R45, R49). -/
def State.stageOrQueue (s : State) (f arrival : Nat) (op : StageOp) (rto : ReplyTo) (queued : Bool) : State :=
  if queued then s.beginAdmission f arrival op rto true else s.stage f arrival [op] (some rto) none

/-- Is a leave of leg `l` staged already? -/
def State.leaving (s : State) (l : Nat) : Bool :=
  s.adm.staged.any (fun p => p.ops.any (fun o => decide (o = .legOut l))) || s.adm.pend.any (fun p => decide (p.change = .legOut l))

/-- LEG_ARRIVE: an IDLE leg becomes ADMITTING and its admission starts; a descriptor that R30 refuses leaves it IDLE
(R28 to R32). -/
def execLegArrive (m : Msg) (d : LegDesc) (streams : List StreamEntry) (src : Option SourceRec) (ice : Option IceRec) (s : State) : Host.Outcome State Fault Refusal :=
  finish s (s.request m 0x0101 .both (fun s t rto =>
    let l := m.target
    let op := StageOp.legIn l d streams src ice [0, 0, 0, 0]
    if 16383 < l then s.reply rto stMalformed
    else if s.boot.maint || (s.leg l).state != .idle then s.reply rto stInvalid
    else if !s.authority d.fold then s.reply rto stNotAuthority
    else if (s.fold d.fold).state != .active || !s.legValid l d streams src ice then s.refuse (some rto) op 0xF [0, 0, 0, 0]
    else
      let start (g : LegRt) : LegRt :=
        { g with state := .admitting, desc := d, ice := ice, police := 24 * d.policeBurst, srtcpTok := 6000, stunTok := 3000, dtlsTok := 120000, sideB := d.homeB, caption := 0xFFFF }
      s.takeChange d.fold rto (fun s q => (((s.onLeg l start).legStateNote l).beginAdmission d.fold t op rto q))))

/-- LEG_UPDATE: a change of an ACTIVE leg's descriptor, entries and records is admitted (R31, R45). -/
def execLegUpdate (m : Msg) (d : LegDesc) (streams : List StreamEntry) (src : Option SourceRec) (ice : Option IceRec) (s : State) : Host.Outcome State Fault Refusal :=
  finish s (s.request m 0x0102 .both (fun s t rto =>
    let l := m.target
    let g := s.leg l
    let op := StageOp.legSet l d streams src ice [0, 0, 0, 0]
    if 16383 < l then s.reply rto stMalformed
    else if g.state != .active || s.leaving l then s.reply rto stInvalid
    else if !s.authority g.desc.fold then s.reply rto stNotAuthority
    else if d.fold != g.desc.fold || !s.legValid l d streams src ice then s.refuse (some rto) op 0xF [0, 0, 0, 0]
    else s.takeChange d.fold rto (fun s q => s.beginAdmission d.fold t op rto q)))

/-- LEG_LEAVE: an ACTIVE leg's leave is staged; the leave of an ADMITTING leg aborts its admission, or follows it when the
result is committed (R31, R33, R34). -/
def execLegLeave (m : Msg) (s : State) : Host.Outcome State Fault Refusal :=
  finish s (s.request m 0x0103 .both (fun s t rto =>
    let l := m.target
    let g := s.leg l
    if 16383 < l then s.reply rto stMalformed
    else if (g.state != .active && g.state != .admitting) || s.leaving l then s.reply rto stInvalid
    else if !s.authority g.desc.fold then s.reply rto stNotAuthority
    else if g.state = .active then s.takeChange g.desc.fold rto (fun s q => s.stageOrQueue g.desc.fold t (.legOut l) rto q)
    else match s.adm.pend.find? (fun p => match p.change with | .legIn k .. => k = l | _ => false) with
      | some p =>
        let s := { s with adm := { s.adm with pend := s.adm.pend.filter (fun x => x.id != p.id) } }
        let s := match p.reply with | some r => s.reply r stAborted | none => s
        ((s.onLeg l (fun _ => {})).legStateNote l).reply rto stOK
      | none =>
        let T := maxN ((s.adm.staged.filter (fun p => match p.head with | .legIn k .. => k = l | _ => false)).map (·.at_))
        (s.stage g.desc.fold (T - 1) [.legOut l] none none).reply rto stAlready))

/-- LEG_RELEASE: a FENCED leg becomes IDLE; its cost is released and its key slots are zeroised (R31, R139).
[DESIGN CHOICE, notes/assumptions 25] -/
def State.releaseLeg (s : State) (l : Nat) : State :=
  let s := s.each (s.entries l) (fun s e => s.onStream e (fun _ => {}))
  let s := s.eraseLegSlots l
  (s.onLeg l (fun _ => {})).legStateNote l

/-- LEG_RELEASE (R31). -/
def execLegRelease (m : Msg) (s : State) : Host.Outcome State Fault Refusal :=
  finish s (s.request m 0x0104 .both (fun s _ rto =>
    let l := m.target
    if 16383 < l then s.reply rto stMalformed
    else if (s.leg l).state != .fenced then s.reply rto stInvalid
    else if !s.authority (s.leg l).desc.fold then s.reply rto stNotAuthority
    else (s.releaseLeg l).reply rto stOK))

/-- FOLD_SETUP: a fold descriptor and its audio record are admitted and staged (R35, R45, R159). -/
def execFoldSetup (m : Msg) (d : FoldDesc) (a : AudioRec) (s : State) : Host.Outcome State Fault Refusal :=
  finish s (s.request m 0x0105 .both (fun s t rto =>
    let f := m.target
    let op := StageOp.foldIn f d a
    let mine := if s.twn.paired && s.twn.cross && (s.fold f).state = .idle then decide (d.owner = 1) == s.twn.roleB else s.authority f
    if 4095 < f then s.reply rto stMalformed
    else if (s.fold f).state = .retiring then s.reply rto stInvalid
    else if !mine then s.reply rto stNotAuthority
    else if !s.foldValid d a then s.refuse (some rto) op 0xF [0, 0, 0, 0]
    else s.takeChange f rto (fun s q => s.beginAdmission f t op rto q)))

/-- FOLD_RETIRE: the fold's legs are staged to leave and the fold retires (R31). -/
def execFoldRetire (m : Msg) (s : State) : Host.Outcome State Fault Refusal :=
  finish s (s.request m 0x0106 .both (fun s t rto =>
    let f := m.target
    if 4095 < f then s.reply rto stMalformed
    else if (s.fold f).state != .active || (s.fold f).retireTold then s.reply rto stInvalid
    else if !s.authority f then s.reply rto stNotAuthority
    else s.takeChange f rto (fun s q => (s.onFold f (fun r => { r with retireTold := true })).stageOrQueue f t (.foldOut f) rto q)))

/-- LINE_CLASS_CREATE: a line class and its encode record are admitted into a ladder (R37, R41, R292). -/
def execLineClassCreate (m : Msg) (d : LcDesc) (e : EncRec) (s : State) : Host.Outcome State Fault Refusal :=
  finish s (s.request m 0x0107 .both (fun s t rto =>
    let c := m.target
    let op := StageOp.lcIn c d e 0 0
    let asked := s.adm.pend.any (fun p => match p.change with | .lcIn k .. => k = c | _ => false)
      || s.adm.staged.any (fun p => match p.head with | .lcIn k .. => k = c | _ => false)
    if 8191 < c then s.reply rto stMalformed
    else if (s.lc c).live || asked then s.reply rto stInvalid
    else if !s.authority d.fold then s.reply rto stNotAuthority
    else if (s.fold d.fold).state != .active || !s.lcValid d e then s.refuse (some rto) op 0xF [0, 0, 0, 0]
    else s.takeChange d.fold rto (fun s q => s.beginAdmission d.fold t op rto q)))

/-- LINE_CLASS_RETIRE: the line class is staged to go; no admission is needed (R294, R312). -/
def execLineClassRetire (m : Msg) (s : State) : Host.Outcome State Fault Refusal :=
  finish s (s.request m 0x0108 .both (fun s t rto =>
    let c := m.target
    let f := (s.lc c).desc.fold
    if 8191 < c then s.reply rto stMalformed
    else if !(s.lc c).live then s.reply rto stInvalid
    else if !s.authority f then s.reply rto stNotAuthority
    else s.takeChange f rto (fun s q => s.stageOrQueue f t (.lcOut c) rto q)))

/-- LAYOUT_CHOICE: the fold's pricking and pin table (R255). -/
def execLayoutChoice (m : Msg) (pricking reserved : Nat) (pins : List Nat) (s : State) : Host.Outcome State Fault Refusal :=
  finish s (s.request m 0x0109 .both (fun s t rto =>
    let f := m.target
    let op := StageOp.layout f pricking pins
    if 4095 < f || reserved != 0 || pins.length != 32 then s.reply rto stMalformed
    else if (s.fold f).state != .active then s.reply rto stInvalid
    else if !s.authority f then s.reply rto stNotAuthority
    else if 1023 < pricking || pins.any (fun l => l != 0xFFFF && decide (16383 < l)) then s.refuse (some rto) op 0xF [0, 0, 0, 0]
    else s.takeChange f rto (fun s q => s.beginAdmission f t op rto q)))

/-- QUERY_LEG (R28). -/
def execQueryLeg (m : Msg) (s : State) : Host.Outcome State Fault Refusal :=
  finish s (s.request m 0x0111 .both (fun s _ rto =>
    if 16383 < m.target then s.reply rto stMalformed else s.reply rto stOK (.leg (s.legInfo m.target))))

/-- A fold's descriptor with its reply fields (R35). [DESIGN CHOICE, notes/assumptions 58] -/
def State.foldInfo (s : State) (f : Nat) : FoldInfo :=
  let r := s.fold f
  { state := (match r.state with | .idle => 0 | .active => 1 | .retiring => 2), desc := r.desc,
    legCount := (s.legs.filter (fun e => e.2.state != .idle && e.2.desc.fold = f)).length, lcCount := (s.foldLcs f).length, epoch := r.epoch.toNat }

/-- QUERY_FOLD: the fold's descriptor, then those of its line classes (R35, R37). -/
def execQueryFold (m : Msg) (s : State) : Host.Outcome State Fault Refusal :=
  finish s (s.request m 0x0112 .both (fun s _ rto =>
    if 4095 < m.target then s.reply rto stMalformed
    else s.reply rto stOK (.fold (s.foldInfo m.target) ((s.foldLcs m.target).map (fun c => ((s.lc c).desc, (s.lc c).phase))))))

/-- SET_POINT: a switch of the DRAM set point, refused when the admitted load would not fit under the ceiling at the new
trained peak (R467). -/
def execSetPoint (m : Msg) (point reserved : Nat) (s : State) : Host.Outcome State Fault Refusal :=
  finish s (s.request m 0x0203 .both (fun s _ rto =>
    let peak := s.peakAt point
    let ceil := Nat.min (s.less peak) (8 * peak / 10)
    if reserved != 0 then s.reply rto stMalformed
    else if !s.dmc.setPoints.contains point then s.reply rto stInvalid
    else if s.spRate point < s.spRate s.dmc.setPoint && decide (ceil < s.loadNow 2) then s.reply rto stRefused (.reason 2)
    else ({ s with dmc := { s.dmc with wantSp := some point, hotFrom := none } }).reply rto stOK))

/-! ### The decision (R32, R41, R50) -/

/-- The parts of an admitted change carry its reduction counts (R28, R42). -/
def withCounts (cs : List Nat) : StageOp → StageOp
  | .legIn l d xs src ice _ => .legIn l d xs src ice cs
  | .legSet l d xs src ice _ => .legSet l d xs src ice cs
  | op => op

/-- An admission ends REFUSE: an arriving leg is IDLE again and nothing is charged (R31, R32). -/
def State.endRefused (s : State) (p : PendAdmit) (code : Nat) (cs : List Nat) : State :=
  let s := match p.change with
    | .legIn l .. => (s.onLeg l (fun _ => {})).legStateNote l
    | _ => s
  s.refuse p.reply p.change code cs

/-- Is a pending change still valid against the planned state? [DESIGN CHOICE, notes/assumptions 23] -/
def State.stillValid (b : State) : StageOp → Bool
  | .legIn l d xs src ice _ => (b.fold d.fold).state = .active && b.legValid l d xs src ice
  | .legSet l d xs src ice _ => (b.fold d.fold).state = .active && b.legValid l d xs src ice
  | .lcIn _ d e .. => (b.fold d.fold).state = .active && b.lcValid d e
  | _ => true

/-- The accountant's decision on one change (R41, R44, R58). [DESIGN CHOICE, notes/assumptions 23] -/
def State.decideOne (s : State) (p : PendAdmit) : State :=
  let s := { s with adm := { s.adm with pend := s.adm.pend.filter (fun x => x.id != p.id) } }
  if p.arrival + 60 < s.now then s.endRefused p 0xE [0, 0, 0, 0]
  else
    let b := s.planned
    let retiring := (s.fold p.fold).retireTold
    match p.change with
    | .legOut l => s.stage p.fold p.arrival [.legOut l] p.reply none
    | .foldOut f => s.stage p.fold p.arrival [.foldOut f] p.reply none
    | .lcOut c => s.stage p.fold p.arrival [.lcOut c] p.reply none
    | op =>
      if retiring || !b.stillValid op then s.endRefused p 0xF [0, 0, 0, 0]
      else match decideChange b p.fold op with
        | .error (code, cs) => s.endRefused p code cs
        | .ok (ops, cs, lim) =>
          let degraded := cs != [0, 0, 0, 0]
          let s := s.incR (if degraded then Reg.DEV_ADMIT_DEGRADED else Reg.DEV_ADMIT_ADMITTED)
          s.stage p.fold p.arrival (ops.map (withCounts cs)) p.reply (some { outcome := b2n degraded, limiting := lim, effective := 0, counts := cs })

/-- ADMISSION_DECISION: the oldest change that is not waiting in a queue gets its decision (R41, R49). -/
def admissionDecision (s : State) : State :=
  match s.adm.pend.find? (fun p => !p.queued) with
  | none => s
  | some p => s.decideOne p

/-- ADMISSION_DECISION (R41). -/
def execAdmissionDecision (s : State) : Host.Outcome State Fault Refusal :=
  finish s (if s.boot.inReset || s.boot.warmRun || s.boot.halted then s else admissionDecision s)

/-- ADMISSION_TIMEOUT: an admission undecided 60 ticks after its arrival ends REFUSE with code 0xE (R32). -/
def admissionTimeout (s : State) : State :=
  match s.adm.pend.find? (fun p => decide (p.arrival + 60 ≤ s.now)) with
  | none => s
  | some p => ({ s with adm := { s.adm with pend := s.adm.pend.filter (fun x => x.id != p.id) } }).endRefused p 0xE [0, 0, 0, 0]

/-- ADMISSION_TIMEOUT (R32). -/
def execAdmissionTimeout (s : State) : Host.Outcome State Fault Refusal :=
  finish s (if s.boot.inReset || s.boot.warmRun || s.boot.halted then s else admissionTimeout s)

/-- The changes that wait in the queues move up, 256 for each fold and tick (R49). [DEDUCED, notes/assumptions 21] -/
def State.queueBoundary (s : State) : State :=
  let step (acc : Tbl Nat × List PendAdmit) (p : PendAdmit) : Tbl Nat × List PendAdmit :=
    if p.queued && tget 0 acc.1 p.fold < 256 then (tmod 0 acc.1 p.fold (· + 1), acc.2 ++ [{ p with queued := false }]) else (acc.1, acc.2 ++ [p])
  let r := s.adm.pend.foldl step ([], [])
  let s := { s with adm := { s.adm with pend := r.2 } }
  s.each (tkeys r.1) (fun s f => s.onFold f (fun x => { x with stagedNow := tget 0 r.1 f, stagedTick := s.now }))

/-! ### Switches (R31, R45, R47) -/

/-- A leg takes effect as ACTIVE: its buckets are full, its estimator starts, its streams start with a free sequence
number and RTP base (R31, R78, R336, R347, R371, R492). -/
def State.activateLeg (s : State) (l : Nat) : State :=
  let d := (s.leg l).desc
  let rate := Nat.min d.egressMax (Nat.max d.egressMin 800)
  let outs := (s.entries l).filter (fun e => (s.stream e).desc.outbound)
  let slots := outs.filter (fun e => (s.stream e).desc.kind = 1)
  let s := s.each outs (fun s e =>
    let n := s.free
    let s := { s with free := n + 2 }
    s.onStream e (fun r => { r with tx := { r.tx with seq := Config.freeNat n % 65536, tsBase := Config.freeNat (n + 1) % 2 ^ 32, startTick := s.now, mirroredV := Config.freeNat n % 65536 - 1 } }))
  let fwd : List FwdSlot := if d.videoMode = 1 then slots.map (fun e => { stream := e }) else []
  let s := s.onLeg l (fun g =>
    { g with state := .active, activeTick := s.now, consentTick := s.now, fwd := fwd, adapt := { delayRate := rate, lossRate := rate, estimate := rate, inForce := rate, serving := if d.videoMode = 3 then some d.lineClass else none }, view := { on := decide (d.videoMode = 2), keyPending := true } })
  let s := s.latchShaper l
  (s.onLeg l (fun g => { g with eg := { g.eg with level := 192 * g.eg.burst } })).legStateNote l

/-- An ACTIVE leg begins to retire (R31, R33). -/
def State.retireLeg (s : State) (l : Nat) : State :=
  let g := s.leg l
  if g.state = .active then
    (s.onLeg l (fun g => { g with state := .retiring, drainEnd := some (s.now + 4 + Nat.max g.desc.jitterAudio g.desc.jitterVideo) })).legStateNote l
  else s

/-- What changes with a leg's descriptor at a switch: forwarder slots, the serving line class, the lacer's state. -/
def State.resetPaths (s : State) (l : Nat) (was : LegDesc) : State :=
  let d := (s.leg l).desc
  let slots := (s.entries l).filter (fun e => let x := (s.stream e).desc; x.outbound && x.kind = 1)
  let same := was.videoMode = d.videoMode
  s.onLeg l (fun g =>
    let fwd := if d.videoMode = 1 then slots.map (fun e => (g.fwd.find? (fun x => x.stream = e)).getD { stream := e }) else []
    let serving := if d.videoMode = 3 then (if same && was.lineClass = d.lineClass then g.adapt.serving else some d.lineClass) else none
    { g with fwd := fwd, adapt := { g.adapt with serving := serving, movingTo := if same then g.adapt.movingTo else none }, view := if d.videoMode = 2 then (if same then g.view else { on := true, keyPending := true }) else {} })

/-- One part of a staged phase takes effect; a fold's new slate is to be rendered for its line classes, and a leg's
bucket is clipped to its new cap (R45, R82, R272). -/
def State.switchOp (s : State) (op : StageOp) : State :=
  match op with
  | .legIn l .. =>
    if (s.leg l).state != .admitting then s
    else
      let keep := s.leg l
      let s := (s.planOp op).onLeg l (fun g => { g with ice := keep.ice })
      let s := s.activateLeg l
      if (s.fold (s.leg l).desc.fold).state = .retiring then s.stage (s.leg l).desc.fold (s.now - 1) [.legOut l] none none else s
  | .legSet l .. =>
    let was := s.leg l
    if was.state != .active then s
    else
      let moved := was.desc.portPair != (match op with | .legSet _ d .. => d.portPair | _ => 0)
      let s := s.planOp op
      let s := s.onLeg l (fun g => { g with police := Nat.min g.police (24 * g.desc.policeBurst), sideB := if moved then g.desc.homeB else g.sideB, ice := g.ice.orElse (fun _ => was.ice) })
      let s := s.resetPaths l was.desc
      if was.desc.audioConfig = (s.leg l).desc.audioConfig then s else s.configChanged l (some was.desc.audioConfig)
  | .legOut l => s.retireLeg l
  | .foldIn f d a =>
    let was := s.fold f
    let s := s.planOp (.foldIn f d a)
    let changed := (upTo 8).filter (fun c => was.audio.config c ≠ a.config c)
    let s := s.onFold f (fun r => { r with outs := changed.foldl (fun t c => tdel c t) r.outs })
    let s := s.each (s.foldLegs f) (fun s l => if changed.contains (s.leg l).desc.audioConfig then s.configChanged l none else s)
    if was.state = .idle then s.onFold f (fun r => { r with pins := List.replicate 32 0xFFFF })
    else if was.desc.slate = d.slate then s
    else s.each (s.foldLcs f) (fun s c => s.onLc c (fun x => { x with slateDue := true }))
  | .foldOut f =>
    let s := s.onFold f (fun r => { r with state := .retiring })
    s.each (s.foldLegs f) State.retireLeg
  | .lcOut c => s.onLc c (fun _ => {})
  | op => s.planOp op

/-- A retiring fold whose last leg is IDLE becomes IDLE, its line classes with it (R31, R35).
[DESIGN CHOICE, notes/assumptions 25] -/
def State.endFold (s : State) (f : Nat) : State :=
  let used := s.legs.any (fun e => e.2.state != .idle && e.2.desc.fold = f)
  if (s.fold f).state = .retiring && !used then
    (s.each (s.foldLcs f) (fun s c => s.onLc c (fun _ => {}))).onFold f (fun _ => {})
  else s

/-- EPOCH_SWITCH: at its boundary a fold's staged phases become active together and the epoch rises by 1; a phase that the
partner has not acknowledged moves to the next boundary (R45, R47, R55). [DEDUCED, notes/assumptions 21] -/
def epochSwitch (f : Nat) (s : State) : State :=
  let due := s.adm.staged.filter (fun p => p.fold = f && decide (p.at_ ≤ s.now))
  let go := due.filter (fun p => p.staged && p.mirrored)
  let late := due.filter (fun p => !(p.staged && p.mirrored))
  let s := s.each late (fun s p => if p.deferred then s else s.incR Reg.DEV_EPOCH_DEFERRED)
  let move (p : StagedPhase) : StagedPhase := if late.any (fun q => q.id = p.id) then { p with at_ := s.now + 1, deferred := true } else p
  let rest := (s.adm.staged.filter (fun p => !go.any (fun q => q.id = p.id))).map move
  let s := { s with adm := { s.adm with staged := rest } }
  if go = [] then s
  else
    let s := s.each go (fun s p => s.each p.ops State.switchOp)
    let s := (s.onFold f (fun r => if r.state = .idle then r else { r with epoch := r.epoch + 1 })).incR Reg.DEV_EPOCH_SWITCHES
    s.endFold f

/-- EPOCH_SWITCH (R45). -/
def execEpochSwitch (fold : Nat) (s : State) : Host.Outcome State Fault Refusal :=
  finish s (if s.boot.inReset || s.boot.warmRun || s.boot.halted then s else epochSwitch fold s)

/-! ### The end of a drain (R33, R139) -/

/-- Bytes of a BYE compound: an empty receiver report and the BYE, in SRTCP (R33, R93). [DESIGN CHOICE, notes/assumptions 25] -/
def LegDesc.byeLen (d : LegDesc) (n : Nat) : Nat := (if d.ip6 then 48 else 28) + 8 + 4 + 4 * n + 4 + tagLen d.legacy

/-- The RTCP BYE of a leg, the last packet it sends (R33). [DESIGN CHOICE, notes/assumptions 25] -/
def State.sendBye (s : State) (l : Nat) : State :=
  let g := s.leg l
  let ssrcs := ((s.entries l).filter (fun e => (s.stream e).desc.outbound)).map (fun e => (s.stream e).desc.ssrc)
  match s.legSubport l with
  | none => s
  | some sub =>
    let len := g.desc.byeLen ssrcs.length
    let p : EgPkt := { leg := some l, port := s.legPort l, cls := 5, kind := .srtcp (.bye ssrcs), len := len, tick := s.now }
    match s.encryptRtcp l len 0 with
    | (none, s) => s
    | (some i, s) => s.transmit (s.legPort l) sub 0 (s.mayTransmit g.desc.fold) p (some i)

/-- LEG_DRAIN_COMPLETE: at the end of its drain a RETIRING leg sends its BYE, its slots are erased, its cost is released
and it is IDLE (R31, R33, R139). -/
def legDrainComplete (l : Nat) (s : State) : State :=
  let g := s.leg l
  match g.state, g.drainEnd with
  | .retiring, some t =>
    if s.now < t then s
    else
      let s := if g.txStopped then s else s.sendBye l
      let f := g.desc.fold
      ((s.releaseLeg l).onFold f (fun r => { r with list := r.list.filter (· != l), recency := r.recency.filter (fun e => e.1 != l), decodeNext := r.decodeNext.filter (· != l) })).endFold f
  | _, _ => s

/-- LEG_DRAIN_COMPLETE (R33). -/
def execLegDrainComplete (leg : Nat) (s : State) : Host.Outcome State Fault Refusal :=
  finish s (if s.boot.inReset || s.boot.warmRun || s.boot.halted then s else legDrainComplete leg s)

end Sys2Proof.Machine
end

