-- ==== Sys2Proof/Machine/Image.lean ====
section
/-!
DEFINITION. The checks of a Torzer image (16 R587 to R593; 06 R248; 08 R322, R323; 09 R368, R369; 11 R424) and of the
register images it carries.
-/

namespace Sys2Proof.Machine

/-- The 16-bit code of the silicon: production silicon, revision 1.1 (R17). [DESIGN CHOICE, notes/assumptions 48] -/
def siliconRevision : Nat := 0x0101

/-- Does a register-image word set only bits of RWL fields (R590)? -/
def imageWordOk (d v : Nat) : Bool :=
  let m := sumN (((fieldsOf d).filter (fun f => f.acc = .rwl)).map Field.mask)
  decide (v < 2 ^ 32) && v &&& m = v

/-- A PORT word (R61, R103, R590). -/
def portWordOk (p v : Nat) : Bool :=
  decide (p < 16) && imageWordOk (Reg.NET_PORT_MODE p) v && decide (bits v 3 0 ≤ 9 ∧ bits v 5 4 ≤ 2) && (p < 8 || bits v 8 8 = 0)

/-- A TIME record: TIME_TB_CONFIG, TIME_UTC, TIME_PPS_CONFIG, TIME_EXT_STATUS, and TIME_TSU_COMP of 64 lanes (R510, R511,
R590). -/
def timeWordsOk (ws : List Nat) : Bool :=
  let w (n : Nat) := ws.getD n 0
  ws.length = 68 && imageWordOk Reg.TIME_TB_CONFIG (w 0) && imageWordOk Reg.TIME_UTC (w 1) && imageWordOk Reg.TIME_PPS_CONFIG (w 2)
    && imageWordOk Reg.TIME_EXT_STATUS (w 3) && decide (1 ≤ bits (w 2) 25 16 ∧ bits (w 2) 25 16 ≤ 999)
    && (upTo 64).all (fun n => imageWordOk (Reg.TIME_TSU_COMP n) (w (4 + n)))

/-- A PTP_DOMAIN record: TIME_DOM_CONFIG and TIME_DOM_PORTS (R513, R590). -/
def domainOk (d cfg ports : Nat) : Bool :=
  let req := fromBits 4 (bits cfg 27 24)
  (d = 1 || d = 2) && imageWordOk (Reg.TIME_DOM_CONFIG (d - 1)) cfg && imageWordOk (Reg.TIME_DOM_PORTS (d - 1)) ports
    && decide (bits cfg 21 20 ≤ 2 ∧ -7 ≤ req ∧ req ≤ 1 ∧ 2 ≤ bits cfg 31 28 ∧ bits cfg 31 28 ≤ 10)

/-- The windows of template `t` of a gate record's 140 words, up to the one marked last (R368, R383). -/
def gateWindows (ws : List Nat) (t : Nat) : List Nat :=
  let all := (upTo 4).map (fun w => ws.getD (1 + 4 * t + w) 0)
  all.take ((all.takeWhile (fun v => bits v 31 31 = 0)).length + 1)

/-- Is template `t` valid (R369)? -/
def templateOk (ws : List Nat) (t : Nat) : Bool :=
  let v := gateWindows ws t
  let ends := v.dropLast.map (fun w => bits w 20 0)
  (v.getLast?.elim false (fun w => bits w 31 31 = 1)) && v.all (fun w => bits w 28 28 = 1)
    && (upTo 7).all (fun c => v.any (fun w => bits w (21 + c) (21 + c) = 1))
    && decide (ends.Pairwise (· < ·)) && ends.all (fun e => decide (e < 1666666))

/-- A GATE_LIST record (R368, R369, R590): the templates that its entries name must be valid.
[DESIGN CHOICE, notes/assumptions 48] -/
def gateWordsOk (p : Nat) (ws : List Nat) : Bool :=
  let n := bits (ws.getD 0 0) 9 0
  let entry (i : Nat) := bits (ws.getD (65 + i / 8) 0) (4 * (i % 8) + 3) (4 * (i % 8))
  decide (p < 16 ∧ 1 ≤ n ∧ n ≤ 600) && ws.length = 140 && imageWordOk (Reg.EGS_GATE_CONFIG p) (ws.getD 0 0)
    && (upTo 64).all (fun i => imageWordOk (Reg.EGS_WINDOW p (i / 4) (i % 4)) (ws.getD (1 + i) 0))
    && (upTo n).all (fun i => templateOk ws (entry i))

/-- The default gate list of a port without a record (R369). -/
def defaultGates : List Nat := [1, 250000 + 0xE0 * 2 ^ 21, 1250000 + 0xF8 * 2 ^ 21, 0xFF * 2 ^ 21 + 2 ^ 31]

/-- The endpoint codes of R425. -/
def endpointOk (e : Nat) : Bool :=
  decide (e ≤ 2) || decide (0x10 ≤ e ∧ e ≤ 0x25) || e = 0x30

/-- Words of a bobbin record's region, first word and size (R424, R438). -/
def bobbinRegion (base cfg : Nat) : Nat × Nat := (base * 64, 2 ^ (bits cfg 3 0 + 6))

/-- A BOBBIN record (R424, R425, R438). -/
def bobbinOk (q base cfg : Nat) : Bool :=
  decide (q < 4096) && imageWordOk (Reg.BQ_BASE q) base && imageWordOk (Reg.BQ_CONFIG q) cfg && decide (bits cfg 3 0 ≤ 10)
    && endpointOk (bits cfg 15 8) && endpointOk (bits cfg 23 16)
    && (bits cfg 4 4 = 0 || (bobbinRegion base cfg).1 % (bobbinRegion base cfg).2 = 0)

/-- The regions of the enabled queues neither overlap nor exceed 32 MiB (R424). -/
def bobbinsFit (bs : List (Nat × Nat × Nat)) : Bool :=
  let rs := (bs.filter (fun b => bits b.2.2 4 4 = 1)).map (fun b => bobbinRegion b.2.1 b.2.2)
  decide (rs.Pairwise (fun a b => a.1 + a.2 ≤ b.1 ∨ b.1 + b.2 ≤ a.1)) && decide (sumN (rs.map (·.2)) ≤ 2097152)

/-- A SCALER record: the taps of every phase sum to 128 (R592). -/
def ScalerRec.ok (r : ScalerRec) : Bool :=
  let sum (xs : List Int) : Int := xs.foldl (· + ·) 0
  let tap (n : Nat) (xs : List Int) : Bool := xs.length = n && sum xs = 128 && xs.all (fun x => decide (-128 ≤ x ∧ x ≤ 127))
  r.luma.length = 64 && r.luma.all (tap 6) && r.chroma.length = 64 && r.chroma.all (tap 4) && r.m601.length = 9 && r.m2020.length = 9

/-- An INVENTORY record (R593). -/
def InvRec.ok (r : InvRec) : Bool :=
  !r.reserved && decide (r.policy ≤ 2) && (match r.want with
    | .dimm d k n w _ _ _ => r.kind = 0 && decide (r.index ≤ 11) && (d = 0xFF || decide (d ≤ 2)) && decide (k ≤ 2) && (n = 0xFF || decide (n ≤ 2)) && (w = 0xFF || decide (w ≤ 1))
    | .cage _ _ p _ _ => r.kind = 1 && decide (r.index ≤ 15 ∧ p ≤ 8)
    | .card _ u _ => r.kind = 2 && r.index = 0 && decide (u ≤ 1)
    | .partner _ _ => r.kind = 3 && r.index = 0)

/-- A DEVICE record with the INVENTORY records beside it (R589). -/
def DeviceRec.ok (d : DeviceRec) (inv : List InvRec) : Bool :=
  let two (r : InvRec) : Bool := match r.want with | .dimm n _ _ _ _ _ _ => n = 2 | _ => false
  let one (r : InvRec) : Bool := match r.want with | .dimm n k _ _ _ _ _ => n = 1 && k = 1 | _ => false
  !d.reserved && d.part = 0x9256 && decide (d.headroom ≤ 50 ∧ d.pairMode ≤ 2 ∧ d.reserveTwelfths ≤ 3 ∧ 1 ≤ d.mirroredStripes)
    && decide (d.mirroredStripes ≤ 64 ∧ d.blast ≤ 2 ∧ 1 ≤ d.rates.length ∧ d.rates.length ≤ 3 ∧ 128 ≤ d.rdThreshold ∧ d.rdThreshold ≤ 16383)
    && decide (16 ≤ d.groupRegionMib ∧ d.groupRegionMib ≤ 65535) && d.rates.all (fun r => decide (32 ≤ r ∧ r ≤ 64 ∧ r % 4 = 0))
    && decide (d.rates.Pairwise (· > ·)) && d.dimmGp.all (fun g => decide (g ≤ 31) || g = 0xFF)
    && !(decide (56 < d.rates.headD 0) && inv.any two) && !(d.spareRank && inv.any one)

/-- An ADDRESS record (R591). -/
def AddressRec.ok (a : AddressRec) : Bool := !a.reserved && decide (a.pair ≤ 7 ∧ a.vlan < 4096) && !a.mac.getLsbD 40

/-- The VLAN of an entry; an untagged one has VID 0 (R65, R591). -/
def AddressRec.vid (a : AddressRec) : Nat := if a.tagged then a.vlan else 0

/-- Keys in strictly ascending order. -/
def ascending (ks : List Nat) : Bool := decide (ks.Pairwise (· < ·))

/-- Records that the model's fields list (R588). -/
def Torzer.listed (t : Torzer) : Nat :=
  b2n t.device.isSome + t.ports.length + t.addresses.length + b2n t.time.isSome + t.domains.length + t.gates.length + t.bobbins.length
    + b2n t.scaler.isSome + t.prickings.length + t.groups.length + t.guardSets.length + t.grids.length + t.inventory.length

/-- Order, keys and counts (R586, R588). -/
def Torzer.orderRight (t : Torzer) : Bool :=
  t.orderOk && t.recordCount = t.listed + t.unknownRequired + t.skipped && ascending (t.ports.map (·.1)) && ascending (t.domains.map (·.1))
    && ascending (t.gates.map (·.1)) && ascending (t.bobbins.map (·.1)) && ascending (t.prickings.map (·.id)) && ascending (t.groups.map (·.1))
    && ascending (t.guardSets.map (·.1)) && ascending (t.grids.map (·.id)) && ascending (t.inventory.map (fun r => r.kind * 256 + r.index))
    && decide (t.addresses.length ≤ 64) && t.ports.all (fun p => decide (p.1 < 16)) && t.domains.all (fun d => d.1 = 1 || d.1 = 2)
    && t.gates.all (fun g => decide (g.1 < 16)) && t.bobbins.all (fun b => decide (b.1 < 4096)) && t.groups.all (fun g => decide (g.1 < 4096))
    && t.guardSets.all (fun g => decide (g.1 < 4096))

/-- Every payload is valid under its rule (R587 check 0x07, R588). -/
def Torzer.payloadsOk (t : Torzer) : Bool :=
  t.unknownRequired = 0 && t.device.all (fun d => d.ok t.inventory) && t.ports.all (fun p => portWordOk p.1 p.2)
    && t.addresses.all AddressRec.ok && decide (t.addresses.Pairwise (fun a b => (a.addr, a.vid) ≠ (b.addr, b.vid)))
    && t.time.all timeWordsOk && t.domains.all (fun d => domainOk d.1 d.2.1 d.2.2) && t.gates.all (fun g => gateWordsOk g.1 g.2)
    && t.bobbins.all (fun b => bobbinOk b.1 b.2.1 b.2.2) && bobbinsFit t.bobbins && t.scaler.all ScalerRec.ok
    && t.prickings.all Pricking.ok && t.groups.all (fun g => g.2.ok) && t.guardSets.all (fun g => g.2.length = 16 && g.2.all (fun n => decide (n ≤ 16383) || n = 0xFFFF)) && t.grids.all LaceGrid.ok
    && t.inventory.all InvRec.ok

/-- Every record marked Required is there (R588, R593). -/
def Torzer.complete (t : Torzer) : Bool :=
  t.device.isSome && t.ports.length = 16 && t.time.isSome && t.scaler.isSome
    && (upTo 12).all (fun c => t.inventory.any (fun r => r.kind = 0 && r.index = c))

/-- The code of the first check of R587 that a candidate fails in a slot of `z` bytes under firmware version `fw`; 0 when it
passes them all (R585, R587). -/
def Torzer.reason (t : Torzer) (z fw : Nat) : Nat :=
  if !t.readOk then 0x0A
  else if !t.commit then 1
  else if !(t.headerOk && decide (128 ≤ t.length ∧ t.length + 64 ≤ z)) then 2
  else if !(t.part = 0x9256 && decide (t.revMin ≤ siliconRevision ∧ siliconRevision ≤ t.revMax)) then 3
  else if !t.digestOk then 4
  else if !t.crcOk then 5
  else if !t.orderRight then 6
  else if !t.payloadsOk then 7
  else if !t.complete then 8
  else if fw < t.fwMin then 9
  else 0

/-- Z: the bytes of a Torzer slot (R581). -/
def Flash.slotBytes (f : Flash) : Nat := if f.big then 96 * 2 ^ 20 else 32 * 2 ^ 20

end Sys2Proof.Machine
end

