-- ==== Sys2Proof/Machine/Cip.lean ====
section
/-!
DEFINITION. SRTP cipher engine and key slots (03): the meanings of key loads, blob processing, drains, key-encryption
keys and pipeline fencing.
-/

namespace Sys2Proof.Machine

/-- KEY_LOAD: the blob joins those waiting, up to 4,096; beyond it the reply is BUSY (R125, R152). -/
def execKeyLoad (m : Msg) (b : Blob) (s : State) : Host.Outcome State Fault Refusal :=
  finish s (s.request m 0x010E .both (fun s _ rto =>
    if !s.authority (s.leg m.target).desc.fold then s.reply rto stNotAuthority
    else if 4096 ≤ s.cip.waiting.length then (s.incR (Reg.CIP_KS_RESULT 8)).reply rto stBusy
    else { s with cip := { s.cip with waiting := s.cip.waiting ++ [{ blob := b, target := m.target, reply := some rto }] } }))

/-- The range checks of R123 step 6 on a key record (R122). -/
def limitsOk (r : KeyRecord) : Bool :=
  r.kdr = 0 && !r.reserved && decide (1 ≤ r.maxIndex ∧ r.maxIndex ≤ 2 ^ 48) && decide (1 ≤ r.maxRtcp ∧ r.maxRtcp ≤ 2 ^ 31)
    && (if r.role = 0 then r.activate = 0 && r.activateRtcp = 0
        else if r.direction = 0 then decide (r.activate < 2 ^ 48 ∧ r.activateRtcp < 2 ^ 31) else r.activateRtcp = 0)

/-- The result of the checks of R123 on a blob for the leg `target`: 0 when every check passes.
[DESIGN CHOICE, notes/assumptions 33] -/
def State.blobCheck (s : State) (b : Blob) (target : Nat) : Nat :=
  let kek := tget {} s.cip.keks b.kek
  let r := b.record
  let g := s.leg r.leg
  if b.format ≠ 1 ∨ b.wrappedLen ≠ 120 ∨ b.reserved ≠ 0 then 1
  else if 4 ≤ b.kek || !kek.written || kek.revoked || s.boot.maint then 2
  else if !b.intact || b.wrapKey != kek.key then 3
  else if 65536 ≤ r.slot ∨ r.leg ≠ r.slot / 4 ∨ r.direction ≠ r.slot / 2 % 2 ∨ r.role ≠ r.slot % 2 ∨ r.leg ≠ target then 4
  else if g.state ≠ .admitting ∧ g.state ≠ .active then 4
  else if r.suite = 0 ∨ 3 < r.suite ∨ (decide (r.suite = 3) ≠ g.desc.legacy) then 5
  else if !limitsOk r then 7
  else if r.generation ≤ s.storedGen r.slot then 6
  else 0

/-- BLOB_PROCESS: the oldest waiting blob is checked, within 512 in the tick and not while the management cores are down;
a good one starts the drain that installs its key (R123 to R126, R138). A blob whose slot still drains waits for it. -/
def blobProcess (s : State) : State :=
  if s.boot.warmRun || decide (512 ≤ s.cip.blobsTick) then s
  else match s.cip.waiting with
    | [] => s
    | w :: rest =>
      let r := w.blob.record
      let c := s.blobCheck w.blob w.target
      if c = 0 && (s.slot r.slot).draining then s
      else
        let s := { s with cip := { s.cip with waiting := rest, blobsTick := s.cip.blobsTick + 1 } }
        if c = 0 then
          s.drainSlot r.slot (some { suite := r.suite, kek := w.blob.kek, keyId := keyName r, activate := r.activate, activateRtcp := r.activateRtcp, maxIndex := r.maxIndex, maxRtcp := r.maxRtcp, expire := r.expire, generation := r.generation }) w.reply
        else
          let s := s.incR (Reg.CIP_KS_RESULT c)
          match w.reply with
          | some rto => s.reply rto stRefused (.reason c)
          | none => s

/-- BLOB_PROCESS (R123, R125). -/
def execBlobProcess (s : State) : Host.Outcome State Fault Refusal := finish s (blobProcess s)

/-- KEY_SLOT_DRAIN_END: 64 cycles after its acceptance a rewrite installs its key, an erase zeroises the slot (R138). -/
def execKeySlotDrainEnd (n : Nat) (s : State) : Host.Outcome State Fault Refusal := finish s (s.endDrain n)

/-- The blobs waiting for a leg end ABORTED with result 0x09 (R125). -/
def State.abortBlobs (s : State) (l : Nat) : State :=
  let mine := s.cip.waiting.filter (fun w => w.target = l)
  let s := { s with cip := { s.cip with waiting := s.cip.waiting.filter (fun w => w.target != l) } }
  s.each mine (fun s w =>
    let s := s.incR (Reg.CIP_KS_RESULT 9)
    match w.reply with
    | some rto => s.reply rto stAborted
    | none => s)

/-- KEK_PROVISION: an unwritten position is written once and its check value reported; a written one answers
INVALID_STATE (R128 to R130, R151). -/
def execKekProvision (m : Msg) (key : BitVec 256) (s : State) : Host.Outcome State Fault Refusal :=
  finish s (s.request m 0x0305 .bothMaint (fun s _ rto =>
    if 4 ≤ m.target then s.reply rto stMalformed
    else if (tget {} s.cip.keks m.target).written then s.reply rto stInvalid
    else
      let s := { s with cip := { s.cip with keks := tset {} s.cip.keks m.target { written := true, key := key } } }
      let s := s.setF (Reg.CIP_KEK_STATUS m.target) 0 0 1
      (s.setF (Reg.CIP_KEK_STATUS m.target) 31 8 (Config.keyCheck key).toNat).reply rto stOK))

/-- KEK_REVOKE: a written position is revoked once (R128, R129). -/
def execKekRevoke (m : Msg) (s : State) : Host.Outcome State Fault Refusal :=
  finish s (s.request m 0x0306 .bothMaint (fun s _ rto =>
    let k := tget {} s.cip.keks m.target
    if 4 ≤ m.target then s.reply rto stMalformed
    else if !k.written || k.revoked then s.reply rto stInvalid
    else
      let s := { s with cip := { s.cip with keks := tset {} s.cip.keks m.target { k with revoked := true } } }
      (s.setF (Reg.CIP_KEK_STATUS m.target) 1 1 1).reply rto stOK))

/-- CIPHER_PIPE_FENCE: an uncorrectable error in a pipeline's context memory fences it; its packets are discarded, and
the accountant sees the loss at the next boundary (R143, R144). -/
def pipeFence (p : Nat) (s : State) : State :=
  if 16 ≤ p || s.pipeFenced p then s
  else
    let s := s.setF (Reg.CIP_PIPE_STATUS p) 0 0 1
    let s := { s with cip := { s.cip with pipeBlocks := tdel p s.cip.pipeBlocks }, adm := { s.adm with recount := true } }
    s.raise fltKatFail (subjInst 4 p)

/-- CIPHER_PIPE_FENCE (R144). -/
def execCipherPipeFence (p : Nat) (s : State) : Host.Outcome State Fault Refusal := finish s (pipeFence p s)

end Sys2Proof.Machine
end

