-- ==== Sys2Proof/Machine/Fence.lean ====
section
/-!
DEFINITION. Fenced units (05 R226, R227, R234 to R236; 06 R275, R279, R280; 08 R352, R355; 10 R412, R415, R423), their
fence commands, and the self-tests of a cold or plane reset (R143, R191, R226, R275, R352, R415).
-/

namespace Sys2Proof.Machine

/-- VEN SELFTEST_FAIL, ENGINE_ECC, ENGINE_HANG and FENCE_COMMAND (R228). -/
def fltEngine (cause : Nat) : Nat := faultCode 10 3 cause
/-- CMP SELFTEST_FAIL, CMP_ECC, CMP_HANG and FENCE_COMMAND (R276). -/
def fltCompositor (cause : Nat) : Nat := faultCode 11 3 cause
/-- MCA CORE_SELFTEST, CORE_ECC, CORE_HANG and FENCE_COMMAND (R416). -/
def fltCore (cause : Nat) : Nat := faultCode 8 3 cause
/-- LAC LANE_FAIL (R353). -/
def fltLaneFail : Nat := faultCode 12 3 1

/-- What the items of a fenced unit end as: an outcome that the arbiter has given stands, every other item is aborted (R50,
R51, R227, R415). -/
def State.resolveItems (s : State) (mine : RunItem → Bool) : State :=
  (s.each ((s.drv.running.filter mine).map (·.task)) (fun s t =>
    match s.drv.running.find? (fun i => i.task = t && mine i) with
    | none => s
    | some i => s.endItem i (i.outcome.getD .aborted) s.drv.clock)).serveTakers

/-- The accountant takes a loss into account at the next boundary (R44, R682). -/
def State.askRecount (s : State) : State := { s with adm := { s.adm with recount := true } }

/-- A video engine fenced under a cause of R228; an engine that is fenced already stays as it is (R226, R227, R234, R235). -/
def engineFence (e cause : Nat) (s : State) : State :=
  if 64 ≤ e || s.getF (Reg.VEN_FENCE_STATUS e) 0 0 = 1 then s
  else
    let s := s.setR (Reg.VEN_FENCE_STATUS e) (1 + b2n (cause = 4) * 2 + cause % 256 * 256)
    let s := s.setR64 (Reg.VEN_FENCE_TICK e) s.now
    let s := s.resolveItems (fun i => i.pool = 0x20 && i.unit = e)
    s.askRecount.raise (fltEngine cause) (subjInst 10 e) [(8, s.now)]

/-- ENGINE_FENCE (R226). -/
def execEngineFence (e cause : Nat) (s : State) : Host.Outcome State Fault Refusal := finish s (engineFence e cause s)

/-- A compositor fenced under a cause of R276 (R275, R279). -/
def compositorFence (c cause : Nat) (s : State) : State :=
  if 8 ≤ c || s.getF (Reg.CMP_FENCE_STATUS c) 0 0 = 1 then s
  else
    let s := s.setR (Reg.CMP_FENCE_STATUS c) (1 + b2n (cause = 4) * 2 + cause % 256 * 256)
    let s := s.setR64 (Reg.CMP_FENCE_TICK c) s.now
    let s := s.resolveItems (fun i => i.pool = 0x21 && i.unit = c)
    s.askRecount.raise (fltCompositor cause) (subjInst 11 c) [(8, s.now)]

/-- COMPOSITOR_FENCE (R275). -/
def execCompositorFence (c cause : Nat) (s : State) : Host.Outcome State Fault Refusal := finish s (compositorFence c cause s)

/-- A lacer lane fenced (R352, R355). -/
def laneFence (l : Nat) (s : State) : State :=
  if 2 ≤ l || bit (s.getR Reg.LAC_STATUS) (12 + l) then s
  else
    let s := s.setF Reg.LAC_STATUS (12 + l) (12 + l) 1
    let s := s.resolveItems (fun i => i.pool = 0x22 && i.unit = l)
    s.askRecount.raise fltLaneFail (subjUnit 12 0 l) [(8, s.now)]

/-- LACER_LANE_FENCE (R352). -/
def execLacerLaneFence (l : Nat) (s : State) : Host.Outcome State Fault Refusal := finish s (laneFence l s)

/-- A media core fenced now (R415, R423): its item ends ABORTED, and a wait at its take port ends with none. -/
def State.fenceCore (s : State) (c cause : Nat) : State :=
  if 256 ≤ c || s.coreFenced c then s
  else
    let s := s.setF (Reg.MCA_CORE_STATUS (c / 16)) (c % 16) (c % 16) 1
    let s := s.resolveItems (fun i => decide (i.pool ≤ 0x11) && i.unit = c)
    let s := if s.drv.takers.any (fun e => e.2 = c) then
        (({ s with drv := { s.drv with takers := s.drv.takers.filter (·.2 ≠ c) } }).onCore c (fun p => { p with take := takeNone, context := 0, flags := 0 }))
      else s
    s.askRecount.raise (fltCore cause) (subjUnit 8 (c / 16) (c % 16)) [(8, s.now)]

/-- CORE_FENCE: the fence takes effect at the next boundary (R415). -/
def coreFence (c cause : Nat) (s : State) : State :=
  if 256 ≤ c || s.coreFenced c || s.drv.fencePend.any (fun p => p.1 = c) then s
  else { s with drv := { s.drv with fencePend := s.drv.fencePend ++ [(c, cause)] } }

/-- CORE_FENCE (R415). -/
def execCoreFence (c cause : Nat) (s : State) : Host.Outcome State Fault Refusal := finish s (coreFence c cause s)

/-- The fence of a unit that hangs (R226, R275, R352, R415). -/
def State.hangFence (s : State) (pool unit : Nat) : State :=
  if pool ≤ 0x11 then coreFence unit 3 s
  else if pool = 0x20 then engineFence unit 3 s
  else if pool = 0x21 then compositorFence unit 3 s
  else if pool = 0x22 then laneFence unit s
  else s

/-- UNIT_HANG: a unit that still holds an item two ticks after its grant is fenced (R412). -/
def unitHang (pool unit : Nat) (s : State) : State :=
  if s.drv.running.any (fun i => i.pool = pool && i.unit = unit && decide (i.grantTick + 2 ≤ s.now)) then s.hangFence pool unit
  else s

/-- UNIT_HANG (R412). -/
def execUnitHang (pool unit : Nat) (s : State) : Host.Outcome State Fault Refusal := finish s (unitHang pool unit s)

/-! ### Fence commands (R236, R280, R356, R423) -/

/-- VEN_FENCE_CTRL: 1 fences the engine at the next boundary (R236). -/
def execVenFenceCtrl (e value : Nat) (s : State) : Host.Outcome State Fault Refusal :=
  finish s (s.ctrlWrite (Reg.VEN_FENCE_CTRL e) value 1 (fun s =>
    if bit value 0 then { s with ven := { s.ven with fencePend := s.ven.fencePend ++ [(e, 4)] } } else s))

/-- CMP_FENCE_CTRL: 1 fences the compositor at the next boundary (R275, R280). -/
def execCmpFenceCtrl (c value : Nat) (s : State) : Host.Outcome State Fault Refusal :=
  finish s (s.ctrlWrite (Reg.CMP_FENCE_CTRL c) value 1 (fun s =>
    if bit value 0 then { s with cmp := { s.cmp with fencePend := s.cmp.fencePend ++ [(c, 4)] } } else s))

/-- LAC_LANE_FENCE_CTRL: bit n fences lane n at the next boundary (R352). -/
def execLacLaneFenceCtrl (value : Nat) (s : State) : Host.Outcome State Fault Refusal :=
  finish s (s.ctrlWrite Reg.LAC_LANE_FENCE_CTRL value 3 (fun s =>
    { s with lac := { s.lac with fencePend := s.lac.fencePend ++ (((upTo 2).filter (bit value)).map (fun l => (l, 1))) } }))

/-- MCA_FENCE_CTRL: bit n fences core n of the cluster at the next boundary (R415, R423). -/
def execMcaFenceCtrl (cluster value : Nat) (s : State) : Host.Outcome State Fault Refusal :=
  finish s (s.ctrlWrite (Reg.MCA_FENCE_CTRL cluster) value 0xFFFF (fun s =>
    s.each ((upTo 16).filter (bit value)) (fun s n => coreFence (cluster * 16 + n) 4 s)))

/-- The fences that wait for a boundary are made (R236, R275, R352, R415). -/
def State.fenceBoundary (s : State) : State :=
  let ven := s.ven.fencePend
  let cmp := s.cmp.fencePend
  let lac := s.lac.fencePend
  let core := s.drv.fencePend
  let s := { s with ven := { s.ven with fencePend := [] }, cmp := { s.cmp with fencePend := [] } }
  let s := { s with lac := { s.lac with fencePend := [] }, drv := { s.drv with fencePend := [] } }
  let s := s.each ven (fun s p => engineFence p.1 p.2 s)
  let s := s.each cmp (fun s p => compositorFence p.1 p.2 s)
  let s := s.each lac (fun s p => laneFence p.1 s)
  s.each core (fun s p => s.fenceCore p.1 p.2)

/-! ### Self-tests (R143, R191, R226, R275, R352, R415) -/

/-- The fences of every unit gone, before the self-tests of a cold or plane reset judge the units again. -/
def State.clearFences (s : State) : State :=
  let s := s.each (upTo 16) (fun s p => s.setF (Reg.CIP_PIPE_STATUS p) 1 0 0)
  let s := s.each (upTo 64) (fun s e => (s.setR (Reg.VEN_FENCE_STATUS e) 0).setR64 (Reg.VEN_FENCE_TICK e) 0)
  let s := s.each (upTo 8) (fun s c => (s.setR (Reg.CMP_FENCE_STATUS c) 0).setR64 (Reg.CMP_FENCE_TICK c) 0)
  let s := s.each (upTo 16) (fun s k => s.setR (Reg.MCA_CORE_STATUS k) 0)
  let s := s.setF Reg.LAC_STATUS 13 12 0
  let s := (s.setF Reg.AUD_STATUS 30 30 0).setR Reg.AUD_LIMITS (8192 + 8192 * 2 ^ 16)
  { s with drv := { s.drv with assistOff := [] } }

/-- The reasons of units that pass their self-tests leave the record (R685, R724). -/
def unitReason (t : SelfTest) (r : Reason) : Bool :=
  let sub := r.code / 4096
  let cause := r.code % 256
  let inst := r.subject % 256
  let unit := r.subject / 65536 % 4096 - 1
  if classOf r.code ≠ 3 then false
  else if sub = 10 && decide (1 ≤ cause ∧ cause ≤ 4) then !t.engines.contains inst
  else if sub = 11 && decide (1 ≤ cause ∧ cause ≤ 4) then !t.compositors.contains inst
  else if sub = 8 && decide (1 ≤ cause ∧ cause ≤ 4) then !t.cores.contains (inst * 16 + unit)
  else if r.code = fltLaneFail then !t.lanes.contains unit
  else if r.code = fltAssistFail then !t.clusters.contains inst
  else if r.code = fltKatFail then !t.pipes.contains inst
  else false

/-- The self-tests run: a unit that passes is in service, its status says so and its reason clears; a unit that fails is
fenced under its self-test cause. -/
def State.selfTests (s : State) (t : SelfTest) : State :=
  let s := s.clearFences
  let s := s.each (upTo 16) (fun s p => if t.pipes.contains p then pipeFence p s else s.setF (Reg.CIP_PIPE_STATUS p) 1 1 1)
  let s := s.each (upTo 64) (fun s e =>
    let s := s.setF (Reg.VEN_ENGINE_STATUS e) 0 0 (b2n (!t.engines.contains e))
    if t.engines.contains e then engineFence e 1 s else s)
  let s := s.each (upTo 8) (fun s c =>
    let s := s.setF (Reg.CMP_STATUS c) 0 0 (b2n (!t.compositors.contains c))
    if t.compositors.contains c then compositorFence c 1 s else s)
  let s := s.each t.lanes (fun s l => laneFence l s)
  let s := s.each t.cores (fun s c => s.fenceCore c 1)
  let s := s.each t.clusters (fun s c => assistFail c s)
  s.askRecount.clearReason (unitReason t)

end Sys2Proof.Machine
end

