-- ==== Sys2Proof/Machine/Rec.lean ====
section
/-!
DEFINITION. The fault journal (19 R679 to R681) and the replacement-request record (R683 to R686, R724).
-/

namespace Sys2Proof.Machine

/-- DEV OVERCOMMIT (R677). -/
def fltOvercommit : Nat := faultCode 0 0 1
/-- DEV FATAL_LOOP (R677). -/
def fltFatalLoop : Nat := faultCode 0 4 2
/-- DEV JOURNAL_OVERFLOW (R677). -/
def fltJournalOverflow : Nat := faultCode 0 0 3
/-- TWN BUNDLE_DOWN (R546). -/
def fltBundleDown : Nat := faultCode 14 3 1
/-- TWN LINK_DOWN (R546). -/
def fltLinkDown : Nat := faultCode 14 3 2
/-- MGT TALLY_WORN (R666). -/
def fltTallyWorn : Nat := faultCode 15 3 7

/-! ### Reasons (R724, R684) -/

/-- The causes 0x01 to 0x04 that fence a unit. -/
def fenceCause (code : Nat) : Bool := classOf code = 3 && decide (1 ≤ code % 256 ∧ code % 256 ≤ 4)

/-- Does a NET reason for port `p` call for a network module (R724): its inventory entry is bad, or the module reports a fault? -/
def State.moduleBad (s : State) (p : Nat) : Bool :=
  let st := (tget {} s.tly.inv (256 + p)).state
  st = invDegraded || st = invRefused || st = invUnreadable || s.boot.moduleFault.contains p

/-- The resources and the action of a fault that gives a reason; none for every other fault (R724). -/
def State.reasonRow (s : State) (code subject : Nat) : Option (List Nat × Nat) :=
  let sub := code / 4096
  let i := subject % 256
  if sub = 10 && fenceCause code then some ([1], 4)
  else if sub = 11 && fenceCause code then some ([8], 4)
  else if sub = 8 && fenceCause code then some ([0], 4)
  else if code = fltLaneFail then some ([7], 4)
  else if code = fltAssistFail then some ([5, 6], 4)
  else if code = fltKatFail then some (((if i < 8 then [4] else [3]) ++ if i % 8 < 4 then [9] else []), 4)
  else if code = fltLaneLost then some ([3], if s.moduleBad i then 2 else 6)
  else if code = fltPairDown then some ([3], if s.moduleBad i || s.moduleBad (i + 8) then 2 else 6)
  else if code = fltChannelLost then some ([2], 1)
  else if code = fltRankSpared then some ([], 1)
  else if code = fltDimmHot then some ([2], 0)
  else if code = fltMirrorDegraded then some ([], 0)
  else if code = fltBundleDown then some ([4], 6)
  else if code = fltLinkDown then some ([], 6)
  else if code = fltFitDegraded then
    let k := subject / 256 % 256
    if k = 0 then some ([2], 1) else if k = 1 then some ([3], 2) else if k = 2 then some ([], 3) else some ([], 6)
  else if code = fltTallyWorn then some ([], 4)
  else none

/-- Can the free slices hold the loss of each channel that is in service (R472)? -/
def State.secondChannelFits (s : State) : Bool :=
  s.chansUp.all (fun c => decide ((s.entriesOn c).length + s.freeCount c ≤ s.freeTotal))

/-- The severity of a reason; `oc` is DEV_ADMIT_OVERCOMMIT (R684). -/
def State.reasonSeverity (s : State) (oc : Nat) (code subject : Nat) : Nat :=
  let res := (s.reasonRow code subject).elim [] (·.1)
  let dimm := code = fltChannelLost || (code = fltFitDegraded && subject / 256 % 256 = 0)
  if (dimm && !s.secondChannelFits) || (code = fltTallyWorn && decide (16384 < s.tly.retired)) then 3
  else if res.any (bit oc) || code = fltRankSpared || code = fltBundleDown || code = fltLinkDown || code = fltMirrorDegraded then 2
  else 1

/-- The record with a reason more: one held already stays in its place; a ninth replaces the oldest reason of the lowest
severity and sets overflow (R685). -/
def State.addReason (s : State) (code subject : Nat) : State :=
  match s.reasonRow code subject with
  | none => s
  | some (_, action) =>
    if s.flt.reasons.any (fun r => r.code = code && r.subject = subject) then s
    else
      let r : Reason := { code := code, subject := subject, action := action, severity := s.reasonSeverity (s.getF Reg.DEV_ADMIT_OVERCOMMIT 9 0) code subject }
      let rs := s.flt.reasons
      if rs.length < 8 then { s with flt := { s.flt with reasons := rs ++ [r] } }
      else
        let low := rs.foldl (fun m x => Nat.min m x.severity) 255
        let old := rs.find? (fun x => x.severity = low)
        { s with flt := { s.flt with reasons := (match old with | some o => rs.erase o | none => rs) ++ [r], overflow := true } }

/-- remaining[0..7]: capacity in service in basis points (R683). -/
def State.remaining (s : State) : List Nat :=
  let c := s.capsNow
  let full := 12 * peakOne (s.spRate 0)
  [c.cores * 10000 / (256 * 2666666), c.video * 10000 / (64 * 2000000), if full = 0 then 0 else c.dram * 10000 / full,
    c.egress * 10000 / 166666666, c.pipesIn * 10000 / 8, c.audio * 10000 / 8192, c.lace * 10000 / 1638, c.cmps * 10000 / 8]

/-- The record's severity: the highest among its reasons (R684). -/
def maxSeverity (rs : List Reason) : Nat := maxN (rs.map (·.severity))

/-- The registers that show reason `n` (R692). -/
def State.showReason (s : State) (n : Nat) : State :=
  match s.flt.reasons[n]? with
  | none => (s.setR (Reg.DEV_SVC_REASON n) 0).setR (Reg.DEV_SVC_REASON_SUBJ n) 0
  | some r => (s.setR (Reg.DEV_SVC_REASON n) (r.code + r.action * 2 ^ 16 + r.severity * 2 ^ 24)).setR (Reg.DEV_SVC_REASON_SUBJ n) r.subject

/-- What the record says now, without its sequence and tick: the reasons, overflow and the capacities. -/
def State.recImage (s : State) : List Nat :=
  (upTo 8).flatMap (fun n => [s.getR (Reg.DEV_SVC_REASON n), s.getR (Reg.DEV_SVC_REASON_SUBJ n), s.getF (Reg.DEV_SVC_REMAIN n) 15 0]) ++ [s.getF Reg.DEV_SVC_REQ 7 7]

/-- Vector 19: an assertion of SVC_REQ_N or a change of BOOT_STATUS (R638). -/
def State.vector19 (s : State) : State := { s with out := s.out ++ [.other 19 []] }

/-- SVC_REQ_N and DEV_SVC_REQ (R568, R686, R690): asserted while the record holds a reason or start-up is halted. -/
def State.svcPin (s : State) : State :=
  let on := !s.flt.reasons.isEmpty || s.boot.halted
  let s := s.setR Reg.DEV_SVC_REQ (b2n on + maxSeverity s.flt.reasons * 2 + s.flt.reasons.length * 8 + b2n s.flt.overflow * 128 + s.flt.recSeq.toNat % 65536 * 65536)
  let rise := on && !s.pins.svcReq
  let s := { s with pins := { s.pins with svcReq := on } }
  if rise then s.vector19 else s

/-- The record brought up to date: severities, actions and capacities are computed again, and seq rises by 1 when anything in it has
changed (R683, R684). Nothing while the management cores are down (R686). -/
def State.publishRecord (s : State) : State :=
  if s.boot.warmRun then s
  else
    let before := s.recImage
    let oc := s.getF Reg.DEV_ADMIT_OVERCOMMIT 9 0
    let fix (r : Reason) : Reason := { r with severity := s.reasonSeverity oc r.code r.subject, action := (s.reasonRow r.code r.subject).elim r.action (·.2) }
    let s := { s with flt := { s.flt with reasons := s.flt.reasons.map fix } }
    let s := s.each (upTo 8) (fun s n => s.showReason n)
    let rem := s.remaining
    let s := s.each (upTo 8) (fun s n => s.setF (Reg.DEV_SVC_REMAIN n) 15 0 (rem.getD n 0))
    let s := s.setF Reg.DEV_SVC_REQ 7 7 (b2n s.flt.overflow)
    let s := if s.recImage = before then s else { s with flt := { s.flt with recSeq := s.flt.recSeq + 1, recTick := s.faultTick } }
    s.svcPin

/-- The detail of REPLACEMENT_REQUEST: record bytes 0x00 to 0x07, then 0x10 to 0x1F (R686). -/
def State.recDetail (s : State) : List (Nat × Nat) :=
  [(4, s.flt.recSeq.toNat), (1, maxSeverity s.flt.reasons), (1, s.flt.reasons.length), (1, b2n s.flt.overflow), (1, 0)]
    ++ (upTo 8).map (fun n => (2, s.getF (Reg.DEV_SVC_REMAIN n) 15 0))

/-- The record rebuilt at a power-on or cold reset: the reasons that the remap records, the inventory entries and the tally
store's retired blocks still show; failing units give theirs by their self-tests (R683, R724).
[DESIGN CHOICE, notes/assumptions 42] -/
def State.rebuildRecord (s : State) : State :=
  let s := { s with flt := { s.flt with reasons := [], overflow := false } }
  let s := s.each s.tly.chOut (fun s c => s.addReason fltChannelLost (subjChan c))
  let s := s.each s.tly.spareUsed (fun s e => s.addReason fltRankSpared (subjRank e.1 (e.2 - 1)))
  let s := s.each s.tly.inv (fun s e =>
    if e.2.state = invDegraded || e.2.state = invRefused then s.addReason fltFitDegraded (subjItem e.2.kind e.2.index) else s)
  if 8192 < s.tly.retired then s.addReason fltTallyWorn subjNone else s

/-! ### The journal (R679 to R681) -/

/-- The flags byte of an entry (R679). -/
def JEntry.flags (e : JEntry) : Nat := b2n e.hwQueued + b2n e.halt * 2 + b2n e.recorded * 4

/-- The bytes of an entry's detail, padded to 8. -/
def detail8 (d : List (Nat × Nat)) : List (Nat × Nat) := d ++ [(8 - sumN (d.map (·.1)), 0)]

/-- Compaction keeps the newest 16,384 fault-journal records, and the newest 1,024 degrading and fatal ones among the older
(R681). -/
def compactJournal (j : List JEntry) : List JEntry :=
  let old := j.take (j.length - 16384)
  lastN 1024 (old.filter (fun e => classOf e.code = 3 || classOf e.code = 4)) ++ lastN 16384 j

/-- One fault journalled: its tally record, the last-entry registers and its class count; a fault of R724 enters the record
(R679, R686, R688, R689). -/
def State.journal (s : State) (f : RaisedFault) : State :=
  let seq := s.tly.journalSeq + 1
  let same (e : Nat × Nat × Nat) : Bool := e.1 = f.code && e.2.1 = f.subject
  let sup := f.suppressed + sumN ((s.flt.suppressed.filter same).map (fun e => e.2.2))
  let rec_ := (s.reasonRow f.code f.subject).isSome
  let e : JEntry := { seq := seq, tick := f.tick, code := f.code, subject := f.subject, detail := f.detail, hwQueued := f.hwQueued, halt := f.halt, recorded := rec_, suppressed := sup }
  let s := s.tallyCommit 3 seq 32 ([(8, e.tick), (2, e.code), (1, e.flags), (1, 0), (4, e.subject)] ++ detail8 e.detail ++ [(4, sup), (4, 0)])
  let j := compactJournal (s.tly.journal ++ [e])
  let kept := if j.length = s.tly.journal.length + 1 then s.tly.recs else s.tly.recs.filter (fun r => r.typ ≠ 3 || j.any (fun x => x.seq = r.key))
  let s := { s with tly := { s.tly with journal := j, journalSeq := seq, recs := kept } }
  let s := { s with flt := { s.flt with suppressed := s.flt.suppressed.filter (fun e => !same e), notify := s.flt.notify ++ [e], fresh := s.flt.fresh ++ [e] } }
  let s := (s.setR Reg.DEV_FAULT_LAST (f.code + seq % 65536 * 65536)).setR Reg.DEV_FAULT_SUBJECT f.subject
  let s := if classOf f.code < 5 then s.incR (Reg.DEV_FAULT_COUNT (classOf f.code)) else s
  s.addReason f.code f.subject

/-- The faults of the tick committed: fatal entries first and outside the count; then at most 256 in order. Beyond them,
correctable entries are dropped and counted, and JOURNAL_OVERFLOW is raised for the next tick; the others wait (R680). -/
def State.commitFaults (s : State) : State :=
  let q := s.flt.queue
  let fatal := q.filter (fun f => classOf f.code = 4)
  let rest := q.filter (fun f => classOf f.code ≠ 4)
  let now := rest.take 256
  let excess := rest.drop 256
  let lost := (excess.filter (fun f => classOf f.code = 0)).length
  let s := { s with flt := { s.flt with queue := excess.filter (fun f => classOf f.code ≠ 0), fresh := [], overflowNext := decide (0 < lost) } }
  let s := s.incR Reg.DEV_FAULT_DROPPED lost
  s.each (fatal ++ now) (fun s f => s.journal f)

/-- The faults that waited for the tick that now begins: JOURNAL_OVERFLOW of the last commit (R680). -/
def State.overflowFault (s : State) : State :=
  if s.flt.overflowNext then
    ({ s with flt := { s.flt with overflowNext := false } }).raise fltJournalOverflow subjNone
  else s

/-- The notifications of the entries committed: FAULT for each, REPLACEMENT_REQUEST for each degrading one beside it (R650,
R680, R686). They wait while the management cores are down. -/
def State.notifyFaults (s : State) : State :=
  if s.boot.warmRun then s
  else
    let es := s.flt.notify
    let s := { s with flt := { s.flt with notify := [] } }
    s.each es (fun s e =>
      let s := s.notify 0x8012 e.code e.subject (detail8 e.detail ++ [(4, e.suppressed), (1, e.flags)]) (some e.tick)
      if classOf e.code = 3 then s.notify 0x8013 0 subjNone s.recDetail else s)

end Sys2Proof.Machine
end

