-- ==== Sys2Proof/Machine/Tim.lean ====
section
/-!
DEFINITION. Time (13): the timebase and the tick grid, PTP domains, selection and slewing, steps, holdover, pulse per
second and time of day. Captures are converted to free-running time in 1/32 ns: a unit counts 1.25 ns cycles in eighths.
-/

namespace Sys2Proof.Machine

/-- TIME SOURCE_SWITCH (R506). -/
def fltSourceSwitch : Nat := faultCode 2 1 1
/-- TIME HOLDOVER (R506). -/
def fltHoldover : Nat := faultCode 2 1 2
/-- TIME STEP_PENDING (R506). -/
def fltStepPending : Nat := faultCode 2 0 3
/-- TIME NO_SOURCE (R506). -/
def fltNoSource : Nat := faultCode 2 0 4
/-- TIME TOD_FORMAT (R506). -/
def fltTodFormat : Nat := faultCode 2 0 5
/-- TIME REFCLK_LOST (R506). -/
def fltRefclkLost : Nat := faultCode 2 4 6

/-! ### Captures, measurements and fits (R491, R497, R502) -/

/-- A capture in 1/32 ns of free-running time. -/
def Capture.x (c : Capture) : Int := 5 * (8 * (c.count : Int) + c.phase)

/-- A receive time-stamp of a lane: the capture plus rx_comp (R502, R516). -/
def State.rxStamp (s : State) (h : PtpHdr) : Int := h.cap.x + 32 * fromBits 16 (s.getF (Reg.TIME_TSU_COMP h.lane) 15 0)

/-- A least-squares line through measurements: their number, sums, and the slope as a fraction. -/
structure Fit where
  n : Int := 0
  sx : Int := 0
  sy : Int := 0
  num : Int := 0
  den : Int := 0
  deriving DecidableEq, Repr

/-- The least-squares fit of measurements (R497). [DEDUCED, notes/assumptions 38] -/
def fitOf (ms : List Meas) : Fit :=
  let n : Int := ms.length
  let sx := ms.foldl (fun a m => a + m.x) 0
  let sy := ms.foldl (fun a m => a + m.y) 0
  let sxx := ms.foldl (fun a m => a + m.x * m.x) 0
  let sxy := ms.foldl (fun a m => a + m.x * m.y) 0
  { n := n, sx := sx, sy := sy, num := n * sxy - sx * sy, den := n * sxx - sx * sx }

/-- The fit's value at `x`, rounded down. -/
def Fit.at_ (f : Fit) (x : Int) : Int :=
  if f.n = 0 then 0 else if f.den = 0 then f.sy / f.n else (f.sy * f.den + f.num * (f.n * x - f.sx)) / (f.n * f.den)

/-- The fit's frequency in parts per 10^12, rounded down. -/
def Fit.freq (f : Fit) : Int := if f.den = 0 then 0 else f.num * 1000000000000 / f.den

/-- Do the last 16 measurements lie within ±1,000 ns of the fit (R497, R505)? -/
def Fit.close (f : Fit) (ms : List Meas) : Bool := (lastN 16 ms).all (fun m => decide (-32000 ≤ m.y - f.at_ m.x ∧ m.y - f.at_ m.x ≤ 32000))

/-! ### Sources (R498, R505, R507, R513) -/

/-- Domain `d` (1 or 2). -/
def State.dom (s : State) (d : Nat) : DomSt := tget {} s.tim.doms d
/-- Domain `d` changed. -/
def State.onDom (s : State) (d : Nat) (f : DomSt → DomSt) : State := { s with tim := { s.tim with doms := tmod {} s.tim.doms d f } }

/-- State of a source, coded as in R513: 0 DISABLED, 1 LISTENING, 2 UNCALIBRATED, 3 LOCKED, 4 LOST. -/
def State.srcState (s : State) (k : Nat) : Nat :=
  if k = 3 then s.getF Reg.TIME_EXT_STATUS 18 16 else if k = 0 then 0 else s.getF (Reg.TIME_DOM_STATUS (k - 1)) 2 0

/-- State of a source set. -/
def State.setSrcState (s : State) (k v : Nat) : State :=
  if k = 3 then s.setF Reg.TIME_EXT_STATUS 18 16 v else s.setF (Reg.TIME_DOM_STATUS (k - 1)) 2 0 v

/-- The measurements of a source that its fit uses: a domain's last 64 no older than 10 s, the external input's last 16 pairs. -/
def State.srcMeas (s : State) (k : Nat) : List Meas := if k = 3 then s.tim.ext.meas else (s.dom k).meas

/-- The fit of a source. -/
def State.srcFit (s : State) (k : Nat) : Fit := fitOf (s.srcMeas k)

/-- The free-running time of the last boundary in 1/32 ns. -/
def State.xNow (s : State) : Int := 40 * (s.tim.count : Int)

/-- The timebase value in 2^-32 ns (R487). -/
def State.tbVal (s : State) : Nat := (s.tim.sec * 1000000000 + s.tim.ns) * 2 ^ 32 + s.tim.frac

/-- The timebase value set. -/
def State.setTb (s : State) (v : Nat) : State :=
  let w := v / 2 ^ 32
  { s with tim := { s.tim with sec := w / 1000000000, ns := w % 1000000000, frac := v % 2 ^ 32 } }

/-- θ of a source at the last boundary: its time less the timebase's, in ns (R497). -/
def State.srcTheta (s : State) (k : Nat) : Int := ((s.srcFit k).at_ s.xNow + s.xNow) / 32 - (s.tbVal / 2 ^ 32 : Nat)

/-- The selected source (R507). -/
def State.selSource (s : State) : Nat := s.getF Reg.TIME_TB_STATUS 1 0

/-- Is a source LOCKED? -/
def State.locked (s : State) (k : Nat) : Bool := s.srcState k = 3

/-- Consecutive LOCKED ticks of a source (R498). -/
def State.lockedFor (s : State) (k : Nat) : Nat := if k = 3 then s.tim.ext.lockTicks else (s.dom k).lockTicks

/-- The sources in rank order (R510). -/
def State.ranks (s : State) : List Nat :=
  ([s.getF Reg.TIME_TB_CONFIG 1 0, s.getF Reg.TIME_TB_CONFIG 3 2, s.getF Reg.TIME_TB_CONFIG 5 4]).filter (· ≠ 0)

/-- The source that R498 selects: a forced one while it is LOCKED, else the highest-ranked LOCKED one; the one in force stays
while LOCKED, unless with revertive a higher one has been LOCKED for 600 ticks. [DEDUCED, notes/assumptions 38] -/
def State.wantSource (s : State) : Nat :=
  let cur := s.selSource
  if s.tim.forced ≠ 0 && s.locked s.tim.forced then s.tim.forced
  else if cur ≠ 0 && s.locked cur && s.ranks.contains cur then
    let higher := s.ranks.takeWhile (· ≠ cur)
    if s.getF Reg.TIME_TB_CONFIG 6 6 = 1 then (higher.find? (fun k => s.locked k && decide (600 ≤ s.lockedFor k))).getD cur else cur
  else (s.ranks.find? s.locked).getD 0

/-! ### PTP (R495 to R497) -/

/-- An interval of logarithm `l` in eighths of a cycle. -/
def logInterval (l : Int) : Nat := if 0 ≤ l then 6400000000 * 2 ^ l.toNat else 6400000000 / 2 ^ (-l).toNat

/-- Is a message addressed to domain `d`: enabled, with its domainNumber and sdoId (R495)? -/
def State.ptpFor (s : State) (d : Nat) (h : PtpHdr) : Bool :=
  let c := s.getR (Reg.TIME_DOM_CONFIG (d - 1))
  bit c 23 && bits c 7 0 = h.domain && bits c 19 8 = h.sdo

/-- Does the domain take the message: version 2, on its transport, on a port that it admits (R495, R513)? -/
def State.ptpTakes (s : State) (d : Nat) (h : PtpHdr) : Bool :=
  h.version = 2 && s.getF (Reg.TIME_DOM_CONFIG (d - 1)) 21 20 = h.transport && bit (s.getR (Reg.TIME_DOM_PORTS (d - 1))) h.port

/-- Is the message from the domain's chosen master? -/
def State.fromMaster (s : State) (d : Nat) (h : PtpHdr) : Bool :=
  match (s.dom d).master with
  | some m => m.ann.hdr.sender = h.sender && m.ann.hdr.port = h.port
  | none => false

/-- Counter `n` of a domain (R515). -/
def State.domCount (s : State) (d n : Nat) : State := s.incR (Reg.TIME_DOM_CTR (d - 1) n)

/-- A message handled by each domain that it is for; one that a domain does not take is counted and discarded (R515). -/
def State.eachDom (s : State) (h : PtpHdr) (ok : State → Nat → Bool) (k : State → Nat → State) : State :=
  s.each [1, 2] (fun s d => if !s.ptpFor d h then s else if s.ptpTakes d h && ok s d then k s d else s.domCount d 4)

/-- The order of the default BMCA (Clause 9.3): is `a` better than `b`? [PRESUMED, notes/assumptions 39] -/
def betterMaster (a b : PtpAnnounce) : Bool :=
  let key (m : PtpAnnounce) : List Nat :=
    if a.gm = b.gm then [m.steps, m.hdr.sender.1, m.hdr.sender.2, m.hdr.port] else [m.prio1, m.cls, m.acc, m.var_, m.prio2, m.gm]
  lexLt (key a) (key b)
where
  /-- Lexicographic order. -/
  lexLt : List Nat → List Nat → Bool
    | x :: xs, y :: ys => decide (x < y) || (x = y && lexLt xs ys)
    | _, _ => false

/-- Is a foreign master qualified: two Announces within four of its intervals, fewer than 255 steps away?
[PRESUMED, notes/assumptions 39] -/
def MasterRec.qualified (m : MasterRec) : Bool :=
  decide (m.ann.steps < 255) && m.prev.elim false (fun p => decide (m.last - p ≤ 4 * logInterval m.ann.logInterval))

/-- BMCA over the domain's foreign masters whose port is up (R495, R496). A new master starts the domain's measurements
afresh. [PRESUMED, notes/assumptions 39] -/
def State.bmca (s : State) (d : Nat) : State :=
  let st := s.dom d
  let live := st.masters.filter (fun m => m.qualified && s.portUp m.ann.hdr.port)
  let best := live.foldl (fun (b : Option MasterRec) m => match b with
    | none => some m
    | some x => if betterMaster m.ann x.ann then some m else b) none
  let same := match st.master, best with
    | some a, some b => a.ann.hdr.sender = b.ann.hdr.sender && a.ann.hdr.port = b.ann.hdr.port
    | none, none => true
    | _, _ => false
  if same then s.onDom d (fun x => { x with master := best })
  else
    let s := s.onDom d (fun x => { x with master := best, meas := [], syncPend := none, reqSent := none, lastSync := none, delay := 0, lockTicks := 0 })
    s.setSrcState d (if best.isSome then 2 else 1)

/-- What the domain's registers show (R513, R514). -/
def State.showDom (s : State) (d : Nat) : State :=
  let i := d - 1
  let st := s.dom d
  let fit := s.srcFit d
  let s := match st.master with
    | some m => (((s.setF (Reg.TIME_DOM_STATUS i) 8 5 m.ann.hdr.port).setF (Reg.TIME_DOM_STATUS i) 23 16 m.ann.cls).setF
        (Reg.TIME_DOM_STATUS i) 31 24 (Nat.min 255 m.ann.steps)).setR64 (Reg.TIME_DOM_GM i) m.ann.gm
    | none => s
  let s := s.setR64 (Reg.TIME_DOM_OFFSET i) (toBits 64 (s.srcTheta d))
  let s := s.setR (Reg.TIME_DOM_FREQ i) (toBits 32 fit.freq)
  let s := s.setR (Reg.TIME_DOM_DELAY i) (toBits 32 (st.delay / 32))
  s.setF (Reg.TIME_DOM_STATUS i) 3 3 (b2n (s.selSource = d))

/-- The state that a domain's measurements give (R497): LOCKED with 32 held and the last 16 close to the fit. -/
def State.judgeDom (s : State) (d : Nat) : State :=
  let ms := (s.dom d).meas
  let st := s.srcState d
  if st = 2 || st = 3 then
    s.setSrcState d (if decide (32 ≤ ms.length) && (fitOf ms).close ms then 3 else 2)
  else s

/-- A measurement of a domain (R497): the last 64 no older than 10 s are held. -/
def State.addMeas (s : State) (d : Nat) (m : Meas) : State :=
  let keep (l : List Meas) : List Meas := lastN 64 ((l ++ [m]).filter (fun x => decide (m.x - x.x ≤ 320000000000)))
  let s := s.onDom d (fun x => { x with meas := keep x.meas })
  if s.tim.valid then s else s.judgeDom d

/-- The Sync of source time `t1` (1/32 ns, corrected) captured at `x` (R497). -/
def State.takeSync (s : State) (d : Nat) (t1 x : Int) : State :=
  let s := s.onDom d (fun y => { y with lastSync := some (t1, x), syncPend := none })
  s.addMeas d { x := x, y := t1 + (s.dom d).delay - x }

/-- PTP_SYNC: a Sync of the master, or the Follow_Up that completes a two-step one (R497). -/
def ptpSync (m : PtpSync) (s : State) : State :=
  s.eachDom m.hdr (fun s d => s.fromMaster d m.hdr) (fun s d =>
    if m.followUp then
      match (s.dom d).syncPend with
      | some p => if p.seq = m.hdr.seq then s.takeSync d (32 * (m.origin : Int) + (m.corr + p.corr) / 2048) p.x else s.domCount d 4
      | none => s.domCount d 4
    else
      let x := s.rxStamp m.hdr
      let s := (s.domCount d 0).setF (Reg.TIME_DOM_STATUS (d - 1)) 4 4 (b2n m.twoStep)
      if m.twoStep then s.onDom d (fun y => { y with syncPend := some { seq := m.hdr.seq, x := x, corr := m.corr } })
      else s.takeSync d (32 * (m.origin : Int) + m.corr / 2048) x)

/-- PTP_SYNC (R497). -/
def execPtpSync (m : PtpSync) (s : State) : Host.Outcome State Fault Refusal := finish s (ptpSync m s)

/-- PTP_ANNOUNCE: an Announce enters the selection of the domain's master (R495). -/
def ptpAnnounce (a : PtpAnnounce) (s : State) : State :=
  s.eachDom a.hdr (fun _ _ => true) (fun s d =>
    let mine (m : MasterRec) : Bool := m.ann.hdr.sender = a.hdr.sender && m.ann.hdr.port = a.hdr.port
    let now := 8 * a.hdr.cap.count + a.hdr.cap.phase
    let old := (s.dom d).masters.find? mine
    let rec_ : MasterRec := { ann := a, prev := old.map (·.last), last := now }
    let s := (s.domCount d 1).onDom d (fun x => { x with masters := x.masters.filter (fun m => !mine m) ++ [rec_] })
    let s := s.bmca d
    if s.fromMaster d a.hdr then s.onDom d (fun x => { x with leap61 := a.leap61, leap59 := a.leap59, utc := a.utc }) else s)

/-- PTP_ANNOUNCE (R495). -/
def execPtpAnnounce (a : PtpAnnounce) (s : State) : Host.Outcome State Fault Refusal := finish s (ptpAnnounce a s)

/-- PTP_DELAY_RESP: the answer to the outstanding request gives the mean path delay, end to end from the last Sync, or
peer to peer from the responder's turnaround (R497). -/
def ptpDelayResp (r : PtpResp) (s : State) : State :=
  let answers (s : State) (d : Nat) : Bool := (s.dom d).reqSent.elim false (fun q => q.seq = r.hdr.seq)
  s.eachDom r.hdr answers (fun s d =>
    let st := s.dom d
    let t3 := st.reqSent.elim 0 (·.x)
    let s := (s.domCount d 3).onDom d (fun x => { x with reqSent := none, logReq := r.logReq })
    if s.getF (Reg.TIME_DOM_CONFIG (d - 1)) 22 22 = 1 then
      s.onDom d (fun x => { x with delay := (s.rxStamp r.hdr - t3 - 32 * (r.turnaround : Int) - r.corr / 2048) / 2 })
    else match st.lastSync with
      | some (t1, t2) => s.onDom d (fun x => { x with delay := ((t2 - t1) + (32 * (r.recvNs : Int) - r.corr / 2048 - t3)) / 2 })
      | none => s)

/-- PTP_DELAY_RESP (R497). -/
def execPtpDelayResp (r : PtpResp) (s : State) : Host.Outcome State Fault Refusal := finish s (ptpDelayResp r s)

/-- Bytes of a PTP event message on a transport: Ethernet payload, or IP length (R495, R503). -/
def ptpLen (transport body : Nat) : Nat := if transport = 0 then body else if transport = 1 then body + 28 else body + 50

/-- PTP_PDELAY_REQ: a received Pdelay_Req is answered with a one-step Pdelay_Resp (R503). -/
def ptpPdelayReq (h : PtpHdr) (s : State) : State :=
  s.eachDom h (fun s d => s.getF (Reg.TIME_DOM_CONFIG (d - 1)) 22 22 = 1) (fun s _ => s.packetisePort h.port 7 5 (ptpLen h.transport 54))

/-- PTP_PDELAY_REQ (R503). -/
def execPtpPdelayReq (h : PtpHdr) (s : State) : Host.Outcome State Fault Refusal := finish s (ptpPdelayReq h s)

/-- PTP_DELAY_REQ_SEND: the domain's request leaves on its master's port in class 7 (R496, R503). -/
def ptpDelayReqSend (d : Nat) (c : Capture) (s : State) : State :=
  match (s.dom d).master with
  | none => s
  | some m =>
    let cfg := s.getR (Reg.TIME_DOM_CONFIG (d - 1))
    let comp := 32 * fromBits 16 (s.getF (Reg.TIME_TSU_COMP (4 * m.ann.hdr.port)) 31 16)
    let q : ReqSent := { seq := (s.dom d).reqSeq, x := c.x + comp }
    let s := s.onDom d (fun x => { x with reqSent := some q, reqSeq := (x.reqSeq + 1) % 65536 })
    (s.domCount d 2).packetisePort m.ann.hdr.port 7 5 (ptpLen (bits cfg 21 20) (if bit cfg 22 then 54 else 44))

/-- PTP_DELAY_REQ_SEND (R496). -/
def execPtpDelayReqSend (d : Nat) (c : Capture) (s : State) : Host.Outcome State Fault Refusal := finish s (ptpDelayReqSend d c s)

/-- PTP_DOMAIN_LOST: no Announce within announceReceiptTimeout, or no measurement in 16 Sync intervals (R497). -/
def ptpDomainLost (d : Nat) (s : State) : State :=
  let st := s.srcState d
  if st = 2 || st = 3 then
    let drop (x : DomSt) : DomSt :=
      { x with master := none, masters := x.masters.filter (fun m => some m ≠ x.master), meas := [], syncPend := none, reqSent := none, lastSync := none, lockTicks := 0 }
    ((s.onDom d drop).setSrcState d 4).domCount d 5
  else s

/-- PTP_DOMAIN_LOST (R497). -/
def execPtpDomainLost (d : Nat) (s : State) : Host.Outcome State Fault Refusal := finish s (ptpDomainLost d s)

/-! ### The external input and outputs (R504, R505) -/

/-- One bit of the CRC-16 of R504. -/
def crc16Bit (c : BitVec 16) (b : Bool) : BitVec 16 :=
  let top := c.getLsbD 15 != b
  (c <<< 1) ^^^ (if top then 0x1021#16 else 0#16)

/-- The CRC-16 of R504: polynomial 0x1021, initial value 0xFFFF, most significant bit first. -/
def crc16 (bs : List (BitVec 8)) : BitVec 16 :=
  bs.foldl (fun c b => [7, 6, 5, 4, 3, 2, 1, 0].foldl (fun c i => crc16Bit c (b.getLsbD i)) c) 0xFFFF#16

/-- The bytes of a number, most significant first. -/
def beBytes (n v : Nat) : List (BitVec 8) := (upTo n).map (fun i => BitVec.ofNat 8 (v / 256 ^ (n - 1 - i)))

/-- The number of bytes, most significant first. -/
def beNat (bs : List (BitVec 8)) : Nat := bs.foldl (fun n b => n * 256 + b.toNat) 0

/-- U in force (R494, R510). -/
def State.utcNow (s : State) : Int := fromBits 16 (s.getF Reg.TIME_UTC 15 0)

/-- The utc offset that the selected source supplies (R494). -/
def State.srcUtc (s : State) : Option Int :=
  let k := s.selSource
  if k = 3 then s.tim.ext.utc else if k = 0 then none else (s.dom k).utc

/-- The leap flags of the selected source (R494): leap61 and leap59. -/
def State.srcLeap (s : State) : Bool × Bool :=
  let k := s.selSource
  if k = 3 then (s.tim.ext.leap61, s.tim.ext.leap59) else if k = 0 then (false, false) else ((s.dom k).leap61, (s.dom k).leap59)

/-- The time-of-day frame that names second `sec` (R504). -/
def State.todBytes (s : State) (sec : Nat) : List (BitVec 8) :=
  let (l61, l59) := s.srcLeap
  let flags := b2n (s.locked s.selSource) + 2 * s.getF Reg.TIME_TB_STATUS 2 2 + 4 * b2n l61 + 8 * b2n l59 + 16 * b2n s.srcUtc.isSome
  let body := [0x4E#8, 0x59#8, 0x01#8, BitVec.ofNat 8 flags] ++ beBytes 6 sec ++ beBytes 2 (toBits 16 s.utcNow) ++ [BitVec.ofNat 8 s.selSource, 0#8]
  body ++ beBytes 2 (crc16 body).toNat

/-- TOD_OUT_FRAME: 500 ms after the edge of second S, a frame names second S + 1 (R504). -/
def todOutFrame (s : State) : State :=
  if !s.tim.valid then s else { s with pins := { s.pins with todOut := s.todBytes (s.now / 600 + 1) } }

/-- TOD_OUT_FRAME (R504). -/
def execTodOutFrame (s : State) : Host.Outcome State Fault Refusal := finish s (todOutFrame s)

/-- PPS_OUT_EDGE: the pulse rises at its second, and falls after width_ms; it is low while there is no grid (R504). -/
def execPpsOutEdge (rising : Bool) (s : State) : Host.Outcome State Fault Refusal :=
  finish s { s with pins := { s.pins with ppsOut := rising && s.tim.valid } }

/-- TIME_TOD_IN_FRAME: a frame with good sync and crc is kept; another is counted as TOD_FORMAT (R505). -/
def timeTodInFrame (bs : List (BitVec 8)) (count : Nat) (s : State) : State :=
  if bs.length = 16 && bs.take 2 = [0x4E#8, 0x59#8] && beNat (bs.drop 14) = (crc16 (bs.take 14)).toNat then
    let flags := (bs.getD 3 0).toNat
    let utc := if bit flags 4 then some (fromBits 16 (beNat ((bs.drop 10).take 2))) else none
    let f : TodFrame := { seconds := beNat ((bs.drop 4).take 6), locked := bit flags 0, leap61 := bit flags 2, leap59 := bit flags 3, utc := utc, count := count }
    { s with tim := { s.tim with ext := { s.tim.ext with frame := some f, leap61 := f.leap61, leap59 := f.leap59, utc := f.utc } } }
  else (s.incR Reg.TIME_TOD_ERRORS).raiseOnce fltTodFormat subjNone 600

/-- TIME_TOD_IN_FRAME (R505). -/
def execTimeTodInFrame (bs : List (BitVec 8)) (count : Nat) (s : State) : Host.Outcome State Fault Refusal := finish s (timeTodInFrame bs count s)

/-- A received 48-bit secondsField extended by the timebase's upper bits (R487). -/
def State.extendSec (s : State) (sec : Nat) : Nat := s.tim.sec / 2 ^ 48 * 2 ^ 48 + sec

/-- TIME_PPS_IN_EDGE: an edge marks the second that the last valid locked frame, received in the second before it, named:
one measurement. Sixteen consecutive pairs close to their fit lock the input (R505). -/
def timePpsInEdge (c : Capture) (s : State) : State :=
  match s.tim.ext.frame with
  | none => s
  | some f =>
    if f.locked && decide (f.count ≤ c.count ∧ c.count ≤ f.count + 800000000) then
      let x := c.x + 32 * fromBits 16 (s.getF Reg.TIME_EXT_STATUS 15 0)
      let m : Meas := { x := x, y := 32 * (s.extendSec f.seconds * 1000000000 : Nat) - x }
      let ms := lastN 16 (s.tim.ext.meas ++ [m])
      let s := { s with tim := { s.tim with ext := { s.tim.ext with meas := ms, frame := none } } }
      s.setSrcState 3 (if ms.length = 16 && (fitOf ms).close ms then 3 else 2)
    else s

/-- TIME_PPS_IN_EDGE (R505). -/
def execTimePpsInEdge (c : Capture) (s : State) : Host.Outcome State Fault Refusal := finish s (timePpsInEdge c s)

/-- EXT_INPUT_LOST: 3 s without a pair (R505). -/
def extInputLost (s : State) : State :=
  ({ s with tim := { s.tim with ext := { s.tim.ext with meas := [], lockTicks := 0 } } }).setSrcState 3 4

/-- EXT_INPUT_LOST (R505). -/
def execExtInputLost (s : State) : Host.Outcome State Fault Refusal := finish s (extInputLost s)

/-- REFCLK_LOST: the timebase PLL loses lock (R506, R507). -/
def execRefclkLost (s : State) : Host.Outcome State Fault Refusal :=
  finish s ((s.setF Reg.TIME_TB_STATUS 5 5 0).raise fltRefclkLost subjNone)

/-! ### Selection, holdover and steps (R494, R498 to R500) -/

/-- The holdover bits (R500, R507, R54). -/
def State.setHoldover (s : State) (b : Bool) : State := (s.setF Reg.TIME_TB_STATUS 2 2 (b2n b)).setF Reg.DEV_TICK_STATUS 17 17 (b2n b)

/-- The selected source shown (R507, R513). -/
def State.setSource (s : State) (k : Nat) : State :=
  ((s.setF Reg.TIME_TB_STATUS 1 0 k).setF (Reg.TIME_DOM_STATUS 0) 3 3 (b2n (k = 1))).setF (Reg.TIME_DOM_STATUS 1) 3 3 (b2n (k = 2))

/-- The increment that R489 gives for the terms f and p, 32 fractional nanosecond bits; nominally 1.25 ns (R488). -/
def State.termInc (s : State) : Int := 0x140000000 + 0x140000000 * (s.tim.f + s.tim.p) / 1000000000000

/-- The increment in force: that of the last boundary's record, nominal before the first (R489, R491). -/
def State.increment (s : State) : Nat := s.tim.recs.getLast?.elim 0x140000000 (·.inc)

/-- What the registers show of the timebase's terms (R509). -/
def State.showTerms (s : State) : State :=
  let s := s.setR64 Reg.TIME_TB_INCREMENT (s.increment % 2 ^ 40)
  let s := (s.setR Reg.TIME_TB_FREQ (toBits 32 s.tim.f)).setR Reg.TIME_TB_PHASE (toBits 32 s.tim.p)
  s.setR64 Reg.TIME_TB_RESIDUAL (toBits 64 s.tim.theta)

/-- The record of the boundary with the timebase and the terms as an event of that boundary leaves them (R489, R491). -/
def State.relatch (s : State) : State :=
  let recs := match s.tim.recs.getLast? with
    | some r => s.tim.recs.dropLast ++ [{ r with tb := s.tbVal, inc := s.termInc.toNat }]
    | none => s.tim.recs
  ({ s with tim := { s.tim with recs := recs } }).showTerms

/-- θ, f and p from the selected source (R489, R498). -/
def State.putTerms (s : State) : State :=
  let k := s.selSource
  let th := s.srcTheta k
  { s with tim := { s.tim with theta := th, f := clampI (-200000000) 200000000 (s.srcFit k).freq, p := clampI (-10000000) 10000000 (100 * th) } }

/-- SOURCE_SWITCH: the selected source changes at a boundary, whose terms it gives, and nothing is stepped by it (R498). -/
def sourceSwitch (s : State) : State :=
  let w := s.wantSource
  if !s.tim.valid || w = 0 || w = s.selSource then s
  else
    let old := if s.locked s.selSource then s.tim.fHist.dropLast else s.tim.fHist
    let s := ((s.setSource w).setHoldover false).putTerms
    let s := ({ s with tim := { s.tim with fHist := lastN 600 (old ++ [s.tim.f]) } }).relatch
    (s.incR Reg.TIME_SWITCHES).raise fltSourceSwitch subjNone

/-- SOURCE_SWITCH (R498). -/
def execSourceSwitch (s : State) : Host.Outcome State Fault Refusal := finish s (sourceSwitch s)

/-- HOLDOVER: with no source LOCKED, f is held at its mean over the last 600 ticks and p is 0 (R500). -/
def holdover (s : State) : State :=
  if !s.tim.valid || s.wantSource ≠ 0 || s.getF Reg.TIME_TB_STATUS 2 2 = 1 then s
  else
    let h := s.tim.fHist
    let mean : Int := if h = [] then s.tim.f else h.foldl (· + ·) 0 / h.length
    let s := ({ s with tim := { s.tim with f := mean, p := 0 } }).relatch
    ((s.setSource 0).setHoldover true).raise fltHoldover subjNone

/-- HOLDOVER (R500). -/
def execHoldover (s : State) : Host.Outcome State Fault Refusal := finish s (holdover s)

/-- TIMEBASE_INITIAL_SET: the first source that becomes LOCKED sets the timebase to its time at unit count `count`, and f
takes its frequency; ticks start at the next boundary (R499). -/
def timebaseInitialSet (count : Nat) (s : State) : State :=
  if s.tim.valid || s.tim.startNext then s
  else match s.ranks.find? s.locked with
    | none => s
    | some k =>
      let fit := s.srcFit k
      let x : Int := 40 * (count : Int)
      let ns32 := (fit.at_ x + x).toNat
      let s := (s.setTb (ns32 * 2 ^ 27)).setSource k
      { s with tim := { s.tim with count := count, f := clampI (-200000000) 200000000 fit.freq, p := 0, startNext := true } }

/-- TIMEBASE_INITIAL_SET (R499). -/
def execTimebaseInitialSet (count : Nat) (s : State) : Host.Outcome State Fault Refusal := finish s (timebaseInitialSet count s)

/-- TIME_SOURCE: forces a source, or returns to ranking (R498, R649). -/
def timeSource (m : Msg) (k : Nat) (s : State) : State :=
  s.request m 0x0201 .both (fun s _ rto =>
    if 3 < k then s.reply rto stMalformed
    else ({ s with tim := { s.tim with forced := k } }).reply rto stOK)

/-- TIME_SOURCE (R498). -/
def execTimeSource (m : Msg) (k : Nat) (s : State) : Host.Outcome State Fault Refusal := finish s (timeSource m k s)

/-- TIME_STEP_APPROVE: names a boundary at least 2 ticks ahead for the pending step; after a step has cleared
step_pending it is ALREADY_COMPLETE (R498). An approval that waits is replaced, and ends ABORTED. [DEDUCED, notes/assumptions 38] -/
def timeStepApprove (m : Msg) (ta : Nat) (s : State) : State :=
  s.request m 0x0202 .both (fun s _ rto =>
    if s.getF Reg.TIME_TB_STATUS 3 3 = 0 then s.reply rto (if s.getR Reg.TIME_STEPS = 0 then stInvalid else stAlready)
    else if ta < s.now + 2 then s.reply rto stInvalid
    else
      let s := match s.tim.stepAt with
        | some (_, _, r) => s.reply r stAborted
        | none => s
      { s with tim := { s.tim with stepAt := some (ta, s.selSource, rto) } })

/-- TIME_STEP_APPROVE (R498). -/
def execTimeStepApprove (m : Msg) (ta : Nat) (s : State) : Host.Outcome State Fault Refusal := finish s (timeStepApprove m ta s)

/-- TIME_STEP: at the approved boundary the timebase steps by whole ticks, if the step is still pending for the same source
and every leg is IDLE or the device is in maintenance mode; otherwise the approval ends ABORTED (R498). -/
def timeStep (s : State) : State :=
  match s.tim.stepAt with
  | none => s
  | some (ta, src, rto) =>
    if s.now < ta then s
    else
      let s := { s with tim := { s.tim with stepAt := none } }
      if s.now = ta && s.getF Reg.TIME_TB_STATUS 3 3 = 1 && s.selSource = src && (s.liveLegs = [] || s.boot.maint) then
        let n := roundDivI (3 * s.tim.theta) 5000000
        let t := ((s.now : Int) + n).toNat
        let rest := s.tim.theta - ((tickNs t : Int) - tickNs ta)
        let s := { s with tim := { s.tim with tick := t, theta := rest, p := clampI (-10000000) 10000000 (100 * rest) } }
        let s := (s.setTb (tickNs t * 2 ^ 32)).relatch
        let s := ((s.setF Reg.TIME_TB_STATUS 3 3 0).incR Reg.TIME_STEPS).setR64 Reg.DEV_TICK_NUMBER t
        (s.setF Reg.DEV_TICK_STATUS 9 0 (t % 600)).reply rto stOK
      else s.reply rto stAborted

/-- TIME_STEP (R498). -/
def execTimeStep (s : State) : Host.Outcome State Fault Refusal := finish s (timeStep s)

/-- LEAP_SECOND: at the second boundary at which UTC, computed with the old U, would reach 00:00:00, an announced leap
changes U (R494). [DEDUCED, notes/assumptions 38] -/
def leapSecond (s : State) : State :=
  let (l61, l59) := s.srcLeap
  let u := s.utcNow
  if s.tim.valid && s.now % 600 = 0 && ((s.now / 600 : Nat) - u) % 86400 = 0 && (l61 || l59) && s.tim.utcLeap = 0 then
    let d : Int := if l61 then 1 else -1
    ({ s with tim := { s.tim with utcLeap := d } }).setF Reg.TIME_UTC 15 0 (toBits 16 (u + d))
  else s

/-- LEAP_SECOND (R494). -/
def execLeapSecond (s : State) : Host.Outcome State Fault Refusal := finish s (leapSecond s)

/-! ### The boundary (R489 to R491, R497 to R500) -/

/-- The first tick whose boundary is at or after a time in 2^-32 ns. -/
def tickAfter (v : Nat) : Nat :=
  let ns := ceilDiv v (2 ^ 32)
  let t := ns / 1000000000 * 600 + ns % 1000000000 * 3 / 5000000
  if ns ≤ tickNs t then t else t + 1

/-- The timebase runs to the first cycle at or past the boundary of tick `t`, where the tick begins (R490, R491). -/
def State.runTo (s : State) (t : Nat) : State :=
  let inc := s.increment
  let goal := tickNs t * 2 ^ 32
  let n := if inc = 0 then 0 else ceilDiv (goal - s.tbVal) inc
  let s := s.setTb (s.tbVal + n * inc)
  { s with tim := { s.tim with tick := t, count := (s.tim.count + n) % 2 ^ 64 } }

/-- A domain's state before its measurements are looked at: DISABLED while not enabled; one that is enabled or was LOST
listens (R497). -/
def State.domListen (s : State) (d : Nat) : State :=
  if s.getF (Reg.TIME_DOM_CONFIG (d - 1)) 23 23 = 0 then s.setSrcState d 0
  else if s.srcState d = 4 || s.srcState d = 0 then s.setSrcState d 1 else s

/-- The domains at a boundary: a LOST one listens again, ports that went down leave the selection, and the states follow the
measurements (R496, R497). -/
def State.domsBoundary (s : State) : State :=
  let s := s.each [1, 2] (fun s d =>
    let s := s.domListen d
    let s := s.onDom d (fun x => { x with meas := x.meas.filter (fun m => decide (s.xNow - m.x ≤ 320000000000)) })
    let s := (s.bmca d).judgeDom d
    (s.onDom d (fun x => { x with lockTicks := if s.locked d then x.lockTicks + 1 else 0 })).showDom d)
  let s := if s.srcState 3 = 4 || (s.srcState 3 = 0 && s.ranks.contains 3) then s.setSrcState 3 1 else s
  { s with tim := { s.tim with ext := { s.tim.ext with lockTicks := if s.locked 3 then s.tim.ext.lockTicks + 1 else 0 } } }

/-- The terms f and p from the selected source, and the pending step (R498). -/
def State.slew (s : State) : State :=
  let k := s.selSource
  if k = 0 || !s.locked k then
    let s := { s with tim := { s.tim with p := 0 } }
    if s.getF Reg.TIME_TB_STATUS 2 2 = 1 then s.incR Reg.TIME_HOLDOVER_TICKS else s
  else
    let s := s.putTerms
    let th := s.tim.theta
    let s := { s with tim := { s.tim with fHist := lastN 600 (s.tim.fHist ++ [s.tim.f]) } }
    if 1000000 < th || th < -1000000 then
      let s := (s.setF Reg.TIME_TB_STATUS 3 3 1).raiseOnce fltStepPending subjNone 600
      if s.tim.stepTold.elim true (fun t => decide (t + 600 ≤ s.now)) then
        ({ s with tim := { s.tim with stepTold := some s.now } }).notify 0x800D 0 0 [(8, toBits 64 th)]
      else s
    else s.setF Reg.TIME_TB_STATUS 3 3 0

/-- U at a second boundary: what the selected source supplies, else the default (R494). -/
def State.utcBoundary (s : State) : State :=
  if s.now % 600 ≠ 0 then s
  else
    let u := s.utcNow
    let want := match s.srcUtc with
      | some v => v
      | none => fromBits 16 (s.getF Reg.TIME_UTC 31 16)
    let leaps := s.srcLeap.1 || s.srcLeap.2
    -- a leap just applied holds until the source announces the new offset
    if s.tim.utcLeap ≠ 0 && (leaps || want ≠ u) && want + s.tim.utcLeap = u then s
    else ({ s with tim := { s.tim with utcLeap := if leaps then s.tim.utcLeap else 0 } }).setF Reg.TIME_UTC 15 0 (toBits 16 want)

/-- What the timebase's registers show (R53, R54, R507 to R509). -/
def State.showTim (s : State) : State :=
  let s := (s.setR64 Reg.DEV_TICK_NUMBER s.now).setF Reg.DEV_TICK_STATUS 9 0 (s.now % 600)
  let s := (s.setF Reg.DEV_TICK_STATUS 16 16 1).setF Reg.TIME_TB_STATUS 4 4 1
  s.showTerms

/-- The boundary of the time subsystem. Without a grid, ticks start once the timebase is set; until then NO_SOURCE is
raised each 600 nominal ticks (R499). [DEDUCED, notes/assumptions 38] -/
def State.timBoundary (s : State) : State :=
  if !s.tim.valid && !s.tim.startNext then
    let n := s.tim.noSrc + 1
    let s := ({ s with tim := { s.tim with noSrc := n % 600 } }).each [1, 2] (fun s d => s.domListen d)
    if n = 600 then s.raise fltNoSource subjNone else s
  else
    let t := if s.tim.valid then s.now + 1 else tickAfter s.tbVal
    let s := (s.runTo t).domsBoundary.slew
    let s := { s with tim := { s.tim with valid := true, startNext := false } }
    let r : TsuRec := { cb := s.tim.count, tb := s.tbVal, inc := s.termInc.toNat }
    ({ s with tim := { s.tim with recs := lastN 2 (s.tim.recs ++ [r]) } }).utcBoundary.showTim

end Sys2Proof.Machine
end

