-- ==== Sys2Proof/Machine/Boot.lean ====
section
/-!
DEFINITION. Start-up after power-on and cold reset (15 R554 to R569; 16 R581 to R583, R594, R597 to R603; 17 R614, R618, R626;
12 R442 to R446, R471, R477; 19 R683, R687): the strap, the option block, firmware and image selection, the fit checks,
training, the self-tests and the seal.
-/

namespace Sys2Proof.Machine

/-- BOOT STRAP_FAULT (R573). -/
def fltStrap : Nat := faultCode 1 4 1
/-- BOOT OPTION_FALLBACK (R573). -/
def fltOptionFallback : Nat := faultCode 1 0 2
/-- BOOT OPTION_NONE (R573). -/
def fltOptionNone : Nat := faultCode 1 4 3
/-- BOOT FIRMWARE_FALLBACK (R573). -/
def fltFirmwareFallback : Nat := faultCode 1 0 4
/-- BOOT FIRMWARE_NONE (R573). -/
def fltFirmwareNone : Nat := faultCode 1 4 5
/-- BOOT CONFIG_FALLBACK (R605). -/
def fltConfigFallback : Nat := faultCode 1 0 0x0A
/-- BOOT CONFIG_NONE (R605). -/
def fltConfigNone : Nat := faultCode 1 4 0x0B
/-- BOOT RECORD_SKIPPED (R605). -/
def fltRecordSkipped : Nat := faultCode 1 0 0x0C
/-- BOOT FALLBACK (R631). -/
def fltFallback : Nat := faultCode 1 1 0x16
/-- BOOT IO_BANK_MISMATCH (R715). -/
def fltIoBank : Nat := faultCode 1 0 0x17

/-! ### BOOT_STATUS, halts and READY (R568, R569, R574) -/

/-- Bits of BOOT_STATUS set; a change signals vector 19 (R638). -/
def State.bootStatus (s : State) (hi lo v : Nat) : State :=
  let s' := s.setF Reg.BOOT_STATUS hi lo v
  if s'.getR Reg.BOOT_STATUS = s.getR Reg.BOOT_STATUS then s' else s'.vector19

/-- Start-up reaches step `n` of R567. -/
def State.bootStep (s : State) (n : Nat) : State := s.bootStatus 3 0 n

/-- Start-up halts at a fault that has been raised (R568). -/
def State.haltAt (s : State) (code : Nat) : State :=
  (({ s with boot := { s.boot with halted := true } }).bootStatus 3 0 15).bootStatus 31 16 code

/-- A fatal fault before the first configured state halts start-up (R568). -/
def State.haltOn (s : State) (code subject : Nat) : State := (s.raise code subject).haltAt code

/-- A step of start-up runs unless start-up has halted, waits for the host, or is held in reset. -/
def State.go (s : State) (f : State → State) : State :=
  if s.boot.halted || s.boot.waitHost || s.boot.inReset then s else f s

/-- Is READY high (R569)? -/
def State.ready (s : State) : Bool := s.sealed && s.tim.valid && !s.boot.planeStopped && !s.boot.maint

/-- READY as BOOT_STATUS shows it (R574). During warm reset READY holds (R571). -/
def State.showReady (s : State) : State := if s.boot.warmRun then s else s.bootStatus 5 5 (b2n s.ready)

/-! ### The boot record (R629, R632) -/

/-- The boot record committed (R629, R664). -/
def State.commitBoot (s : State) (r : BootRec) : State :=
  ({ s with tly := { s.tly with boot := r } }).tallyCommit 1 0 64
    [(1, r.fwActive), (1, r.fwPrevious), (1, r.tzActive), (1, r.tzPrevious), (1, r.trial), (1, r.trialWarm), (2, 0), (8, r.activateTick), (8, r.confirmTick),
      (4, r.fwVersion), (4, r.fwPreviousVersion), (32, r.tzDigest.toNat)]

/-- An update journal record appended (R630). -/
def State.updJournal (s : State) (event result reason version : Nat) (digest : BitVec 384) (slotFlash : Nat) : State :=
  let first8 := (digest >>> 320).toNat
  let u : UpdRec := { tick := s.faultTick, event := event, result := result, reason := reason, version := version, digest8 := first8, slotFlash := slotFlash }
  let s := s.tallyCommit 2 s.tly.updJournal.length 32 [(8, u.tick), (1, event), (1, result), (2, reason), (4, version), (8, first8), (1, slotFlash), (7, 0)]
  { s with tly := { s.tly with updJournal := s.tly.updJournal ++ [u] } }

/-- The boot record after a fallback: the previous slots are active again (R626). -/
def BootRec.fellBack (r : BootRec) (now : Nat) : BootRec :=
  { r with fwActive := if r.fwPrevious = 0xFF then r.fwActive else r.fwPrevious, fwPrevious := r.fwActive, tzActive := if r.tzPrevious = 0xFF then r.tzActive else r.tzPrevious, tzPrevious := r.tzActive, trial := 4, confirmTick := now, fwVersion := r.fwPreviousVersion, fwPreviousVersion := r.fwVersion }

/-- BOOT_UPDATE_STATUS phase and trial_warm from the boot record (R632). -/
def State.showTrial (s : State) : State :=
  let r := s.tly.boot
  (s.setF Reg.BOOT_UPDATE_STATUS 2 0 (if r.trial = 1 then 3 else if r.trial = 2 then 4 else if r.trial = 3 then 5 else if r.trial = 4 then 6 else 0)).setF
    Reg.BOOT_UPDATE_STATUS 5 4 (Nat.min 3 r.trialWarm)

/-- A trial that a power-on or cold reset ends falls back; a swap that was only scheduled is forgotten (R626).
[DESIGN CHOICE, notes/assumptions 44] -/
def State.trialAtReset (s : State) : State :=
  let r := s.tly.boot
  if r.trial = 2 then
    let s := s.commitBoot (r.fellBack 0)
    (s.updJournal 7 0 0 s.tly.boot.fwVersion 0 s.tly.boot.fwActive).raise fltFallback subjNone
  else if r.trial = 1 then s.commitBoot { r with trial := 0 }
  else s

/-! ### What a reset keeps (R555, R577, R578, R687) -/

/-- The counters of R578, kept in the tally store (R664). [DESIGN CHOICE, notes/assumptions 46] -/
def State.commitCounters (s : State) : State :=
  s.tallyCommit 9 0 28 (s.tly.resetCounts.map (fun n => (4, n)) ++ [(8, s.tly.ticksInService)])

/-- Reset count `n` advanced as its reset ends (R578). [DESIGN CHOICE, notes/assumptions 46] -/
def State.countReset (s : State) (n : Nat) : State :=
  let counts := s.tly.resetCounts.zipIdx.map (fun (e : Nat × Nat) => if e.2 = n then (e.1 + 1) % 2 ^ 32 else e.1)
  let s := ({ s with tly := { s.tly with resetCounts := counts } }).commitCounters
  s.setR (Reg.BOOT_RESET_COUNT n) (counts.getD n 0)

/-- A cause bit of BOOT_RESET_CAUSE set as its reset ends (R576). -/
def State.resetCause (s : State) (n : Nat) : State := s.setF Reg.BOOT_RESET_CAUSE n n 1

/-- What survives a cold reset or a power-on: the tally store, the flashes, one-time key storage, what the outside holds at
the inputs, and the always-on latch; everything else is at its reset value (R555, R687). -/
def State.coldBase (s : State) : State :=
  let z := State.reset
  { z with
    pending := s.pending, out := s.out, free := s.free, tly := s.tly
    pins := { z.pins with fenceIn := s.pins.fenceIn, hbIn := s.pins.hbIn, svcMode := s.pins.svcMode }
    cip := { z.cip with keks := s.cip.keks }
    boot := { z.boot with env := s.boot.env, flash := s.boot.flash, mgmtKeys := s.boot.mgmtKeys, alwaysOnFatal := s.boot.alwaysOnFatal, presence := s.boot.presence } }

/-- One-time key storage as the registers show it (R151, R670). -/
def State.showKeys (s : State) : State :=
  let s := s.each (upTo 4) (fun s n =>
    let k := tget {} s.cip.keks n
    s.setR (Reg.CIP_KEK_STATUS n) (b2n k.written + b2n k.revoked * 2 + (if k.written then (Config.keyCheck k.key).toNat * 256 else 0)))
  s.each (upTo 2) (fun s n =>
    let k := tget {} s.boot.mgmtKeys n
    let s := s.setR (Reg.DEV_SVC_KEY_CHECK n) (if k.written then (Config.keyCheck k.key).toNat else 0)
    (s.setF Reg.DEV_SVC_STATUS (3 + n) (3 + n) (b2n k.written)).setF Reg.DEV_SVC_STATUS (5 + n) (5 + n) (b2n k.revoked))

/-- The code of the last fatal fault in the journal, or of the always-on latch (R577, R687). -/
def State.lastFatal (s : State) : Nat :=
  if s.boot.alwaysOnFatal ≠ 0 then s.boot.alwaysOnFatal
  else ((s.tly.journal.reverse.find? (fun e => classOf e.code = 4)).map (·.code)).getD 0

/-- The fields loaded from the tally store and one-time storage as a reset ends (R577, R578, R548, R609, R654, R674).
[DESIGN CHOICE, notes/assumptions 46] -/
def State.loadTally (s : State) : State :=
  let s := s.each (upTo 5) (fun s n => s.setR (Reg.BOOT_RESET_COUNT n) (s.tly.resetCounts.getD n 0))
  let s := s.setF Reg.BOOT_FATAL_CODE 15 0 s.lastFatal
  let s := (s.setR Reg.MGT_TALLY_SEQ s.tly.seq.toNat).setR64 Reg.MGT_TALLY_WRITES s.tly.writes
  let s := s.setR Reg.MGT_TALLY_STATUS (sumN (s.tly.recs.map (·.blocks)) % 2 ^ 18 + Nat.min 16383 s.tly.retired * 2 ^ 18)
  let s := (s.setR Reg.TWN_EPOCH s.tly.epoch.toNat).setF Reg.TWN_PAIR_STATUS 8 8 (b2n s.tly.fencedLatched)
  let s := { s with host := { s.host with svcCounter := s.tly.svcCeiling.map (fun (e : Nat × Nat) => (e.1, e.2 - 1)) } }
  s.invSummary.showKeys

/-! ### Steps 1 to 3 (R561 to R567) -/

/-- Step 1: the strap is measured and decoded (R561 to R563). [DESIGN CHOICE, notes/assumptions 45] -/
def State.strapStep (s : State) : State :=
  let s := s.bootStep 1
  let reading := sumN (s.boot.env.strap.map (· % 64)) / 8
  let fault := if reading = 0 then 1 else if reading = 63 then 2 else 0
  let code := reading / 4
  let s := s.setR Reg.BOOT_STRAP (reading + (if fault = 0 then code * 64 else 0) + fault * 1024)
  if fault ≠ 0 then s.haltOn fltStrap subjNone
  else
    let s := s.setF Reg.TWN_PAIR_STATUS 4 4 (bits code 3 3)
    ({ s with twn := { s.twn with roleB := bit code 3 }, boot := { s.boot with maint := bit code 0 } }).bootStatus 4 4 (bits code 0 0)

/-- The boot source of the strap (R562). -/
def State.strapSource (s : State) : Nat := bits (s.getF Reg.BOOT_STRAP 9 6) 2 1

/-- Is flash B the first flash: the boot source is 01 (R564, R582)? -/
def State.firstB (s : State) : Bool := s.strapSource = 1

/-- A flash by its letter. -/
def FlashSet.get (f : FlashSet) (b : Bool) : Flash := if b then f.b else f.a

/-- Is an option-block copy eligible (R564, R565)? -/
def OptionBlock.eligible (o : OptionBlock) : Bool :=
  o.right && o.laneEq.all (fun x => decide (x ≤ 15)) && o.ausilEq.all (fun x => decide (x ≤ 15))
    && decide (650 ≤ o.avsMin ∧ o.avsMin ≤ 850 ∧ o.avsMin ≤ o.avsMax ∧ o.avsMax ≤ 850)
    && o.ioBank.all (fun v => decide (17 ≤ v ∧ v ≤ 36))
    && (o.watchdogMs = 0 || decide (100 ≤ o.watchdogMs ∧ o.watchdogMs ≤ 10000))
    && (o.warmBudget = 0 || decide (600 ≤ o.warmBudget ∧ o.warmBudget ≤ 36000))

/-- A flash's copies by descending generation, each with its number and flash (R566). -/
def Flash.copies (f : Flash) (b : Bool) : List (OptionBlock × Nat × Bool) :=
  if f.opt0.generation < f.opt1.generation then [(f.opt1, 1, b), (f.opt0, 0, b)] else [(f.opt0, 0, b), (f.opt1, 1, b)]

/-- The attempt counter k written (R566). -/
def State.setAttempts (s : State) (k : Nat) : State :=
  ({ s with tly := { s.tly with optionAttempts := k } }).tallyCommit 7 0 4 [(4, k)]

/-- Step 2: the option block is loaded (R566). A load that a reset cuts short latches nothing and leaves the counter
advanced; the device stays in reset. [DESIGN CHOICE, notes/assumptions 45] -/
def State.optionStep (s : State) : State :=
  let s := s.bootStep 2
  let k := s.tly.optionAttempts
  let s := if k = 0 then s else s.countReset 4
  let s := s.setAttempts (k + 1)
  let first := s.firstB
  let list := (s.boot.flash.get first).copies first ++ (s.boot.flash.get !first).copies !first
  let e := list.filter (fun c => c.1.eligible)
  if s.boot.env.cut then { s with boot := { s.boot with inReset := true } }
  else if e.isEmpty then s.haltOn fltOptionNone subjNone
  else
    let i := (k / 3) % e.length
    let c := e.getD i ({}, 0, false)
    let s := { s with boot := { s.boot with opt := c.1, optLatched := true } }
    let s := s.setR Reg.BOOT_OPTION (c.2.1 + b2n c.2.2 * 2 + b2n (i ≠ 0) * 4 + Nat.min 255 k * 256)
    let s := s.setR Reg.BOOT_OPTION_GEN c.1.generation
    let s := s.setF Reg.BOOT_WATCHDOG 15 0 (if c.1.watchdogMs = 0 then 2000 else c.1.watchdogMs)
    let s := if i = 0 then s else s.raise fltOptionFallback subjNone
    s.setAttempts 0

/-- The service port's status (R651, R656, R670). -/
def State.showSvc (s : State) : State :=
  let on := s.boot.opt.servicePort
  let s := (s.setF Reg.DEV_SVC_STATUS 0 0 (b2n on)).setF Reg.DEV_SVC_STATUS 1 1 (b2n (on && s.boot.env.svcLink))
  let s := (s.setF Reg.DEV_SVC_STATUS 2 2 (b2n s.pins.svcMode)).setF Reg.DEV_SVC_STATUS 7 7 (b2n (s.tly.svcAddr.ip4 ≠ 0))
  s.setF Reg.DEV_SVC_STATUS 31 16 (if s.tly.svcAddr.port = 0 then 50740 else s.tly.svcAddr.port)

/-- Step 3: VDD_CORE goes to a value within the latched limits, in steps of 5 mV; the I/O banks are compared with io_bank; the
PLLs lock; the PCIe link trains (R567, R705, R707, R667). [DESIGN CHOICE, notes/assumptions 45, 48] -/
def State.supplyStep (s : State) : State :=
  let s := s.bootStep 3
  let o := s.boot.opt
  let v := o.avsMin + Config.freeNat s.free % ((o.avsMax - o.avsMin) / 5 + 1) * 5
  let s := { s with free := s.free + 1, boot := { s.boot with vddCore := v }, pins := { s.pins with svcMode := s.boot.env.svcMode } }
  let off (n : Nat) : Bool :=
    let m := s.boot.env.banks.getD n 1800
    let w := o.ioBank.getD n 18 * 100
    decide (w + 200 < m ∨ m + 200 < w)
  let s := s.each ((upTo 4).filter off) (fun s n => s.raise fltIoBank (subjUnit 1 0 n))
  let s := s.setR Reg.DEV_HOST_STATUS (s.boot.env.pcie.1 % 8 + s.boot.env.pcie.2 % 8 * 8 + b2n s.boot.env.busMaster * 64 + b2n s.boot.env.msix * 128)
  let s := s.showSvc
  if s.boot.env.refclk then s.setF Reg.TIME_TB_STATUS 5 5 1 else s.haltOn fltRefclkLost subjNone

/-! ### Step 4: firmware (R567, R614, R615, R618) -/

/-- The smaller Torzer slot of the two flashes that are usable (R581, R614 check 0x06). -/
def FlashSet.slotBytes (f : FlashSet) : Nat :=
  if !f.a.capacityOk then f.b.slotBytes else if !f.b.capacityOk then f.a.slotBytes else Nat.min f.a.slotBytes f.b.slotBytes

/-- The reason code of the first of checks 0x01 to 0x05 that a header fails; 0 when it passes (R614). -/
def ContHdr.check5 (h : ContHdr) (o : OptionBlock) : Nat :=
  if !(h.formOk && (h.hasFw || h.hasTz)) then 1
  else if !(h.part = 0x9256 && decide (h.revMin ≤ siliconRevision ∧ siliconRevision ≤ h.revMax)) then 2
  else if !((h.signer = o.signer0 && o.signer0 ≠ 0) || (h.signer = o.signer1 && o.signer1 ≠ 0)) then 3
  else if !h.signed then 4
  else if h.hasFw && decide (h.version < o.minFw) then 5
  else 0

/-- Check 0x06 of R614: the sections fit. -/
def ContHdr.fits (h : ContHdr) (z : Nat) : Bool := (!h.hasFw || decide (h.fwLen ≤ 16776640)) && (!h.hasTz || decide (h.tzLen ≤ z))

/-- The reason code with which R618 refuses a whole container from the SD card or the host; 0 when it passes. -/
def Container.bootReason (c : Container) (o : OptionBlock) (z : Nat) : Nat :=
  let h := c.hdr
  if !c.readOk then 1
  else if h.check5 o ≠ 0 then h.check5 o
  else if !h.fits z then 6
  else if !c.digestsOk then 9
  else if h.hasTz && c.torzer.reason z h.version ≠ 0 then 0x0A
  else if !h.hasFw then 1
  else 0

/-- Is a firmware slot valid (R618)? -/
def FwSlot.valid (x : FwSlot) (o : OptionBlock) : Bool := x.commit && x.hdr.check5 o = 0 && x.hdr.hasFw && x.digestOk

/-- The slots of the flashes in the order of R582, starting from slot `n`: flash, slot. -/
def slotOrder (firstB : Bool) (n : Nat) : List (Bool × Nat) := [(firstB, n), (!firstB, n), (firstB, 1 - n), (!firstB, 1 - n)]

/-- A firmware slot of a flash. -/
def Flash.fw (f : Flash) (n : Nat) : FwSlot := if n = 0 then f.fw0 else f.fw1
/-- A Torzer slot of a flash; unreadable where the capacity is not one of R581. -/
def Flash.tz (f : Flash) (n : Nat) : Torzer := if !f.capacityOk then { readOk := false } else if n = 0 then f.tz0 else f.tz1

/-- Firmware runs: its version and state formats, and the management cores started (R567, R673). -/
def State.runFirmware (s : State) (h : ContHdr) : State :=
  let s := { s with boot := { s.boot with fwVersion := h.version, fwWrite := h.stateWrite, fwReadMin := h.stateReadMin, fwReadMax := h.stateReadMax } }
  s.each (upTo 4) (fun s c => (s.setF (Reg.MGT_CORE_STATUS c) 1 0 1).setR (Reg.MGT_FW_VERSION c) h.version)

/-- Firmware from flash: the first valid slot; FIRMWARE_FALLBACK when it is not the first source tried (R567, R618). -/
def State.flashFirmware (s : State) (tried : Bool) : State :=
  let ok (c : Bool × Nat) : Bool := (s.boot.flash.get c.1).capacityOk && ((s.boot.flash.get c.1).fw c.2).valid s.boot.opt
  let order := slotOrder s.firstB s.tly.boot.fwActive
  match order.find? ok with
  | none => s.haltOn fltFirmwareNone subjNone
  | some c =>
    let s := if tried || order.head? ≠ some c then s.raise fltFirmwareFallback subjNone else s
    (s.bootStatus 8 7 (b2n c.1)).runFirmware ((s.boot.flash.get c.1).fw c.2).hdr

/-- Step 4: firmware from the boot source. From the host, start-up waits for a container (R567, R637, R675).
[DESIGN CHOICE, notes/assumptions 45] -/
def State.firmwareStep (s : State) : State :=
  let s := s.bootStep 4
  let o := s.boot.opt
  if s.strapSource = 3 && o.hostBoot then
    ({ s with boot := { s.boot with waitHost := true } }).setF Reg.BOOT_HOST_BOOT 0 0 1
  else if s.strapSource = 2 && o.sdBoot then
    let c := s.boot.env.cardCont
    if s.boot.env.card.any (·.readable) && c.bootReason o s.boot.flash.slotBytes = 0 then (s.bootStatus 8 7 2).runFirmware c.hdr
    else s.flashFirmware true
  else s.flashFirmware false

/-! ### Step 5: the image, modules and the card (R582, R583, R598, R599, R602, R603) -/

/-- What a candidate is: source, flash B, slot, slot bytes, and the image. -/
structure Candidate where
  source : Nat := 0
  flashB : Bool := false
  slot : Nat := 0
  bytes : Nat := 0
  image : Torzer := {}
  deriving DecidableEq, Repr

/-- The candidates in order, and whether the flash candidates stand in for another source (R582, R618).
[DESIGN CHOICE, notes/assumptions 45] -/
def State.imageCandidates (s : State) : List Candidate × Bool :=
  let src := s.getF Reg.BOOT_STATUS 8 7
  let flash := (slotOrder s.firstB s.tly.boot.tzActive).map (fun c =>
    let f := s.boot.flash.get c.1
    ({ source := b2n c.1, flashB := c.1, slot := c.2, bytes := f.slotBytes, image := f.tz c.2 } : Candidate))
  let cont := if src = 2 then some s.boot.env.cardCont else if src = 3 then s.boot.hostCont else none
  match cont with
  | none => (flash, false)
  | some c =>
    if c.hdr.hasTz then ([{ source := src, bytes := s.boot.flash.slotBytes, image := c.torzer }], false) else (flash, true)

/-- The image in use as BOOT_IMAGE_* shows it (R606 to R608). -/
def State.showImage (s : State) (c : Candidate) (fallback : Bool) : State :=
  let t := c.image
  let s := s.setF Reg.BOOT_IMAGE_STATUS 5 0 (c.slot + b2n c.flashB * 2 + c.source * 4 + 16 + b2n fallback * 32)
  let s := s.setF Reg.BOOT_IMAGE_STATUS 31 16 t.recordCount
  let s := ((s.setR Reg.BOOT_IMAGE_GEN t.generation).setR Reg.BOOT_IMAGE_VERSION t.version).setR Reg.BOOT_IMAGE_SKIPPED t.skipped
  s.each (upTo 8) (fun s n => s.setR (Reg.BOOT_IMAGE_DIGEST n) (t.digest.toNat / 2 ^ (32 * n)))

/-- The first valid candidate becomes the image; none halts start-up, or in maintenance mode leaves the empty configuration
(R582, R583, R588). -/
def State.imageStep (s : State) : State :=
  let s := s.bootStep 5
  let (cs, instead) := s.imageCandidates
  let fw := s.boot.fwVersion
  let bad := cs.takeWhile (fun c => c.image.reason c.bytes fw ≠ 0)
  let s := s.setF Reg.BOOT_IMAGE_STATUS 15 8 (bad.getLast?.elim 0 (fun c => c.image.reason c.bytes fw))
  match cs.drop bad.length with
  | [] => if s.boot.maint then s else s.haltOn fltConfigNone subjNone
  | c :: _ =>
    let fallback := instead || !bad.isEmpty
    let s := if fallback then s.raise fltConfigFallback subjNone else s
    let s := if c.image.skipped = 0 then s else s.raise fltRecordSkipped subjNone
    ({ s with boot := { s.boot with image := c.image } }).showImage c fallback

/-- The highest module power class a cage allows (R598). -/
def State.maxPower (s : State) (cage : Nat) : Nat :=
  match (s.invRec 1 cage).map (fun (r : InvRec) => r.want) with
  | some (.cage _ _ p _ _) => if p = 0 then 8 else p
  | _ => 8

/-- A cage read: its module's identity checked; high power requested of a CMIS module whose class is allowed; the port waits at
electrical idle for a module that fits to be ready; one that is no CMIS module reports nothing, and is ready once read
(R598, R602, R603). -/
def State.readCage (s : State) (cage : Nat) (m : Option Module) (start : Bool) : State :=
  let (s, used) := s.fitModule cage m start
  let faulty := m.any (fun (x : Module) => x.readable && x.fault)
  let s := { s with boot := { s.boot with moduleFault := if faulty then insertAsc cage s.boot.moduleFault else s.boot.moduleFault.filter (· ≠ cage) } }
  match m with
  | none => s.onPort cage (fun p => { p with moduleHold := true })
  | some m =>
    let high := used && m.cmis && decide (m.powerClass ≤ s.maxPower cage)
    let s := if used && !start && !m.cmis then { s with boot := { s.boot with moduleReady := insertAsc cage s.boot.moduleReady } } else s
    let s := if high then { s with boot := { s.boot with highPower := insertAsc cage s.boot.highPower } } else s
    s.onPort cage (fun p => { p with moduleHold := !(used && start && ((m.ready && !m.fault) || !m.cmis)) })

/-- The card read: identified, switched to 1.8 V when it answers S18A, fit-checked and mounted when it may be used (R599, R603,
R707). -/
def State.readCard (s : State) (c : Option Card) (low start : Bool) : State :=
  let bad := c.any (fun (x : Card) => x.s18a && !low)
  let c := c.map (fun (x : Card) => if x.s18a && !low then { x with readable := false } else x)
  let (s, used) := s.fitCard c start
  let s := { s with pins := { s.pins with sdPwr := c.isSome, sdVsel := c.any (fun (x : Card) => x.readable && x.s18a) && !bad } }
  { s with boot := { s.boot with sdState := if c.isNone then 0 else if used then 2 else 3 } }

/-- Did an item's fit refuse start-up (R603)? -/
def State.fitHalts (s : State) : Bool := s.tly.inv.any (fun e => e.2.fault = fltFitRefused && e.2.state ≠ invMatch)

/-- Step 5 after the image: the module cages, the card, the partner's entry, and the twin's mode (R567, R598, R599, R521). -/
def State.itemsStep (s : State) : State :=
  let mode := s.boot.image.device.elim 0 (·.pairMode)
  let s := { s with twn := { s.twn with paired := mode ≠ 0, cross := mode = 2, authSelf := mode = 0 || !s.twn.roleB } }
  let s := s.setF Reg.TWN_PAIR_STATUS 3 3 (b2n (mode = 2))
  let s := { s with boot := { s.boot with presence := (upTo 16).filter (fun c => (s.boot.env.modules.getD c none).isSome) } }
  let s := { s with tly := { s.tly with inv := s.tly.inv.map (fun (e : Nat × InvEntry) => (e.1, if e.1 < 1024 then { e.2 with fault := 0 } else e.2)) } }
  let s := s.each (upTo 16) (fun s c => s.readCage c (s.boot.env.modules.getD c none) true)
  let s := s.readCard s.boot.env.card s.boot.env.sdLow true
  let s := s.putInv { kind := 3, index := 0, state := invUnchecked }
  if s.fitHalts then s.haltAt fltFitRefused else s

/-! ### Step 6: memory (R442 to R446, R471, R477, R583, R597) -/

/-- The DIMMs found on channel `c`. -/
def State.envDimm (s : State) (c : Nat) : DimmPop := s.boot.env.dimms.getD c {}

/-- A channel's hubs read and fit-checked: whether its population may be trained (R442, R597, R603). -/
def State.readChannel (s : State) (c : Nat) : State × Bool :=
  let p := s.envDimm c
  let s := s.onChan c (fun x => { x with dimm := p, trained := s.boot.env.training.getD c [], slices := s.popSlices p })
  let (s, used) := s.fitDimm c p true
  (s, used && s.popOk p && p.dimms ≠ [])

/-- Does the image expect channel `c` empty (R593)? -/
def State.expectsEmpty (s : State) (c : Nat) : Bool :=
  match (s.invRec 0 c).map (fun (r : InvRec) => r.want) with
  | some (.dimm d _ _ _ _ _ _) => d = 0
  | _ => false

/-- The set points that no channel of `cs` fails (R444). [DESIGN CHOICE, notes/assumptions 47] -/
def State.keptSetPoints (s : State) (cs : List Nat) : List Nat :=
  (upTo (s.boot.image.device.elim 0 (fun d => d.rates.length))).filter (fun n =>
    cs.all (fun c => s.trainOutcome (s.chan c).dimm (s.chan c).trained n ≠ 2))

/-- The remap entries of the tally store that still name a stripe of the table and a slice of a channel in service (R477).
[DESIGN CHOICE, notes/assumptions 47] -/
def State.keptRemap (s : State) : Tbl (Nat × Nat) :=
  s.tly.remap.filter (fun e => decide (e.1 < s.dmc.stripes * 12) && s.chansUp.contains e.2.1 && decide (e.2.2 ≤ (s.chan e.2.1).slices))

/-- The remap table rebuilt: the tally store's entries, the slices they occupy and leave (R477).
[DESIGN CHOICE, notes/assumptions 47] -/
def State.rebuildRemap (s : State) : State :=
  let es := s.keptRemap
  let s := { s with dmc := { s.dmc with remap := es } }
  let s := s.each es (fun s e => s.onChan (e.1 % 12) (fun x => { x with vacant := insertAsc (e.1 / 12) x.vacant }))
  s.each es (fun s e => s.takeSlice e.2.1 (e.2.2 - 1))

/-- A channel that does not serve has its slices re-homed; one not lost before, and not expected empty, is reported
(R442, R472). [DESIGN CHOICE, notes/assumptions 47] -/
def State.absentChannel (s : State) (c : Nat) : State :=
  let s := if s.tly.chOut.contains c || (s.expectsEmpty c && (s.envDimm c).dimms = []) then s else (s.setChOut c true).raise fltChannelLost (subjChan c)
  match s.allocate c (s.entriesOn c) with
  | none => if s.boot.halted then s else s.haltOn fltReserveExhausted (subjChan c)
  | some (s, es) => if es.isEmpty then s else s.switchEntries es

/-- Step 6: SPD hubs, training, set points, stripes and the remap table (R444, R446, R567). The empty configuration reads
the hubs only (R583). [DESIGN CHOICE, notes/assumptions 47] -/
def State.memoryStep (s : State) : State :=
  let s := s.bootStep 6
  match s.boot.image.device with
  | none =>
    s.each (upTo 12) (fun s c =>
      let p := s.envDimm c
      s.putInv { kind := 0, index := c, state := invUnchecked, idCrc := p.dimms.head?.elim 0 (·.idCrc), summary := dimmSummary p })
  | some d =>
    let s := { s with dmc := { s.dmc with spareMode := d.spareRank, mirrored := d.mirroredStripes } }
    let s := { s with pins := { s.pins with ddrResetN := upTo 12 } }
    let (s, good) := (upTo 12).foldl (fun (a : State × List Nat) c => let (s, ok) := a.1.readChannel c; (s, if ok then a.2 ++ [c] else a.2)) (s, [])
    if s.fitHalts then s.haltAt fltFitRefused
    else
      let all := upTo d.rates.length
      let outcome (c n : Nat) : Nat := s.trainOutcome (s.chan c).dimm (s.chan c).trained n
      let live := good.filter (fun c => all.any (fun n => outcome c n ≠ 2))
      let s := s.each good (fun s c => s.each (all.filter (fun n => outcome c n = 1)) (fun s _ => s.raise fltTrainingMarginal (subjChan c)))
      let kept := s.keptSetPoints live
      let s := { s with dmc := { s.dmc with setPoints := kept, setPoint := kept.headD 0 } }
      let s := s.each live (fun s c => s.setChState c (if kept.isEmpty then chAbsent else if s.tly.chOut.contains c then chFenced else chActive))
      let stripe (c : Nat) : Nat := (s.chan c).slices - ceilDiv ((s.chan c).slices * d.reserveTwelfths) 12
      let n := match s.chansUp.map stripe with
        | [] => 0
        | x :: xs => xs.foldl Nat.min x
      let s := { s with dmc := { s.dmc with stripes := n } }
      let s := s.rebuildRemap
      let s := s.each s.chansUp (fun s c => match tfind c s.tly.spareUsed with
        | some r => (s.setF (Reg.DMC_CH_STATUS c) 6 6 1).setF (Reg.DMC_CH_STATUS c) 13 12 (r - 1)
        | none => s)
      let s := s.each (upTo 12) (fun s c => if (s.envDimm c).dimms = [] then s else s.showPop c)
      s.each ((upTo 12).filter (fun c => !s.chansUp.contains c)) (fun s c => s.absentChannel c)

/-! ### Steps 7 to 9 (R567, R594) -/

/-- A 32-bit word written to a register by the seal. -/
def State.sealWord (s : State) (d v : Nat) : State := s.setR d v

/-- Words written to the consecutive dwords from `d`. -/
def State.sealWords (s : State) (d : Nat) (ws : List Nat) : State := s.each ws.zipIdx (fun s e => s.setR (d + e.2) e.1)

/-- The gate registers of a port: its record, or the default of R369. [DESIGN CHOICE, notes/assumptions 48] -/
def State.sealGates (s : State) (p : Nat) : State :=
  let ws := ((s.boot.image.gates.find? (fun g => g.1 = p)).map (·.2)).getD defaultGates
  let s := s.setR (Reg.EGS_GATE_CONFIG p) (ws.headD 1)
  let s := s.each (upTo 64) (fun s i => s.setR (Reg.EGS_WINDOW p (i / 4) (i % 4)) (ws.getD (1 + i) 0))
  s.each (upTo 75) (fun s n => s.setR (Reg.EGS_GATE_LIST p n) (ws.getD (65 + n) 0))

/-- Every RWL field written from the image's records (R590, R594). TIME_UTC and TIME_EXT_STATUS keep their RO halves. -/
def State.sealRegs (s : State) : State :=
  let t := s.boot.image
  let s := s.each t.ports (fun s p => s.setR (Reg.NET_PORT_MODE p.1) p.2)
  let s := match t.time with
    | none => s
    | some ws =>
      let s := (s.setR Reg.TIME_TB_CONFIG (ws.getD 0 0)).setF Reg.TIME_UTC 31 16 (bits (ws.getD 1 0) 31 16)
      let s := (s.setR Reg.TIME_PPS_CONFIG (ws.getD 2 0)).setF Reg.TIME_EXT_STATUS 15 0 (ws.getD 3 0)
      s.each (upTo 64) (fun s n => s.setR (Reg.TIME_TSU_COMP n) (ws.getD (4 + n) 0))
  let s := s.each t.domains (fun s d => (s.setR (Reg.TIME_DOM_CONFIG (d.1 - 1)) d.2.1).setR (Reg.TIME_DOM_PORTS (d.1 - 1)) d.2.2)
  let s := s.each (upTo 16) (fun s p => s.sealGates p)
  let s := s.each t.bobbins (fun s b => (s.setR (Reg.BQ_BASE b.1) b.2.1).setR (Reg.BQ_CONFIG b.1) b.2.2)
  match t.device with
  | none => s
  | some d =>
    let s := s.setF Reg.DEV_ADMIT_CONFIG 5 0 d.headroom
    let rates := d.rates.getD 0 0 + d.rates.getD 1 0 * 2 ^ 8 + d.rates.getD 2 0 * 2 ^ 16 + d.rates.length * 2 ^ 24
    s.each (upTo 12) (fun s c => (s.setR (Reg.DMC_CH_RATES c) rates).setR (Reg.DMC_CH_RD_CONFIG c) (d.rdThreshold + d.blast * 2 ^ 14))

/-- An entry of the local address table (R65, R591). -/
def AddressRec.entry (a : AddressRec) : AddrEnt :=
  { ip6 := a.ip6, addr := a.addr, pair := a.pair, vid := a.vid, mac := a.mac, ownerB := a.ownerB }

/-- The image's tables put in place: addresses, image groups, guard sets (R591, R594). [DESIGN CHOICE, notes/assumptions 48] -/
def State.sealTables (s : State) : State :=
  let t := s.boot.image
  { s with net := { s.net with addrs := t.addresses.map AddressRec.entry }, cmp := { s.cmp with groups := t.groups, guardSets := t.guardSets } }

/-- Step 8: the configuration is sealed, unless the third fatal cold reset within 36,000 ticks halts start-up (R594, R687). -/
def State.sealStep (s : State) : State :=
  let s := s.bootStep 8
  if 3 ≤ s.tly.fatalTicks.length then
    ({ s with tly := { s.tly with fatalTicks := [] } }).haltOn fltFatalLoop subjNone
  else
    let s := s.sealTables.sealRegs
    ({ s with boot := { s.boot with confTick := s.now } }).bootStatus 6 6 1

/-- The GP pins that the image names as outputs for DIMM power (R589). -/
def State.gpOutputs (s : State) : BitVec 32 :=
  let ps := (s.boot.image.device.elim [] (·.dimmGp)).filter (· < 32)
  BitVec.ofNat 32 (ps.foldl (fun m p => m ||| 2 ^ p) 0)

/-- Step 9: ports and lanes leave idle, the Drover starts unless in maintenance mode, and the capacity is counted (R567,
R570, R571). -/
def State.launchStep (s : State) : State :=
  let s := s.bootStep 9
  let m := s.boot.maint
  let s := { s with pins := { s.pins with txIdle := false, gp := s.gpOutputs }, boot := { s.boot with planeStopped := false } }
  let s := s.setF Reg.DRV_STATUS 31 31 (b2n m)
  let s := s.recount
  let s := if s.tly.fencedLatched then ({ s with twn := { s.twn with pair := .fenced } }).setF Reg.TWN_PAIR_STATUS 2 0 5 else s
  s.showReady

/-- Steps 5 to 9. -/
def State.startRest (s : State) : State :=
  let s := s.go (fun s => s.imageStep)
  let s := s.go (fun s => s.itemsStep)
  let s := s.go (fun s => s.memoryStep)
  let s := s.go (fun s => (s.bootStep 7).selfTests s.boot.env.tests)
  let s := s.go (fun s => s.sealStep)
  s.go (fun s => s.launchStep)

/-- What ends a stretch of start-up: its faults are journalled, and the record is published (R679, R683, R686). -/
def State.startEnd (s : State) : State :=
  let s := s.commitFaults
  let s := s.setF Reg.BOOT_FATAL_CODE 15 0 s.lastFatal
  s.publishRecord

/-- Start-up from step 1 after a power-on (count 0) or a cold reset (count 1), with its cause bit of R576, if it has one. `swap` is a cold
reset into the images of an activation, which does not end its trial (R620, R626). -/
def State.startUp (s : State) (count : Nat) (cause : Option Nat) (swap : Bool := false) : State :=
  let s := s.coldBase
  let s := { s with boot := { s.boot with inReset := false } }
  let s := (s.loadTally).countReset count
  let s := match cause with
    | some n => s.resetCause n
    | none => s
  let s := if swap then { s with upd := { s.upd with trialFrom := s.tly.boot.activateTick } } else s
  let s := (if swap then s else s.trialAtReset).showTrial
  let s := s.rebuildRecord
  let s := s.go (fun s => s.strapStep)
  let s := s.go (fun s => s.optionStep)
  let s := s.go (fun s => s.supplyStep)
  let s := s.go (fun s => s.firmwareStep)
  s.startRest.startEnd

/-! ### Power-on and cold reset (R554, R687) -/

/-- POWER_ON: VDD_AON rises; start-up runs on the board as found. `flash` gives the flashes' contents where the board has
been given new ones (R554, R567). -/
def powerOn (env : BootEnv) (flash : Option FlashSet) (s : State) : State :=
  let fl := flash.getD s.boot.flash
  ({ s with boot := { s.boot with env := env, flash := fl, alwaysOnFatal := 0, thermalHold := false } }).startUp 0 (some 0)

/-- POWER_ON (R554). -/
def execPowerOn (env : BootEnv) (flash : Option FlashSet) (s : State) : Host.Outcome State Fault Refusal := finish s (powerOn env flash s)

/-- RESET_PIN: RESET_N low for 1 µs or more makes a cold reset; a device held by a thermal trip stays held (R554). -/
def resetPin (env : BootEnv) (s : State) : State :=
  if s.boot.thermalHold then s
  else ({ s with boot := { s.boot with env := env } }).startUp 1 (some 1)

/-- RESET_PIN (R567). -/
def execResetPin (env : BootEnv) (s : State) : Host.Outcome State Fault Refusal := finish s (resetPin env s)

/-- A fatal fault's cold reset counted towards FATAL_LOOP when it comes within 36,000 ticks of the first configured state
(R687). [DESIGN CHOICE, notes/assumptions 46] -/
def State.noteFatalReset (s : State) : State :=
  let d := s.now - s.boot.confTick
  { s with tly := { s.tly with fatalTicks := if s.sealed && decide (d ≤ 36000) then s.tly.fatalTicks ++ [d] else s.tly.fatalTicks } }

/-- A fatal fault in the queue is journalled, and then makes a cold reset; before the first configured state it halts start-up
instead (R554, R568, R680, R687). [DESIGN CHOICE, notes/assumptions 45, 49] -/
def State.settleFatal (s : State) : State :=
  match s.flt.queue.find? (fun f => classOf f.code = 4) with
  | none => s
  | some f =>
    let fatal := s.flt.queue.filter (fun f => classOf f.code = 4)
    let s := { s with flt := { s.flt with queue := s.flt.queue.filter (fun f => classOf f.code ≠ 4) } }
    let s := s.each fatal (fun s f => s.journal { f with hwQueued := f.hwQueued || s.boot.warmRun })
    if s.sealed then (s.noteFatalReset).startUp 1 (some 2) else s.haltAt f.code

end Sys2Proof.Machine
end

