-- ==== Sys2Proof/Machine/Bq.lean ====
section
/-!
DEFINITION. Bobbin queues (11): reservation, words and end marks, the consumer's operations, and flushing.
-/

namespace Sys2Proof.Machine

/-- BQ QUEUE_FULL (R436). -/
def fltQueueFull : Nat := faultCode 7 0 1
/-- BQ STAGING_ECC (R436). -/
def fltStagingEcc : Nat := faultCode 7 1 2
/-- BQ OWNER_VIOLATION (R436). -/
def fltOwnerViolation : Nat := faultCode 7 0 3

/-- The poison cause STAGING_ECC (R427). -/
def poisonStagingEcc : Nat := 2

/-- Is queue `q` enabled (R438)? -/
def State.bqEnabled (s : State) (q : Nat) : Bool := s.getF (Reg.BQ_CONFIG q) 4 4 = 1
/-- Size of queue `q` in words (R424). -/
def State.bqSize (s : State) (q : Nat) : Nat := if s.bqEnabled q then 2 ^ (s.getF (Reg.BQ_CONFIG q) 3 0 + 6) else 0
/-- The endpoint code of a queue's producer (R425, R438). -/
def State.bqProducer (s : State) (q : Nat) : Nat := s.getF (Reg.BQ_CONFIG q) 15 8
/-- The endpoint code of a queue's consumer (R425, R438). -/
def State.bqConsumer (s : State) (q : Nat) : Nat := s.getF (Reg.BQ_CONFIG q) 23 16

/-- Words from one pointer forward to another (R428). -/
def ptrDist (a b : BitVec 32) : Nat := (b - a).toNat

/-- Free space of a queue (R428). -/
def State.bqFree (s : State) (q : Nat) : Nat := s.bqSize q - ptrDist (s.bobbin q).head (s.bobbin q).write

/-- The words of a queue from its read pointer on. -/
def BqSt.unread (b : BqSt) : List BqWord := b.words.drop (ptrDist b.head b.read)

/-- Words waiting (R428). -/
def BqSt.waitingWords (b : BqSt) : Nat := ptrDist b.read b.write
/-- Packets waiting: END words between read and write (R428). -/
def BqSt.waitingPackets (b : BqSt) : Nat := (b.unread.filter (fun w => w.kind == .end_)).length
/-- A reserved packet has no final end mark yet (R439). -/
def BqSt.producing (b : BqSt) : Bool := b.left != 0 || b.heldAt.isSome

/-- An access by the unit that the image names; by any other unit it has no effect and is reported (R425). -/
def State.bqBy (s : State) (q unit owner : Nat) (k : State → State) : State :=
  if s.bqEnabled q && unit = owner then k s else s.raise fltOwnerViolation (subjBobbin q)

/-- BQ_RESERVE: room for a packet of `bytes`, or the whole packet dropped; in the cycle of a RELEASE the free space is
that of before it (R429, R431). [DESIGN CHOICE, notes/assumptions 8, 34] -/
def bqReserve (q unit bytes : Nat) (sameCycle : Bool) (s : State) : State :=
  s.bqBy q unit (s.bqProducer q) (fun s =>
    let b := s.bobbin q
    let n := ceilDiv bytes 16
    let free := if sameCycle then s.bqSize q - ptrDist b.lastHead b.write else s.bqFree q
    if b.producing then s
    else if free < n then (s.incR (Reg.BQ_FULL_DROPS q)).raiseOnce fltQueueFull (subjBobbin q) 600
    else s.onBobbin q (fun b => { b with left := n, eccHeld := false }))

/-- BQ_RESERVE (R429). -/
def execBqReserve (q unit bytes : Nat) (sameCycle : Bool) (s : State) : Host.Outcome State Fault Refusal :=
  finish s (bqReserve q unit bytes sameCycle s)

/-- The end mark of a packet: END, unless a word of it had an uncorrectable error (R427, R433). -/
def endMark (w : BqWord) (poison : Option Nat) (ecc : Bool) (last : Nat) : BqWord :=
  match poison with
  | some c => { w with kind := .endPoison, cause := c, last := last }
  | none => if ecc then { w with kind := .endPoison, cause := poisonStagingEcc, last := last } else { w with kind := .end_, cause := 0, last := last }

/-- A packet ended with this mark is counted (R440). -/
def State.bqCount (s : State) (q : Nat) (w : BqWord) : State :=
  match w.kind with
  | .end_ => s.incR (Reg.BQ_GOOD_PACKETS q)
  | .endPoison => s.incR (Reg.BQ_POISON_PACKETS q)
  | _ => s

/-- BQ_WORD_WRITE: the next word of the reserved packet (R426, R427); of a packet whose rest a flush discards, it only
counts down (R434). A producer that has reserved nothing writes nothing. [DESIGN CHOICE, notes/assumptions 34] -/
def bqWordWrite (q unit : Nat) (w : BqWord) (s : State) : State :=
  s.bqBy q unit (s.bqProducer q) (fun s =>
    let b := s.bobbin q
    if b.left = 0 then s
    else
      let ended := w.kind == .end_ || w.kind == .endPoison
      let left := if ended || w.kind == .held then 0 else b.left - 1
      if b.discard then
        s.onBobbin q (fun b => { b with left := left, discard := left != 0 || w.kind == .held, heldAt := if w.kind == .held then some b.write else none })
      else
        let w := if w.kind == .end_ then endMark w none b.eccHeld w.last
          else if w.kind == .endPoison then w
          else { w with cause := 0, last := 0 }
        let held := if w.kind == .held then some b.write else none
        let s := s.onBobbin q (fun b => { b with words := b.words ++ [w], write := b.write + 1, left := left, heldAt := held, eccHeld := b.eccHeld && !ended })
        let used := ptrDist (s.bobbin q).head (s.bobbin q).write
        let s := s.iff (decide (s.getR (Reg.BQ_PEAK_WORDS q) < used)) (fun s => s.setR (Reg.BQ_PEAK_WORDS q) used)
        s.bqCount q w)

/-- BQ_WORD_WRITE (R426). -/
def execBqWordWrite (q unit : Nat) (w : BqWord) (s : State) : Host.Outcome State Fault Refusal := finish s (bqWordWrite q unit w s)

/-- What a read returns to the consumer (R430). [DESIGN CHOICE, notes/assumptions 34] -/
def State.bqReturn (s : State) (q : Nat) (e : BqPortEvent) : State :=
  { s with bq := { s.bq with port := tset {} s.bq.port q e } }

/-- The word at read is returned and read advances; an uncorrectable error sets ecc and is reported (R430, R433). -/
def State.bqTake (s : State) (q : Nat) (ecc : Bool) : State :=
  match (s.bobbin q).unread with
  | [] => s.bqReturn q { empty := true }
  | w :: rest =>
    let ended (x : BqWord) : Bool := x.kind == .end_ || x.kind == .endPoison
    let unended := !(w :: rest).any ended
    let s := s.onBobbin q (fun b => { b with read := b.read + 1, waiting := false, waitEcc := false, eccHeld := b.eccHeld || (ecc && unended) })
    let s := s.bqReturn q { word := w, ecc := ecc }
    if ecc then s.raiseOnce fltStagingEcc (subjBobbin q) 600 else s

/-- BQ_END_MARK: the HELD word's tag is rewritten to END or END_POISON; a READ that waits for it returns (R427, R430). An
error found in the packet before this makes it END_POISON (R433). -/
def bqEndMark (q unit : Nat) (poison : Option Nat) (last : Nat) (s : State) : State :=
  s.bqBy q unit (s.bqProducer q) (fun s =>
    let b := s.bobbin q
    match b.heldAt with
    | none => s
    | some p =>
      if b.discard then s.onBobbin q (fun b => { b with heldAt := none, discard := false, eccHeld := false })
      else
        let w := endMark (b.words.getD (ptrDist b.head p) {}) poison (b.eccHeld || b.waitEcc) last
        let s := s.onBobbin q (fun b => { b with words := b.words.set (ptrDist b.head p) w, heldAt := none, eccHeld := false })
        let s := s.bqCount q w
        if b.waiting then s.bqTake q b.waitEcc else s)

/-- BQ_END_MARK (R427). -/
def execBqEndMark (q unit : Nat) (poison : Option Nat) (last : Nat) (s : State) : Host.Outcome State Fault Refusal :=
  finish s (bqEndMark q unit poison last s)

/-- BQ_READ: the consumer reads the word at read; on a HELD word it waits for the end mark (R430). `ecc` says that the
read finds an uncorrectable error. -/
def bqRead (q unit : Nat) (ecc : Bool) (s : State) : State :=
  s.bqBy q unit (s.bqConsumer q) (fun s =>
    match (s.bobbin q).unread with
    | w :: _ => if w.kind == .held then s.onBobbin q (fun b => { b with waiting := true, waitEcc := ecc }) else s.bqTake q ecc
    | [] => s.bqTake q ecc)

/-- BQ_READ (R430). -/
def execBqRead (q unit : Nat) (ecc : Bool) (s : State) : Host.Outcome State Fault Refusal := finish s (bqRead q unit ecc s)

/-- BQ_MARK: mark := read (R430). -/
def bqMark (q unit : Nat) (s : State) : State :=
  s.bqBy q unit (s.bqConsumer q) (fun s => s.onBobbin q (fun b => { b with mark := b.read }))

/-- BQ_MARK (R430). -/
def execBqMark (q unit : Nat) (s : State) : Host.Outcome State Fault Refusal := finish s (bqMark q unit s)

/-- BQ_REWIND: read := mark (R430). -/
def bqRewind (q unit : Nat) (s : State) : State :=
  s.bqBy q unit (s.bqConsumer q) (fun s => s.onBobbin q (fun b => { b with read := b.mark }))

/-- BQ_REWIND (R430). -/
def execBqRewind (q unit : Nat) (s : State) : Host.Outcome State Fault Refusal := finish s (bqRewind q unit s)

/-- BQ_RELEASE: head := mark; the words released leave the ring (R430). -/
def bqRelease (q unit : Nat) (s : State) : State :=
  s.bqBy q unit (s.bqConsumer q) (fun s =>
    s.onBobbin q (fun b => { b with words := b.words.drop (ptrDist b.head b.mark), lastHead := b.head, head := b.mark }))

/-- BQ_RELEASE (R430). -/
def execBqRelease (q unit : Nat) (s : State) : Host.Outcome State Fault Refusal := finish s (bqRelease q unit s)

/-- BQ_SKIP: read moves past the first final end mark at or after it; with none, to write, and not-done is returned
(R430). -/
def bqSkip (q unit : Nat) (s : State) : State :=
  s.bqBy q unit (s.bqConsumer q) (fun s =>
    let b := s.bobbin q
    match b.unread.findIdx? (fun w => w.kind == .end_ || w.kind == .endPoison) with
    | some i => (s.onBobbin q (fun b => { b with read := b.read + BitVec.ofNat 32 (i + 1) })).bqReturn q {}
    | none => (s.onBobbin q (fun b => { b with read := b.write })).bqReturn q { notDone := true })

/-- BQ_SKIP (R430). -/
def execBqSkip (q unit : Nat) (s : State) : Host.Outcome State Fault Refusal := finish s (bqSkip q unit s)

/-- BQ_FLUSH: bit i of BQ_FLUSH_n of an instance marks queue 32n + i for the next boundary (R434, R441). -/
def bqFlush (inst n value : Nat) (s : State) : State :=
  s.ctrlWrite (Reg.BQ_FLUSH inst n) value 0xFFFFFFFF (fun s =>
    let qs := ((upTo 32).filter (fun i => bit value i)).map (fun i => inst * 256 + n * 32 + i)
    { s with bq := { s.bq with flush := qs.foldl (fun l q => insertAsc q l) s.bq.flush } })

/-- BQ_FLUSH (R434). -/
def execBqFlush (inst n value : Nat) (s : State) : Host.Outcome State Fault Refusal := finish s (bqFlush inst n value s)

/-- A queue flushed: a READ that waits returns its HELD word; head, mark and read become write; the rest of a packet that
is being written is discarded and counts as a full drop (R434). [DESIGN CHOICE, notes/assumptions 34] -/
def State.flushQueue (s : State) (q : Nat) : State :=
  let s := if (s.bobbin q).waiting then s.bqTake q (s.bobbin q).waitEcc else s
  let mid := (s.bobbin q).producing
  let s := s.onBobbin q (fun b => { b with head := b.write, mark := b.write, read := b.write, lastHead := b.write, words := [], discard := b.producing, eccHeld := false })
  if mid then s.incR (Reg.BQ_FULL_DROPS q) else s

/-- The flushes due at a boundary (R434). -/
def State.bqBoundary (s : State) : State :=
  let qs := s.bq.flush
  ({ s with bq := { s.bq with flush := [] } }).each qs (fun s q => s.flushQueue q)

end Sys2Proof.Machine
end

