-- ==== Sys2Proof/Machine/Net.lean ====
section
/-!
DEFINITION. Ports and media ingress (02): frame acceptance, policing, ARP, Neighbour Solicitation, punt, ICE, DTLS,
jitter buffers, side switching and announcements.
-/

namespace Sys2Proof.Machine

/-! ### Frame acceptance (R66 to R81) -/

/-- The leg that holds a packet's lookup key (R70). -/
def State.lookupLeg (s : State) (pair vid : Nat) (a : FlowAddr) : Option Nat :=
  s.liveLegs.find? (fun l =>
    let d := (s.leg l).desc
    d.portPair = pair && (if d.tagged then d.vid else 0) = vid && d.localAddr = a.dst && d.localPort = a.dstPort
      && d.remoteAddr = a.src && d.remotePort = a.srcPort)

/-- The legs that use a local address and port (R69, R74). -/
def State.localUsers (s : State) (a : FlowAddr) : List Nat :=
  s.liveLegs.filter (fun l => let d := (s.leg l).desc; d.localAddr = a.dst && d.localPort = a.dstPort)

/-- The path of a UDP payload by its first two bytes (R71, R72). -/
inductive Path where
  | stun | dtls | srtp | srtcp | none
  deriving DecidableEq, Repr

/-- First-byte demultiplexing (R71, R72). -/
def demux (b0 b1 : Nat) : Path :=
  if b0 ≤ 3 then .stun
  else if 20 ≤ b0 ∧ b0 ≤ 63 then .dtls
  else if 128 ≤ b0 ∧ b0 ≤ 191 then (if 192 ≤ b1 ∧ b1 ≤ 223 then .srtcp else .srtp)
  else .none

/-- What the state of a leg lets pass: STUN and DTLS in ADMITTING, DTLS in RETIRING, everything in ACTIVE (R77). -/
def passes (st : LegState) (p : Path) : Bool :=
  match st with
  | .active => true
  | .admitting => p = .stun || p = .dtls
  | .retiring => p = .dtls
  | .fenced => false
  | .idle => false

/-- A packet put in line in order of arrival time-stamp, then port, then lane (R68). -/
def insertRx (p : RxPkt) : List RxPkt → List RxPkt
  | [] => [p]
  | q :: qs =>
    if p.tick < q.tick ∨ (p.tick = q.tick ∧ (p.ns < q.ns ∨ (p.ns = q.ns ∧ (p.port < q.port ∨ (p.port = q.port ∧ p.lane < q.lane))))) then
      p :: q :: qs
    else q :: insertRx p qs

/-- A packet in line for its processing tick. -/
def State.queueRx (s : State) (p : RxPkt) : State := { s with net := { s.net with inq := insertRx p s.net.inq } }

/-- The tap of ingress mirroring (R531): the authority sends a MIRROR record for each accepted packet of a leg whose fold it
holds, one record to a frame. [DESIGN CHOICE, notes/assumptions 51] -/
def State.mirrorTap (s : State) (p : RxPkt) : State :=
  match p.leg with
  | none => s
  | some l =>
    if s.twn.paired && (s.twn.pair = .paired || s.twn.pair = .syncing) && s.authority (s.leg l).desc.fold then
      let n := 16 + ceilDiv p.ipLen 8 * 8
      let s := s.sendAus 5 p.tick n [s.twn.mirrorTx % 65536, p.port, p.ipLen]
      ({ s with twn := { s.twn with mirrorTx := s.twn.mirrorTx + 1, mirrorBytes := s.twn.mirrorBytes + n } }).incR64 Reg.TWN_MIRROR_RECORDS
    else s

/-- R81 and the counting of an accepted packet: a marked packet is shed once the tick's totals are reached. -/
def State.acceptRx (s : State) (p : RxPkt) : State :=
  if p.mark && !p.mirrored && (decide (500000 ≤ s.net.tickPkts) || decide (83333333 ≤ s.net.tickBytes)) then s.dropNet 0x0E
  else
    let s := { s with net := { s.net with tickPkts := s.net.tickPkts + 1, tickBytes := s.net.tickBytes + p.ipLen } }
    let s := match p.leg with
      | some l => (s.rxCount l 0).rxCount l 1 p.ipLen
      | none => s
    (s.queueRx p).mirrorTap p

/-- R80: the SRTCP and STUN packet-rate buckets, in units of 1/600 packet. [DESIGN CHOICE, notes/assumptions 32] -/
def State.rateLimit (s : State) (l : Nat) (path : Path) (p : RxPkt) : State :=
  let g := s.leg l
  match path with
  | .srtcp => if 600 ≤ g.srtcpTok then (s.onLeg l (fun g => { g with srtcpTok := g.srtcpTok - 600 })).acceptRx p else s.dropNet 0x0D
  | .stun => if 600 ≤ g.stunTok then (s.onLeg l (fun g => { g with stunTok := g.stunTok - 600 })).acceptRx p else s.dropNet 0x0D
  | _ => s.acceptRx p

/-- A mirrored packet has passed the authority's policing: the standby's buckets follow, and it is accepted as it was there (R531,
R537). [DESIGN CHOICE, notes/assumptions 53] -/
def State.mirroredIn (s : State) (l : Nat) (path : Path) (p : RxPkt) : State :=
  let s := s.onLeg l (fun g =>
    { g with
      police := if p.mark then g.police else g.police - 24 * p.ipLen
      srtcpTok := if path = .srtcp then g.srtcpTok - 600 else g.srtcpTok
      stunTok := if path = .stun then g.stunTok - 600 else g.stunTok })
  (if p.mark then s.rxCount l 3 else s).acceptRx p

/-- R78 and R79: a packet that conforms removes 24 units a byte; one that does not is dropped or marked by the pair's
police action. [DESIGN CHOICE, notes/assumptions 32] -/
def State.police (s : State) (l : Nat) (path : Path) (p : RxPkt) : State :=
  let g := s.leg l
  if p.mirrored then s.mirroredIn l path p
  else if 24 * p.ipLen ≤ g.police then
    (s.onLeg l (fun g => { g with police := g.police - 24 * p.ipLen })).rateLimit l path p
  else if s.getF (Reg.NET_PORT_MODE (p.port % 8)) 8 8 = 1 then
    (s.rxCount l 3).rateLimit l path { p with mark := true }
  else (s.rxCount l 2).dropNet 0x0C

/-- R71, R77 and R78 for a packet of leg `l`. [DESIGN CHOICE, notes/assumptions 32] -/
def State.legPacket (s : State) (l : Nat) (path : Path) (p : RxPkt) : State :=
  if path = .none then s.dropNet 0x08
  else if passes (s.leg l).state path then s.police l path { p with leg := some l }
  else s.dropNet 0x0B

/-- The leg whose ICE record a STUN request names by its USERNAME, among the users of its local address and port: one whose
password its MESSAGE-INTEGRITY verifies under, if there is one (R74). -/
def State.stunLeg (s : State) (a : FlowAddr) (m : StunMsg) : Option Nat :=
  let named := (s.localUsers a).filter (fun l =>
    match (s.leg l).ice with
    | some r => r.localUfrag = m.userLocal && r.remoteUfrag = m.userRemote
    | none => false)
  (named.find? (fun l => (s.leg l).ice.map (·.pwd) == m.integrityPwd)).orElse (fun _ => named.head?)

/-- R70: a UDP packet to a local address goes to the leg that holds its key, to the ICE agent, to the punt ring, or is
dropped as NO_LEG. -/
def State.udpPacket (s : State) (f : FrameIn) (p : RxPkt) : State :=
  let path := demux f.b0 f.b1
  match s.lookupLeg (f.port % 8) f.vid f.addr with
  | some l => s.legPacket l path p
  | none =>
    if s.localUsers f.addr = [] then s.queueRx { p with body := .opaqueData }
    else match path, f.body with
      | .stun, .stun m =>
        (match s.stunLeg f.addr m with
         | some l => s.legPacket l .stun p
         | none => s.queueRx p)
      | _, _ => s.dropNet 0x07

/-- Is the body a PTP message? -/
def Body.isPtp : Body → Bool
  | .ptp .. => true
  | _ => false

/-- R67 steps 4 to 8 for an IP packet. -/
def State.ipPacket (s : State) (f : FrameIn) (p : RxPkt) : State :=
  let isLocal := (s.localEntry (f.port % 8) f.vid f.addr.dst).isSome
  if !f.l3Ok then s.dropNet 0x03
  else if f.fragment then s.dropNet 0x04
  else match f.body with
    | .neighbourSolicitation t =>
      if (s.localEntry (f.port % 8) f.vid t).isSome then s.queueRx p
      else if isLocal then s.queueRx p else s.dropNet 0x05
    | _ =>
      if f.udp then
        if f.body.isPtp then s
        else if !isLocal then s.dropNet 0x05
        else if !f.udpSumOk then s.dropNet 0x06
        else if 9216 < f.ipLen then s.dropNet 0x01
        else s.udpPacket f p
      else if isLocal then s.queueRx p
      else s.dropNet 0x05

/-- The checks of R67 after the FCS, and the traffic of R69. -/
def State.acceptFrame (s : State) (f : FrameIn) : State :=
  let p : RxPkt := { port := f.port, lane := f.lane, tick := s.now, ns := f.ns, ipLen := f.ipLen, vid := f.vid, addr := f.addr, body := f.body }
  if f.size < 64 ∨ 9238 < f.size then s.dropNet 0x01
  else if !s.dstOk f.port f.dst || decide (1 < f.qTags) || f.sTag then s.dropNet 0x02
  else match f.etype with
    | .other => s.dropNet 0x02
    | .pause => s
    | .ptp => s
    | .lldp => s.queueRx p
    | .arp =>
      (match f.body with
       | .arpRequest t =>
         if s.net.addrs.any (fun e => e.addr = t && e.pair = f.port % 8) && (s.localEntry (f.port % 8) f.vid t).isNone then s.dropNet 0x05
         else s.queueRx p
       | _ => s.queueRx p)
    | .ipv4 => s.ipPacket f p
    | .ipv6 => s.ipPacket f p

/-- Is a received frame a PTP message (R69)? -/
def FrameIn.isPtp (f : FrameIn) : Bool := f.etype = .ptp || f.body.isPtp

/-- A PTP event message is counted by the unit that stamps it (R516). -/
def State.ptpEvent (s : State) (f : FrameIn) : State :=
  match f.body with
  | .ptp true _ => s.incR (Reg.TIME_TSU_RX_EVENTS f.lane)
  | _ => s

/-- A management or signalling message is counted by the enabled domains that it names, and discarded (R495, R515). -/
def State.ptpOther (s : State) (f : FrameIn) : State :=
  match f.body with
  | .ptp _ (.some (dom, sdo)) =>
    s.each [0, 1] (fun s i =>
      let c := s.getR (Reg.TIME_DOM_CONFIG i)
      if bit c 23 && bits c 7 0 = dom && bits c 19 8 = sdo && bit (s.getR (Reg.TIME_DOM_PORTS i)) f.port then s.incR (Reg.TIME_DOM_CTR i 4) else s)
  | _ => s

/-- FRAME_RECEIVE (R66 to R81, R106, R516). [DESIGN CHOICE, notes/assumptions 31] -/
def receiveFrame (f : FrameIn) (s : State) : State :=
  if s.boot.inReset then s
  else if !f.fcsOk then s.dropNet 0x00
  else
    let s := (s.incR64 (Reg.NET_PORT_RX_FRAMES f.port)).incR64 (Reg.NET_PORT_RX_BYTES f.port) f.size
    let s := if f.isPtp then (s.ptpEvent f).ptpOther f else s
    if f.etype = .pause then s.incR64 (Reg.NET_PORT_RX_PAUSE f.port)
    else if s.boot.planeStopped || !s.tim.valid then (if f.isPtp then s else s.dropNet 0x16)
    else s.acceptFrame f

/-- FRAME_RECEIVE: a received frame is time-stamped and passes the acceptance checks, or is dropped with its cause
(R67). -/
def execFrameReceive (f : FrameIn) (s : State) : Host.Outcome State Fault Refusal := finish s (receiveFrame f s)

/-! ### Traffic that is not media (R69, R74 to R77) -/

/-- The first packet in line that arrived before this tick and satisfies `c`, taken out (R20, R68). -/
def State.takeRx (s : State) (c : RxPkt → Bool) : Option (RxPkt × State) :=
  match s.net.inq.find? (fun p => decide (p.tick < s.now) && c p) with
  | some p => some (p, { s with net := { s.net with inq := s.net.inq.erase p } })
  | none => none

/-- Is the packet an ARP request? -/
def RxPkt.isArp (p : RxPkt) : Bool := match p.body with | .arpRequest _ => true | _ => false
/-- Is the packet a Neighbour Solicitation? -/
def RxPkt.isNs (p : RxPkt) : Bool := match p.body with | .neighbourSolicitation _ => true | _ => false
/-- The STUN message of a packet that is on the STUN path. -/
def RxPkt.stunMsg (p : RxPkt) : Option StunMsg := match p.body with | .stun m => some m | _ => none

/-- Does the packet ask for a local address that this device answers for (R69)? [DESIGN CHOICE, notes/assumptions 32] -/
def State.asksLocal (s : State) (p : RxPkt) : Bool :=
  match p.body with
  | .arpRequest t => (s.localEntry (p.port % 8) p.vid t).isSome
  | .neighbourSolicitation t => (s.localEntry (p.port % 8) p.vid t).isSome
  | _ => false

/-- ARP_REQUEST: the next ARP request for a local address is answered in class 7 on its port (R69). -/
def execArpRequest (s : State) : Host.Outcome State Fault Refusal :=
  finish s (match s.takeRx (fun p => p.isArp && s.asksLocal p) with
    | some (p, s) => s.packetisePort p.port 7 1 28
    | none => s)

/-- NEIGHBOUR_SOLICITATION: the next one for a local address is answered with a Neighbour Advertisement (R69). -/
def execNeighbourSolicitation (s : State) : Host.Outcome State Fault Refusal :=
  finish s (match s.takeRx (fun p => p.isNs && s.asksLocal p) with
    | some (p, s) => s.packetisePort p.port 7 2 72
    | none => s)

/-- PUNT: the next packet of R69's last row goes to the punt ring when its port's bucket holds a packet, else it is
dropped as PUNT_LIMIT (R69). -/
def execPunt (s : State) : Host.Outcome State Fault Refusal :=
  finish s (match s.takeRx (fun p => p.leg.isNone && p.stunMsg.isNone && !s.asksLocal p) with
    | some (p, s) =>
      if 600 ≤ (s.port p.port).punt then
        (s.onPort p.port (fun x => { x with punt := x.punt - 600 })).puntItem { length := p.ipLen, addr := p.addr }
      else s.dropNet 0x10
    | none => s)

/-- Is the request from the leg's own remote transport address (R75, R76)? -/
def LegRt.ownRemote (g : LegRt) (a : FlowAddr) : Bool := g.desc.remoteAddr = a.src && g.desc.remotePort = a.srcPort

/-- A transport address as a key for the once-per-600-ticks limit of R75; nominated reports count apart. -/
def candKey (a : FlowAddr) (nom : Bool) : Nat := a.src.toNat * 65536 * 2 + a.srcPort * 2 + b2n nom

/-- R75: the report of a request from another remote transport address. [DESIGN CHOICE, notes/assumptions 32] -/
def State.candidate (s : State) (l : Nat) (a : FlowAddr) (nom : Bool) : State :=
  let g := s.leg l
  let k := candKey a nom
  let seen := g.cands.any (fun (k', _, t) => k' = k && decide (s.now < t + 600))
  if seen then s
  else
    let keep := g.cands.filter (fun (k', _, t) => k' != k && decide (s.now < t + 600))
    let s := s.onLeg l (fun g => { g with cands := keep ++ [(k, 0, s.now)] })
    s.notify (if nom then 0x8002 else 0x8001) 0 (subjLeg l) [(16, a.src.toNat), (2, a.srcPort)]

/-- R76: a valid request from the leg's own remote address renews consent; a stopped leg resumes at the next boundary. -/
def State.consent (s : State) (l : Nat) : State :=
  s.onLeg l (fun g => { g with consentTick := s.now, resumeNext := g.resumeNext || g.txStopped })

/-- Bytes of a Binding Success Response and of an error response, with MESSAGE-INTEGRITY and FINGERPRINT (R74). -/
def stunLen (conflict ip6 : Bool) : Nat := if conflict then 28 + 52 else if ip6 then 28 + 76 else 28 + 64

/-- R74 to R76 for a Binding Request. [DESIGN CHOICE, notes/assumptions 32] -/
def State.bindingRequest (s : State) (p : RxPkt) (m : StunMsg) : State :=
  match s.stunLeg p.addr m with
  | none => (match p.leg with | some l => s.rxCount l 12 | none => s).dropNet 0x09
  | some l =>
    let g := s.leg l
    let pwd := g.ice.map (·.pwd)
    let valid := m.integrityPwd.isSome && m.integrityPwd == pwd && m.fingerprint != some false
    if !valid then (s.rxCount l 12).dropNet 0x09
    else
      let s := s.rxCount l 11
      let s := s.packetisePort p.port 7 (if m.controlled then 4 else 3) (stunLen m.controlled g.desc.ip6) (some l)
      if g.ownRemote p.addr then s.consent l else s.candidate l p.addr m.useCandidate

/-- STUN_BINDING_REQUEST: the next Binding Request in line is answered or dropped as STUN_AUTH (R74 to R76). -/
def execStunBindingRequest (s : State) : Host.Outcome State Fault Refusal :=
  finish s (match s.takeRx (fun p => p.stunMsg.elim false (·.bindingRequest)) with
    | some (p, s) => (match p.stunMsg with | some m => s.bindingRequest p m | none => s)
    | none => s)

/-- STUN_OTHER: the next STUN message that is not a Binding Request is discarded and counted (R74). -/
def execStunOther (s : State) : Host.Outcome State Fault Refusal :=
  finish s (match s.takeRx (fun p => p.stunMsg.elim false (fun m => !m.bindingRequest)) with
    | some (_, s) => s.dropNet 0x0A
    | none => s)

/-- R77: a DTLS record of leg `l` is passed to the punt ring under the leg's DTLS bucket, at the authority only. -/
def State.dtlsRecord (s : State) (p : RxPkt) (l : Nat) : State :=
  let g := s.leg l
  if !passes g.state .dtls then s.dropNet 0x0B
  else if !s.authority g.desc.fold then s
  else if g.dtlsTok < 600 then s.dropNet 0x10
  else (s.onLeg l (fun g => { g with dtlsTok := g.dtlsTok - 600 })).puntItem { leg := some l, length := p.ipLen, addr := p.addr }

/-- DTLS_RECORD: the next DTLS record in line (R77). -/
def execDtlsRecord (s : State) : Host.Outcome State Fault Refusal :=
  finish s (match s.takeRx (fun p => p.leg.isSome && p.body = .dtls) with
    | some (p, s) => (match p.leg with | some l => s.dtlsRecord p l | none => s)
    | none => s)

/-- DTLS_SEND: the records leave as one UDP payload in class 1 on the leg's port (R77, R362). A message for a leg that
is IDLE or FENCED has no leg to send for: INVALID_STATE (R31). -/
def execDtlsSend (m : Msg) (length : Nat) (s : State) : Host.Outcome State Fault Refusal :=
  finish s (s.request m 0x010F .both (fun s _ rto =>
    let g := s.leg m.target
    if !s.authority g.desc.fold then s.reply rto stNotAuthority
    else if g.state = .idle || g.state = .fenced then s.reply rto stInvalid
    else (s.packetisePort (s.legPort m.target) 1 6 (length + if g.desc.ip6 then 48 else 28) (some m.target)).reply rto stOK))

/-! ### Jitter and reorder buffers (R88 to R92) -/

/-- The jitter depth of a stream entry: its leg's depth for the entry's medium (R88). -/
def State.jitterDepth (s : State) (e : Nat) : Nat :=
  let r := s.stream e
  let d := (s.leg r.leg).desc
  if r.desc.kind = 0 then d.jitterAudio else d.jitterVideo

/-- Does the entry pass through a jitter buffer: inbound audio, or inbound video with decode set (R88)? -/
def StreamEntry.buffered (d : StreamEntry) : Bool := d.inbound && (d.kind = 0 || (d.kind = 1 && d.decode))

/-- The release tick of a timestamp: t0 + 1 + J + floor((ts - ts0) × 600 / clock_rate), the difference signed modulo
2^32 (R89). -/
def JitBuf.releaseTick (j : JitBuf) (depth clock ts : Nat) : Int :=
  j.t0 + 1 + depth + fromBits 32 (modSub 32 ts j.ts0) * 600 / clock

/-- A packet put in its buffer in extended-sequence order. -/
def insertBuf (p : BufPkt) : List BufPkt → List BufPkt
  | [] => [p]
  | q :: qs => if p.ext < q.ext then p :: q :: qs else q :: insertBuf p qs

/-- FRAME_RELEASE: at its release tick the earliest frame that is due is delivered with the packets it has, in
extended-sequence order, and a missing-packet mask; its missing packets count as lost (R89, R90). `poisoned` lists the
sequence numbers of packets that read as poison: they are treated as not received (R458). [DESIGN CHOICE, notes/assumptions 15] -/
def releaseFrame (e : Nat) (poisoned : List Nat) (s : State) : State :=
  let r := s.stream e
  let due := r.jit.pkts.filter (fun p => decide (p.release ≤ s.now))
  match due with
  | [] => s
  | p :: _ =>
    let whole := due.filter (fun q => q.rtp.ts = p.rtp.ts)
    let rest := r.jit.pkts.filter (fun q => !whole.contains q)
    let hi := (whole.getLast?.elim p.ext (·.ext)) + 1
    let frame := whole.filter (fun q => !poisoned.contains (q.ext % 65536))
    let lo := r.jit.nextExt.getD p.ext
    let missing := (fromTo lo hi).filter (fun n => !frame.any (fun q => q.ext = n))
    let j := { r.jit with pkts := rest, released := frame, releasedMask := missing, releasedTick := s.now, nextExt := some (Nat.max lo hi) }
    (s.onStream e (fun r => { r with jit := j })).rxCount r.leg 6 missing.length

/-- FRAME_RELEASE (R89, R90). -/
def execFrameRelease (e : Nat) (poisoned : List Nat) (s : State) : Host.Outcome State Fault Refusal := finish s (releaseFrame e poisoned s)

/-- JITTER_WINDOW_EVAL: at the end of a 600-tick window the anchor moves one tick earlier when the smallest margin was
at least J + 3, else one tick later when more than 1 % of the packets were LATE (R91). A decoded audio leg absorbs the
move as R175 states: an inserted concealed block, or a block to be removed within 60 ticks. -/
def jitterEval (e : Nat) (s : State) : State :=
  let r := s.stream e
  let j := r.jit
  if !j.anchored || decide (s.now < j.winStart + 600) then s
  else
    let J : Int := s.jitterDepth e
    let earlier := match j.winMargin with | some m => decide (J + 3 ≤ m) | none => false
    let later := !earlier && decide (j.winPkts < 100 * j.winLate)
    let t0 : Int := if earlier then j.t0 - 1 else if later then j.t0 + 1 else j.t0
    let shift (p : BufPkt) : BufPkt :=
      if earlier then { p with release := p.release - 1 } else if later then { p with release := p.release + 1 } else p
    let j' := { j with t0 := t0, winStart := s.now, winPkts := 0, winLate := 0, winMargin := none, pkts := j.pkts.map shift }
    let s := s.onStream e (fun r => { r with jit := j' })
    let dec := r.desc.kind = 0 && (s.leg r.leg).aud.decoder.isSome
    if dec && later then
      let mix := (s.fold (s.leg r.leg).desc.fold).audio.mixChannels
      (s.onLeg r.leg (fun g => { g with aud := { g.aud with
        blocks := concealBlock r.desc.codec (g.aud.decoder.getD 0) (streamChannels r.desc.codec mix) mix :: g.aud.blocks, concealed := g.aud.concealed + 1, inserted := g.aud.inserted + 1 } })).incR64 Reg.AUD_BLOCKS_CONCEALED
    else if dec && earlier then
      s.onLeg r.leg (fun g => { g with aud := { g.aud with removeBy := some (s.now + 60) } })
    else s

/-- JITTER_WINDOW_EVAL (R91, R175). -/
def execJitterWindowEval (e : Nat) (s : State) : Host.Outcome State Fault Refusal := finish s (jitterEval e s)

/-! ### NACK, consent, ports, announcements -/

/-- May a NACK for the item be sent now: fewer than 3 sent, and on a buffered stream rtt_ticks + 1 ticks left before the
release, on a forwarded one the last tick not passed (R96)? -/
def NackItem.may (n : NackItem) (rtt now : Nat) : Bool := decide (n.sent < 3 ∧ (if n.buffered then now + rtt + 1 else now) ≤ n.limit)

/-- The NACKs of stream `e` for the items `due`, within the leg's 64 items in the tick; items beyond it are not sent
and are counted (R96). -/
def State.sendNacks (s : State) (e : Nat) (due : List NackItem) : State :=
  let r := s.stream e
  let g := s.leg r.leg
  let send := due.take (64 - g.nackItems)
  let s := s.onLeg r.leg (fun g => { g with nackOver := g.nackOver + (due.length - send.length) })
  if send = [] then s
  else
    let upd (n : NackItem) : NackItem := if send.any (fun x => x.ext = n.ext) then { n with sent := n.sent + 1, lastTick := s.now } else n
    let s := s.onStream e (fun r => { r with jit := { r.jit with missing := r.jit.missing.map upd } })
    let s := s.onLeg r.leg (fun g => { g with nackItems := g.nackItems + send.length })
    let s := s.rxCount r.leg 7 send.length
    s.packetise { leg := some r.leg, cls := 5, kind := .srtcp (.nack r.desc.ssrc (send.map (fun n => n.ext % 65536))), ssrc := r.desc.ssrc, len := 48 + 4 * send.length }

/-- NACK_REPEAT: the missing packets of a stream whose last NACK is rtt_ticks old are asked for again, at most 3 times
in all and within their limits; items that may not be asked for any more are forgotten (R96). -/
def nackRepeat (e : Nat) (s : State) : State :=
  let r := s.stream e
  let rtt := (s.leg r.leg).rttTicks
  let keep := r.jit.missing.filter (fun n => n.may rtt s.now)
  let s := s.onStream e (fun r => { r with jit := { r.jit with missing := keep } })
  s.sendNacks e (keep.filter (fun n => decide (n.lastTick + rtt ≤ s.now)))

/-- NACK_REPEAT (R96). -/
def execNackRepeat (e : Nat) (s : State) : Host.Outcome State Fault Refusal := finish s (nackRepeat e s)

/-- CONSENT_EXPIRED: 18,000 ticks without a valid request from the leg's own remote address stop transmission to the
leg and tell the host; the leg stays ACTIVE (R76). -/
def consentExpired (l : Nat) (s : State) : State :=
  let g := s.leg l
  let check := g.ice.elim false (·.consentCheck)
  if g.state = .active && check && !g.txStopped && decide (g.consentTick + 18000 ≤ s.now) then
    (s.onLeg l (fun g => { g with txStopped := true })).notify 0x8003 0 (subjLeg l)
  else s

/-- CONSENT_EXPIRED (R76). -/
def execConsentExpired (l : Nat) (s : State) : Host.Outcome State Fault Refusal := finish s (consentExpired l s)

/-- Lanes that sub-port `n` of a port in `mode` uses, as a mask (R61). -/
def subportLanes (mode n : Nat) : Nat :=
  match (modeSubports mode).1 with
  | 4 => 2 ^ n
  | 2 => 3 * 4 ^ n
  | 1 => 15
  | _ => 0

/-- The lanes of a set of sub-ports. -/
def lanesOf (mode mask : Nat) : Nat := sumN ((upTo 4).map (fun n => if bit mask n then subportLanes mode n else 0))

/-- PORT_DOWN: sub-ports of a port have been without lock for 1 ms; the port is down, its legs move at the next
boundary, and LANE_LOST is raised when it carried legs (R64, R100, R104, R105). -/
def portDown (p mask : Nat) (s : State) : State :=
  let up := s.getF (Reg.NET_PORT_STATUS p) 3 0
  let lost := up &&& mask
  if lost = 0 then s
  else
    let now := up - lost
    let carried := s.legsOn p != []
    let s := s.setF (Reg.NET_PORT_STATUS p) 3 0 now
    let s := s.setF (Reg.NET_PORT_STATUS p) 7 4 (lanesOf (s.portMode p) now)
    let s := s.setF (Reg.NET_PORT_STATUS p) 8 8 0
    let s := s.setF (Reg.NET_PORT_EVENTS p) 3 0 (s.getF (Reg.NET_PORT_EVENTS p) 3 0 ||| lost)
    let s := s.onPort p (fun x => { x with goneDown := true, upSince := none, downSince := some s.now })
    let s := { s with adm := { s.adm with recount := true } }
    if carried then s.raise fltLaneLost (subjInst 3 p) else s

/-- PORT_DOWN (R64). -/
def execPortDown (p mask : Nat) (s : State) : Host.Outcome State Fault Refusal := finish s (portDown p mask s)

/-- PORT_UP: sub-ports of a port have lock; with every sub-port in use up the port is up, counts its ticks from here,
and its replacement reasons clear (R64, R101, R104, R105, R685). -/
def portUpCmd (p mask : Nat) (s : State) : State :=
  let inUse := 2 ^ (modeSubports (s.portMode p)).1 - 1
  let up := s.getF (Reg.NET_PORT_STATUS p) 3 0
  let gained := (mask &&& inUse) - ((mask &&& inUse) &&& up)
  if gained = 0 then s
  else
    let now := up + gained
    let s := s.setF (Reg.NET_PORT_STATUS p) 3 0 now
    let s := s.setF (Reg.NET_PORT_STATUS p) 7 4 (lanesOf (s.portMode p) now)
    let s := s.setF (Reg.NET_PORT_STATUS p) 8 8 (b2n (s.getF (Reg.NET_PORT_MODE p) 5 4 = 2))
    let s := s.setF (Reg.NET_PORT_EVENTS p) 7 4 (s.getF (Reg.NET_PORT_EVENTS p) 7 4 ||| gained)
    let s := { s with adm := { s.adm with recount := true } }
    if s.portUp p then
      let s := s.onPort p (fun x => { x with upSince := some s.now, downSince := none })
      s.clearReason (fun r => (r.code = fltLaneLost && r.subject = subjInst 3 p) || (r.code = fltPairDown && r.subject = subjInst 3 (p % 8)))
    else s

/-- PORT_UP (R64). -/
def execPortUp (p mask : Nat) (s : State) : Host.Outcome State Fault Refusal := finish s (portUpCmd p mask s)

/-- PORT_HOME_RETURN: at the first boundary after a port has been up for 600 ticks without a break, the legs whose home
it is return to it, and their addresses are announced (R64, R65). -/
def portHomeReturn (p : Nat) (s : State) : State :=
  match (s.port p).upSince with
  | some t =>
    if t + 600 ≤ s.now then
      let b := decide (8 ≤ p)
      let ls := s.liveLegs.filter (fun l =>
        let g := s.leg l
        g.desc.portPair = p % 8 && g.desc.homeB == b && g.sideB != b)
      if ls = [] then s else (s.moveSide ls b).raise fltSideSwitch (subjInst 3 p)
    else s
  | none => s

/-- PORT_HOME_RETURN (R64). -/
def execPortHomeReturn (p : Nat) (s : State) : Host.Outcome State Fault Refusal := finish s (portHomeReturn p s)

/-- ANNOUNCE_REPEAT: the announcements whose tick has come are sent again on their side (R65). -/
def announceRepeat (s : State) : State :=
  let due := s.net.announce.filter (fun a => decide (a.due ≤ s.now))
  let s := { s with net := { s.net with announce := s.net.announce.filter (fun a => !decide (a.due ≤ s.now)) } }
  s.each due (fun s a =>
    match s.net.addrs[a.entry]? with
    | some e => if s.holdsAddr e then s.packetisePort (a.pair + if a.sideB then 8 else 0) 7 (if e.ip6 then 2 else 1) (announceLen e) else s
    | none => s)

/-- ANNOUNCE_REPEAT (R65). -/
def execAnnounceRepeat (s : State) : Host.Outcome State Fault Refusal := finish s (announceRepeat s)

end Sys2Proof.Machine
end

