-- ==== Sys2Proof/Machine/TwnOps.lean ====
section
/-!
DEFINITION. What the twin's commands share (14): pair states, the pair record of the tally store, the objects that can be
unsynced, and the content of snapshots.
-/

namespace Sys2Proof.Config

open Sys2Proof.Machine

/-- The leg record that a SNAPSHOT describes, in the layout of the firmware's state format (R538). -/
opaque snapLeg : (content : Nat) → Option LegRt
/-- The record of stream entry `entry` in that SNAPSHOT (R537, R538). -/
opaque snapStream : (content entry : Nat) → Option StreamRt
/-- The fold runtime that a SNAPSHOT describes (R538). -/
opaque snapFold : (content : Nat) → Option FoldRt
/-- The line classes of a fold in that SNAPSHOT (R530, R538). -/
opaque snapLcs : (content : Nat) → List (Nat × LineClass)
/-- The bytes of a SNAPSHOT of an object (R538). -/
opaque snapBytes : (kind index : Nat) → Nat

end Sys2Proof.Config

namespace Sys2Proof.Machine

/-- TWN MIRROR_GAP (R546). -/
def fltMirrorGap : Nat := faultCode 14 2 3
/-- TWN DIVERGENCE (R546). -/
def fltDivergence : Nat := faultCode 14 0 4
/-- TWN TAKEOVER (R546). -/
def fltTakeover : Nat := faultCode 14 2 5
/-- TWN FENCED (R546). -/
def fltFenced : Nat := faultCode 14 2 6
/-- TWN PAIR_REFUSED (R546). -/
def fltPairRefused : Nat := faultCode 14 0 7
/-- TWN TIME_DISAGREE (R546). -/
def fltTimeDisagree : Nat := faultCode 14 0 8
/-- TWN TIME_SPLIT (R546). -/
def fltTimeSplit : Nat := faultCode 14 2 9
/-- TWN VERSION_SKEW (R546). -/
def fltVersionSkew : Nat := faultCode 14 0 0x0A
/-- TWN LINK_LATENCY (R546). -/
def fltLinkLatency : Nat := faultCode 14 0 0x0B
/-- TWN SPLIT_BRAIN (R546). -/
def fltSplitBrain : Nat := faultCode 14 2 0x0C

/-- The subject of a fault of the link as a whole (R547). [DESIGN CHOICE, notes/assumptions 51] -/
def subjLink : Nat := subjInst 14 0

/-! ### Pair state (R526, R547) -/

/-- The session events whose EVENT_ACK has not arrived when the pair leaves PAIRED or SYNCING: they get no reply, and their
phases count as mirrored (R47, R533). -/
def State.dropEvents (s : State) : State :=
  let es := s.twn.events
  let s := { s with twn := { s.twn with events := [] } }
  let silent (p : StagedPhase) : StagedPhase := if es.any (fun e => e.phase = some p.id) then { p with reply := none } else p
  let s := { s with adm := { s.adm with staged := s.adm.staged.map silent } }
  s.each (es.filterMap (·.phase)) (fun s id => s.phaseMirrored id)

/-- The pair state becomes `p`; a change is notified, and leaving PAIRED or SYNCING ends mirroring; a switchover that still waited ends ABORTED (R526, R533, R544, R650). -/
def State.setPair (s : State) (p : PairState) : State :=
  let was := s.twn.pair
  if was = p then s
  else
    let s := { s with twn := { s.twn with pair := p } }
    let s := s.setF Reg.TWN_PAIR_STATUS 2 0 p.code
    let s := if (was = .paired || was = .syncing) && !s.mirroring then
        let s := s.dropEvents
        let held := s.twn.handover
        let s := { s with twn := { s.twn with unsynced := [], owed := [], converge := [], snapQ := [], digests := [], mirrorRx := [], sealHeld := none, syncEnter := false, partnerSynced := false, lossAt := none, handover := none, switchIn := none } }
        match held with
        | some (_, false, rto) => s.sendReplyNow { dst := rto, status := stAborted }
        | _ => s
      else s
    (s.setR Reg.TWN_UNSYNCED s.twn.unsynced.length).notify 0x8011 0 subjNone [(1, p.code), (1, was.code), (2, 0), (4, s.tly.epoch.toNat)]

/-- The PAIR record committed: the pair epoch, fenced_latched and the epoch latched with it (R528, R540, R664). -/
def State.commitPair (s : State) : State :=
  let s := s.tallyCommit 6 0 12 [(4, s.tly.epoch.toNat), (1, b2n s.tly.fencedLatched), (3, 0), (4, s.tly.latchEpoch.toNat)]
  (s.setR Reg.TWN_EPOCH s.tly.epoch.toNat).setF Reg.TWN_PAIR_STATUS 8 8 (b2n s.tly.fencedLatched)

/-- The pair epoch committed; epochs only rise (R528, R529). -/
def State.commitEpoch (s : State) (e : Nat) : State :=
  if e ≤ s.tly.epoch.toNat then s else ({ s with tly := { s.tly with epoch := BitVec.ofNat 32 e } }).commitPair

/-- fenced_latched set with the pair epoch, or cleared (R540, R545). -/
def State.latchFence (s : State) (on : Bool) : State :=
  ({ s with tly := { s.tly with fencedLatched := on, latchEpoch := if on then s.tly.epoch else s.tly.latchEpoch } }).commitPair

/-- AUS_FENCE_OUT raised, only while AUS_FENCE_IN is low, or lowered (R540). -/
def State.setFenceOut (s : State) (on : Bool) : State :=
  let v := on && !s.pins.fenceIn
  ({ s with pins := { s.pins with fenceOut := v } }).setF Reg.TWN_PAIR_STATUS 6 6 (b2n v)

/-- A plane reset asked for, to take effect at the next boundary (R554, R559). -/
def State.askPlane (s : State) (c : PlaneCause) (maint : Option Bool) : State :=
  { s with boot := { s.boot with planePend := some c, planeMaint := maint } }

/-! ### Objects (R537) -/

/-- A leg record. -/
def objLeg (l : Nat) : Nat := 65536 + l
/-- A fold runtime. -/
def objFold (f : Nat) : Nat := 2 * 65536 + f
/-- A leg's audio decoder and encoder state. -/
def objAudio (l : Nat) : Nat := 3 * 65536 + l
/-- A decoded video stream. -/
def objStream (e : Nat) : Nat := 4 * 65536 + e
/-- An encode rung. -/
def objRung (c : Nat) : Nat := 5 * 65536 + c
/-- The cell encodes of a fold. -/
def objCells (f : Nat) : Nat := 6 * 65536 + f

/-- The video streams that a fold decodes. -/
def State.decodedStreams (s : State) (f : Nat) : List Nat :=
  ((s.streams.filter (fun e => e.2.live && e.2.dec.state != .idle)).map (·.1)).filter (fun e => (s.leg (s.stream e).leg).desc.fold = f)

/-- The audio objects of a leg that receives a mix: the encoder, its own or the fold's shared one, and the decoders of the legs
whose blocks enter it (R537). [DESIGN CHOICE, notes/assumptions 53] -/
def State.mixObjects (s : State) (l : Nat) : List Nat :=
  let g := s.leg l
  let f := g.desc.fold
  let mixed := (s.entries l).any (fun e => let d := (s.stream e).desc; d.kind = 0 && d.outbound)
  if !mixed then []
  else ((s.foldLegs f).filter (fun m => m ≠ l && (s.leg m).aud.inDecodeSet)).map objAudio ++ (if g.aud.personal.isSome then [] else [objFold f])

/-- The objects of a leg: its record and audio state, the encoders whose output it receives, and the decoded streams that enter
those encoders (R537). -/
def State.legObjects (s : State) (l : Nat) : List Nat :=
  let g := s.leg l
  let f := g.desc.fold
  let enc := if g.desc.videoMode = 3 then (g.adapt.serving.map objRung).toList else if g.desc.videoMode = 2 then [objCells f] else []
  [objLeg l, objAudio l] ++ s.mixObjects l ++ enc ++ (if enc = [] then [] else (s.decodedStreams f).map objStream)

/-- The objects of divergent legs that a snapshot repairs: leg records, fold runtimes, audio states, each in index order
(R537, R538). -/
def State.snapOf (s : State) (legs : List Nat) : List Nat :=
  ((legs.flatMap s.legObjects).filter (fun o => o / 65536 < 4)).foldl (fun (acc : List Nat) o => insertAsc o (acc.filter (· ≠ o))) []

/-- Every object of the folds in `fs`, in the order of R538. -/
def State.foldObjects (s : State) (fs : List Nat) : List Nat :=
  let ls := s.liveLegs.filter (fun l => fs.contains (s.leg l).desc.fold)
  ls.map objLeg ++ fs.map objFold ++ ls.map objAudio ++ (fs.flatMap s.decodedStreams).map objStream
    ++ ((s.lcs.filter (fun e => e.2.live && fs.contains e.2.desc.fold)).map (fun e => objRung e.1)) ++ (fs.filter (fun f => !(s.fold f).encs.isEmpty)).map objCells

/-- The folds that are not IDLE. -/
def State.usedFolds (s : State) : List Nat := (s.folds.filter (fun e => e.2.state != .idle)).map (·.1)

/-- The folds that this device shadows, and those that it holds (R521). -/
def State.shadowFolds (s : State) : List Nat := s.usedFolds.filter (fun f => !s.authority f)
/-- The folds that this device holds. -/
def State.heldFolds (s : State) : List Nat := s.usedFolds.filter (fun f => s.authority f)

/-- Objects marked unsynced (R532, R536, R548). -/
def State.unsync (s : State) (objs : List Nat) : State :=
  let s := s.each objs (fun s o => { s with twn := { s.twn with unsynced := if (tfind o s.twn.unsynced).isSome then s.twn.unsynced else tins o (s.now + 1) s.twn.unsynced } })
  s.setR Reg.TWN_UNSYNCED (s.twn.unsynced.length % 2 ^ 24)

/-- Objects that are synced again. -/
def State.resync (s : State) (objs : List Nat) : State :=
  let s := { s with twn := { s.twn with unsynced := s.twn.unsynced.filter (fun e => !objs.contains e.1) } }
  s.setR Reg.TWN_UNSYNCED (s.twn.unsynced.length % 2 ^ 24)

end Sys2Proof.Machine
end

