-- ==== Sys2Proof/Machine/Swap.lean ====
section
/-!
DEFINITION. Image swaps at a boundary (17 R623, R626, R632; 16 R595): the sealed values of another image taken at once, and the
fallback to the previous images.
-/

namespace Sys2Proof.Machine

/-- The phase of an update as BOOT_UPDATE_STATUS shows it (R632). -/
def State.updPhase (s : State) : Nat :=
  let t := s.tly.boot.trial
  if t = 2 then 4 else if s.upd.at_ ≠ 0 then 3 else if s.upd.staged ≠ 0 then 2 else if s.upd.hdr.isSome then 1
  else if t = 3 then 5 else if t = 4 then 6 else 0

/-- BOOT_UPDATE_STATUS brought up to date (R632). -/
def State.showUpd (s : State) : State :=
  let s := (s.setF Reg.BOOT_UPDATE_STATUS 2 0 s.updPhase).setF Reg.BOOT_UPDATE_STATUS 3 3 (b2n (s.upd.staged = 1))
  (s.setF Reg.BOOT_UPDATE_STATUS 5 4 (Nat.min 3 s.tly.boot.trialWarm)).setF Reg.BOOT_UPDATE_STATUS 31 16 (Nat.min 65535 s.upd.clean)

/-- The reason of the last refusal or abort (R632). -/
def State.updReason (s : State) (code : Nat) : State := s.setF Reg.BOOT_UPDATE_STATUS 15 8 code

/-- Guard sets under a new image: a set whose record differs between the images takes the new record, every other stays
(R595). [DESIGN CHOICE, notes/assumptions 44] -/
def State.newGuards (s : State) (t : Torzer) : Tbl (List Nat) :=
  let old := s.boot.image.guardSets
  let look (l : List (Nat × List Nat)) (n : Nat) : Option (List Nat) := (l.find? (fun e => e.1 = n)).map (·.2)
  let differ := dedup ((old ++ t.guardSets).map (·.1)) |>.filter (fun n => look old n ≠ look t.guardSets n)
  differ.foldl (fun g n => match look t.guardSets n with
    | some v => tins n v (tdel n g)
    | none => tdel n g) s.cmp.guardSets

/-- The state with the image's tables in place: its address table, its image groups below 4,096, its guard sets (R250, R591,
R595). Groups that the host loaded stay. [DESIGN CHOICE, notes/assumptions 44] -/
def State.withImage (s : State) (t : Torzer) : State :=
  let guards := s.newGuards t
  { s with boot := { s.boot with image := t }, net := { s.net with addrs := t.addresses.map AddressRec.entry }, cmp := { s.cmp with groups := t.groups ++ s.cmp.groups.filter (fun e => decide (4096 ≤ e.1)), guardSets := guards } }

/-- The first copy of a firmware slot that is valid (R618). -/
def State.fwCopy (s : State) (slot : Nat) : Option ContHdr :=
  let f := s.boot.flash
  let xs := [f.get s.firstB, f.get !s.firstB].filter (fun x => x.capacityOk && (x.fw slot).valid s.boot.opt)
  xs.head?.map (fun x => (x.fw slot).hdr)

/-- The first copy of a Torzer slot that is valid under a firmware version (R582, R587). -/
def State.tzCopy (s : State) (slot fw : Nat) : Option Torzer :=
  let f := s.boot.flash
  ([f.get s.firstB, f.get !s.firstB].filter (fun x => (x.tz slot).reason x.slotBytes fw = 0)).head?.map (fun x => x.tz slot)

/-- Is flash B the one from which firmware slot `slot` is taken: the first flash unless its copy is not valid (R618)? -/
def State.fwFrom (s : State) (slot : Nat) : Bool :=
  let x := s.boot.flash.get s.firstB
  if x.capacityOk && (x.fw slot).valid s.boot.opt then s.firstB else !s.firstB

/-- Is flash B the one from which the image `t` in Torzer slot `slot` is taken: the first flash unless it does not hold it (R582)? -/
def State.tzFrom (s : State) (slot : Nat) (t : Torzer) : Bool :=
  let x := (s.boot.flash.get s.firstB).tz slot
  if x.readOk && x.commit && x.digest = t.digest then s.firstB else !s.firstB

/-- Every changed sealed value takes effect at once, at a boundary (R595, R606, R623). -/
def State.liveSeal (s : State) (t : Torzer) (slot : Nat) : State :=
  let b := s.tzFrom slot t
  let s := (s.withImage t).sealRegs
  let s := s.showImage { source := b2n b, flashB := b, slot := slot, image := t } false
  { s with adm := { s.adm with recount := true } }

/-- The device runs its previous images again: the boot record says FELL_BACK, FALLBACK is raised, and the previous sealed values
return (R626). [DESIGN CHOICE, notes/assumptions 44] -/
def State.fallBack (s : State) : State :=
  let r := s.tly.boot
  let s := s.commitBoot (r.fellBack s.now)
  let s := match s.fwCopy s.tly.boot.fwActive with
    | some h => (s.runFirmware h).bootStatus 8 7 (b2n (s.fwFrom s.tly.boot.fwActive))
    | none => s
  let s := match s.tzCopy s.tly.boot.tzActive s.boot.fwVersion with
    | some t => s.liveSeal t s.tly.boot.tzActive
    | none => s
  let s := { s with upd := {} }
  ((s.updJournal 7 0 0 s.tly.boot.fwVersion 0 s.tly.boot.fwActive).raise fltFallback subjNone).showUpd

end Sys2Proof.Machine
end

