-- ==== Sys2Proof/Machine/Reset.lean ====
section
/-!
DEFINITION. Resets after start-up (15 R554 to R560, R570, R571, R576 to R580; 18 R637, R675; 20 R705, R713): host boot, warm and
plane reset, block resets, maintenance mode, the watchdog, thermal trips, regulator faults and power loss.
-/

namespace Sys2Proof.Machine

/-- BOOT WATCHDOG (R573). -/
def fltWatchdog : Nat := faultCode 1 1 6
/-- BOOT WARM_BUDGET (R573). -/
def fltWarmBudget : Nat := faultCode 1 4 7
/-- BOOT THERMAL_TRIP (R573). -/
def fltThermalTrip : Nat := faultCode 1 4 9

/-- Does the device run its firmware and take events: it is not held in reset, halted, or waiting for a host container? -/
def State.up (s : State) : Bool := !(s.boot.inReset || s.boot.halted || s.boot.waitHost)

/-! ### Host boot (R637, R675) -/

/-- HOST_BOOT_START: a write of the key of BOOT_HOST_BOOT starts the verification of the container in BAR2 (R637).
[DESIGN CHOICE, notes/assumptions 57] -/
def hostBootStart (value : Nat) (cont : Container) (s : State) : State :=
  s.ctrlWrite Reg.BOOT_HOST_BOOT value (0xFFFF * 65536) (fun s =>
    if value / 65536 % 65536 ≠ 0x57A2 || !s.boot.waitHost then s
    else
      let c := if 100663296 < s.getR Reg.BOOT_HOST_BOOT_LEN then 6 else cont.bootReason s.boot.opt s.boot.flash.slotBytes
      let s := { s with boot := { s.boot with waitHost := false } }
      let s := s.setF Reg.BOOT_HOST_BOOT 15 0 (if c = 0 then 2 else 4 + c * 256)
      let s := if c = 0 then
          (({ s with boot := { s.boot with hostCont := some cont } }).bootStatus 8 7 3).runFirmware cont.hdr
        else s.flashFirmware true
      s.startRest.startEnd)

/-- HOST_BOOT_START (R637). -/
def execHostBootStart (value : Nat) (cont : Container) (s : State) : Host.Outcome State Fault Refusal := finish s (hostBootStart value cont s)

/-- HOST_BOOT_TIMEOUT: 30 s after step 3 start-up goes on from flash (R637). -/
def hostBootTimeout (s : State) : State :=
  if !s.boot.waitHost then s
  else
    let s := ({ s with boot := { s.boot with waitHost := false } }).setF Reg.BOOT_HOST_BOOT 0 0 0
    (s.flashFirmware true).startRest.startEnd

/-- HOST_BOOT_TIMEOUT (R637). -/
def execHostBootTimeout (s : State) : Host.Outcome State Fault Refusal := finish s (hostBootTimeout s)

/-! ### Warm reset (R556, R557, R571, R576) -/

/-- The fields whose Warm column says Clear take their Cold value (R11, R555). A plane reset leaves the management cores
running, so their fields stay. Key slots, bobbin queues and time are held (R119, R435, R501). -/
def State.warmFields (s : State) (plane : Bool) : State :=
  s.each ((tkeys s.regs).filter (fun d => !(plane && d / 2 ^ 22 = 15))) (fun s d =>
    s.each ((fieldsOf d).filter (·.clear)) (fun s f => s.setF d f.hi f.lo f.cold))

/-- A warm reset with its cause bit; before the first configured state it is a cold reset, and within a warm restart the budget
goes on from the first (R556, R557). A warm reset during a trial counts, and starts its 6,000 ticks again (R625, R626).
[DESIGN CHOICE, notes/assumptions 40] -/
def State.warmReset (s : State) (cause : Nat) : State :=
  if !s.up && !s.boot.waitHost then s
  else if !s.sealed then s.startUp 1 (some cause)
  else
    let b := if s.boot.opt.warmBudget = 0 then 36000 else s.boot.opt.warmBudget
    let s := s.warmFields false
    let s := s.each (upTo 4) (fun s c => s.setF (Reg.MGT_CORE_STATUS c) 1 0 2)
    let s := if s.boot.warmRun then s else s.setR Reg.BOOT_WARM_REMAIN b
    let s := { s with selPend := [], boot := { s.boot with warmRun := true, warmCause := cause } }
    let r := s.tly.boot
    if r.trial = 2 then
      let s := s.commitBoot { r with trialWarm := Nat.min 255 (r.trialWarm + 1) }
      ({ s with upd := { s.upd with clean := 0, fallAt := if 1 ≤ r.trialWarm then some s.now else s.upd.fallAt } }).showUpd
    else s

/-- WARM_RESET_PIN (R554, R557). -/
def execWarmResetPin (s : State) : Host.Outcome State Fault Refusal := finish s (s.warmReset 4)

/-- WARM_RESET: the message is answered, and then a warm reset is made (R554, R649). -/
def execWarmReset (m : Msg) (s : State) : Host.Outcome State Fault Refusal :=
  finish s (s.request m 0x0301 .both (fun s _ rto => (s.reply rto stOK).warmReset 6))

/-- WATCHDOG_EXPIRY: an armed watchdog that was not kicked raises WATCHDOG and makes a warm reset (R558). -/
def watchdogExpiry (s : State) : State :=
  if s.up && s.getF Reg.BOOT_WATCHDOG 16 16 = 1 then (s.raise fltWatchdog subjNone).warmReset 5 else s

/-- WATCHDOG_EXPIRY (R558). -/
def execWatchdogExpiry (s : State) : Host.Outcome State Fault Refusal := finish s (watchdogExpiry s)

/-- WATCHDOG_KICK: any write arms the watchdog; 0x57A2 restarts the timeout (R580). -/
def execWatchdogKick (value : Nat) (s : State) : Host.Outcome State Fault Refusal :=
  finish s (s.ctrlWrite Reg.BOOT_WATCHDOG_KICK value (2 ^ 32 - 1) (fun s => s.setF Reg.BOOT_WATCHDOG 16 16 1))

/-- WARM_BUDGET_EXPIRY: the cores have not resumed within warm_budget ticks (R557). -/
def warmBudgetExpiry (s : State) : State :=
  if s.boot.warmRun && s.getF Reg.BOOT_WARM_REMAIN 15 0 = 0 then (s.raise fltWarmBudget subjNone).settleFatal else s

/-- WARM_BUDGET_EXPIRY (R557). -/
def execWarmBudgetExpiry (s : State) : Host.Outcome State Fault Refusal := finish s (warmBudgetExpiry s)

/-- MGMT_RESUME: the cores have restored their state; the faults of the hardware queue enter the journal, the watchdog is armed
again, waiting presence changes are read; a fallback that was due starts the previous firmware instead (R557, R558, R601, R626).
[DESIGN CHOICE, notes/assumptions 40] -/
def mgmtResume (s : State) : State :=
  if !s.boot.warmRun then s
  else
    let cause := s.boot.warmCause
    let q := s.boot.hwq
    let s := { s with boot := { s.boot with warmRun := false, hwq := [] }, flt := { s.flt with queue := s.flt.queue ++ q } }
    let s := s.each (upTo 4) (fun s c => (s.setF (Reg.MGT_CORE_STATUS c) 1 0 1).setR (Reg.MGT_FW_VERSION c) s.boot.fwVersion)
    let s := ((s.setR Reg.BOOT_WARM_REMAIN 0).resetCause cause).countReset 2
    let s := s.setF Reg.BOOT_WATCHDOG 16 16 1
    let s := { s with host := { s.host with svcCounter := s.tly.svcCeiling.map (fun (e : Nat × Nat) => (e.1, e.2 - 1)) } }
    let s := if s.upd.fallAt.isSome then (if s.mirroring then s.fallBack.sendEvent 0x0406 s.now none none else s.fallBack) else s
    let s := if s.boot.sdState = 1 then s.readCard s.boot.env.card true false else s
    (s.publishRecord).showReady

/-- MGMT_RESUME (R557). -/
def execMgmtResume (s : State) : Host.Outcome State Fault Refusal := finish s (mgmtResume s)

/-! ### Plane reset (R555, R559, R576, R647) -/

/-- The cause bit of a plane reset (R576). -/
def PlaneCause.bit : PlaneCause → Nat
  | .command => 7 | .fence => 8 | .split => 9 | .maintenance => 10

/-- The replies owed for messages that are not complete (R50, R647). [DESIGN CHOICE, notes/assumptions 40] -/
def State.owedReplies (s : State) : List ReplyTo :=
  s.adm.pend.filterMap (·.reply) ++ s.adm.staged.filterMap (·.reply) ++ s.cip.waiting.filterMap (·.reply)
    ++ (s.cip.slots.filterMap (fun e => e.2.reply)) ++ (s.tim.stepAt.map (fun x => x.2.2)).toList ++ (s.twn.handover.map (fun x => x.2.2)).toList
    ++ s.twn.events.filterMap (fun e => e.reply.map (·.dst))
    ++ s.host.arrived.map (fun a => { src := a.src, typ := a.typ, seq := a.seq, target := a.target, gen := a.gen })

/-- The Drover stopped by a plane reset: its records and lists are gone, a core that waits reads none, and the tasks' counters
stay (R388, R403, R422). -/
def DrvSt.stopped (d : DrvSt) : DrvSt :=
  { cores := d.takers.foldl (fun acc e => tmod {} acc e.2 (fun p => { p with take := takeNone, context := 0, flags := 0 })) d.cores
    tasks := (d.tasks.filter (fun e => e.2.ctr != [])).map (fun e => (e.1, { ctr := e.2.ctr })) }

/-- The state marked "Plane" in R555 cleared: legs, folds, line classes and streams IDLE, the descriptor sets discarded, key slots
zeroised, the Drover stopped, queues emptied, the media cache cleared. Ports, the address table, image groups, guard sets, the key
storage, memory and time stay (R119, R435, R501). [DESIGN CHOICE, notes/assumptions 40] -/
def State.planeClear (s : State) : State :=
  let s := { s with legs := [], folds := [], lcs := [], streams := [], adm := { s.adm with pend := [], staged := [] } }
  let s := { s with cip := { s.cip with slots := [], waiting := [], pipeCycles := [], pipeBlocks := [] } }
  let s := { s with net := { s.net with inq := [], rtcpq := [], tickPkts := 0, tickBytes := 0, announce := [] } }
  let s := { s with drv := s.drv.stopped, egs := {}, ven := {}, lac := {}, aud := {}, bq := {} }
  let s := { s with cmp := { s.cmp with fencePend := [], use := [], decNext := [] } }
  let s := { s with dmc := { s.dmc with cache := [], syntaxLines := [] } }
  let s := { s with host := { s.host with arrived := [] }, tim := { s.tim with stepAt := none } }
  { s with twn := { s.twn with mirrorRx := [], mirrorTx := 0, mirrorBytes := 0, sealed := none, sealHeld := none, shadowEv := [], handover := none, switchIn := none, attempt := none, identOk := false, takeAt := none, lossAt := none, heardNow := [] } }

/-- Every operation in flight ends ABORTED: items, waiting blobs, and the messages that are not complete (R559, R647).
[DESIGN CHOICE, notes/assumptions 40] -/
def State.planeAbort (s : State) : State :=
  let owed := s.owedReplies.eraseDups
  let s := s.setR (Reg.CIP_KS_RESULT 9) (s.getR (Reg.CIP_KS_RESULT 9) + s.cip.waiting.length)
  let s := s.resolveItems (fun _ => true)
  let s := { s with twn := { s.twn with events := [] } }
  s.each owed (fun s rto => s.sendReplyNow { dst := rto, status := stAborted })

/-- The twin's part of a plane reset: role A is active again until authority is settled, and the pair is SOLO unless the device is
FENCED (R526, R534). [DESIGN CHOICE, notes/assumptions 41] -/
def State.planeTwin (s : State) : State :=
  let s := { s with twn := { s.twn with authSelf := !s.twn.paired || !s.twn.roleB, hold := none, ident := none } }
  if s.twn.pair = .fenced then s else s.setPair .solo

/-- PLANE_RESET_START: a plane reset that was asked for takes effect: the host is told, everything in flight ends ABORTED, the
lanes send idle code groups, and the state is cleared (R559 steps 1 to 5). [DESIGN CHOICE, notes/assumptions 40] -/
def planeResetStart (s : State) : State :=
  match s.boot.planePend with
  | none => s
  | some c =>
    if !s.up || !s.sealed then s
    else
      let s := s.notify 0x800E 0 subjNone [(4, putBits (s.getR Reg.BOOT_RESET_CAUSE) c.bit c.bit 1)]
      let s := (s.planeAbort.planeClear).warmFields true
      let s := { s with selPend := [], boot := { s.boot with planePend := none, planeRun := true, planeStopped := true, planeCause := some c } }
      let s := s.planeTwin.setF Reg.DRV_STATUS 31 31 1
      ({ s with adm := { s.adm with recount := true } }).showReady

/-- PLANE_RESET_START (R559). -/
def execPlaneResetStart (s : State) : Host.Outcome State Fault Refusal := finish s (planeResetStart s)

/-- PLANE_READY: the self-tests end and the media plane restarts from the sealed configuration, in maintenance mode with the
Drover stopped (R559 steps 6 and 7, R570, R576, R578). Pairing begins again where a bundle is up (R526). -/
def planeReady (tests : SelfTest) (s : State) : State :=
  if !s.boot.planeRun then s
  else
    let c := s.boot.planeCause.getD .command
    let maint := s.boot.planeMaint.getD s.boot.maint
    let s := s.selfTests tests
    let s := { s with boot := { s.boot with planeRun := false, planeCause := none, planeMaint := none, maint := maint, planeStopped := false } }
    let s := (s.bootStatus 4 4 (b2n maint)).setF Reg.DRV_STATUS 31 31 (b2n maint)
    let s := (s.resetCause c.bit).countReset 3
    let s := if s.twn.paired && s.twn.pair = .solo && (s.bundleUp 0 || s.bundleUp 1) && !s.tly.fencedLatched then s.setPair .linking else s
    (s.notify 0x800F 0 subjNone).showReady

/-- PLANE_READY (R559). -/
def execPlaneReady (tests : SelfTest) (s : State) : Host.Outcome State Fault Refusal := finish s (planeReady tests s)

/-- PLANE_RESET: the message asks for a plane reset (R554, R559). -/
def execPlaneReset (m : Msg) (s : State) : Host.Outcome State Fault Refusal :=
  finish s (s.request m 0x0302 .both (fun s _ rto => (s.reply rto stOK).askPlane .command none))

/-- A write to BOOT_RESET_CTRL with an action: a wrong key is ignored with the fault of R13 (R579). -/
def State.resetCtrl (s : State) (action key : Nat) (k : State → State) : State :=
  let d := Reg.BOOT_RESET_CTRL
  let v := action + key % 65536 * 65536
  s.ctrlWrite d v (3 + 0xFFFF * 65536) (fun s => if key % 65536 = 0x57A2 then k s else s.accessIgnored d v)

/-- RESET_CTRL_WARM: BOOT_RESET_CTRL with action 1 makes a warm reset (R554, R579). -/
def execResetCtrlWarm (key : Nat) (s : State) : Host.Outcome State Fault Refusal := finish s (s.resetCtrl 1 key (fun s => s.warmReset 6))

/-- RESET_CTRL_PLANE: BOOT_RESET_CTRL with action 2 asks for a plane reset (R554, R579). -/
def execResetCtrlPlane (key : Nat) (s : State) : Host.Outcome State Fault Refusal :=
  finish s (s.resetCtrl 2 key (fun s => if s.up && s.sealed then s.askPlane .command none else s))

/-- MAINTENANCE_ENTRY: a plane reset into maintenance mode, refused when maintenance_lock is set (R570). -/
def execMaintenanceEntry (m : Msg) (s : State) : Host.Outcome State Fault Refusal :=
  finish s (s.request m 0x0303 .both (fun s _ rto =>
    if s.boot.maint then s.reply rto stInvalid
    else if s.boot.opt.maintLock then s.reply rto stRefused (.reason 0)
    else (s.reply rto stOK).askPlane .maintenance (some true)))

/-- MAINTENANCE_EXIT: a plane reset into normal mode, accepted only when strap bit 0 is clear (R570). -/
def execMaintenanceExit (m : Msg) (s : State) : Host.Outcome State Fault Refusal :=
  finish s (s.request m 0x0304 .both (fun s _ rto =>
    if !s.boot.maint || bit (s.getF Reg.BOOT_STRAP 9 6) 0 then s.reply rto stInvalid
    else (s.reply rto stOK).askPlane .maintenance (some false)))

/-! ### Block resets (R560, R579, R580) -/

/-- SOFT_RESET: a write to BOOT_SOFT_RESET with its key waits for the boundary; a wrong key is ignored (R560, R579). -/
def execSoftReset (value : Nat) (s : State) : Host.Outcome State Fault Refusal :=
  finish s (s.ctrlWrite Reg.BOOT_SOFT_RESET value (2 ^ 32 - 1) (fun s =>
    if value / 65536 % 65536 ≠ 0x57A2 then s.accessIgnored Reg.BOOT_SOFT_RESET value
    else { s with boot := { s.boot with softPend := s.boot.softPend ++ [value % 65536] } }))

/-- Are all the cores of a cluster fenced? -/
def State.clusterFenced (s : State) (c : Nat) : Bool := s.getF (Reg.MCA_CORE_STATUS c) 15 0 = 0xFFFF

/-- Is a unit that R560 resets only while fenced fenced; none for an instance of another kind? -/
def State.softUnit (s : State) (sub inst unit : Nat) : Option Bool :=
  if sub = 4 && decide (inst < 16) then some (s.getF (Reg.CIP_PIPE_STATUS inst) 0 0 = 1)
  else if sub = 10 && decide (inst < 64) then some (s.getF (Reg.VEN_FENCE_STATUS inst) 0 0 = 1)
  else if sub = 11 && decide (inst < 8) then some (s.getF (Reg.CMP_FENCE_STATUS inst) 0 0 = 1)
  else if sub = 8 && decide (inst < 16) then some (s.clusterFenced inst)
  else if sub = 12 && inst = 0 && decide (unit < 2) then some (bit (s.getR Reg.LAC_STATUS) (12 + unit))
  else none

/-- The queues of an egress port discarded as PORT_DOWN (R560). -/
def State.egressReset (s : State) (p : Nat) : State :=
  let s := s.each (s.legsOn p) (fun s l => s.discardQueues l 2)
  s.each (upTo 8) (fun s c =>
    let k := p * 8 + c
    let n := (tget ({} : PortQ) s.egs.portq k).pkts.length
    let s := s.setR (Reg.EGS_DROP p 2) (s.getR (Reg.EGS_DROP p 2) + n)
    { s with egs := { s.egs with portq := tdel k s.egs.portq } })

/-- One block reset acted on at the boundary (R560). [DESIGN CHOICE, notes/assumptions 41] -/
def State.softOne (s : State) (v : Nat) : State :=
  let inst := v % 256
  let sub := v / 256 % 16
  let unit := v / 4096 % 16
  let done (s : State) (refused : Bool) : State := s.setF Reg.BOOT_SOFT_STATUS 1 1 (b2n refused)
  if sub = 3 && decide (inst < 16) then done (portDown inst 15 s) false
  else if sub = 5 && decide (inst < 16) then done (s.egressReset inst) false
  else if sub = 7 && decide (inst < 16) then done (s.each (upTo 256) (fun s q => s.flushQueue (inst * 256 + q))) false
  else match s.softUnit sub inst unit with
    | some true =>
      let s := { s with boot := { s.boot with softRun := s.boot.softRun ++ [v] } }
      done (s.setF Reg.BOOT_SOFT_STATUS 0 0 1) false
    | some false => done s true
    | none => done (s.accessIgnored Reg.BOOT_SOFT_RESET (v + 0x57A2 * 65536)) true

/-- The block resets that wait for the boundary are acted on (R560). [DESIGN CHOICE, notes/assumptions 41] -/
def State.softBoundary (s : State) : State :=
  let xs := s.boot.softPend
  ({ s with boot := { s.boot with softPend := [] } }).each xs (fun s v => s.softOne v)

/-- SOFT_RESET_DONE: the tests of a block reset end; the unit stays fenced (R560, R580). [DESIGN CHOICE, notes/assumptions 41] -/
def softResetDone (pass : Bool) (s : State) : State :=
  match s.boot.softRun with
  | [] => s
  | _ :: rest =>
    let s := { s with boot := { s.boot with softRun := rest } }
    (s.setF Reg.BOOT_SOFT_STATUS 0 0 (b2n (!rest.isEmpty))).setF Reg.BOOT_SOFT_STATUS 2 2 (b2n pass)

/-- SOFT_RESET_DONE (R560). -/
def execSoftResetDone (pass : Bool) (s : State) : Host.Outcome State Fault Refusal := finish s (softResetDone pass s)

/-! ### Thermal trips, regulator faults, power loss (R554, R568, R687, R704, R705, R713) -/

/-- The device held in cold reset with nothing running (R554). -/
def State.hold (s : State) (trip : Bool) : State :=
  let s := s.coldBase
  { s with boot := { s.boot with inReset := true, thermalHold := trip }, pins := { s.pins with thermTrip := trip } }

/-- AVS_ALERT: STATUS_WORD is read; a regulator fault that it reports is fatal. The spec names no cause for it, so the cause of
its code is a free value (R705). [DESIGN CHOICE, notes/assumptions 41] -/
def avsAlert (fault : Bool) (s : State) : State :=
  if s.boot.inReset || s.boot.halted || !fault then s
  else
    let c := Config.freeNat s.free % 256
    (({ s with free := s.free + 1 }).raise (faultCode 1 4 c) subjNone).settleFatal

/-- AVS_ALERT (R705). -/
def execAvsAlert (fault : Bool) (s : State) : Host.Outcome State Fault Refusal := finish s (avsAlert fault s)

/-- THERMAL_TRIP: 125 °C drives THERMTRIP_N low, journals THERMAL_TRIP, and holds the device in cold reset (R554, R573, R713). -/
def thermalTrip (s : State) : State :=
  if s.boot.thermalHold then s
  else
    let s := if s.boot.inReset then s else s.journal { tick := s.faultTick, code := fltThermalTrip, subject := subjNone, hwQueued := s.boot.warmRun }
    (s.noteFatalReset).hold true

/-- THERMAL_TRIP (R713). -/
def execThermalTrip (s : State) : Host.Outcome State Fault Refusal := finish s (thermalTrip s)

/-- THERMAL_TRIP_END: below 105 °C the cold reset proceeds, on the board as found (R554). -/
def thermalTripEnd (env : BootEnv) (s : State) : State :=
  if s.boot.thermalHold then
    ({ s with boot := { s.boot with env := env, thermalHold := false }, pins := { s.pins with thermTrip := false } }).startUp 1 (some 3)
  else s

/-- THERMAL_TRIP_END (R554). -/
def execThermalTripEnd (env : BootEnv) (s : State) : Host.Outcome State Fault Refusal := finish s (thermalTripEnd env s)

/-- POWER_LOSS: VDD_AON falls; what the tally store, the flashes and one-time storage do not hold is lost, the always-on fatal
latch too (R704). -/
def powerLoss (s : State) : State :=
  let s := s.hold false
  { s with boot := { s.boot with alwaysOnFatal := 0 } }

/-- POWER_LOSS (R704). -/
def execPowerLoss (s : State) : Host.Outcome State Fault Refusal := finish s (powerLoss s)

end Sys2Proof.Machine
end

