-- ==== Sys2Proof/Machine/Dmc.lean ====
section
/-!
DEFINITION. The memory plane's steps (12): requests, errors, the channel commands, the copier's completions, refresh and
temperature, the page policy, and the set-point switch.
-/

namespace Sys2Proof.Machine

/-! ### DRAM mapping and the page policy (R447, R449, R464, R466) -/

/-- The remap entries that hold device address `a`, one or two copies, and the offset within the slice (R447). -/
def State.mapAddr (s : State) (a : Nat) : List Nat × Nat :=
  let m := s.dmc.mirrored
  if a < m * 100663296 then
    let p := a / 4096
    let o := p % 24576
    let k := p / 24576 * 12 + 2 * (o % 6)
    ([k, k + 1], o / 6 * 4096 + a % 4096)
  else
    let p := (a - m * 100663296) / 4096
    let o := p % 49152
    ([(m + p / 49152) * 12 + o % 12], o / 12 * 4096 + a % 4096)

/-- The usable size of the device address space (R446). [DESIGN CHOICE, notes/assumptions 10] -/
def State.usableSize (s : State) : Nat := s.dmc.mirrored * 100663296 + (s.dmc.stripes - s.dmc.mirrored) * 201326592

/-- Where channel-local address `a` lies in DRAM: rank, bank (subchannel × 32 + group × 4 + bank) and row (R449). -/
def State.dramPlace (s : State) (c a : Nat) : Nat × Nat × Nat :=
  let p := (s.chan c).dimm
  let h := if p.dimms.head?.elim false (·.x8) then 1 else 2
  let q := a / 2 ^ (17 + h)
  let rows := p.rankGib * 2 ^ 30 / 2 ^ (17 + h)
  let row := q % rows
  let group := (bits a 14 12) ^^^ (row % 8)
  let bank := (bits a 16 15) ^^^ (bits row 4 3)
  let rank := q / rows
  let rank := if s.getF (Reg.DMC_CH_STATUS c) 6 6 = 1 && rank = s.getF (Reg.DMC_CH_STATUS c) 13 12 then p.ranks - 1 else rank
  (rank, bits a 6 6 * 32 + group * 4 + bank, row)

/-- The row-disturbance table after an activate of row `r`, and whether a directed refresh is due (R464). -/
def rowActivate (rows : List (Nat × Nat)) (r threshold : Nat) : List (Nat × Nat) × Bool :=
  let low := rows.foldl (fun (b : Option (Nat × Nat)) e => match b with
    | none => some e
    | some x => if e.2 < x.2 then some e else b) none
  let i := match rows.findIdx? (fun e => e.1 = r) with
    | some i => i
    | none => if rows.length < 32 then rows.length else low.elim 0 (fun x => rows.findIdx (fun e => e = x))
  let old := (rows[i]?).elim 0 (·.2)
  let n := old + 1
  let due := decide (threshold ≤ n)
  let e := (r, if due then 0 else n)
  (if i < rows.length then rows.set i e else rows ++ [e], due)

/-- Ones in a 4-bit history. -/
def popcount4 (h : BitVec 4) : Nat := ((upTo 4).filter (fun i => h.getLsbD i)).length

/-- A rank of a channel changed. -/
def State.onRank (s : State) (c r : Nat) (f : RankSt → RankSt) : State :=
  s.onChan c (fun x => { x with ranks := tmod {} x.ranks r f })

/-- An access to a bank: hit or activate, row disturbance, and the page policy (R464, R466, R483). -/
def State.bankAccess (s : State) (c a : Nat) (otherRow : Bool) : State :=
  let (rank, bank, row) := s.dramPlace c a
  let b : BankSt := tget {} (tget {} (s.chan c).ranks rank).banks bank
  let hit := b.openRow = some row
  let (rows, due) := if hit then (b.rows, false) else rowActivate b.rows row (s.getF (Reg.DMC_CH_RD_CONFIG c) 13 0)
  let h := (b.hist <<< 1) ||| (if b.lastRow = some row then 1#4 else 0#4)
  let keep := decide (2 ≤ popcount4 h) && !otherRow
  let b : BankSt := { rows := rows, hist := h, lastRow := some row, openRow := if keep then some row else none }
  let s := s.onRank c rank (fun x => { x with banks := tset {} x.banks bank b })
  let s := if hit then s.incR64 (Reg.DMC_CH_PAGE_HITS c) else s.incR64 (Reg.DMC_CH_PAGE_MISSES c)
  if due then s.incR (Reg.DMC_CH_DRFM c) else s

/-! ### Lines (R451, R452, R455, R456) -/

/-- A line read from a channel: its bytes, or none for poison. A channel out of service answers poison (R472).
[DEDUCED, notes/assumptions 4] -/
def State.lineRead (s : State) (c a : Nat) (otherRow : Bool) : Option (List (BitVec 8)) × State :=
  if !s.chanServes c then (none, s)
  else
    let s := (s.bankAccess c a otherRow).incR64 (Reg.DMC_CH_READ_BYTES c) 64
    let v := memLine s.mem (cellAddr c (a / 64 * 64))
    (v, if v.isNone then s.incR (Reg.DMC_CH_POISON_READS c) else s)

/-- Bytes written to a line of a channel: a whole line clears poison, a part of a poisoned line leaves it poisoned (R456).
A write to a channel out of service is discarded (R472). -/
def State.lineWrite (s : State) (c a : Nat) (data : List (BitVec 8)) (otherRow : Bool) : State :=
  if !s.chanServes c then s
  else
    let s := (s.bankAccess c a otherRow).incR64 (Reg.DMC_CH_WRITE_BYTES c) data.length
    let base := cellAddr c (a / 64 * 64)
    if data.length = 64 || (memLine s.mem base).isSome then { s with mem := memPutAll s.mem (cellAddr c a) data } else s

/-- The slice position of an entry as a channel and channel-local address. -/
def State.entryPlace (s : State) (k off : Nat) : Nat × Nat :=
  let e := s.remapOf k
  (e.1, e.2 * sliceBytes + off)

/-- What becomes of the owner of a mirrored line that both copies have lost (R402, R452). -/
def State.mirrorOwner (s : State) (o : MemOwner) : State :=
  let fenceFold (s : State) (f : Nat) : State :=
    s.each ((s.legs.filter (fun e => e.2.state != .idle && e.2.desc.fold = f)).map (·.1)) (fun s l => s.fenceLeg l fltMirrorLost)
  match o with
  | .none => s.raise fltMirrorLost subjNone
  | .spill t =>
    let keep (l : List ReadyEnt) := l.filter (fun e => e.task ≠ t)
    let s := { s with drv := { s.drv with spillW := keep s.drv.spillW, spillG := keep s.drv.spillG, sweep := true } }
    (s.raise fltMirrorLost (subjTask t)).raise fltSpillLost (subjTask t)
  | .leg l => (s.raise fltMirrorLost (subjLeg l)).fenceLeg l fltMirrorLost
  | .fold f => fenceFold (s.raise fltMirrorLost (subjFold f)) f
  | .lineClass c => fenceFold (s.raise fltMirrorLost (subjLc c)) (s.lc c).desc.fold
  | .shadow f =>
    let hit := s.adm.staged.filter (fun p => p.fold = f)
    let s := { s with adm := { s.adm with staged := s.adm.staged.filter (fun p => p.fold ≠ f) } }
    let s := s.each hit (fun s p =>
      let s := s.each p.ops (fun s op => match op with
        | .legIn l .. => if (s.leg l).state = .admitting then (s.onLeg l (fun _ => {})).legStateNote l else s
        | _ => s)
      match p.reply with
      | some r => s.reply r stDeferred
      | none => s)
    s.raise fltMirrorLost (subjFold f)

/-- A mirrored line read: copy 0 unless it is being copied or returns poison, then copy 1, whose good value is written
back to copy 0 (R451); MIRROR_LOST when both are poison (R452). -/
def State.mirrorRead (s : State) (k0 k1 off : Nat) (r : MemReq) : Option (List (BitVec 8)) × State :=
  let p0 := s.entryPlace k0 off
  let p1 := s.entryPlace k1 off
  let (v0, s) := if s.entryCopying k0 then (none, s) else s.lineRead p0.1 p0.2 r.otherRow
  match v0 with
  | some v => (some v, s)
  | none =>
    let (v1, t) := if s.entryCopying k1 then (none, s) else s.lineRead p1.1 p1.2 r.otherRow
    match v1 with
    | some v => (some v, if s.entryCopying k0 then t else t.lineWrite p0.1 (p0.2 / 64 * 64) v false)
    | none => (none, t.mirrorOwner r.owner)

/-- The result of a read: poison, or the bytes asked for. -/
def State.answerRead (s : State) (r : MemReq) (v : Option (List (BitVec 8))) : State :=
  let out : LineRead := match v with
    | some bs => { addr := r.addr, data := (bs.drop (r.addr % 64)).take r.len }
    | none => { addr := r.addr, poison := true }
  { s with dmc := { s.dmc with lastRead := some out } }

/-- The set of the reference cache that a line falls in (R455): 65,536 sets of 16 ways. [DESIGN CHOICE, notes/assumptions 35] -/
def cacheSet (a : Nat) : Nat := a / 64 % 65536

/-- The cached copy of a line. -/
def State.cached (s : State) (a : Nat) : Option (List (BitVec 8)) :=
  ((tget [] s.dmc.cache (cacheSet a)).find? (fun e => e.line = a / 64)).map (·.data)

/-- A line put in front of its set; the least recently used leaves a full one (R455). [DESIGN CHOICE, notes/assumptions 35] -/
def State.cachePut (s : State) (a : Nat) (v : List (BitVec 8)) : State :=
  let put (l : List CacheLine) := (({ line := a / 64, data := v } : CacheLine) :: l.filter (fun e => e.line ≠ a / 64)).take 16
  { s with dmc := { s.dmc with cache := tmod [] s.dmc.cache (cacheSet a) put } }

/-- A line out of the cache. -/
def State.cacheDrop (s : State) (a : Nat) : State :=
  { s with dmc := { s.dmc with cache := tmod [] s.dmc.cache (cacheSet a) (fun l => l.filter (fun e => e.line ≠ a / 64)) } }

/-- A cached copy brought up to date by a write-through (R455). -/
def State.cacheUpdate (s : State) (a : Nat) (data : List (BitVec 8)) : State :=
  let upd (e : CacheLine) : CacheLine :=
    if e.line = a / 64 then { e with data := e.data.take (a % 64) ++ data ++ e.data.drop (a % 64 + data.length) } else e
  { s with dmc := { s.dmc with cache := tmod [] s.dmc.cache (cacheSet a) (fun l => l.map upd) } }

/-- CACHE_ECC, at most once per 600 ticks for the reference-cache partition (R455, R478). -/
def State.cacheEcc (s : State) : State := (s.incR Reg.DMC_CACHE_UNCORRECTED).raiseOnce fltCacheEcc (subjInst 13 16) 600

/-- A read of the non-mirrored region, through the reference cache for picture data (R455). -/
def State.plainRead (s : State) (k off : Nat) (r : MemReq) : State :=
  let p := s.entryPlace k off
  if r.kind != .picture then
    let (v, s) := s.lineRead p.1 p.2 r.otherRow
    s.answerRead r v
  else
    let s := { s with dmc := { s.dmc with accTick := s.dmc.accTick + 1 } }
    let s := if (s.cached r.addr).isSome && r.cacheErr == .uncorrectable then (s.cacheEcc).cacheDrop r.addr
      else if (s.cached r.addr).isSome && r.cacheErr == .corrected then s.incR Reg.DMC_CACHE_CORRECTED else s
    match s.cached r.addr with
    | some v =>
      let s := ({ s with dmc := { s.dmc with hitsTick := s.dmc.hitsTick + 1 } }).incR64 Reg.DMC_CACHE_HITS
      (s.cachePut r.addr v).answerRead r (some v)
    | none =>
      let (v, s) := (s.incR64 Reg.DMC_CACHE_MISSES).lineRead p.1 p.2 r.otherRow
      (match v with
        | some bs => s.cachePut r.addr bs
        | none => s).answerRead r v

/-- A syntax line: written to the cache only, pinned until its consuming node ends (R455). -/
def State.syntaxAccess (s : State) (r : MemReq) : State :=
  let others := s.dmc.syntaxLines.filter (fun e => e.line ≠ r.addr / 64)
  if r.write then { s with dmc := { s.dmc with syntaxLines := others ++ [{ line := r.addr / 64, data := r.data.take 64 }] } }
  else
    let v := (s.dmc.syntaxLines.find? (fun e => e.line = r.addr / 64)).map (·.data)
    let s := if r.cacheErr == .uncorrectable then s.cacheEcc else if r.cacheErr == .corrected then s.incR Reg.DMC_CACHE_CORRECTED else s
    let s := if r.lastUse then { s with dmc := { s.dmc with syntaxLines := others } } else s
    s.answerRead r (if r.cacheErr == .uncorrectable then none else v)

/-- A request served now (R447, R451, R453, R456). [DESIGN CHOICE, notes/assumptions 35] -/
def State.serveReq (s : State) (r : MemReq) : State :=
  let (ks, off) := s.mapAddr r.addr
  let data := r.data.take (64 - r.addr % 64)
  match ks with
  | [k0, k1] =>
    if r.write then
      let p0 := s.entryPlace k0 off
      let p1 := s.entryPlace k1 off
      (s.lineWrite p0.1 p0.2 data r.otherRow).lineWrite p1.1 p1.2 data r.otherRow
    else
      let (v, s) := s.mirrorRead k0 k1 off r
      s.answerRead r v
  | k :: _ =>
    if r.write then
      let p := s.entryPlace k off
      (s.lineWrite p.1 p.2 data r.otherRow).cacheUpdate r.addr data
    else s.plainRead k off r
  | [] => s

/-- Bytes that the write-hold area holds (R468). -/
def State.heldBytes (s : State) : Nat := sumN (s.dmc.hold.map (fun r => r.data.length))

/-- A held write that covers the bytes of a read (R468): the newest one. -/
def State.heldFor (s : State) (r : MemReq) : Option MemReq :=
  (s.dmc.hold.filter (fun w => decide (w.addr ≤ r.addr) && decide (r.addr + r.len ≤ w.addr + w.data.length))).getLast?

/-- A request in the gap of a set-point switch (R468): writes are held, reads that a held write or a cached line serves are
served, and everything else waits. -/
def State.gapReq (s : State) (r : MemReq) : State :=
  if r.write then
    if s.heldBytes + r.data.length ≤ 25165824 && !s.dmc.stalled.any (·.write) then { s with dmc := { s.dmc with hold := s.dmc.hold ++ [r] } }
    else ({ s with dmc := { s.dmc with stalled := s.dmc.stalled ++ [r] } }).incR Reg.DMC_CACHE_HOLD_STALLS
  else
    match s.heldFor r with
    | some w =>
      let out : LineRead := { addr := r.addr, data := (w.data.drop (r.addr - w.addr)).take r.len }
      { s with dmc := { s.dmc with lastRead := some out } }
    | none =>
      if (s.cached r.addr).isSome && r.kind == .picture && !s.dmc.hold.any (fun w => w.addr / 64 = r.addr / 64) then
        s.plainRead ((s.mapAddr r.addr).1.headD 0) (s.mapAddr r.addr).2 r
      else { s with dmc := { s.dmc with stalled := s.dmc.stalled ++ [r] } }

/-- DRAM_ACCESS: a request mapped and served (R447, R466). A write to a region that the seal protects is discarded with the
fault of R13 (R594). [DESIGN CHOICE, notes/assumptions 10] -/
def dramAccess (r : MemReq) (s : State) : State :=
  if r.kind == .syntax_ then s.syntaxAccess r
  else if r.write && r.guarded then s.raise (faultCode 15 0 1) (subjOffset r.addr)
  else if s.dmc.gap.isSome then s.gapReq r
  else s.serveReq r

/-- DRAM_ACCESS (R466). An address past the usable size does not exist (R446). -/
def execDramAccess (r : MemReq) (s : State) : Host.Outcome State Fault Refusal :=
  if r.kind != .syntax_ && decide (s.usableSize < r.addr + r.len) then .fault .addressOutside else finish s (dramAccess r s)

/-! ### Errors (R457) -/

/-- Events of the last 600 ticks with `n` more, and their number. -/
def window600 (w : List (Nat × Nat)) (now n : Nat) : List (Nat × Nat) × Nat :=
  let w := w.filter (fun e => decide (now < e.1 + 600)) ++ [(now, n)]
  (w, sumN (w.map (·.2)))

/-- A corrected error of a rank; CE_RATE above 1,000 in 600 ticks (R457). [DESIGN CHOICE, notes/assumptions 61] -/
def State.correctedErr (s : State) (c r : Nat) : State :=
  let s := (s.incR (Reg.DMC_CH_CE c)).incR (Reg.DMC_CH_RANK_CE c r)
  let (w, n) := window600 (tget ({} : RankSt) (s.chan c).ranks r).ceWin s.now 1
  let excess := decide (1000 < n)
  let s := s.onRank c r (fun x => { x with ceWin := if excess then [] else w })
  if excess then
    let s := s.raise fltCeRate (subjRank c r)
    if (s.allocate c (s.entriesOn c)).isSome then s.autoDrain c else s
  else s

/-- DRAM_CORRECTABLE_ERROR (R457). -/
def execDramCorrectableError (c r : Nat) (s : State) : Host.Outcome State Fault Refusal := finish s (s.correctedErr c r)

/-- DRAM_UNCORRECTABLE_ERROR: a good re-read counts as correctable; otherwise the line is poisoned and reported, and the
rank migrates, or past 16 in 600 ticks its channel drains and retrains (R457). [DESIGN CHOICE, notes/assumptions 61] -/
def dramUncorrectableError (c a : Nat) (rereadGood : Bool) (s : State) : State :=
  let r := (s.dramPlace c a).1
  if rereadGood then s.correctedErr c r
  else
    let base := cellAddr c (a / 64 * 64)
    let s := ({ s with mem := memErase s.mem base (base + 64) }).incR (Reg.DMC_CH_UE c)
    let s := s.raiseOnce fltLinePoisoned (subjRank c r) 600
    let (w, n) := window600 (tget ({} : RankSt) (s.chan c).ranks r).ueWin s.now 1
    let s := s.onRank c r (fun x => { x with ueWin := w })
    s.rankFails c r (fun s => if 16 < n then s.autoDrain c else s)

/-- DRAM_UNCORRECTABLE_ERROR (R457). -/
def execDramUncorrectableError (c a : Nat) (rereadGood : Bool) (s : State) : Host.Outcome State Fault Refusal :=
  finish s (dramUncorrectableError c a rereadGood s)

/-- DRAM_COMMAND_ERROR: replays are counted; exhausted on one rank (1) the rank migrates or the channel drains and
retrains, exhausted on every rank (2) the channel is lost (R457). -/
def dramCommandError (c r replays exhausted : Nat) (s : State) : State :=
  let s := s.incR (Reg.DMC_CH_CMD_RETRY c) (Nat.min 3 replays)
  if exhausted = 0 then s
  else if exhausted = 1 then s.rankFails c r (fun s => s.autoDrain c)
  else s.loseChan c

/-- DRAM_COMMAND_ERROR (R457). -/
def execDramCommandError (c r replays exhausted : Nat) (s : State) : Host.Outcome State Fault Refusal :=
  finish s (dramCommandError c r replays exhausted s)

/-- CHANNEL_LOST (R472). -/
def execChannelLost (c : Nat) (s : State) : Host.Outcome State Fault Refusal := finish s (s.loseChan c)

/-! ### Channel commands (R473 to R475, R482) -/

/-- A command written to DMC_CH_CTRL, acted on at the next boundary (R482). [DESIGN CHOICE, notes/assumptions 8] -/
def chCommand (c cmd : Nat) (s : State) : State :=
  s.ctrlWrite (Reg.DMC_CH_CTRL c) cmd 7 (fun s => s.onChan c (fun x => { x with cmdPend := cmd }))

/-- DMC_DRAIN (R473). -/
def execDmcDrain (c : Nat) (s : State) : Host.Outcome State Fault Refusal := finish s (chCommand c 1 s)
/-- DMC_RETRAIN (R475). -/
def execDmcRetrain (c : Nat) (s : State) : Host.Outcome State Fault Refusal := finish s (chCommand c 2 s)
/-- DMC_REJOIN (R475). -/
def execDmcRejoin (c : Nat) (s : State) : Host.Outcome State Fault Refusal := finish s (chCommand c 3 s)
/-- DMC_FENCE (R474). -/
def execDmcFence (c : Nat) (s : State) : Host.Outcome State Fault Refusal := finish s (chCommand c 4 s)

/-- FENCE at its boundary: refused when the free slices cannot hold the channel's (R474). [DESIGN CHOICE, notes/assumptions 35] -/
def State.fenceCmd (s : State) (c : Nat) : State :=
  if s.chState c = chDrained then s.fenceChan c
  else match s.rehome c with
    | some t => t.fenceChan c
    | none => s.setF (Reg.DMC_CH_STATUS c) 18 18 1

/-- The command of a channel at its boundary; one that its state does not allow raises the fault of R13 (R482).
[DESIGN CHOICE, notes/assumptions 35] -/
def State.chanCmd (s : State) (c : Nat) : State :=
  let cmd := (s.chan c).cmdPend
  let st := s.chState c
  let s := s.onChan c (fun x => { x with cmdPend := 0 })
  if cmd = 0 then s
  else if cmd = 1 && st = chActive then s.drainChan c false
  else if cmd = 2 && (st = chDrained || st = chFenced || st = chAbsent) then s.retrainChan c
  else if cmd = 3 && st = chDrained then s.rejoinChan c
  else if cmd = 4 && (s.chanServes c || st = chDrained) then s.fenceCmd c
  else s.accessIgnored (Reg.DMC_CH_CTRL c) cmd

/-- RETRAIN_DONE: the hubs are read and fit-checked and every set point trained; with the set point in force trained the
channel is DRAINED, else FENCED with CHANNEL_LOST (R444, R475). [DESIGN CHOICE, notes/assumptions 37] -/
def retrainDone (c : Nat) (p : DimmPop) (outcomes : List Nat) (s : State) : State :=
  if s.chState c ≠ chTraining then s
  else
    let auto := (s.chan c).autoDrain
    let s := s.onChan c (fun x => { x with dimm := p, trained := outcomes, slices := s.popSlices p, autoDrain := false })
    let (s, used) := s.fitDimm c p false
    let s := s.showPop c
    if !used || !s.popOk p then s.setChState c chAbsent
    else
      let sps := upTo (s.boot.image.device.elim 0 (fun d => d.rates.length))
      let s := s.each (sps.filter (fun n => s.trainOutcome p outcomes n = 1)) (fun s _ => s.raise fltTrainingMarginal (subjChan c))
      let left := s.dmc.setPoints.filter (fun n => n = s.dmc.setPoint || s.trainOutcome p outcomes n ≠ 2)
      let s := { s with dmc := { s.dmc with setPoints := left } }
      if s.trainOutcome p outcomes s.dmc.setPoint = 2 then s.fenceChan c
      else
        let s := (s.setChState c chDrained).setF (Reg.DMC_CH_STATUS c) 6 6 0
        let s := { s with tly := { s.tly with spareUsed := tdel c s.tly.spareUsed } }
        let s := s.showPop c
        let s := s.clearReason (fun r => r.code = fltRankSpared && decide (subjRank c 0 ≤ r.subject ∧ r.subject ≤ subjRank c 3))
        if auto then s.rejoinChan c else s

/-- RETRAIN_DONE (R475). -/
def execRetrainDone (c : Nat) (p : DimmPop) (outcomes : List Nat) (s : State) : Host.Outcome State Fault Refusal :=
  finish s (retrainDone c p outcomes s)

/-! ### The copier's completions (R451, R469 to R475) -/

/-- The steps of the copier's job after its first one; a job without steps ends. -/
def State.stepDone (s : State) (j : CopyJob) : State :=
  let jobs := if j.steps.length ≤ 1 then s.dmc.jobs.drop 1 else { j with steps := j.steps.drop 1 } :: s.dmc.jobs.drop 1
  { s with dmc := { s.dmc with jobs := jobs } }

/-- A slice moved: its contents, its remap entry, and the slice it leaves, which a channel in service fills before it
counts as free (R469, R470). [DESIGN CHOICE, notes/assumptions 37] -/
def State.moveSlice (s : State) (x : CopyStep) : State :=
  match x.entry with
  | none => s
  | some k =>
    let old := s.remapOf k
    let s := { s with mem := memCopy s.mem (cellAddr old.1 (old.2 * sliceBytes)) (cellAddr x.chan (x.slice * sliceBytes)) sliceBytes }
    let s := { s with mem := memErase s.mem (cellAddr old.1 (old.2 * sliceBytes)) (cellAddr old.1 ((old.2 + 1) * sliceBytes)) }
    let s := s.switchEntries [(k, x.chan, x.slice)]
    if s.chState old.1 = chActive then s.addFill old.1 old.2 else s.giveSlice old.1 old.2

/-- The end of a job of the copier (R473, R475). -/
def State.jobEnd (s : State) (j : CopyJob) : State :=
  match j.kind with
  | .drain => if (s.chan j.chan).autoDrain then s.retrainChan j.chan else s.setChState j.chan chDrained
  | .rejoin => ((s.setChState j.chan chActive).setChOut j.chan false).clearReasonOf fltChannelLost (subjChan j.chan)
  | _ => s

/-- COPIER_SLICE_DONE: the slice that the copier moves or fills is complete (R469, R470). Rebuilds and migrations end by
commands of their own. [DESIGN CHOICE, notes/assumptions 36] -/
def copierSliceDone (s : State) : State :=
  match s.dmc.jobs with
  | [] => s
  | j :: _ =>
    match j.kind, j.steps with
    | .rebuild, _ => s
    | .rank, _ => s
    | _, [] => (s.stepDone j).jobEnd j
    | k, x :: rest =>
      let s := s.stepDone j
      let s := match k with
        | .drain => s.moveSlice x
        | .rejoin => if x.entry.isNone then s.eraseChan j.chan else (s.takeSlice x.chan x.slice).moveSlice x
        | _ => s.giveSlice x.chan x.slice
      if rest = [] then s.jobEnd j else s

/-- COPIER_SLICE_DONE (R469). -/
def execCopierSliceDone (s : State) : Host.Outcome State Fault Refusal := finish s (copierSliceDone s)

/-- RANK_MIGRATION_DONE: the spare takes the failed rank's addresses (R471). [DESIGN CHOICE, notes/assumptions 36] -/
def rankMigrationDone (c : Nat) (s : State) : State :=
  match (s.chan c).migRank with
  | none => s
  | some r =>
    let s := s.onChan c (fun x => { x with migRank := none })
    let s := { s with dmc := { s.dmc with jobs := s.dmc.jobs.filter (fun j => !(j.kind = CopyKind.rank && j.chan = c)) } }
    let s := { s with tly := { s.tly with spareUsed := tins c (r + 1) (tdel c s.tly.spareUsed) } }
    let s := ((s.setF (Reg.DMC_CH_STATUS c) 7 7 0).setF (Reg.DMC_CH_STATUS c) 6 6 1).setF (Reg.DMC_CH_STATUS c) 13 12 r
    (s.setF (Reg.DMC_CH_STATUS c) 11 8 (s.ranksUp c)).raise fltRankSpared (subjRank c r)

/-- RANK_MIGRATION_DONE (R471). -/
def execRankMigrationDone (c : Nat) (s : State) : Host.Outcome State Fault Refusal := finish s (rankMigrationDone c s)

/-- MIRROR_REBUILD_DONE: the mirrored copy that the copier rebuilds is complete; with the last one MIRROR_DEGRADED ends
(R451, R724). -/
def mirrorRebuildDone (s : State) : State :=
  match s.dmc.jobs with
  | j :: _ =>
    match j.kind, j.steps with
    | .rebuild, x :: rest =>
      let k := x.entry.getD 0
      let src := s.remapOf (otherCopy k)
      let dst := s.remapOf k
      let s := (s.stepDone j)
      let s := { s with mem := memCopy s.mem (cellAddr src.1 (src.2 * sliceBytes)) (cellAddr dst.1 (dst.2 * sliceBytes)) sliceBytes, dmc := { s.dmc with lostCopies := s.dmc.lostCopies.erase k } }
      if rest = [] then s.clearReasonOf fltMirrorDegraded (subjChan j.chan) else s
    | _, _ => s
  | [] => s

/-- MIRROR_REBUILD_DONE (R451). -/
def execMirrorRebuildDone (s : State) : Host.Outcome State Fault Refusal := finish s (mirrorRebuildDone s)

/-! ### Refresh and temperature (R460 to R463) -/

/-- The highest owed count of the tick so far (R481). -/
def State.noteOwed (s : State) (c : Nat) (o : Int) : State :=
  s.onChan c (fun x => { x with owedMax := Nat.max x.owedMax (clampI 0 4 o).toNat })

/-- REFRESH_DUE: a tREFI passes for a bank set. `placed` REFsb went in since the last one, at most to 4 ahead; past 4 owed,
one is issued at once (R460). -/
def refreshDue (c r b placed : Nat) (s : State) : State :=
  let o : Int := tget 0 (tget ({} : RankSt) (s.chan c).ranks r).owed b
  let o := (if o - placed < -4 then -4 else o - placed) + 1
  let urgent := decide (4 < o)
  let o := if urgent then 4 else o
  let s := (s.onRank c r (fun x => { x with owed := tset 0 x.owed b o })).noteOwed c o
  if urgent then s.incR (Reg.DMC_CH_URGENT_REFRESH c) else s

/-- REFRESH_DUE (R460). -/
def execRefreshDue (c r b placed : Nat) (s : State) : Host.Outcome State Fault Refusal := finish s (refreshDue c r b placed s)

/-- The owed counts of a rank at a crossing up, and the urgent commands issued (R462). -/
def owedUp (t : Tbl Int) : Tbl Int × Nat :=
  let f (o : Int) : Int := if 0 < o then 2 * o else 0
  (t.filterMap (fun e => let v := clampI 0 4 (f e.2); if v = 0 then none else some (e.1, v)),
    sumN (t.map (fun e => (f e.2 - 4).toNat)))

/-- The owed counts of a rank at a crossing down: halved, rounded up (R462). -/
def owedDown (t : Tbl Int) : Tbl Int := t.filterMap (fun e => let v := -((-e.2) / 2); if v = 0 then none else some (e.1, v))

/-- The ranks of DIMM `d` of a channel. -/
def State.dimmRanks (s : State) (c d : Nat) : List Nat :=
  let ds := (s.chan c).dimm.dimms
  let from_ := sumN ((ds.take d).map (·.ranks))
  fromTo from_ (from_ + (ds[d]?).elim 0 (·.ranks))

/-- A crossing of a DIMM to the doubled rate or back (R461, R462). -/
def State.crossing (s : State) (c d : Nat) (up : Bool) : State :=
  let s := s.each (s.dimmRanks c d) (fun s r =>
    let o := (tget ({} : RankSt) (s.chan c).ranks r).owed
    if up then
      let s := s.onRank c r (fun x => { x with owed := (owedUp o).1, doubled := true, coolReads := 0 })
      let s := s.each (owedUp o).1 (fun s e => s.noteOwed c e.2)
      s.incR (Reg.DMC_CH_URGENT_REFRESH c) (owedUp o).2
    else s.onRank c r (fun x => { x with owed := owedDown o, doubled := false, coolReads := 0 }))
  (s.incR (Reg.DMC_CH_RATE_CROSSINGS c)).setF (Reg.DMC_CH_STATUS c) (14 + d) (14 + d) (b2n up)

/-- The next lower set point that remains (R463). -/
def State.lowerSp (s : State) : Option Nat := (s.dmc.setPoints.filter (fun n => decide (s.dmc.setPoint < n))).head?

/-- A DIMM at 95 °C or more (R463): DIMM_HOT and the next lower set point; at the lowest, DIMM_HOT again every 600
ticks. [DESIGN CHOICE, notes/assumptions 37] -/
def State.dimmHot (s : State) (c : Nat) : State :=
  if s.dmc.wantSp.isSome && s.dmc.hotFrom.isSome then s
  else match s.lowerSp with
    | some n =>
      let s := { s with dmc := { s.dmc with wantSp := some n, hotFrom := some (s.dmc.hotFrom.getD s.dmc.setPoint), hotTick := some s.now } }
      s.raise fltDimmHot (subjChan c)
    | none =>
      if s.dmc.hotTick.elim true (fun t => decide (t + 600 ≤ s.now)) then
        ({ s with dmc := { s.dmc with hotTick := some s.now } }).raise fltDimmHot (subjChan c)
      else s

/-- DIMM_TEMP_READ: a hub temperature and the MR4 fields of the DIMM's ranks (R461, R463). -/
def dimmTempRead (c d : Nat) (t : Int) (mr4 : Bool) (s : State) : State :=
  if s.chState c = chAbsent || s.chState c = chFenced then s
  else
    let s := s.setF (Reg.DMC_CH_TEMP c) (8 * d + 7) (8 * d) (toBits 8 t)
    let s := if 85 < t then { s with dmc := { s.dmc with warmTick := s.now } } else s
    let doubled := bit (s.getR (Reg.DMC_CH_STATUS c)) (14 + d)
    let cool := (s.dimmRanks c d).head?.elim 0 (fun r => (tget ({} : RankSt) (s.chan c).ranks r).coolReads)
    let s :=
      if !doubled then if decide (85 < t) || mr4 then s.crossing c d true else s
      else if decide (t ≤ 82) && !mr4 then
        if 9 ≤ cool then s.crossing c d false
        else s.each (s.dimmRanks c d) (fun s r => s.onRank c r (fun x => { x with coolReads := cool + 1 }))
      else s.each (s.dimmRanks c d) (fun s r => s.onRank c r (fun x => { x with coolReads := 0 }))
    if 95 ≤ t then s.dimmHot c else s

/-- DIMM_TEMP_READ (R461). -/
def execDimmTempRead (c d : Nat) (t : Int) (mr4 : Bool) (s : State) : Host.Outcome State Fault Refusal := finish s (dimmTempRead c d t mr4 s)

/-- DQS_DRIFT_COMP: drift is compensated every 6 ticks (R444). -/
def execDqsDriftComp (s : State) : Host.Outcome State Fault Refusal := finish s { s with dmc := { s.dmc with dqs := s.now } }

/-- ZQ_LATCH: calibration results are latched every 600 ticks (R444). -/
def execZqLatch (s : State) : Host.Outcome State Fault Refusal := finish s { s with dmc := { s.dmc with zq := s.now } }

/-- Every bank of every channel changed. -/
def State.allBanks (s : State) (f : BankSt → BankSt) : State :=
  s.each (upTo 12) (fun s c => s.each (tkeys (s.chan c).ranks) (fun s r => s.onRank c r (fun x =>
    { x with banks := (tkeys x.banks).foldl (fun t b => tmod {} t b f) x.banks })))

/-- ROW_TABLE_CLEAR: at each boundary whose tick is a multiple of 19 (R465). -/
def rowTableClear (s : State) : State := if s.now % 19 = 0 then s.allBanks (fun b => { b with rows := [] }) else s

/-- ROW_TABLE_CLEAR (R465). -/
def execRowTableClear (s : State) : Host.Outcome State Fault Refusal := finish s (rowTableClear s)

/-- OPEN_ROW_TIMEOUT: an open row closes after 512 controller clocks without access (R466). -/
def execOpenRowTimeout (c r b : Nat) (s : State) : Host.Outcome State Fault Refusal :=
  finish s (s.onRank c r (fun x => { x with banks := tmod {} x.banks b (fun y => { y with openRow := none }) }))

/-! ### The set point (R463, R467, R468) -/

/-- The set point in force changed: what the channels show, and the trained peak (R445, R479). -/
def State.putSetPoint (s : State) (n : Nat) : State :=
  let s := { s with dmc := { s.dmc with setPoint := n }, adm := { s.adm with recount := true } }
  s.each (upTo 12) (fun s c => if s.chState c = chAbsent then s else s.showPop c)

/-- SET_POINT_SWITCH: at a boundary, with the copier idle and no channel TRAINING, the switch that is wanted begins
(R467, R468). -/
def setPointSwitch (s : State) : State :=
  match s.dmc.wantSp with
  | none => s
  | some n =>
    if !s.dmc.jobs.isEmpty || s.dmc.gap.isSome || (upTo 12).any (fun c => s.chState c = chTraining) then s
    else
      let old := s.dmc.setPoint
      let s := { s with dmc := { s.dmc with wantSp := none, gap := some old } }
      (s.putSetPoint n).setF Reg.DMC_CACHE_STATUS 16 16 1

/-- SET_POINT_SWITCH (R468). -/
def execSetPointSwitch (s : State) : Host.Outcome State Fault Refusal := finish s (setPointSwitch s)

/-- SET_POINT_GAP_END: the sequence has completed within 40 µs: owed counts and row tables are clear, held writes drain in
order before the requests that waited. Otherwise the channels return to the previous set point through the same sequence
(R468). -/
def setPointGapEnd (inTime : Bool) (s : State) : State :=
  match s.dmc.gap with
  | none => s
  | some old =>
    if inTime then
      let s := s.allBanks (fun b => { b with rows := [] })
      let s := s.each (upTo 12) (fun s c => s.each (tkeys (s.chan c).ranks) (fun s r => s.onRank c r (fun x => { x with owed := [] })))
      let todo := s.dmc.hold ++ s.dmc.stalled
      let s := { s with dmc := { s.dmc with gap := none, hold := [], stalled := [], zq := s.now } }
      (s.each todo (fun s r => s.serveReq r)).setF Reg.DMC_CACHE_STATUS 16 16 0
    else
      let cur := s.dmc.setPoint
      let s := s.raise fltTrainingMarginal subjNone
      ({ s with dmc := { s.dmc with gap := some cur } }).putSetPoint old

/-- SET_POINT_GAP_END (R468). -/
def execSetPointGapEnd (inTime : Bool) (s : State) : Host.Outcome State Fault Refusal := finish s (setPointGapEnd inTime s)

/-- SET_POINT_RESTORE: after 600 ticks in which every DIMM reads at most 85 °C the higher set point returns (R463), and
the reasons for DIMM_HOT clear (R685). [DESIGN CHOICE, notes/assumptions 37] -/
def setPointRestore (s : State) : State :=
  match s.dmc.hotFrom with
  | none => s
  | some n =>
    if s.now < s.dmc.warmTick + 600 then s
    else
      let s := { s with dmc := { s.dmc with hotFrom := none, wantSp := if s.dmc.setPoints.contains n then some n else none } }
      s.clearReason (fun r => r.code = fltDimmHot)

/-- SET_POINT_RESTORE (R463). -/
def execSetPointRestore (s : State) : Host.Outcome State Fault Refusal := finish s (setPointRestore s)

/-! ### The boundary (R481, R482, R484) -/

/-- The memory plane's part of a boundary: the channel commands, and what the registers show of the tick that ended. -/
def State.dmcBoundary (s : State) : State :=
  let s := s.each (upTo 12) (fun s c =>
    let s := s.setF (Reg.DMC_CH_TEMP c) 19 16 (s.chan c).owedMax
    (s.onChan c (fun x => { x with owedMax := 0 })).chanCmd c)
  let s := s.setF Reg.DMC_CACHE_STATUS 15 0 (if s.dmc.accTick = 0 then 0 else s.dmc.hitsTick * 10000 / s.dmc.accTick)
  { s with dmc := { s.dmc with hitsTick := 0, accTick := 0 } }

end Sys2Proof.Machine
end

