-- ==== Sys2Proof/Machine/Snap.lean ====
section
/-!
DEFINITION. Snapshot registers: the select commands of every block, what each snapshot holds, and SNAPSHOT_LATCH (R109,
R110, R153 to R155, R197 to R200, R240 to R242, R282 to R285, R319 to R321, R358 to R361, R386, R387, R422, R486, R610).
-/

namespace Sys2Proof.Machine

/-! ### Select commands -/

/-- Dword `d` with its RW fields taken from `v`. -/
def State.putRw (s : State) (d v : Nat) : State :=
  let m := maskOf d (fun a => a = .rw)
  let old := s.getR d
  s.setR d (old - (old &&& m) + (v &&& m))

/-- A write of a snapshot-select register: the selection is kept, valid goes, and the object is latched at the end of the
tick (R109). -/
def State.selectObject (s : State) (d value : Nat) : State :=
  s.ctrlWrite d value (2 ^ 31) (fun s =>
    let s := (s.putRw d value).setF d 31 31 0
    { s with selPend := insertAsc d s.selPend })

/-- NET_PE_LEG_SELECT (R109). -/
def execNetPeLegSelect (value : Nat) (s : State) : Host.Outcome State Fault Refusal := finish s (s.selectObject Reg.NET_PE_LEG_SELECT value)
/-- CIP_KS_SLOT_SELECT (R153). -/
def execCipKsSlotSelect (value : Nat) (s : State) : Host.Outcome State Fault Refusal := finish s (s.selectObject Reg.CIP_KS_SLOT_SELECT value)
/-- AUD_FOLD_SELECT (R197). -/
def execAudFoldSelect (value : Nat) (s : State) : Host.Outcome State Fault Refusal := finish s (s.selectObject Reg.AUD_FOLD_SELECT value)
/-- AUD_LEG_SELECT (R200). -/
def execAudLegSelect (value : Nat) (s : State) : Host.Outcome State Fault Refusal := finish s (s.selectObject Reg.AUD_LEG_SELECT value)
/-- VEN_STREAM_SELECT (R240). -/
def execVenStreamSelect (value : Nat) (s : State) : Host.Outcome State Fault Refusal := finish s (s.selectObject Reg.VEN_STREAM_SELECT value)
/-- VEN_LC_SELECT (R319). -/
def execVenLcSelect (value : Nat) (s : State) : Host.Outcome State Fault Refusal := finish s (s.selectObject Reg.VEN_LC_SELECT value)
/-- CMP_OUTPUT_SELECT (R282). -/
def execCmpOutputSelect (value : Nat) (s : State) : Host.Outcome State Fault Refusal := finish s (s.selectObject Reg.CMP_OUTPUT_SELECT value)
/-- LAC_VIEWER_SELECT (R358). -/
def execLacViewerSelect (value : Nat) (s : State) : Host.Outcome State Fault Refusal := finish s (s.selectObject Reg.LAC_VIEWER_SELECT value)
/-- LAC_FWD_LEG_SELECT (R358). -/
def execLacFwdLegSelect (value : Nat) (s : State) : Host.Outcome State Fault Refusal := finish s (s.selectObject Reg.LAC_FWD_LEG_SELECT value)
/-- LAC_ADAPT_LEG_SELECT (R358). -/
def execLacAdaptLegSelect (value : Nat) (s : State) : Host.Outcome State Fault Refusal := finish s (s.selectObject Reg.LAC_ADAPT_LEG_SELECT value)
/-- EGS_LEG_SELECT (R386). -/
def execEgsLegSelect (value : Nat) (s : State) : Host.Outcome State Fault Refusal := finish s (s.selectObject Reg.EGS_LEG_SELECT value)
/-- DRV_TASK_SELECT (R422). -/
def execDrvTaskSelect (value : Nat) (s : State) : Host.Outcome State Fault Refusal := finish s (s.selectObject Reg.DRV_TASK_SELECT value)
/-- DMC_REMAP_SELECT (R486). -/
def execDmcRemapSelect (value : Nat) (s : State) : Host.Outcome State Fault Refusal := finish s (s.selectObject Reg.DMC_REMAP_SELECT value)
/-- BOOT_INV_SELECT (R610). -/
def execBootInvSelect (value : Nat) (s : State) : Host.Outcome State Fault Refusal := finish s (s.selectObject Reg.BOOT_INV_SELECT value)

/-! ### What the snapshots hold -/

/-- Ticks from `t` to now, held to 32 bits. -/
def State.since (s : State) (t : Nat) : Nat := (s.now - t) % 2 ^ 32

/-- The 16 counters of a leg (R110). [DESIGN CHOICE, notes/assumptions 59] -/
def State.legNetCtr (s : State) (l : Nat) : List Nat :=
  let g := s.leg l
  (upTo 13).map (fun n => tget 0 g.rxCtr n) ++ [s.since g.consentTick, g.rttTicks, b2n g.sideB + b2n g.txStopped * 2]

/-- The twelve values of a leg's egress snapshot (R387). [DESIGN CHOICE, notes/assumptions 59] -/
def State.legEgCtr (s : State) (l : Nat) : List Nat :=
  let e := (s.leg l).eg
  [e.rate, e.burst, toBits 32 (e.level / 192), e.quantum] ++ (fromTo 4 11).map (fun n => tget 0 e.ctr n) ++ [(s.leg l).queued % 2 ^ 32]

/-- EGS_LEG_INFO (R386). -/
def State.legEgInfo (s : State) (l : Nat) : Nat :=
  let e := (s.leg l).eg
  sumN ((upTo 8).map (fun c => b2n ((tget {} e.queues c).pkts.length ≠ 0) * 2 ^ c))
    + b2n (e.queues.any (fun q => q.2.parked)) * 256 + e.fecL % 16 * 512 + ((s.legSubport l).getD 0) % 4 * 8192

/-- CIP_KS_SLOT_INFO (R154). -/
def KeySlot.info (k : KeySlot) : Nat :=
  b2n k.valid + b2n k.draining * 2 + k.kek % 4 * 4 + k.suite % 16 * 16 + k.generation % 2 ^ 24 * 256

/-- CIP_KS_SLOT_INDEX: the highest authenticated index of the leg's inbound streams, or the last index of its outbound
streams, once the key has been used (R117, R155). [DESIGN CHOICE, notes/assumptions 18] -/
def State.slotIndex (s : State) (n : Nat) : Nat :=
  let out := n / 2 % 2 = 1
  let k := s.slot n
  let es := (s.entries (n / 4)).filter (fun e => if out then (s.stream e).desc.outbound else (s.stream e).desc.inbound)
  let i := maxN (es.map (fun e => if out then (s.stream e).tx.lastIndex else (s.stream e).rx.highest))
  if k.used then i % 2 ^ 48 + 2 ^ 63 else 0

/-- AUD_FOLD_INFO of the record of the current tick (R197, R198). -/
def State.audFoldInfo (s : State) (f : Nat) : Nat :=
  let r := s.fold f
  let own := r.decodeNext.filter (fun l => !s.unlevelledOpus l)
  r.draft.lead.getD 0 + b2n r.draft.lead.isSome * 2 ^ 14 + Nat.min 15 r.draft.members.length * 2 ^ 16 + Nat.min 31 own.length * 2 ^ 20

/-- AUD_FOLD_LIST_n (R199). -/
def FoldRt.listWord (r : FoldRt) (n : Nat) : Nat :=
  match r.draft.members[n]? with
  | some (l, score) => l + 2 ^ 14 + score % 65536 * 65536
  | none => 0

/-- The counters of a leg's audio (R200). -/
def State.legAudCtr (s : State) (l : Nat) : List Nat :=
  let g := s.leg l
  let a := g.aud
  let r := s.fold g.desc.fold
  [a.decTicks, a.concealed, a.memberTicks, a.score, toBits 32 a.gainQ, a.limAtt, a.clamped, a.delay, a.inserted,
   b2n a.muted + b2n (r.list.contains l) * 2 + b2n (r.lead = some l) * 4 + b2n a.inDecodeSet * 8]

/-- VEN_STREAM_INFO (R241). -/
def StreamRt.venInfo (r : StreamRt) : Nat :=
  let d := r.dec
  d.state.code + b2n d.layerDown * 8 + d.spatial % 16 * 16 + d.temporal % 16 * 256 + b2n r.src.nearest * 4096 + b2n d.tenBit * 8192
    + Nat.min 65535 d.damage.length * 65536

/-- VEN_STREAM_CTR_n (R242). -/
def State.venCtr (s : State) (e : Nat) : List Nat :=
  let d := (s.stream e).dec
  (upTo 8).map (fun n => tget 0 d.ctr n) ++ [s.since d.lastCleanKey]

/-- The code of a rung's state (R320). -/
def RefState.code : RefState → Nat
  | .start => 0 | .run => 1 | .ltr => 2 | .gir => 3

/-- VEN_LC_INFO (R320). -/
def State.lcInfo (s : State) (c : Nat) : Nat :=
  let x := s.lc c
  let r := x.rung
  let lag := match r.waitPics with | [] => 0 | t :: ts => s.now - ts.foldl Nat.min t
  x.desc.rung % 8 + Nat.min 7 (s.ladderOf c).length * 8 + b2n (s.topOf (s.ladderOf c) = some c) * 64 + b2n x.enc.nonLive * 128
    + r.ref.code * 256 + b2n r.ltr * 2 ^ 11 + Nat.min 3 r.esc * 2 ^ 12 + (if x.enc.nonLive then Nat.min 1023 lag else 0) * 2 ^ 16

/-- VEN_LC_RC (R320). -/
def State.lcRc (s : State) (c : Nat) : Nat :=
  let p := s.lcPar c
  let r := (s.lc c).rung
  Nat.min 127 (r.full * 100 / Nat.max 1 p.buffer) + b2n r.floored * 128 + Nat.min 255 r.qpLast * 256

/-- CMP_OUTPUT_INFO (R283). -/
def State.cmpInfo (s : State) (c : Nat) : Nat :=
  let x := s.lc c
  let g := s.lcGeo c
  b2n x.guard.slate + Nat.min 3 x.guard.streak * 2 + Nat.min 127 (g.cells.length + g.overlays.length) * 16 + x.desc.pricking % 1024 * 65536

/-- CMP_CELL_n (R285). -/
def State.cmpCell (s : State) (c n : Nat) : Nat :=
  let x := tget {} (s.lc c).cells n
  if n < (s.lcGeo c).cells.length then
    x.shown.getD 0 + b2n x.held * 2 ^ 14 + b2n x.shown.isNone * 2 ^ 15 + x.want.getD 0 * 2 ^ 16 + b2n x.want.isSome * 2 ^ 30 + 2 ^ 31
  else 0

/-- LAC_VIEWER_INFO (R359). -/
def Viewer.info (v : Viewer) : Nat :=
  Nat.min 63 (v.cells.filter (fun e => e.2.exists_)).length + b2n v.keyPending * 64 + Nat.min 65535 v.pictures * 65536

/-- LAC_VIEWER_CELL_n (R359). -/
def ViewCell.word (c : ViewCell) : Nat :=
  if c.exists_ then
    c.occupant.getD 0 + b2n c.occupant.isNone * 2 ^ 14 + b2n c.spare * 2 ^ 15 + c.rung % 8 * 2 ^ 16 + b2n c.intraWait * 2 ^ 19 + 2 ^ 31
  else 0

/-- LAC_FWD_SLOT_n (R360). -/
def State.fwdWord (s : State) (x : FwdSlot) : Nat :=
  x.sender.getD 0 + b2n x.sender.isSome * 2 ^ 14 + b2n x.paused * 2 ^ 15 + x.curLayer.1 % 16 * 2 ^ 16 + x.curLayer.2 % 16 * 2 ^ 20
    + (x.cur.elim 0 (fun e => (s.stream e).desc.layer)) % 4 * 2 ^ 24 + b2n x.waiting * 2 ^ 26

/-- LAC_ADAPT_STATE (R361): the detector shows OVERUSE from the first overuse group to the end of the tick that cut the
rate (notes/assumptions 26). [DESIGN CHOICE, notes/assumptions 26] -/
def State.adaptWord (s : State) (l : Nat) : Nat :=
  let a := (s.leg l).adapt
  let detector := if a.excess ≠ 0 || a.hold = 30 then 1 else if a.under then 2 else 0
  detector + Nat.min 63 a.hold * 4 + Nat.min 1000 a.lossPm * 256 + b2n (a.lastFeedback + 60 ≤ s.now) * 2 ^ 18

/-- LAC_ADAPT_RATE_n (R361). -/
def State.adaptRates (s : State) (l : Nat) : List Nat :=
  let g := s.leg l
  let a := g.adapt
  [a.inForce, a.delayRate, a.lossRate, a.acked, a.video, a.reserve, if g.desc.videoMode = 1 then (s.lc (a.serving.getD g.desc.lineClass)).desc.targetRate else 0]

/-- The code of a task's state (R389, R422). -/
def TaskState.code : TaskState → Nat
  | .disabled => 4 | .idle => 0 | .ready => 1 | .spilled => 2 | .running => 3

/-- DRV_TASK_INFO (R422). -/
def Task.info (x : Task) : Nat :=
  x.st.code + b2n x.cfg.classG * 8 + x.cfg.prio % 8 * 16 + b2n x.cfg.orMode * 128 + x.cfg.pool % 64 * 256 + x.cfg.itemType % 65536 * 65536

/-- DMC_REMAP_ENTRY (R486). -/
def State.remapWord (s : State) (stripe pos : Nat) : Nat :=
  let k := stripe * 12 + pos
  let (c, n) := s.remapOf k
  n % 8192 + c % 16 * 2 ^ 13 + b2n (s.entryMirrored k) * 2 ^ 17 + b2n (s.entryCopying k) * 2 ^ 18

/-- The number that (width in bytes, value) pairs spell, the first pair lowest. -/
def spell (xs : List (Nat × Nat)) : Nat := xs.foldr (fun x acc => x.2 % 256 ^ x.1 + acc * 256 ^ x.1) 0

/-- The 32 bytes of an inventory entry (R604). -/
def InvEntry.image (e : InvEntry) : Nat :=
  spell ([(1, e.kind), (1, e.index), (1, e.state), (1, e.policy), (2, e.fault), (2, 0), (8, e.tick), (4, e.idCrc.toNat)] ++ e.summary)

/-! ### The latch -/

/-- The values `ws` put into the registers from dword `d` on. -/
def State.putWords (s : State) (d : Nat) (ws : List Nat) : State := s.each ws.zipIdx (fun s (e : Nat × Nat) => s.setR (d + e.2) e.1)

/-- `n` values that the spec does not state put into the registers from dword `d` on (notes/assumptions 27).
[DESIGN CHOICE, notes/assumptions 18, 27] -/
def State.putFree (s : State) (d n : Nat) : State :=
  let k := s.free
  ({ s with free := k + n }).putWords d ((upTo n).map (fun i => Config.freeNat (k + i)))

/-- The object selected in register `d` latched into its registers (R109 and the rules of each block).
[DESIGN CHOICE, notes/assumptions 18] -/
def State.latchObject (s : State) (d : Nat) : State :=
  let n := s.getF d 15 0
  let l := n % 16384
  if d = Reg.NET_PE_LEG_SELECT then s.putWords (Reg.NET_PE_LEG_CTR 0) (s.legNetCtr l)
  else if d = Reg.CIP_KS_SLOT_SELECT then (s.setR Reg.CIP_KS_SLOT_INFO (s.slot n).info).setR64 Reg.CIP_KS_SLOT_INDEX (s.slotIndex n)
  else if d = Reg.AUD_FOLD_SELECT then
    let f := n % 4096
    (s.setR Reg.AUD_FOLD_INFO (s.audFoldInfo f)).putWords (Reg.AUD_FOLD_LIST 0) ((upTo 8).map (s.fold f).listWord)
  else if d = Reg.AUD_LEG_SELECT then s.putWords (Reg.AUD_LEG_CTR 0) (s.legAudCtr l)
  else if d = Reg.VEN_STREAM_SELECT then (s.setR Reg.VEN_STREAM_INFO (s.stream n).venInfo).putWords (Reg.VEN_STREAM_CTR 0) (s.venCtr n)
  else if d = Reg.VEN_LC_SELECT then
    let c := n % 8192
    let s := s.putWords Reg.VEN_LC_INFO [s.lcInfo c, s.lcRc c, (s.lc c).rung.rate / 1000]
    s.putWords (Reg.VEN_LC_CTR 0) ((upTo 12).map (fun k => tget 0 (s.lc c).rung.ctr k))
  else if d = Reg.CMP_OUTPUT_SELECT then
    let c := n % 8192
    let g := (s.lc c).guard
    let s := (s.setR Reg.CMP_OUTPUT_INFO (s.cmpInfo c)).setR Reg.CMP_GUARD_FAIL (sumN (g.mismatch.map (fun k => 2 ^ k)))
    let s := s.putWords (Reg.CMP_GUARD_EXPECTED 0) ((upTo 16).map (fun k => (tget 0 g.expected k).toNat))
    let s := s.putWords (Reg.CMP_GUARD_SEEN 0) ((upTo 16).map (fun k => (tget 0 g.seen k).toNat))
    s.putWords (Reg.CMP_CELL 0) ((upTo 32).map (fun k => s.cmpCell c k))
  else if d = Reg.LAC_VIEWER_SELECT then
    let v := (s.leg l).view
    (s.setR Reg.LAC_VIEWER_INFO v.info).putWords (Reg.LAC_VIEWER_CELL 0) ((upTo 32).map (fun k => (tget {} v.cells k).word))
  else if d = Reg.LAC_FWD_LEG_SELECT then
    s.putWords (Reg.LAC_FWD_SLOT 0) ((upTo 16).map (fun k => ((s.leg l).fwd[k]?).elim 0 s.fwdWord))
  else if d = Reg.LAC_ADAPT_LEG_SELECT then (s.setR Reg.LAC_ADAPT_STATE (s.adaptWord l)).putWords (Reg.LAC_ADAPT_RATE 0) (s.adaptRates l)
  else if d = Reg.EGS_LEG_SELECT then (s.setR Reg.EGS_LEG_INFO (s.legEgInfo l)).putWords (Reg.EGS_LEG_CTR 0) (s.legEgCtr l)
  else if d = Reg.DRV_TASK_SELECT then
    let x := s.task n
    let s := s.putWords Reg.DRV_TASK_INFO [x.info, x.cfg.flags.toNat, x.cfg.waitMask.toNat]
    s.putWords (Reg.DRV_TASK_CTR 0) ((upTo 6).map (fun k => tget 0 x.ctr k))
  else if d = Reg.DMC_REMAP_SELECT then 
    let st := s.getF d 12 0
    let pos := s.getF d 16 13
    if st < s.dmc.stripes ∧ pos < 12 then s.setR Reg.DMC_REMAP_ENTRY (s.remapWord st pos) else s.putFree Reg.DMC_REMAP_ENTRY 1
  else if d = Reg.BOOT_INV_SELECT then
    let k := n % 1024
    match tfind k s.tly.inv with
    | some e => s.putWords (Reg.BOOT_INV_ENTRY 0) ((upTo 8).map (fun w => e.image / 2 ^ (32 * w)))
    | none => s.putFree (Reg.BOOT_INV_ENTRY 0) 8
  else s

/-- SNAPSHOT_LATCH: at the end of the tick each selected object is latched, and valid is set (R109). -/
def snapshotLatch (s : State) : State :=
  let ds := s.selPend
  ({ s with selPend := [] }).each ds (fun s d => (s.latchObject d).setF d 31 31 1)

/-- SNAPSHOT_LATCH (R109). -/
def execSnapshotLatch (s : State) : Host.Outcome State Fault Refusal := finish s (snapshotLatch s)

end Sys2Proof.Machine
end

