-- ==== Sys2Proof/Machine/Host.lean ====
section
/-!
DEFINITION. The host link, the service port and telemetry (R633 to R675): rings, message fetch, interrupts, service-port
datagrams, the management requests and the telemetry frame.
-/

namespace Sys2Proof.Machine

/-! ### Rings (R638 to R643, R668, R669) -/

/-- Is `r` a submit ring (R638)? -/
def submitRing (r : Nat) : Bool := decide (r < 16)

/-- RING_TAIL_WRITE: the host writes the tail of a ring; on a device-to-host ring TAIL is RO (R639, R669). -/
def ringTailWrite (ring value : Nat) (s : State) : State :=
  if 35 ≤ ring then s
  else
    let d := Reg.DEV_RING_TAIL ring
    if submitRing ring then s.ctrlWrite d value (2 ^ 32 - 1) (fun s => s.setR d value)
    else s.ctrlWrite d value 0 id

/-- RING_TAIL_WRITE (R639). -/
def execRingTailWrite (ring value : Nat) (s : State) : Host.Outcome State Fault Refusal := finish s (ringTailWrite ring value s)

/-- RING_HEAD_WRITE: the host returns slots of a device-to-host ring, and held replies that now fit are written (R640, R641);
on a submit ring HEAD is RO (R669). -/
def ringHeadWrite (ring value : Nat) (s : State) : State :=
  if 35 ≤ ring then s
  else
    let d := Reg.DEV_RING_HEAD ring
    if submitRing ring then s.ctrlWrite d value 0 id
    else s.ctrlWrite d value (2 ^ 32 - 1) (fun s => (s.setR d value).flushBlocked)

/-- RING_HEAD_WRITE (R640). -/
def execRingHeadWrite (ring value : Nat) (s : State) : Host.Outcome State Fault Refusal := finish s (ringHeadWrite ring value s)

/-- A write of DEV_RING_CONFIG_r: while enable is set it is ignored with the fault of R13 unless it clears enable; a rising
enable zeroes HEAD and TAIL and clears error (R642, R668). [DESIGN CHOICE, notes/assumptions 8] -/
def ringConfig (ring value : Nat) (s : State) : State :=
  if 35 ≤ ring then s
  else
    let d := Reg.DEV_RING_CONFIG ring
    let on := s.ringOn ring
    if on && bit value 9 && s.decodes d && !s.boot.inReset then
      ({ s with host := { s.host with readLatch := none } }).accessIgnored d (value % 2 ^ 32)
    else s.ctrlWrite d value 0 (fun s =>
      let s := s.putRw d value
      if !on && bit value 9 then
        (((s.setR (Reg.DEV_RING_HEAD ring) 0).setR (Reg.DEV_RING_TAIL ring) 0).setF d 10 10 0).flushBlocked
      else s)

/-- RING_ENABLE: a write of DEV_RING_CONFIG_r that sets enable (R642). -/
def execRingEnable (ring value : Nat) (s : State) : Host.Outcome State Fault Refusal := finish s (ringConfig ring (value ||| 512) s)

/-- RING_DISABLE: a write of DEV_RING_CONFIG_r that clears enable: fetching stops, or the ring's items are handled as items that
do not fit (R642). -/
def execRingDisable (ring value : Nat) (s : State) : Host.Outcome State Fault Refusal :=
  finish s (ringConfig ring (value % 2 ^ 32 - (value &&& 512)) s)

/-- MGT RING_DMA (R666). -/
def fltRingDma : Nat := faultCode 15 1 2

/-- RING_DMA: a DMA completion error stops the ring (R642). -/
def ringDma (ring : Nat) (s : State) : State :=
  if 35 ≤ ring || s.boot.inReset || !s.ringOn ring then s
  else
    let d := Reg.DEV_RING_CONFIG ring
    ((s.setF d 10 10 1).setF d 9 9 0).raise fltRingDma (subjUnit 0 0 ring)

/-- RING_DMA (R642). -/
def execRingDma (ring : Nat) (s : State) : Host.Outcome State Fault Refusal := finish s (ringDma ring s)

/-- MESSAGE_FETCH: the device finishes fetching the message at HEAD of a submit ring; it arrives in this tick (R639, R646). None is
fetched while a reply of the ring is held, beyond 4,096 in the tick, or while the management cores are down.
[DEDUCED, notes/assumptions 5] -/
def messageFetch (ring typ seq target : Nat) (s : State) : State :=
  let held := s.host.blocked.any (fun b => b.dst.src = .ring ring)
  if !submitRing ring || !s.up || s.boot.warmRun || !s.ringOn ring || s.ringUsed ring = 0 || held || 4096 ≤ s.host.fetched then s
  else
    let a : ArrMsg := { src := .ring ring, typ := typ, seq := seq, target := target, tick := s.now, gen := s.host.flrGen }
    let s := s.incR (Reg.DEV_RING_HEAD ring)
    { s with host := { s.host with arrived := s.host.arrived ++ [a], fetched := s.host.fetched + 1 } }

/-- MESSAGE_FETCH (R646). -/
def execMessageFetch (ring typ seq target : Nat) (s : State) : Host.Outcome State Fault Refusal := finish s (messageFetch ring typ seq target s)

/-- The request codes of R649. -/
def knownTypes : List Nat :=
  fromTo 0x0101 0x0113 ++ fromTo 0x0201 0x0206 ++ fromTo 0x0301 0x030E ++ fromTo 0x0401 0x0407

/-- A message of a type that is not in the catalogue is answered UNKNOWN_TYPE once its tick is past (R645, R646). -/
def State.unknownBoundary (s : State) : State :=
  if s.boot.warmRun then s
  else
    let odd (a : ArrMsg) : Bool := !knownTypes.contains a.typ
    let todo := s.host.arrived.filter odd
    ({ s with host := { s.host with arrived := s.host.arrived.filter (fun a => !odd a) } }).each todo (fun s a =>
      s.reply { src := a.src, typ := a.typ, seq := a.seq, target := a.target, gen := a.gen } stUnknown)

/-- IRQ_MODERATION: at host time `us` the vector of a device-to-host ring is signalled when an item was written since its last
signal and irq_us microseconds have passed since that signal; a masked vector sets its pending bit (R643, R668).
[DESIGN CHOICE, notes/assumptions 19] -/
def irqModeration (ring us : Nat) (enabled masked : Bool) (s : State) : State :=
  if ring < 16 || 35 ≤ ring || s.boot.inReset then s
  else
    let v := ring - 16
    let s := s.setF Reg.DEV_HOST_STATUS 7 7 (b2n enabled)
    let last := tget 0 s.host.irqLast v
    let due := s.host.irqPend.contains ring && (last = 0 || decide (last - 1 + s.getF (Reg.DEV_RING_CONFIG ring) 31 16 ≤ us))
    let wait : BitVec 64 := BitVec.ofNat 64 (2 ^ v)
    if !enabled then s
    else
      let s := if due then { s with host := { s.host with irqPend := s.host.irqPend.filter (· ≠ ring), irqLast := tset 0 s.host.irqLast v (us + 1) } } else s
      if masked then (if due then { s with host := { s.host with msix := s.host.msix ||| wait } } else s)
      else if due || s.host.msix &&& wait ≠ 0 then
        { s with host := { s.host with msix := s.host.msix &&& ~~~ wait }, out := s.out ++ [.other 20 [v]] }
      else s

/-- IRQ_MODERATION (R643). -/
def execIrqModeration (ring us : Nat) (enabled masked : Bool) (s : State) : Host.Outcome State Fault Refusal :=
  finish s (irqModeration ring us enabled masked s)

/-- FUNCTION_LEVEL_RESET: every ring is disabled, MSI-X is cleared, and the replies of messages already fetched are discarded;
the device itself is not reset (R636, R667). [DESIGN CHOICE, notes/assumptions 19] -/
def functionLevelReset (s : State) : State :=
  if s.boot.inReset then s
  else
    let s := s.each (upTo 35) (fun s r => s.setF (Reg.DEV_RING_CONFIG r) 9 9 0)
    let svc (r : Reply) : Bool := match r.dst.src with | .svc _ => true | .ring _ => false
    let n := Nat.min 255 (s.getF Reg.DEV_HOST_STATUS 15 8 + 1)
    let s := (s.setF Reg.DEV_HOST_STATUS 7 7 0).setF Reg.DEV_HOST_STATUS 15 8 n
    { s with host := { s.host with flrGen := s.host.flrGen + 1, msix := 0, irqPend := [], blocked := s.host.blocked.filter svc } }

/-- FUNCTION_LEVEL_RESET (R636). -/
def execFunctionLevelReset (s : State) : Host.Outcome State Fault Refusal := finish s (functionLevelReset s)

/-! ### The service port (R651 to R656, R670, R671) -/

/-- MGT SVC_AUTH (R666). -/
def fltSvcAuth : Nat := faultCode 15 0 4

/-- A datagram that fails check `n` of R653 is counted and dropped; a failed key, tag or counter raises SVC_AUTH (R653, R666).
[DESIGN CHOICE, notes/assumptions 19] -/
def State.svcDrop (s : State) (ctr : Nat) (auth : Bool) : State :=
  let s := s.incR (Reg.DEV_SVC_CTR ctr)
  if auth then s.raiseOnce fltSvcAuth subjNone 600 else s

/-- A service-port request accepted under `key`: its counter is committed; a sequence number in the cache answers again, any other
arrives (R646, R653, R655). [DESIGN CHOICE, notes/assumptions 19] -/
def State.svcAccept (s : State) (d : SvcDatagram) : State :=
  let s := { s with host := { s.host with svcTokens := s.host.svcTokens - 600 } }
  let s := { s with tly := { s.tly with svcAccepted := tset 0 s.tly.svcAccepted d.key (d.counter + 1) } }
  let s := s.tallyCommit 0xB d.key 16 [(8, d.counter), (8, tget 0 s.tly.svcCeiling d.key)]
  let s := s.incR (Reg.DEV_SVC_CTR 0)
  let live := s.host.svcCache.filter (fun c => decide (s.now ≤ c.tick + 600))
  match live.find? (fun c => c.key = d.key && c.seq = d.seq) with
  | some c =>
    (match c.reply with
     | some r => (s.incR (Reg.DEV_SVC_CTR 4)).svcSend d.key none (.reply r)
     | none => s)
  | none =>
    let mine := lastN 63 (live.filter (fun c => c.key = d.key))
    let cache := live.filter (fun c => c.key ≠ d.key) ++ mine ++ [{ key := d.key, seq := d.seq, tick := s.now }]
    let a : ArrMsg := { src := .svc d.key, typ := d.typ, seq := d.seq, target := d.target, tick := s.now, gen := s.host.flrGen }
    { s with host := { s.host with svcCache := cache, arrived := s.host.arrived ++ [a] } }

/-- SERVICE_DATAGRAM: the checks of R653 in their order. The management cores take no datagram while they are down.
[DESIGN CHOICE, notes/assumptions 7, 19] -/
def serviceDatagram (d : SvcDatagram) (s : State) : State :=
  if !s.up || s.boot.warmRun || !s.svcOn then s
  else
    let k := tget {} s.boot.mgmtKeys d.key
    if !d.addrOk || 1408 < d.n then s.svcDrop 1 false
    else if 2 ≤ d.key || !k.written || k.revoked then s.svcDrop 1 true
    else if !d.tagOk then s.svcDrop 1 true
    else if d.counter + 1 ≤ tget 0 s.tly.svcAccepted d.key then s.svcDrop 2 true
    else if s.host.svcTokens < 600 then s.svcDrop 3 false
    else s.svcAccept d

/-- SERVICE_DATAGRAM (R653). -/
def execServiceDatagram (d : SvcDatagram) (s : State) : Host.Outcome State Fault Refusal := finish s (serviceDatagram d s)

/-- The service port's IPv6 link-local address: fe80::/64 with the modified EUI-64 of 02-5A-92 and the serial number's low bits
(R651). -/
def linkLocal (serial : Nat) : BitVec 128 :=
  BitVec.ofNat 128 (0xFE80 * 2 ^ 112 + 0x005A92FFFE * 2 ^ 24 + serial % 2 ^ 24)

/-- Does the port own the address that a frame asks for (R651, R656)? -/
def State.svcOwns (s : State) (kind : SvcFrame) (a : BitVec 128) : Bool :=
  let v := s.tly.svcAddr
  match kind with
  | .arp | .icmp => v.ip4 ≠ 0 && a = v.ip4.setWidth 128
  | .ns | .icmp6 => a = linkLocal Config.serial.toNat || (v.ip6 ≠ 0 && a = v.ip6)
  | .other => false

/-- The number of a service-port frame's kind in the answer's record. -/
def SvcFrame.code : SvcFrame → Nat
  | .arp => 1 | .ns => 2 | .icmp => 3 | .icmp6 => 4 | .other => 0

/-- SERVICE_PORT_FRAME: ARP, Neighbour Solicitation and echo for the port's own addresses are answered; everything else, every
VLAN-tagged frame among it, is dropped (R651). -/
def servicePortFrame (kind : SvcFrame) (tagged : Bool) (target : BitVec 128) (s : State) : State :=
  if !s.up || s.boot.warmRun || !s.svcOn || s.getF Reg.DEV_SVC_STATUS 1 1 = 0 || tagged || !s.svcOwns kind target then s
  else { s with host := { s.host with wireSvc := s.host.wireSvc ++ [{ body := .answer kind.code }] } }

/-- SERVICE_PORT_FRAME (R651). -/
def execServicePortFrame (kind : SvcFrame) (tagged : Bool) (target : BitVec 128) (s : State) : Host.Outcome State Fault Refusal :=
  finish s (servicePortFrame kind tagged target s)

/-! ### Management requests (R649, R652, R656, R660, R665) -/

/-- A management key changed, as the registers show it (R652, R670). -/
def State.setMgmtKey (s : State) (n : Nat) (k : KekPos) : State :=
  ({ s with boot := { s.boot with mgmtKeys := tset {} s.boot.mgmtKeys n k } }).showKeys

/-- MGMT_KEY_PROVISION: a position is written once (R652). -/
def execMgmtKeyProvision (m : Msg) (key : BitVec 256) (s : State) : Host.Outcome State Fault Refusal :=
  finish s (s.request m 0x0307 .hostMaint (fun s _ rto =>
    if 2 ≤ m.target then s.reply rto stMalformed
    else if (tget {} s.boot.mgmtKeys m.target).written then s.reply rto stInvalid
    else (s.setMgmtKey m.target { written := true, key := key }).reply rto stOK))

/-- MGMT_KEY_REVOKE: a written position is revoked once (R652). -/
def execMgmtKeyRevoke (m : Msg) (s : State) : Host.Outcome State Fault Refusal :=
  finish s (s.request m 0x0308 .hostMaint (fun s _ rto =>
    let k := tget {} s.boot.mgmtKeys m.target
    if 2 ≤ m.target then s.reply rto stMalformed
    else if !k.written || k.revoked then s.reply rto stInvalid
    else (s.setMgmtKey m.target { k with revoked := true }).reply rto stOK))

/-- A flash with option-block copy `n` replaced (R564). [DESIGN CHOICE, notes/assumptions 20] -/
def Flash.withOption (f : Flash) (n : Nat) (o : OptionBlock) : Flash := if n = 0 then { f with opt0 := o } else { f with opt1 := o }

/-- OPTION_WRITE: a copy is written, body first, then crc, then commit; the target is flash × 2 + copy (R565, R649). -/
def execOptionWrite (m : Msg) (o : OptionBlock) (s : State) : Host.Outcome State Fault Refusal :=
  finish s (s.request m 0x0309 .bothMaint (fun s _ rto =>
    if 4 ≤ m.target then s.reply rto stMalformed
    else
      let f := s.boot.flash
      let n := m.target % 2
      let fs : FlashSet := if m.target < 2 then { f with a := f.a.withOption n o } else { f with b := f.b.withOption n o }
      ({ s with boot := { s.boot with flash := fs } }).reply rto stOK))

/-- SERVICE_ADDRESS: the new addresses take effect after the reply has been sent, and are kept in the tally store (R651, R656,
R664). -/
def execServiceAddress (m : Msg) (a : SvcAddr) (reserved : Nat) (s : State) : Host.Outcome State Fault Refusal :=
  finish s (s.request m 0x030A .both (fun s _ rto =>
    if reserved ≠ 0 || 32 < a.prefix4 || 128 < a.prefix6 then s.reply rto stMalformed
    else
      let s := s.reply rto stOK
      let s := { s with tly := { s.tly with svcAddr := a } }
      let s := s.tallyCommit 0xC 0 32 [(4, a.ip4.toNat), (1, a.prefix4), (1, 0), (2, a.port), (4, a.gateway.toNat), (16, a.ip6.toNat), (1, a.prefix6), (3, 0)]
      s.showSvc))

/-- TELEMETRY_CONFIG: the leg period, the destinations and the collector's budget (R660, R672). -/
def execTelemetryConfig (m : Msg) (period flags budget : Nat) (s : State) : Host.Outcome State Fault Refusal :=
  finish s (s.request m 0x030B .both (fun s _ rto =>
    let b := if budget = 0 then 150000 else budget
    if period = 0 || 600 < period || 3 < flags || b < 10000 || 200000 < b then s.reply rto stMalformed
    else
      let s := { s with host := { s.host with teleBudget := b } }
      (s.setR Reg.DEV_TELE_CONFIG (period + flags * 1024 + b / 1024 * 4096)).reply rto stOK))

/-- SUBSCRIBE: a subscriber slot is set, or cleared by port 0 (R656). -/
def execSubscribe (m : Msg) (addr : BitVec 128) (port flags reserved : Nat) (s : State) : Host.Outcome State Fault Refusal :=
  finish s (s.request m 0x030C .both (fun s _ rto =>
    if 4 ≤ m.target || 7 < flags || reserved ≠ 0 then s.reply rto stMalformed
    else
      let x : Subscriber := if port = 0 then {} else { port := port, ip6 := bit flags 0, addr := addr, notify := bit flags 1, tele := bit flags 2 }
      ({ s with host := { s.host with subs := tset {} s.host.subs m.target x } }).reply rto stOK))

/-- A record put in ascending key order; records of one key stay in order of writing. -/
def insertRec (r : TallyRec) : List TallyRec → List TallyRec
  | [] => [r]
  | x :: xs => if r.key < x.key then r :: x :: xs else x :: insertRec r xs

/-- The records that fit in `room` bytes of a reply, from the first on, and whether any was left out (R665).
[DESIGN CHOICE, notes/assumptions 20] -/
def takeRecs (room : Nat) : List TallyRec → List TallyRec × Bool
  | [] => ([], false)
  | r :: rs =>
    let n := tallyBytes r
    if room < n then ([], true)
    else
      let (xs, cut) := takeRecs (room - n) rs
      (r :: xs, cut)

/-- TALLY_READ: the live records of a type and key range, or every record of a journal type (R663, R665). -/
def execTallyRead (m : Msg) (typ first last reserved : Nat) (s : State) : Host.Outcome State Fault Refusal :=
  finish s (s.request m 0x030D .both (fun s _ rto =>
    if reserved ≠ 0 then s.reply rto stMalformed
    else
      let rs := s.tly.recs.filter (fun r => r.typ = typ && decide (first ≤ r.key ∧ r.key ≤ last))
      let rs := rs.foldl (fun acc r => insertRec r acc) []
      let room := match m.src with | .ring _ => 65536 | .svc _ => 1408
      let (xs, cut) := takeRecs room rs
      s.reply rto stOK (.tally xs cut)))

/-- MGT TALLY_COMMIT (R662, R666). -/
def fltTallyCommit : Nat := faultCode 15 4 8

/-- TALLY_COMMIT_TIMEOUT: a record could not be committed within 1 ms. The fault's code is held in the always-on latch; the fault
then acts as a fatal fault whose journal entry the store cannot take (R662, R687). [DESIGN CHOICE, notes/assumptions 20] -/
def tallyCommitTimeout (s : State) : State :=
  if s.boot.inReset || s.boot.halted then s
  else
    let s := { s with boot := { s.boot with alwaysOnFatal := fltTallyCommit } }
    if s.sealed then (s.noteFatalReset).startUp 1 (some 2) else s.haltAt fltTallyCommit

/-- TALLY_COMMIT_TIMEOUT (R662). -/
def execTallyCommitTimeout (s : State) : Host.Outcome State Fault Refusal := finish s (tallyCommitTimeout s)

/-! ### Telemetry frames (R657 to R661, R672) -/

/-- The fields of the DEVICE entry of the tick that ends (R659). The Drover's counts and busy shares are those of the registers,
which are written at the end of the tick; `status` is DEV_TICK_STATUS as it was in the tick. -/
def State.teleDevice (s : State) (status : Nat) : List (Nat × Nat) :=
  let live := (s.legs.filter (fun e => e.2.state ≠ .idle)).length
  let act := (s.folds.filter (fun e => e.2.state = .active)).length
  [(4, status), (2, live), (2, act), (4, s.net.tickPkts), (4, s.net.tickBytes), (4, sumN (s.egs.tickBytes.map (·.2))),
   (4, s.getR Reg.DRV_TICK_DISPATCHED), (4, s.getR Reg.DRV_TICK_SHED), (4, s.getR Reg.DRV_TICK_OVERRUN), (4, s.getR Reg.DRV_TICK_CARRIED)]

/-- The rest of the DEVICE entry (R659). -/
def State.teleDevice2 (s : State) : List (Nat × Nat) :=
  [(2, s.flt.fresh.length), (2, s.overcommit % 1024), (4, s.getR Reg.DEV_EPOCH_SWITCHES),
   (4, toBits 32 (clampI (-(2 ^ 31 - 1)) (2 ^ 31 - 1) s.tim.theta)), (2, s.getF (Reg.DRV_POOL 0x20) 15 0), (2, s.getF (Reg.DRV_POOL 0x10) 15 0),
   (1, s.twn.pair.code), (7, 0)]

/-- The FOLD entry of fold `f` (R659). -/
def State.teleFold (s : State) (f : Nat) : TeleEntry :=
  let r := s.fold f
  let ms := r.draft.members
  let pair (n : Nat) : List (Nat × Nat) := match ms[n]? with | some (l, sc) => [(2, l), (2, sc)] | none => [(2, 0), (2, 0)]
  { kind := 2, index := f, changed := r.listChanged,
    fields := [(2, f), (2, r.draft.lead.getD 0xFFFF), (1, ms.length), (1, b2n r.listChanged), (2, 0)] ++ (upTo 8).flatMap pair }

/-- The LEG entry of leg `l` (R659). -/
def State.teleLeg (s : State) (l : Nat) : TeleEntry :=
  let g := s.leg l
  let r := s.fold g.desc.fold
  let flags := b2n (r.list.contains l) + b2n (r.lead = some l) * 2 + b2n g.aud.muted * 4 + b2n g.txStopped * 8
  { kind := 3, index := l,
    fields := [(2, l), (1, g.state.code), (1, flags), (2, g.desc.fold), (2, 0)] ++ (s.legNetCtr l).map (fun v => (4, v))
      ++ ((s.legEgCtr l).drop 4 |>.take 7).map (fun v => (4, v)) ++ [(4, g.adapt.inForce), (4, g.eg.rate), (4, 0)] }

/-- The FAULT entry of a journal entry (R659). -/
def teleFault (e : JEntry) : TeleEntry :=
  { kind := 4, index := e.seq, fields := [(2, e.code), (2, 0), (4, e.subject)] ++ detail8 e.detail }

/-- Bytes of a telemetry entry (R659). -/
def TeleEntry.bytes (e : TeleEntry) : Nat := sumN (e.fields.map (·.1))

/-- Bytes of a frame: header, four section headers and the entries (R657, R658). -/
def TeleFrame.bytes (f : TeleFrame) : Nat := 32 + 4 * 8 + sumN (f.entries.map TeleEntry.bytes)

/-- TELE: the frame of tick `t`, which ends, assembled by hardware (R657, R658, R661). `status` is DEV_TICK_STATUS as it was
in the tick. [DESIGN CHOICE, notes/assumptions 12] -/
def State.assembleTele (s : State) (t status : Nat) : State :=
  let n := Nat.max 1 (s.getF Reg.DEV_TELE_CONFIG 9 0)
  let act := (s.folds.filter (fun e => e.2.state = .active)).map (·.1)
  let ls := (s.legs.filter (fun e => e.2.state ≠ .idle && e.1 % n = t % n)).map (·.1)
  let es : List TeleEntry := [{ kind := 1, fields := s.teleDevice status ++ s.teleDevice2 }] ++ act.map s.teleFold ++ ls.map s.teleLeg ++ s.flt.fresh.map teleFault
  let f : TeleFrame := { tick := t, seq := s.host.teleSeq.toNat, holdover := bit status 17, mgmtDown := s.boot.warmRun, legPeriod := n, entries := es }
  let s := (s.incR (Reg.DEV_TELE_CTR 0)).setR (Reg.DEV_TELE_CTR 3) f.bytes
  { s with host := { s.host with teleFrame := some f, teleSeq := s.host.teleSeq + 1 } }

/-- Entries removed from the end while the frame is over the budget: those that `c` picks (R660). `over` is the excess in
bytes; the list is last entry first. -/
def cutEntries (c : TeleEntry → Bool) (excess : Nat) : List TeleEntry → List TeleEntry × Nat
  | [] => ([], excess)
  | e :: es =>
    if 0 < excess ∧ c e = true then cutEntries c (excess - e.bytes) es
    else
      let (xs, o) := cutEntries c excess es
      (e :: xs, o)

/-- The frame cut to the collector's budget: LEG entries first, then FOLD entries whose list did not change (R660). -/
def TeleFrame.cut (f : TeleFrame) (budget : Nat) : TeleFrame :=
  if f.bytes ≤ budget then f
  else
    let (es, o) := cutEntries (fun e => e.kind = 3) (f.bytes - budget) f.entries.reverse
    let (es, _) := cutEntries (fun e => e.kind = 2 && !e.changed) o es
    { f with entries := es.reverse, truncated := true }

/-- MGT TELEMETRY_TRUNCATED (R660, R666). -/
def fltTeleTruncated : Nat := faultCode 15 0 5

/-- The telemetry collector: the lowest-numbered subscriber slot with its telemetry bit (R656). -/
def State.collector (s : State) : Option Nat :=
  (upTo 4).find? (fun i => let x := tget {} s.host.subs i; x.tele && x.port ≠ 0)

/-- The frame of the last tick is written: whole to ring 34, and in fragments of up to 1,400 bytes to the collector (R657, R660,
R672). [DESIGN CHOICE, notes/assumptions 12] -/
def State.sendTele (s : State) : State :=
  match s.host.teleFrame with
  | none => s
  | some f =>
    let s := { s with host := { s.host with teleFrame := none } }
    let s := if s.getF Reg.DEV_TELE_CONFIG 10 10 = 1 then
        (if s.ringFits 34 f.bytes then s.ringPut 34 f.bytes (.tele f) else (s.ringDrop 34).incR (Reg.DEV_TELE_CTR 2))
      else s
    match s.collector with
    | none => s
    | some slot =>
      if s.getF Reg.DEV_TELE_CONFIG 11 11 = 0 || !s.svcOn then s
      else
        let g := f.cut s.host.teleBudget
        let s := if g.truncated then (s.incR (Reg.DEV_TELE_CTR 1)).raiseOnce fltTeleTruncated subjNone 600 else s
        let n := ceilDiv g.bytes 1400
        s.each (upTo n) (fun s i => s.svcSend s.svcOwnKey (some slot) (.tele g.seq i n (Nat.min 1400 (g.bytes - 1400 * i))))

/-- The TICK_SUMMARY record of tick `t`, which ends (R664). -/
def State.tickSummary (s : State) (t status : Nat) : State := s.tallyCommit 0xA (t % 2 ^ 32) 44 ([(8, t)] ++ s.teleDevice status) false

/-- The service port's rate bucket refilled for a tick (R653). -/
def State.svcRefill (s : State) : State := { s with host := { s.host with svcTokens := Nat.min 120000 (s.host.svcTokens + 2000) } }

end Sys2Proof.Machine
end

