-- ==== Sys2Proof/Machine/Mod.lean ====
section
/-!
DEFINITION. Modules and the SD card after start-up (16 R598, R599, R601 to R603; 20 R707).
-/

namespace Sys2Proof.Machine

/-- Is an item of a kind in use under its inventory entry (R603)? -/
def State.itemUsed (s : State) (kind index : Nat) : Bool :=
  match tfind (kind * 256 + index) s.tly.inv with
  | some e => e.state = invMatch || e.state = invWarn || e.state = invUnchecked
  | none => false

/-- MODULE_PRESENCE_ASSERT: the cage is read 2 s later (R598). -/
def presenceAssert (cage : Nat) (s : State) : State :=
  if 16 ≤ cage || !s.up then s
  else
    let reads := s.boot.reads.filter (fun r => r.1 ≠ cage) ++ [(cage, s.now + 1200)]
    { s with boot := { s.boot with presence := insertAsc cage s.boot.presence, reads := reads } }

/-- MODULE_PRESENCE_ASSERT (R598). -/
def execModulePresenceAssert (cage : Nat) (s : State) : Host.Outcome State Fault Refusal := finish s (presenceAssert cage s)

/-- MODULE_READ: a read that is due finds a module, or is abandoned when the bus fails; not while the management cores are down
(R598, R601). -/
def moduleRead (cage : Nat) (m : Option Module) (s : State) : State :=
  if s.boot.warmRun || !s.boot.reads.any (fun r => r.1 = cage && decide (r.2 ≤ s.now)) then s
  else
    let s := { s with boot := { s.boot with reads := s.boot.reads.filter (fun r => r.1 ≠ cage) } }
    match m with
    | some m => s.readCage cage (some m) false
    | none => s.putInv { kind := 1, index := cage, state := invAbsent }

/-- MODULE_READ (R598). -/
def execModuleRead (cage : Nat) (m : Option Module) (s : State) : Host.Outcome State Fault Refusal := finish s (moduleRead cage m s)

/-- MODULE_READY: the module reports no fault any more, and the port leaves electrical idle at the next boundary, if the module may be
used (R598). -/
def moduleReady (cage : Nat) (s : State) : State :=
  let ok := s.boot.moduleFault.filter (· ≠ cage)
  if s.up && s.itemUsed 1 cage then { s with boot := { s.boot with moduleFault := ok, moduleReady := insertAsc cage s.boot.moduleReady } } else s

/-- MODULE_READY (R598). -/
def execModuleReady (cage : Nat) (s : State) : Host.Outcome State Fault Refusal := finish s (moduleReady cage s)

/-- The ports whose modules have reported ModuleReady leave electrical idle (R598). [DESIGN CHOICE, notes/assumptions 42] -/
def State.moduleBoundary (s : State) : State :=
  let cs := s.boot.moduleReady
  ({ s with boot := { s.boot with moduleReady := [] } }).each cs (fun s c => s.onPort c (fun p => { p with moduleHold := false }))

/-- MODULE_PRESENCE_DEASSERT: the port goes down at once, and the entry becomes ABSENT (R598, R601).
[DESIGN CHOICE, notes/assumptions 42] -/
def presenceDeassert (cage : Nat) (s : State) : State :=
  if 16 ≤ cage || !s.up then s
  else
    let b := s.boot
    let b := { b with presence := b.presence.filter (· ≠ cage), reads := b.reads.filter (fun r => r.1 ≠ cage), highPower := b.highPower.filter (· ≠ cage) }
    let s := { s with boot := { b with moduleFault := b.moduleFault.filter (· ≠ cage), moduleReady := b.moduleReady.filter (· ≠ cage) } }
    let s := (portDown cage 15 s).onPort cage (fun p => { p with moduleHold := true })
    s.putInv { kind := 1, index := cage, state := invAbsent }

/-- MODULE_PRESENCE_DEASSERT (R598). -/
def execModulePresenceDeassert (cage : Nat) (s : State) : Host.Outcome State Fault Refusal := finish s (presenceDeassert cage s)

/-- SD_CARD_DETECT: the card is identified, switched to 1.8 V when it answers S18A, and fit-checked; during a warm reset it waits
until the cores resume (R599, R601, R707). [DESIGN CHOICE, notes/assumptions 42] -/
def cardDetect (card : Card) (cont : Container) (s : State) : State :=
  if !s.up then s
  else
    let s := { s with boot := { s.boot with env := { s.boot.env with card := some card, cardCont := cont } } }
    if s.boot.warmRun then { s with boot := { s.boot with sdState := 1 } } else s.readCard (some card) true false

/-- SD_CARD_DETECT (R599). -/
def execSdCardDetect (card : Card) (cont : Container) (s : State) : Host.Outcome State Fault Refusal := finish s (cardDetect card cont s)

/-- SD_VSEL_TIMEOUT: SD_VSEL returns low and the card is UNREADABLE (R707). -/
def vselTimeout (s : State) : State :=
  if !s.pins.sdVsel then s
  else
    let s := { s with pins := { s.pins with sdVsel := false } }
    let c := (s.boot.env.card.getD {})
    let (s, _) := s.fitCard (some { c with readable := false }) false
    { s with boot := { s.boot with sdState := 3 } }

/-- SD_VSEL_TIMEOUT (R707). -/
def execSdVselTimeout (s : State) : Host.Outcome State Fault Refusal := finish s (vselTimeout s)

/-- SD_CARD_REMOVAL: an unfinished read is abandoned, the entry becomes ABSENT, SD_PWR_EN and SD_VSEL return low (R571, R601).
[DESIGN CHOICE, notes/assumptions 42] -/
def cardRemoval (s : State) : State :=
  if !s.up then s
  else
    let s := { s with boot := { s.boot with sdState := 0, env := { s.boot.env with card := none, cardCont := { readOk := false } } } }
    let s := { s with pins := { s.pins with sdPwr := false, sdVsel := false } }
    s.putInv { kind := 2, index := 0, state := invAbsent }

/-- SD_CARD_REMOVAL (R601). -/
def execSdCardRemoval (s : State) : Host.Outcome State Fault Refusal := finish s (cardRemoval s)

end Sys2Proof.Machine
end

