-- ==== Sys2Proof/Machine/Rtp.lean ====
section
/-!
DEFINITION. Media packets after decryption (02): RTP checks, sequencing, the intake of jitter buffers and of the layer
forwarder, missing packets, and the routing of RTCP.
-/

namespace Sys2Proof.Machine

/-! ### Extended sequence numbers (R86) -/

/-- What the sequence algorithm makes of a packet: the packets it delivers with their extended numbers, whether one held on
probation fails, and whether a probation has just been completed. -/
structure SeqResult where
  out : List (RtpPkt × Nat) := []
  failed : Bool := false
  fresh : Bool := false
  deriving DecidableEq, Repr

/-- A packet held on probation, in place of the one held before, which fails. [DESIGN CHOICE, notes/assumptions 15] -/
def SrtpRx.holdPkt (x : SrtpRx) (p : RtpPkt) : SrtpRx × SeqResult := ({ x with heldPkt := [p] }, { failed := x.heldPkt != [] })

/-- A probation completed by packet `p`: the sequence starts anew, and the held packet is delivered before it. Extended
numbers start one cycle up, so that none is below 0. -/
def SrtpRx.complete (x : SrtpRx) (p : RtpPkt) : SrtpRx × SeqResult :=
  let q := p.rtp.seq % 65536
  let c := if q = 0 then 2 * 65536 else 65536
  let held := x.heldPkt.map (fun h => (h, c + q - 1))
  ({ x with probation := 0, badSeq := none, cycles := c, maxSeq := q, seen := [], heldPkt := [] }, { out := held ++ [(p, c + q)], fresh := true })

/-- RFC 3550 Appendix A.1 with MIN_SEQUENTIAL 2, MAX_DROPOUT 3,000 and MAX_MISORDER 100 (R86).
[DESIGN CHOICE, notes/assumptions 15] -/
def SrtpRx.take (x : SrtpRx) (p : RtpPkt) : SrtpRx × SeqResult :=
  let q := p.rtp.seq % 65536
  let first := x.probation ≠ 0 && x.heldPkt.isEmpty
  let ahead := modSub 16 q x.maxSeq
  if first then { x with probation := 1, maxSeq := q }.holdPkt p
  else if x.probation ≠ 0 then
    if q = (x.maxSeq + 1) % 65536 then x.complete p else { x with probation := 1, maxSeq := q }.holdPkt p
  else if ahead < 3000 then
    let c := if q < x.maxSeq then x.cycles + 65536 else x.cycles
    ({ x with cycles := c, maxSeq := q, heldPkt := [] }, { out := [(p, c + q)], failed := x.heldPkt != [] })
  else if ahead ≤ 65536 - 100 then
    if x.badSeq = some q then x.complete p else { x with badSeq := some ((q + 1) % 65536) }.holdPkt p
  else ({ x with heldPkt := [] }, { out := [(p, x.cycles + x.maxSeq + ahead - 65536)], failed := x.heldPkt != [] })

/-! ### The intake of a stream (R86 to R92, R96) -/

/-- The anchor of a buffered stream set by a packet; its window of R91 starts (R89). -/
def JitBuf.anchorAt (j : JitBuf) (p : RtpPkt) : JitBuf :=
  { j with anchored := true, t0 := p.tick, ts0 := p.rtp.ts, winStart := p.tick, winPkts := 0, winLate := 0, winMargin := none }

/-- A packet of extended number `ext` arrives: the numbers skipped since the highest one, `top`, are missing. Those of a
stream with nack set are asked for at once, within `limit`; on a forwarded stream they count as lost (R96, R110). -/
def State.noteGap (s : State) (e ext : Nat) (top : Option Nat) (limit : Nat) (forwarded : Bool) : State :=
  let r := s.stream e
  let s := s.onStream e (fun r => { r with jit := { r.jit with missing := r.jit.missing.filter (fun n => n.ext ≠ ext) } })
  match top with
  | none => s
  | some m =>
    if ext ≤ m + 1 then s
    else
      let s := if forwarded then s.rxCount r.leg 6 (ext - m - 1) else s
      if r.desc.nack then
        let items := (fromTo (m + 1) ext).map (fun n => ({ ext := n, gapTick := s.now, lastTick := s.now, limit := limit, buffered := !forwarded } : NackItem))
        (s.onStream e (fun r => { r with jit := { r.jit with missing := r.jit.missing ++ items } })).sendNacks e (items.filter (fun n => n.may (s.leg r.leg).rttTicks s.now))
      else s

/-- A packet of a buffered stream with release tick `rel`: too late, too many, or put in the buffer (R90, R92).
[DESIGN CHOICE, notes/assumptions 15] -/
def State.bufferPkt (s : State) (e ext : Nat) (p : RtpPkt) (rel : Int) (held : Bool) : State :=
  let r := s.stream e
  let late := decide (rel ≤ p.tick) || (held && decide (rel < s.now))
  let j := r.jit
  let margin := rel - p.tick
  let j := { j with winPkts := j.winPkts + 1, winLate := j.winLate + b2n late, winMargin := some (match j.winMargin with | some m => min m margin | none => margin) }
  let s := s.onStream e (fun r => { r with jit := j })
  if late then (s.rxCount r.leg 4).dropNet 0x14
  else if (if r.desc.kind = 0 then 256 else 4096) ≤ j.pkts.length then s.dropNet 0x15
  else s.onStream e (fun r => { r with jit := { r.jit with pkts := insertBuf { ext := ext, release := rel.toNat, rtp := p.rtp } r.jit.pkts } })

/-- A packet that the sequence algorithm accepted: a duplicate is dropped; the others pass the gap, the forwarder and the
buffer (R26, R86 to R92). `top` is the highest number delivered before it. [DESIGN CHOICE, notes/assumptions 15] -/
def State.deliver (s : State) (e : Nat) (p : RtpPkt) (ext : Nat) (top : Option Nat) (held : Bool) : State :=
  let r := s.stream e
  if r.rx.seen.contains ext then (s.rxCount r.leg 5).dropNet 0x13
  else
    let hi := maxN (ext :: r.rx.seen)
    let s := s.onStream e (fun r => { r with rx := { r.rx with seen := (ext :: r.rx.seen).filter (fun n => decide (hi < n + 3000)) }, ended := false })
    let forward (s : State) : State := if r.desc.kind = 1 then (s.measureLayer e p.rtp).forwardPacket e ext p.rtp else s
    if !r.desc.buffered then forward (s.noteGap e ext top (s.now + 300) true)
    else
      let J := s.jitterDepth e
      let place (j : JitBuf) : Int := j.releaseTick J (Nat.max 1 r.desc.clockRate) p.rtp.ts
      let j := if r.jit.anchored then r.jit else r.jit.anchorAt p
      let j := if 60 < (place j - s.now).natAbs then j.anchorAt p else j
      let rel := place j
      let s := s.onStream e (fun r => { r with jit := j })
      let s := s.noteGap e ext top rel.toNat false
      (forward s).bufferPkt e ext p rel held

/-- The highest extended number that a stream has delivered. -/
def SrtpRx.top (x : SrtpRx) : Option Nat := if x.seen.isEmpty then none else some (maxN x.seen)

/-- A packet enters the intake of stream `e` at its own arrival tick (R86, R87). A probation that ends gives the stream a
new anchor, and the forwarder a new run of numbers. -/
def State.intake (s : State) (e : Nat) (p : RtpPkt) : State :=
  let (x, res) := (s.stream e).rx.take p
  let s := s.onStream e (fun r => { r with rx := x })
  let s := if res.failed then s.dropNet 0x12 else s
  let s := if res.fresh then
      let s := s.onStream e (fun r => { r with jit := { (r.jit.anchorAt p) with nextExt := none, missing := [] } })
      s.each s.liveLegs (fun s l => if (s.leg l).fwd.any (fun k => k.cur = some e) then
        s.onLeg l (fun g => { g with fwd := g.fwd.map (fun k => if k.cur = some e then { k with lastIn := none } else k) }) else s)
    else s
  s.each res.out (fun s o => s.deliver e o.1 o.2 (s.stream e).rx.top (o.1 != p))

/-! ### SRTP_PACKET (R84, R85, R87) -/

/-- An unknown SSRC is told to the host once per 600 ticks (R84). -/
def State.unknownSsrc (s : State) (l ssrc : Nat) : State :=
  let recent := (s.leg l).ssrcTold.filter (fun e => decide (s.now < e.2 + 600))
  if recent.any (fun e => e.1 = ssrc) then s
  else (s.onLeg l (fun g => { g with ssrcTold := recent ++ [(ssrc, s.now)] })).notify 0x8004 0 (subjLeg l) [(4, ssrc)]

/-- A decrypted RTP packet of leg `l`: the checks of R84, the restoration of R87, and the intake. -/
def State.rtpPacket (s : State) (l : Nat) (p : RxPkt) (r : RtpFacts) : State :=
  let pk : RtpPkt := { tick := p.tick, rtp := r }
  if !r.headerOk then s.dropNet 0x0F
  else match s.inboundEntry l r.ssrc with
  | none => (s.unknownSsrc l r.ssrc).dropNet 0x11
  | some e =>
    let d := (s.stream e).desc
    if r.pt ≠ d.pt then s.dropNet 0x0F
    else if d.kind ≠ 2 then s.intake e pk
    else if r.payload < 2 then s.dropNet 0x0F
    else s.intake d.repairOf { pk with rtp := { r with ssrc := (s.stream d.repairOf).desc.ssrc, seq := r.original, payload := r.payload - 2 } }

/-- The parts of a decrypted compound in line for their commands (R93). -/
def State.queueRtcp (s : State) (l : Nat) (p : RxPkt) (items : List RtcpBody) : State :=
  { s with net := { s.net with rtcpq := s.net.rtcpq ++ items.map (fun b => { leg := l, tick := p.tick, ns := p.ns, body := b }) } }

/-- One accepted SRTP or SRTCP packet of a leg through the cipher engine; `ecc` is what the slot read showed (R120). -/
def State.mediaPacket (s : State) (p : RxPkt) (ecc : Nat) : State :=
  match p.leg with
  | none => s
  | some l =>
    if !passes (s.leg l).state .srtp then s.dropNet 0x0B
    else match p.body with
      | .srtp n tag r => (match s.decryptRtp l n tag r ecc with
        | (true, s) => s.rtpPacket l p r
        | (false, s) => s)
      | .srtcp n _ index tag items => (match s.decryptRtcp l n index tag ecc with
        | (true, s) => s.queueRtcp l p items
        | (false, s) => s)
      | _ => s

/-- Is the packet SRTCP? -/
def RxPkt.isSrtcp (p : RxPkt) : Bool := match p.body with | .srtcp .. => true | _ => false
/-- Is the packet SRTP or SRTCP? -/
def RxPkt.isMedia (p : RxPkt) : Bool := match p.body with | .srtcp .. => true | .srtp .. => true | _ => false

/-- SRTP_PACKET: the next SRTP or SRTCP packet in line (R84). -/
def srtpPacket (ecc : Nat) (s : State) : State :=
  match s.takeRx RxPkt.isMedia with
  | some (p, s) => s.mediaPacket p ecc
  | none => s

/-- SRTP_PACKET (R84). -/
def execSrtpPacket (ecc : Nat) (s : State) : Host.Outcome State Fault Refusal := finish s (srtpPacket ecc s)

/-! ### RTCP (R93 to R99) -/

/-- The SRTCP packets still in line for this tick pass the engine before a part is taken. [DESIGN CHOICE, notes/assumptions 16] -/
def State.openRtcp (s : State) : State :=
  s.each (s.net.inq.filter (fun p => decide (p.tick < s.now) && p.isSrtcp)) (fun s _ =>
    match s.takeRx RxPkt.isSrtcp with
    | some (p, s) => s.mediaPacket p 0
    | none => s)

/-- The next RTCP part that `c` picks, whose packet arrived in an earlier tick, served by `k` (R20, R93).
[DESIGN CHOICE, notes/assumptions 16] -/
def State.takeRtcp (s : State) (c : RtcpBody → Bool) (k : State → RtcpItem → State) : State :=
  let s := s.openRtcp
  match s.net.rtcpq.find? (fun i => decide (i.tick < s.now) && c i.body) with
  | some i => k { s with net := { s.net with rtcpq := s.net.rtcpq.erase i } } i
  | none => s

/-- A time of TAI nanoseconds as the middle 32 bits of an NTP time (R94, R493). -/
def State.shortNtp (s : State) (ns : Nat) : Nat :=
  let sec := ((ns / 1000000000 : Nat) - s.utcNow + 2208988800) * 65536
  (sec + (ns % 1000000000 * 65536 / 1000000000 : Nat)).toNat % 2 ^ 32

/-- One RTT value of a leg, the mean being that of the last 8 (R94). [DESIGN CHOICE, notes/assumptions 16] -/
def State.addRtt (s : State) (i : RtcpItem) (r : Report) : State :=
  if r.lsr = 0 then s
  else
    let v := fromBits 32 (modSub 32 (modSub 32 (s.shortNtp (tickNs i.tick + i.ns)) r.lsr) r.dlsr)
    s.onLeg i.leg (fun g => { g with rtt := lastN 8 (g.rtt ++ [ceilDiv (v.toNat * 600) 65536]) })

/-- A report block on one of the leg's outbound streams (R93, R94, R304, R347). -/
def State.reportBlock (s : State) (i : RtcpItem) (r : Report) : State :=
  match s.outboundEntry i.leg r.ssrc with
  | none => s
  | some e =>
    let s := (s.addRtt i r).reportLoss i.leg e r
    if s.videoOut i.leg = some e then s.ackCandidate i.leg (r.highest % 65536) else s

/-- RTCP_SR: the sender's clock mapping and its report blocks (R93). -/
def rtcpSr (s : State) : State :=
  s.takeRtcp (fun b => match b with | .sr .. => true | _ => false) (fun s i => match i.body with
    | .sr ssrc lsr ts wall reports =>
      let s := match s.inboundEntry i.leg ssrc with
        | some e => s.onStream e (fun r => { r with srLsr := lsr, srMap := some (ts, wall) })
        | none => s
      s.each reports (fun s r => s.reportBlock i r)
    | _ => s)

/-- RTCP_SR (R93). -/
def execRtcpSr (s : State) : Host.Outcome State Fault Refusal := finish s (rtcpSr s)

/-- RTCP_RR: report blocks (R93). -/
def rtcpRr (s : State) : State :=
  s.takeRtcp (fun b => match b with | .rr .. => true | _ => false) (fun s i => match i.body with
    | .rr _ reports => s.each reports (fun s r => s.reportBlock i r)
    | _ => s)

/-- RTCP_RR (R93). -/
def execRtcpRr (s : State) : Host.Outcome State Fault Refusal := finish s (rtcpRr s)

/-- RTCP_BYE: each stream named is marked ended and the host is told (R93). -/
def rtcpBye (s : State) : State :=
  s.takeRtcp (fun b => match b with | .bye _ => true | _ => false) (fun s i => match i.body with
    | .bye ssrcs => s.each ssrcs (fun s x => match s.inboundEntry i.leg x with
      | some e => (s.onStream e (fun r => { r with ended := true })).notify 0x8005 0 (subjLeg i.leg) [(4, x)]
      | none => s)
    | _ => s)

/-- RTCP_BYE (R93). -/
def execRtcpBye (s : State) : Host.Outcome State Fault Refusal := finish s (rtcpBye s)

/-- The history entry that a NACK item finds: as the history stood at the end of the NACK's tick of arrival, and not
poisoned (R99, R458). -/
def State.inHistory (s : State) (e q tick : Nat) (poisoned : List Nat) : Option HistEntry :=
  let d := (s.stream e).desc
  let keep := if d.historyTicks = 0 then 600 else d.historyTicks
  if poisoned.contains q then none
  else (s.stream e).tx.history.find? (fun h => h.seq = q && decide (h.tick ≤ tick) && decide (s.now < h.tick + keep))

/-- One NACK item of leg `l` for its outbound entry `e` that entry `x` repairs: a request, nothing while the last one is
less than rtt_ticks old, or a miss; the misses so far are `acc` (R98). -/
def State.nackOne (s : State) (l e x tick : Nat) (poisoned : List Nat) (acc : List Nat) (q : Nat) : State × List Nat :=
  let asked := (s.stream e).tx.rtxAsked.filter (fun a => decide (s.now < a.2 + (s.leg l).rttTicks))
  if asked.any (fun a => a.1 = q) then (s, acc)
  else match s.inHistory e q tick poisoned with
    | none => (s.rxCount l 9, acc ++ [q])
    | some h =>
      let s := s.onStream e (fun r => { r with tx := { r.tx with rtxAsked := asked ++ [(q, s.now)] } })
      let p : EgPkt := { leg := some l, cls := 3, kind := .rtp, stream := x, ssrc := (s.stream x).desc.ssrc, ts := h.rtp.ts, marker := h.rtp.marker, len := h.length + 2, content := h.rtp.content, pic := h.rtp.ts, rtxOf := some q, vid := h.rtp.vid }
      ((s.rxCount l 10).packetise p, acc)

/-- RTCP_NACK: the items of one NACK are looked up in the leg's history (R98, R99); a laced viewer's misses ask for intra
tiles (R338), and a long-term candidate that is not received whole is given up (R304). `poisoned` lists the sequence
numbers whose history entries read as poison (R458). -/
def rtcpNack (poisoned : List Nat) (s : State) : State :=
  s.takeRtcp (fun b => match b with | .nack .. => true | _ => false) (fun s i => match i.body with
    | .nack ssrc seqs =>
      let l := i.leg
      let s := (s.rxCount l 8 seqs.length).nackCandidate l seqs
      match s.outboundEntry l ssrc with
      | none => s.rxCount l 9 seqs.length
      | some e =>
        let (s, miss) := match s.rtxEntry l e with
          | some x => seqs.foldl (fun (acc : State × List Nat) q => acc.1.nackOne l e x i.tick poisoned acc.2 q) (s, [])
          | none => (s.rxCount l 9 seqs.length, seqs)
        if (s.leg l).desc.videoMode = 2 then s.viewerMiss l miss else s
    | _ => s)

/-- RTCP_NACK (R98). -/
def execRtcpNack (poisoned : List Nat) (s : State) : Host.Outcome State Fault Refusal := finish s (rtcpNack poisoned s)

/-- A PLI or FIR of leg `l` for its outbound entry `e`: a PLI to the sender of the forwarded layer, or a refresh request to
the lacer or the encoder (R95). [DESIGN CHOICE, notes/assumptions 16] -/
def State.refreshAsked (s : State) (l e : Nat) (fir : Bool) : State :=
  let g := s.leg l
  if (s.stream e).desc.kind ≠ 1 then s
  else if g.desc.videoMode = 1 then
    match (g.fwd.find? (fun k => k.stream = e)).bind (fun k => k.cur.orElse (fun _ => k.tgt.map (·.1))) with
    | some src => s.upstreamRequest src true
    | none => s
  else if g.desc.videoMode = 2 then s.viewerRefresh l fir
  else if g.desc.videoMode = 3 then s.refreshRung (g.adapt.serving.getD g.desc.lineClass) l fir false
  else s

/-- RTCP_PLI (R95). -/
def rtcpPli (s : State) : State :=
  s.takeRtcp (fun b => match b with | .pli _ => true | _ => false) (fun s i => match i.body with
    | .pli ssrc => (match s.outboundEntry i.leg ssrc with
      | some e => s.refreshAsked i.leg e false
      | none => s)
    | _ => s)

/-- RTCP_PLI (R95). -/
def execRtcpPli (s : State) : Host.Outcome State Fault Refusal := finish s (rtcpPli s)

/-- RTCP_FIR: ignored when its sequence number is that of the last one accepted for the stream (R95). -/
def rtcpFir (s : State) : State :=
  s.takeRtcp (fun b => match b with | .fir .. => true | _ => false) (fun s i => match i.body with
    | .fir ssrc n => (match s.outboundEntry i.leg ssrc with
      | some e =>
        if (s.stream e).tx.firSeq = some n then s
        else (s.onStream e (fun r => { r with tx := { r.tx with firSeq := some n } })).refreshAsked i.leg e true
      | none => s)
    | _ => s)

/-- RTCP_FIR (R95). -/
def execRtcpFir (s : State) : Host.Outcome State Fault Refusal := finish s (rtcpFir s)

/-- RTCP_TRANSPORT_FEEDBACK: the estimator takes the packets reported, and those received acknowledge the long-term
candidate of the leg's rung (R93, R304, R347). -/
def rtcpTransportFeedback (s : State) : State :=
  s.takeRtcp (fun b => match b with | .feedback _ => true | _ => false) (fun s i => match i.body with
    | .feedback items =>
      let sent := ((s.leg i.leg).eg.groupsSent.flatMap (·.pkts)).filter (fun p => s.videoOut i.leg = some p.stream)
      let got := items.filter (fun x => x.arrival.isSome)
      let seqs := got.filterMap (fun x => (sent.find? (fun p => x.names p)).map (·.seq))
      (s.feedback i.leg items).each seqs (fun s q => s.ackCandidate i.leg q)
    | _ => s)

/-- RTCP_TRANSPORT_FEEDBACK (R93). -/
def execRtcpTransportFeedback (s : State) : Host.Outcome State Fault Refusal := finish s (rtcpTransportFeedback s)

/-- RTCP_IGNORED: a part that R93 counts and ignores, or skips. -/
def rtcpIgnored (s : State) : State :=
  s.takeRtcp (fun b => b = .ignored) (fun s _ => { s with net := { s.net with rtcpIgnored := s.net.rtcpIgnored + 1 } })

/-- RTCP_IGNORED (R93). -/
def execRtcpIgnored (s : State) : Host.Outcome State Fault Refusal := finish s (rtcpIgnored s)

end Sys2Proof.Machine
end

