-- ==== Sys2Proof/Machine/Upd.lean ====
section
/-!
DEFINITION. Firmware and configuration update (17): reception, staging, scheduled activation, trial, confirmation, fallback and
abort.
-/

namespace Sys2Proof.Machine

/-- BOOT UPDATE_REFUSED (R631). -/
def fltUpdateRefused : Nat := faultCode 1 0 0x12
/-- BOOT STAGE_PARTIAL (R631). -/
def fltStagePartial : Nat := faultCode 1 0 0x13
/-- BOOT ACTIVATION_ABORTED (R631). -/
def fltActivationAborted : Nat := faultCode 1 0 0x14
/-- BOOT HEALTH_FAIL (R631). -/
def fltHealthFail : Nat := faultCode 1 1 0x15

/-! ### Reception (R613 to R615) -/

/-- The header of the container in hand. -/
def State.updHdr (s : State) : ContHdr := s.upd.hdr.getD {}

/-- An update step's journal record (R630). [DESIGN CHOICE, notes/assumptions 43] -/
def State.updNote (s : State) (event result reason : Nat) (slotFlash : Nat := 0) : State :=
  s.updJournal event result reason s.updHdr.version s.updHdr.payloadDigest slotFlash

/-- A container refused: reason, journal, UPDATE_REFUSED (R614, R615, R619, R630, R632). -/
def State.refuseOf (s : State) (h : ContHdr) (code : Nat) : State :=
  ((s.updReason (code % 256)).updJournal 2 1 code h.version h.payloadDigest 0).raise fltUpdateRefused subjNone

/-- The update in hand refused (R615, R619, R620, R622). -/
def State.refuseUpdate (s : State) (code : Nat) : State := s.refuseOf s.updHdr code

/-- Check 0x07: the state formats of the new and the running firmware read each other (R614). -/
def State.formatsMeet (s : State) (h : ContHdr) : Bool :=
  let b := s.boot
  !h.hasFw || decide (h.stateReadMin ≤ b.fwWrite ∧ b.fwWrite ≤ h.stateReadMax ∧ b.fwReadMin ≤ h.stateWrite ∧ h.stateWrite ≤ b.fwReadMax)

/-- Is another update staging, staged, scheduled or on trial (R614 check 0x08)? -/
def State.updBusy (s : State) : Bool := s.upd.hdr.isSome || s.tly.boot.trial = 1 || s.tly.boot.trial = 2

/-- The reason with which R614 refuses a header; 0 when it passes. -/
def State.headerReason (s : State) (h : ContHdr) : Nat :=
  if h.check5 s.boot.opt ≠ 0 then h.check5 s.boot.opt
  else if !h.fits s.boot.flash.slotBytes then 6
  else if !s.formatsMeet h then 7
  else if s.updBusy then 8
  else 0

/-- Payload bytes of a container (R612). -/
def ContHdr.payload (h : ContHdr) : Nat := (if h.hasFw then h.fwLen else 0) + (if h.hasTz then h.tzLen else 0)

/-- The reason with which R615 refuses a payload; 0 when it passes. The TORZER reason carries the code of R587 in its upper
byte. [DESIGN CHOICE, notes/assumptions 43] -/
def State.payloadReason (s : State) (c : Container) : Nat :=
  let h := c.hdr
  let z := c.torzer.reason s.boot.flash.slotBytes (if h.hasFw then h.version else s.boot.fwVersion)
  if !c.digestsOk then 9 else if h.hasTz && z ≠ 0 then 0x0A + z * 256 else 0

/-- The slots into which sections are staged: those that the boot record does not name as active (R616). -/
def State.stageSlots (s : State) : Nat × Nat := (1 - s.tly.boot.fwActive, 1 - s.tly.boot.tzActive)

/-- A flash with its firmware or Torzer slot `n` replaced. -/
def Flash.withFw (f : Flash) (n : Nat) (x : FwSlot) : Flash := if n = 0 then { f with fw0 := x } else { f with fw1 := x }
/-- A flash with its Torzer slot `n` replaced. -/
def Flash.withTz (f : Flash) (n : Nat) (x : Torzer) : Flash := if n = 0 then { f with tz0 := x } else { f with tz1 := x }

/-- The inactive slots written on a flash, with or without a commit word (R616). -/
def State.writeSlots (s : State) (b commit : Bool) (c : Container) : State :=
  let (n, m) := s.stageSlots
  let f := s.boot.flash.get b
  let f := if c.hdr.hasFw then f.withFw n { commit := commit, hdr := c.hdr } else f
  let f := if c.hdr.hasTz then f.withTz m { c.torzer with commit := commit } else f
  { s with boot := { s.boot with flash := if b then { s.boot.flash with b := f } else { s.boot.flash with a := f } } }

/-- The inactive slots of both flashes left without a commit word (R615, R616, R628). -/
def State.eraseSlots (s : State) (c : Container) : State := (s.writeSlots false false c).writeSlots true false c

/-- Staging begins: the slots of both flashes are erased (R616). -/
def State.beginStaging (s : State) (c : Container) : State :=
  { ((s.updNote 1 0 0).eraseSlots c) with upd := { s.upd with cont := some c, staging := true } }

/-- The last payload byte has arrived: staging begins, or the staging is discarded and the inactive slots keep no commit word (R615). Its reason code is the answer. -/
def State.payloadEnd (s : State) (c : Container) : State × Nat :=
  let r := s.payloadReason c
  if r = 0 then (s.beginStaging c, 0)
  else
    let s := (s.refuseUpdate r).eraseSlots c
    ({ s with upd := {} }, r)

/-- UPDATE_HEADER: the header is checked before any payload byte is accepted (R613, R614). -/
def execUpdateHeader (m : Msg) (h : ContHdr) (s : State) : Host.Outcome State Fault Refusal :=
  finish s (s.request m 0x0401 .both (fun s _ rto =>
    let r := s.headerReason h
    if r ≠ 0 then (s.refuseOf h r).reply rto stRefused (.reason r)
    else (({ s with upd := { hdr := some h, path := some rto } }).showUpd).reply rto stOK))

/-- UPDATE_CHUNK: a chunk at the expected offset is accepted; after the last byte the digests are checked. What the payload turns
out to hold is read then. A chunk at another offset is discarded and answered with the offset expected (R613, R615). -/
def execUpdateChunk (m : Msg) (offset length : Nat) (digestsOk : Bool) (torzer : Torzer) (s : State) : Host.Outcome State Fault Refusal :=
  finish s (s.request m 0x0402 .both (fun s _ rto =>
    let h := s.updHdr
    if s.upd.hdr.isNone || s.upd.staging || s.upd.staged ≠ 0 then s.reply rto stInvalid
    else if offset ≠ s.upd.got || h.payload < s.upd.got + length then s.reply rto stInvalid (.tick s.upd.got)
    else
      let s := { s with upd := { s.upd with got := s.upd.got + length } }
      if s.upd.got < h.payload then s.reply rto stOK
      else
        let (s, r) := s.payloadEnd { hdr := h, digestsOk := digestsOk, torzer := torzer }
        if r = 0 then s.showUpd.reply rto stOK else s.showUpd.reply rto stRefused (.reason r)))

/-- SD_UPDATE: a container read from the mounted card (R613). -/
def execSdUpdate (m : Msg) (s : State) : Host.Outcome State Fault Refusal :=
  finish s (s.request m 0x0403 .both (fun s _ rto =>
    let c := s.boot.env.cardCont
    if s.boot.sdState ≠ 2 || !s.itemUsed 2 0 then s.reply rto stInvalid
    else
      let r := if !c.readOk then 1 else s.headerReason c.hdr
      if r ≠ 0 then (s.refuseOf c.hdr r).reply rto stRefused (.reason r)
      else
        let s := { s with upd := { hdr := some c.hdr, path := some rto, got := c.hdr.payload } }
        let (s, r) := s.payloadEnd c
        if r = 0 then s.showUpd.reply rto stOK else s.showUpd.reply rto stRefused (.reason r)))

/-! ### Staging (R616, R617) -/

/-- STAGING_DONE: staging ends on flash A and flash B; it succeeds when at least one holds every section committed (R617). -/
def stagingDone (okA okB : Bool) (s : State) : State :=
  if !s.upd.staging then s
  else
    let c := s.upd.cont.getD {}
    let okA := okA && s.boot.flash.a.capacityOk
    let okB := okB && s.boot.flash.b.capacityOk
    let n := b2n okA + b2n okB
    let s := (s.writeSlots false okA c).writeSlots true okB c
    if n = 0 then ({ ((s.updReason 0x0B).updNote 3 1 0x0B) with upd := {} }).showUpd
    else
      let slot := if c.hdr.hasFw then s.stageSlots.1 else s.stageSlots.2
      let s := (s.updNote 3 0 0 (slot + b2n (!okA) * 2))
      let s := if n = 1 then s.raise fltStagePartial subjNone else s
      ({ s with upd := { s.upd with staging := false, staged := n } }).showUpd

/-- STAGING_DONE (R617). -/
def execStagingDone (okA okB : Bool) (s : State) : Host.Outcome State Fault Refusal := finish s (stagingDone okA okB s)

/-! ### Scheduled activation (R619 to R622) -/

/-- The image after the swap: the staged one, or the one in use. [DESIGN CHOICE, notes/assumptions 44] -/
def State.nextImage (s : State) : Torzer := if s.updHdr.hasTz then (s.upd.cont.getD {}).torzer else s.boot.image

/-- Does the new image leave the records that only a cold reset may change, headroom apart (R620)? -/
def State.liveImage (s : State) : Bool :=
  let a := s.boot.image
  let b := s.nextImage
  a.device.map (fun d => { d with headroom := 0 }) = b.device.map (fun d => { d with headroom := 0 })
    && a.ports = b.ports && a.time = b.time && a.domains = b.domains && a.bobbins = b.bobbins

/-- Is every pricking, lace grid, image group and guard set that a fold uses there and valid for it under the state `b` that has
the new image (R249, R324, R620)? -/
def State.foldKept (s b : State) (f : Nat) : Bool :=
  let d := (b.fold f).desc
  let ps := (b.foldLcs f).map (fun c => (b.lc c).desc.pricking)
  let shown := ps.flatMap (fun id => match b.pricking id with
    | some p => p.overlays.flatMap (b.canShow f)
    | none => [])
  ps.all (fun id => (b.pricking id).isSome) && (d.laceGrid = 0xFFFF || b.boot.image.grids.any (fun g => g.id = d.laceGrid)) && b.laceOk f
    && (d.guardSet = 0xFFFF || (tfind d.guardSet s.cmp.guardSets).isNone || (tfind d.guardSet b.cmp.guardSets).isSome)
    && shown.all (fun g => (tfind g s.cmp.groups).isNone || (tfind g b.cmp.groups).isSome) && (b.foldOutputs f).all (b.guardsFit f)

/-- The reason with which R620 refuses an activation; 0 when it passes. -/
def State.activationReason (s : State) (cold : Bool) : Nat :=
  if cold then 0
  else if !s.liveImage then 0x10
  else
    let b := s.withImage s.nextImage
    let b := match s.nextImage.device with
      | some d => b.setF Reg.DEV_ADMIT_CONFIG 5 0 d.headroom
      | none => b
    let fs := s.usedFolds
    if !fs.all (s.foldKept b) then 0x11
    else if fs.any (fun f => match placeJobs s b f with
      | .ok _ => false
      | .error _ => true) then 0x12
    else 0

/-- The activation scheduled for boundary `T` (R619, R629). [DESIGN CHOICE, notes/assumptions 43] -/
def State.scheduleSwap (s : State) (T : Nat) (cold : Bool) : State :=
  let s := { s with upd := { s.upd with at_ := T, cold := cold, prepared := false }, twn := { s.twn with partnerReady := false } }
  let s := (s.commitBoot { s.tly.boot with trial := 1, activateTick := T }).updNote 4 0 0
  (s.setR64 Reg.BOOT_UPDATE_TICK T).showUpd

/-- The activation is no longer scheduled; the staging stays committed (R621, R622, R628). -/
def State.unschedule (s : State) : State :=
  let s := { s with upd := { s.upd with at_ := 0, cold := false, prepared := false } }
  (s.commitBoot { s.tly.boot with trial := 0 }).showUpd

/-- ACTIVATE: the swap is scheduled at boundary T = S × 600 + k after its checks; in a pair it is mirrored (R619, R620, R622). -/
def execActivate (m : Msg) (second tick reserved : Nat) (cold : Bool) (s : State) : Host.Outcome State Fault Refusal :=
  finish s (s.request m 0x0404 .both (fun s t rto =>
    let T := second * 600 + tick
    if reserved ≠ 0 then s.reply rto stMalformed
    else if s.upd.staged = 0 || s.upd.at_ ≠ 0 then s.reply rto stInvalid
    else
      let r := if !s.tim.valid || decide (T < t + 120 ∨ t + 51840000 < T) then 0x15 else s.activationReason cold
      if r ≠ 0 then (s.refuseUpdate r).reply rto stRefused (.reason r)
      else
        let s := s.scheduleSwap T cold
        if s.mirroring then s.sendEvent 0x0404 T none (some { dst := rto, status := stOK }) else s.reply rto stOK))

/-- SWAP_PREPARE: from T − 60 the new images are loaded and verified and the checks of R620 repeated; in a pair readiness is
reported (R621, R622). -/
def swapPrepare (loaded : Bool) (s : State) : State :=
  if s.boot.warmRun || s.upd.at_ = 0 || s.upd.prepared || decide (s.now + 60 < s.upd.at_) then s
  else if loaded && s.activationReason s.upd.cold = 0 then
    let s := { s with upd := { s.upd with prepared := true } }
    if s.mirroring then s.sendEvent 0x0404 s.upd.at_ none none else s
  else s

/-- SWAP_PREPARE (R621). -/
def execSwapPrepare (loaded : Bool) (s : State) : Host.Outcome State Fault Refusal := finish s (swapPrepare loaded s)

/-- Is everything ready for the swap: prepared, and in a pair the partner too (R621, R622)? -/
def State.swapReady (s : State) : Bool := s.upd.prepared && (s.twn.pair ≠ .paired || s.twn.partnerReady)

/-- SWAP_NOT_READY: at boundary T − 1 an activation that is not ready ends ABORTED, and nothing changes (R621, R622). -/
def swapNotReady (s : State) : State :=
  if s.upd.at_ = 0 || decide (s.now + 1 < s.upd.at_) || s.swapReady then s
  else (((s.updReason 0x13).updNote 8 1 0x13).unschedule).raise fltActivationAborted subjNone

/-- SWAP_NOT_READY (R621). -/
def execSwapNotReady (s : State) : Host.Outcome State Fault Refusal := finish s (swapNotReady s)

/-- The boot record that names the new slots as active (R623, R629). -/
def State.swappedRecord (s : State) : BootRec :=
  let r := s.tly.boot
  let h := s.updHdr
  let (n, m) := s.stageSlots
  { r with fwActive := if h.hasFw then n else r.fwActive, fwPrevious := r.fwActive, tzActive := if h.hasTz then m else r.tzActive, tzPrevious := r.tzActive, trial := 2, trialWarm := 0, activateTick := s.upd.at_, confirmTick := 0, fwVersion := if h.hasFw then h.version else s.boot.fwVersion, fwPreviousVersion := s.boot.fwVersion, tzDigest := s.nextImage.digest }

/-- UPDATE_SWAP: at boundary T the cores go on in the new firmware, the new sealed values take effect, and the boot record is
committed; a cold activation makes a cold reset into the new images instead (R620, R623, R625).
[DESIGN CHOICE, notes/assumptions 43] -/
def updateSwap (s : State) : State :=
  if s.upd.at_ = 0 || decide (s.now < s.upd.at_) || !s.swapReady || s.boot.warmRun then s
  else
    let T := s.upd.at_
    let cold := s.upd.cold
    let h := s.updHdr
    let t := s.nextImage
    let s := (s.commitBoot s.swappedRecord).updNote 5 0 0
    if cold then s.startUp 1 none true
    else
      let s := if h.hasFw then (s.runFirmware h).bootStatus 8 7 (b2n (s.fwFrom s.tly.boot.fwActive)) else s
      let s := if h.hasTz then s.liveSeal t s.tly.boot.tzActive else s
      ({ s with upd := { trialFrom := T } }).showUpd

/-- UPDATE_SWAP (R623). -/
def execUpdateSwap (s : State) : Host.Outcome State Fault Refusal := finish s (updateSwap s)

/-! ### Abort (R628) -/

/-- UPDATE_ABORT: staging is discarded and the slots erased; a scheduled activation becomes unscheduled; from boundary T − 1 on the
swap proceeds (R628). -/
def execUpdateAbort (m : Msg) (s : State) : Host.Outcome State Fault Refusal :=
  finish s (s.request m 0x0405 .both (fun s _ rto =>
    let u := s.upd
    if u.hdr.isNone then s.reply rto (if s.tly.boot.trial = 2 then stAlready else stInvalid)
    else if u.at_ ≠ 0 && decide (u.at_ ≤ s.now + 1) then s.reply rto stAlready
    else
      let s := s.updNote 8 0 0
      let s := if u.at_ ≠ 0 then s.raise fltActivationAborted subjNone else s
      if u.staged = 0 then
        let c := u.cont.getD { hdr := s.updHdr }
        (({ (s.eraseSlots c) with upd := {} }).showUpd).reply rto stAborted
      else
        let s := if u.at_ ≠ 0 then s.unschedule else s
        if s.mirroring then s.sendEvent 0x0405 s.now none (some { dst := rto, status := stAborted }) else s.reply rto stAborted))

/-! ### Trial, confirmation, fallback (R625 to R627) -/

/-- A fallback triggered: the swap back comes at a boundary at least 2 ticks later, and is mirrored (R626, R627). -/
def State.triggerFallback (s : State) (held : Option Reply) : State :=
  let T := s.now + 2
  let s := { s with upd := { s.upd with fallAt := some T } }
  if s.mirroring then s.sendEvent 0x0406 T none held
  else match held with
    | some r => s.sendReplyNow r
    | none => s

/-- Is the device on trial with no fallback under way? -/
def State.onTrial (s : State) : Bool := s.tly.boot.trial = 2 && s.upd.fallAt.isNone

/-- REVERT: during a trial it triggers fallback; after confirmation it is INVALID_STATE (R626, R628). -/
def execRevert (m : Msg) (s : State) : Host.Outcome State Fault Refusal :=
  finish s (s.request m 0x0406 .both (fun s _ rto =>
    if s.onTrial then s.triggerFallback (some { dst := rto, status := stOK }) else s.reply rto stInvalid))

/-- HEALTH_FAIL: the firmware's own health check fails during a trial (R626, R631). -/
def healthFail (s : State) : State :=
  if s.onTrial && !s.boot.warmRun then ((s.raise fltHealthFail subjNone).triggerFallback none) else s

/-- HEALTH_FAIL (R626). -/
def execHealthFail (s : State) : Host.Outcome State Fault Refusal := finish s (healthFail s)

/-- TRIAL_CONFIRM: after 6,000 clean ticks the new image is CONFIRMED (R625). -/
def trialConfirm (s : State) : State :=
  if s.onTrial && decide (6000 ≤ s.upd.clean) then
    let s := (s.commitBoot { s.tly.boot with trial := 3, confirmTick := s.now }).updJournal 6 0 0 s.tly.boot.fwVersion 0 s.tly.boot.fwActive
    ({ s with upd := {} }).showUpd
  else s

/-- TRIAL_CONFIRM (R625). -/
def execTrialConfirm (s : State) : Host.Outcome State Fault Refusal := finish s (trialConfirm s)

/-- TRIAL_TIMEOUT: boundary T + 36,000 without confirmation triggers fallback (R626). -/
def trialTimeout (s : State) : State :=
  if s.onTrial && decide (s.upd.trialFrom + 36000 ≤ s.now) then s.triggerFallback none else s

/-- TRIAL_TIMEOUT (R626). -/
def execTrialTimeout (s : State) : Host.Outcome State Fault Refusal := finish s (trialTimeout s)

/-- FALLBACK_SWAP: the swap back at its boundary; when its preparation fails, a warm restart starts the previous firmware. While
the cores are down the restart that is under way does (R626). [DESIGN CHOICE, notes/assumptions 43] -/
def fallbackSwap (prepared : Bool) (s : State) : State :=
  match s.upd.fallAt with
  | none => s
  | some T =>
    if s.boot.warmRun || decide (s.now < T) then s
    else if prepared then s.fallBack
    else s.warmReset 6

/-- FALLBACK_SWAP (R626). -/
def execFallbackSwap (prepared : Bool) (s : State) : Host.Outcome State Fault Refusal := finish s (fallbackSwap prepared s)

/-- The trial ticks counted at a boundary (R625, R632). -/
def State.trialBoundary (s : State) : State :=
  if s.onTrial && !s.boot.warmRun then ({ s with upd := { s.upd with clean := s.upd.clean + 1 } }).showUpd else s

/-! ### The partner's activation (R622, R627) -/

/-- The partner's activation, readiness, refusal, abort and fallback as its events name them (R622, R627, R628). -/
def State.partnerUpdate (s : State) (e : SessEvent) (T : Nat) : State :=
  match e with
  | .activate digest cold =>
    if s.upd.staged ≠ 0 && s.upd.at_ = 0 && s.updHdr.payloadDigest = digest then s.scheduleSwap T cold
    else (s.refuseUpdate 0x14).sendEvent 0x0404 T none none
  | .ready => { s with twn := { s.twn with partnerReady := true } }
  | .notStaged =>
    let held := s.twn.events.filterMap (fun x => x.reply.bind (fun r => if r.dst.typ = 0x0404 then some r.dst else none))
    let keep (x : MirEvent) : MirEvent := if x.reply.any (fun r => r.dst.typ = 0x0404) then { x with reply := none } else x
    let s := { s with twn := { s.twn with events := s.twn.events.map keep } }
    let s := (if s.upd.at_ ≠ 0 then s.unschedule else s).refuseUpdate 0x14
    s.each held (fun s rto => s.sendReplyNow { dst := rto, status := stRefused, pay := .reason 0x14 })
  | .abortUpdate => if s.upd.at_ ≠ 0 && decide (s.now + 1 < s.upd.at_) then (s.updNote 8 0 0).unschedule else s
  | .fallback => if s.tly.boot.trial = 2 || s.tly.boot.trial = 3 then { s with upd := { s.upd with fallAt := some T } } else s
  | _ => s

end Sys2Proof.Machine
end

