-- ==== Sys2Proof/Machine/Twn.lean ====
section
/-!
DEFINITION. Twin operation over the Ausil link (R517 to R553): the sideband, pairing, mirroring, digests and repair, partner loss,
takeover and switchover.
-/

namespace Sys2Proof.Machine

/-! ### Frames received (R518 to R520) -/

/-- A RETRY for frame `q`, sent on the bundle that missed it (R520). [DESIGN CHOICE, notes/assumptions 51] -/
def State.askRetry (s : State) (b q : Nat) : State := s.sendAusOn b 12 s.now 4 [q % 2 ^ 32]

/-- An Ausil frame received: a bad one is counted and asked for again; a gap in seq asks for each missing frame; a frame of a
lower epoch is discarded and counted once the pair has settled; `k` is what its type does (R518 to R520, R545, R553).
[DESIGN CHOICE, notes/assumptions 51, 54] -/
def State.ausRx (s : State) (h : AusHdr) (k : State → State) : State :=
  let b := b2n h.bundleB
  if !s.sealed || s.boot.planeStopped || !s.bundleUp b then s
  else
    let e := tget 0 s.twn.rxSeq b
    let next (s : State) (n : Nat) : State := { s with twn := { s.twn with rxSeq := tset 0 s.twn.rxSeq b (n % 2 ^ 32 + 1) } }
    if !h.good then
      let s := s.incR (Reg.TWN_BUNDLE_CRC_ERRORS b)
      if e = 0 then s else next (s.askRetry b (e - 1)) e
    else
      let s := s.incR64 (Reg.TWN_BUNDLE_RX_FRAMES b)
      let q := h.seq.toNat
      let gap := if e = 0 then 0 else modSub 32 q (e - 1)
      let s := if gap < 2 ^ 31 then next (s.each (upTo gap) (fun s i => s.askRetry b (e - 1 + i))) (q + 1) else s
      if s.mirroring && h.epoch < s.tly.epoch then s.incR Reg.TWN_STALE_EPOCH
      else k { s with twn := { s.twn with partnerEpoch := h.epoch } }

/-! ### Own frames -/

/-- Is this device serving: some leg is not IDLE (R525)? -/
def State.serving (s : State) : Bool := s.legs.any (fun e => e.2.state ≠ .idle)

/-- This device's IDENTITY (R525). -/
def State.ownIdentity (s : State) : Identity :=
  { serial := Config.serial, revision := 0x0101, roleB := s.twn.roleB, cross := s.twn.cross, fwVersion := s.boot.fwVersion, format := s.boot.fwWrite, serving := s.serving, fenced := s.tly.fencedLatched, maint := s.boot.maint, digest := s.boot.image.digest, ceilings := (upTo 4).map s.ceilingBp }

/-- IDENTITY sent (R525). -/
def State.sendIdentity (s : State) : State :=
  let i := s.ownIdentity
  s.sendAus 2 s.now 60 ([i.serial.toNat, i.revision, b2n i.roleB, b2n i.cross, i.fwVersion, i.format, b2n i.serving + b2n i.fenced * 2 + b2n i.maint * 4, i.digest.toNat] ++ i.ceilings)

/-- A PAIR frame sent: step, result, new epoch and boundary (R529). -/
def State.sendPair (s : State) (step result epoch tick : Nat) : State := s.sendAus 3 s.now 16 [step, result, epoch, tick]

/-! ### Bundles and sideband (R517, R526, R539, R540) -/

/-- BUNDLE_UP: all 8 lanes of a bundle hold lock; a SOLO device of a pair begins to link (R517, R526, R685).
[DESIGN CHOICE, notes/assumptions 51, 52] -/
def bundleUpCmd (b : Nat) (s : State) : State :=
  if 2 ≤ b || !s.sealed || s.bundleUp b then s
  else
    let s := s.setF (Reg.TWN_BUNDLE_STATUS b) 8 0 0x1FF
    let s := { s with twn := { s.twn with rxSeq := tdel b s.twn.rxSeq, slowTicks := tdel b s.twn.slowTicks, timeSent := tdel b s.twn.timeSent }, adm := { s.adm with recount := true } }
    let s := (s.clearReasonOf fltBundleDown (subjInst 14 (1 + b))).clearReasonOf fltLinkDown subjLink
    if s.twn.pair = .solo && s.twn.paired then
      ({ s with twn := { s.twn with attempt := none, identOk := false, fails := 0 } }).setPair .linking
    else s

/-- BUNDLE_UP (R517). -/
def execBundleUp (bundle : Nat) (s : State) : Host.Outcome State Fault Refusal := finish s (bundleUpCmd bundle s)

/-- With both bundles down and the sideband heard the pair goes SOLO, and no device takes over; a pair that was not formed goes
SOLO as well (R526). -/
def State.linkDown (s : State) (heard : Bool) : State :=
  if s.bundleUp 0 || s.bundleUp 1 then s
  else if s.mirroring then (if heard then (s.raise fltLinkDown subjLink).setPair .solo else s)
  else if s.twn.pair = .linking || s.twn.pair = .refused then s.setPair .solo
  else s

/-- BUNDLE_DOWN: a lane of the bundle lost its lock (R517, R523, R526, R546). [DESIGN CHOICE, notes/assumptions 52] -/
def bundleDownCmd (b : Nat) (s : State) : State :=
  if 2 ≤ b || !s.sealed || !s.bundleUp b then s
  else
    let s := s.setF (Reg.TWN_BUNDLE_STATUS b) 8 0 0
    let s := ({ s with adm := { s.adm with recount := true } }).raise fltBundleDown (subjInst 14 (1 + b))
    s.linkDown (s.twn.heardNow.contains 2 || s.getF Reg.TWN_PAIR_STATUS 11 11 = 1)

/-- BUNDLE_DOWN (R517). -/
def execBundleDown (bundle : Nat) (s : State) : Host.Outcome State Fault Refusal := finish s (bundleDownCmd bundle s)

/-- A path on which the partner was heard since the last boundary (R539). -/
def State.hear (s : State) (path : Nat) : State := { s with twn := { s.twn with heardNow := insertAsc path (s.twn.heardNow.filter (· ≠ path)) } }

/-- AUS_HB_IN_TOGGLE (R539). -/
def execAusHbInToggle (s : State) : Host.Outcome State Fault Refusal :=
  finish s (({ s with pins := { s.pins with hbIn := !s.pins.hbIn } }).hear 2)

/-- AUS_FENCE_IN_RISE: the transmitters are gated whatever the state; a paired device takes a plane reset, latches fenced_latched
and enters FENCED (R526, R540). [DESIGN CHOICE, notes/assumptions 52] -/
def ausFenceInRise (s : State) : State :=
  if s.pins.fenceIn then s
  else
    let s := { s with pins := { s.pins with fenceIn := true } }
    if !s.sealed then s
    else
      let s := s.setF Reg.TWN_PAIR_STATUS 7 7 1
      let s := if s.mirroring then ((s.askPlane .fence none).latchFence true).raise fltFenced subjLink else s
      s.setPair .fenced

/-- AUS_FENCE_IN_RISE (R540). -/
def execAusFenceInRise (s : State) : Host.Outcome State Fault Refusal := finish s (ausFenceInRise s)

/-- AUS_FENCE_IN_FALL (R540). -/
def execAusFenceInFall (s : State) : Host.Outcome State Fault Refusal :=
  finish s (let s := { s with pins := { s.pins with fenceIn := false } }; if s.sealed then s.setF Reg.TWN_PAIR_STATUS 7 7 0 else s)

/-- AUSIL_HEARTBEAT: a HEARTBEAT of the boundary that began this tick, with plane_alive set, counts as hearing the partner
(R519, R539). -/
def execAusilHeartbeat (h : AusHdr) (flags : Nat) (s : State) : Host.Outcome State Fault Refusal :=
  finish s (s.ausRx h (fun s =>
    let s := { s with twn := { s.twn with partnerFlags := flags % 16 } }
    if bit flags 0 && h.tick = s.now then s.hear (b2n h.bundleB) else s))

/-! ### Pairing (R525 to R530) -/

/-- The partner's inventory fit check (R600, R603): whether it may pair. -/
def State.fitPartner (s : State) (i : Identity) : State × Bool :=
  let r := s.invRec 3 0
  s.fitItem 3 0 (.present (r.elim true (fun r => partnerMatches r.want i.serial.toNat i.revision))) 0 [(8, i.serial.toNat), (2, i.revision)] false

/-- The first check of R527 that fails, numbered in its order; 0 when all pass. [DESIGN CHOICE, notes/assumptions 52, 54] -/
def State.identCheck (s : State) (i : Identity) (fit : Bool) : Nat :=
  let o := s.ownIdentity
  if i.roleB = o.roleB then 1
  else if i.cross ≠ o.cross then 2
  else if i.digest ≠ o.digest then 3
  else if i.format ≠ o.format then 4
  else if !fit then 5
  else if i.fenced || o.fenced then 6
  else 0

/-- The pair becomes REFUSED (R526). -/
def State.refusePair (s : State) (why : Nat) : State :=
  let s := { s with twn := { s.twn with refused := why, identTick := s.now, attempt := none, identOk := false, fails := 0 } }
  (s.setPair .refused).raise fltPairRefused subjLink [(1, why)]

/-- The partner's IDENTITY noted, with the registers of R549 and its ceilings (R522). -/
def State.noteIdentity (s : State) (i : Identity) : State :=
  let s := (s.setR64 Reg.TWN_PARTNER_SERIAL i.serial.toNat).setR Reg.TWN_PARTNER_VERSION i.fwVersion
  { s with twn := { s.twn with ident := some i, ceilings := i.ceilings } }

/-- AUSIL_IDENTITY: in LINKING the checks of R527; in SYNCING and PAIRED a digest or format that has come to differ ends the pair
(R545). -/
def ausilIdentity (h : AusHdr) (i : Identity) (s : State) : State :=
  s.ausRx h (fun s =>
    let s := s.noteIdentity i
    if s.twn.pair = .linking then
      let first := !s.twn.identOk
      let (s, fit) := if first then s.fitPartner i else (s, true)
      let c := s.identCheck i fit
      if c ≠ 0 then s.refusePair c
      else
        let s := if first && i.fwVersion ≠ s.boot.fwVersion then s.raise fltVersionSkew subjLink else s
        { s with twn := { s.twn with identOk := true } }
    else if s.mirroring then
      (if i.digest ≠ s.boot.image.digest then s.refusePair 3 else if i.format ≠ s.boot.fwWrite then s.refusePair 4 else s)
    else s)

/-- AUSIL_IDENTITY (R527). -/
def execAusilIdentity (h : AusHdr) (id : Identity) (s : State) : Host.Outcome State Fault Refusal := finish s (ausilIdentity h id s)

/-- IDENTITY_REPEAT: a REFUSED device sends IDENTITY every 600 ticks (R526). -/
def identityRepeat (s : State) : State :=
  if s.twn.pair = .refused && decide (s.twn.identTick + 600 ≤ s.now) then
    ({ s with twn := { s.twn with identTick := s.now } }).sendIdentity
  else s

/-- IDENTITY_REPEAT (R526). -/
def execIdentityRepeat (s : State) : Host.Outcome State Fault Refusal := finish s (identityRepeat s)

/-- The outcome of R528 from the two IDENTITY records and pair epochs: authority (0 role A, 1 role B, 2 the folds' owners), the new
epoch, and whether both devices serve. -/
def State.outcome (s : State) : Nat × Nat × Bool :=
  let mine := s.serving
  let theirs := s.twn.ident.any (·.serving)
  let e := s.tly.epoch.toNat
  let pe := s.twn.partnerEpoch.toNat
  let me := b2n s.twn.roleB
  let auth := if mine && theirs then (if pe < e then me else if e < pe then 1 - me else 0)
    else if mine then me else if theirs then 1 - me
    else if s.twn.cross then 2 else 0
  (auth, Nat.max e pe + 1, mine && theirs)

/-- A handshake attempt has failed; after three in a row the pair is REFUSED (R526, R529). [DESIGN CHOICE, notes/assumptions 54] -/
def State.failAttempt (s : State) (result : Nat) : State :=
  let n := s.twn.fails + 1
  let s := { s with twn := { s.twn with attempt := none, fails := n } }
  if 3 ≤ n then s.refusePair result else s

/-- The epoch of the attempt committed, and COMMITTED sent (R529). -/
def State.commitAttempt (s : State) (a : PairAttempt) : State :=
  let s := s.commitEpoch a.epoch
  ({ s with twn := { s.twn with attempt := some { a with answered := true, mine := true } } }).sendPair 3 0 a.epoch a.tick

/-- PAIR_PROPOSE: role B answers with its own computation; an ANSWER other than OK fails the attempt (R529).
[DESIGN CHOICE, notes/assumptions 55] -/
def pairPropose (h : AusHdr) (newEpoch tick : Nat) (s : State) : State :=
  s.ausRx h (fun s =>
    if s.twn.pair ≠ .linking || !s.twn.roleB || !s.twn.identOk then s
    else
      let (auth, e, both) := s.outcome
      if newEpoch ≠ e then (s.sendPair 2 2 newEpoch tick).failAttempt 2
      else (s.sendPair 2 0 newEpoch tick).commitAttempt { epoch := e, auth := auth, both := both, tick := tick, asked := s.now })

/-- PAIR_PROPOSE (R529). -/
def execPairPropose (h : AusHdr) (newEpoch tick : Nat) (s : State) : Host.Outcome State Fault Refusal := finish s (pairPropose h newEpoch tick s)

/-- PAIR_ANSWER: role A commits the epoch on OK; any other result fails the attempt (R529). -/
def pairAnswer (h : AusHdr) (result newEpoch tick : Nat) (s : State) : State :=
  s.ausRx h (fun s =>
    match s.twn.attempt with
    | none => s
    | some a =>
      if s.twn.pair ≠ .linking || s.twn.roleB || a.answered || a.epoch ≠ newEpoch || a.tick ≠ tick then s
      else if result ≠ 0 then s.failAttempt result
      else s.commitAttempt a)

/-- PAIR_ANSWER (R529). -/
def execPairAnswer (h : AusHdr) (result newEpoch tick : Nat) (s : State) : Host.Outcome State Fault Refusal :=
  finish s (pairAnswer h result newEpoch tick s)

/-- PAIR_COMMITTED: the partner's COMMITTED step (R529). -/
def pairCommitted (h : AusHdr) (result newEpoch tick : Nat) (s : State) : State :=
  s.ausRx h (fun s =>
    match s.twn.attempt with
    | none => s
    | some a =>
      if s.twn.pair ≠ .linking || a.epoch ≠ newEpoch || a.tick ≠ tick then s
      else if result ≠ 0 then s.failAttempt result
      else { s with twn := { s.twn with attempt := some { a with theirs := true } } })

/-- PAIR_COMMITTED (R529). -/
def execPairCommitted (h : AusHdr) (result newEpoch tick : Nat) (s : State) : Host.Outcome State Fault Refusal :=
  finish s (pairCommitted h result newEpoch tick s)

/-- PAIR_ATTEMPT_TIMEOUT: a PROPOSE without an answer for 60 ticks, or COMMITTED frames not exchanged by the boundary, fail the
attempt (R529). [DESIGN CHOICE, notes/assumptions 54] -/
def pairAttemptTimeout (s : State) : State :=
  match s.twn.attempt with
  | none => s
  | some a =>
    let silent := !a.answered && decide (a.asked + 60 ≤ s.now)
    let late := decide (a.tick ≤ s.now) && !(a.mine && a.theirs)
    if s.twn.pair = .linking && (silent || late) then s.failAttempt 0 else s

/-- PAIR_ATTEMPT_TIMEOUT (R529). -/
def execPairAttemptTimeout (s : State) : Host.Outcome State Fault Refusal := finish s (pairAttemptTimeout s)

/-- Does this device shadow folds of the pair, as the authority is now settled? -/
def State.shadows (s : State) : Bool := s.twn.cross || !s.twn.authSelf

/-- Does this device hold folds of the pair? -/
def State.holds_ (s : State) : Bool := s.twn.cross || s.twn.authSelf

/-- The mirrored values of every outbound stream start at the index before its next packet (R542).
[DESIGN CHOICE, notes/assumptions 53] -/
def State.startCap (s : State) : State :=
  let outs := (s.streams.filter (fun e => e.2.live && e.2.desc.outbound)).map (·.1)
  let s := s.each outs (fun s e => s.onStream e (fun r => { r with tx := { r.tx with mirroredV := outIndex r.tx r.tx.seq - 1 } }))
  s.each s.liveLegs (fun s l => s.onLeg l (fun g => { g with eg := { g.eg with mirroredVc := g.eg.srtcpIndex } }))

/-- Everything that the partner needs: the snapshots of leg records, folds and audio state, and the repair that video objects
await (R530, R537, R538). [DESIGN CHOICE, notes/assumptions 53] -/
def State.oweAll (s : State) : State :=
  let objs := s.foldObjects s.heldFolds
  let video := objs.filter (fun o => 4 ≤ o / 65536)
  let owed := video.foldl (fun (t : Tbl Nat) o => if (tfind o t).isSome then t else tins o (s.now + 1) t) s.twn.owed
  { s with twn := { s.twn with snapQ := objs.filter (fun o => o / 65536 < 4), owed := owed } }

/-- The settlement with one device or none serving: authority, address holders, SYNCING and the joining sync (R526, R528, R530,
R534). -/
def State.settleAuthority (s : State) (a : PairAttempt) : State :=
  let mine := decide (a.auth = b2n s.twn.roleB)
  let s := { s with twn := { s.twn with attempt := none, fails := 0, refused := 0 } }
  let s := if s.twn.cross then
      (if a.auth = 2 then
        let s := { s with twn := { s.twn with hold := none } }
        s.each s.usedFolds (fun s f => s.onFold f (fun r => { r with ownB := decide (r.desc.owner = 1) }))
      else
        let s := { s with twn := { s.twn with hold := some mine } }
        s.each s.usedFolds (fun s f => s.onFold f (fun r => { r with ownB := decide (a.auth = 1) })))
    else { s with twn := { s.twn with authSelf := mine, hold := none } }
  let s := s.setPair .syncing
  let s := s.unsync (s.foldObjects s.shadowFolds)
  let s := (s.startCap).oweAll
  { s with twn := { s.twn with syncEnter := !s.shadows, partnerSynced := !s.holds_ } }

/-- A split brain: both devices serve. The loser takes a plane reset and latches fenced_latched, the other raises AUS_FENCE_OUT
(R528, R545). -/
def State.splitBrain (s : State) (a : PairAttempt) : State :=
  let s := (({ s with twn := { s.twn with attempt := none, fails := 0 } }).raise fltSplitBrain subjLink).setPair .solo
  if a.auth = b2n s.twn.roleB then s.setFenceOut true else (s.askPlane .split none).latchFence true

/-- The settlement takes effect at the attempt's boundary once both devices have committed (R528, R529). -/
def State.settle (s : State) : State :=
  match s.twn.attempt with
  | none => s
  | some a =>
    if s.twn.pair ≠ .linking || !(a.mine && a.theirs) || decide (s.now < a.tick) then s
    else if a.both then s.splitBrain a
    else
      let s := s.settleAuthority a
      if s.holds_ then s.sendPair 4 0 a.epoch a.tick else s

/-- SYNC_START: the settlement boundary, on the device itself or as the authority's step names it (R529, R530). -/
def execSyncStart (h : Option AusHdr) (s : State) : Host.Outcome State Fault Refusal :=
  finish s (match h with
    | none => s.settle
    | some h => s.ausRx h (fun s => s.settle))

/-- SYNC_DONE: the standby has every object synced and says so, or the authority hears it (R529). -/
def syncDone (h : Option AusHdr) (s : State) : State :=
  match h with
  | none =>
    if s.twn.pair = .syncing && s.shadows && s.twn.unsynced = [] && !s.twn.syncEnter && !s.twn.split then
      ({ s with twn := { s.twn with syncEnter := true } }).sendPair 5 0 s.tly.epoch.toNat s.now
    else s
  | some h => s.ausRx h (fun s => if s.twn.pair = .syncing then { s with twn := { s.twn with partnerSynced := true } } else s)

/-- SYNC_DONE (R529). -/
def execSyncDone (h : Option AusHdr) (s : State) : Host.Outcome State Fault Refusal := finish s (syncDone h s)

/-! ### Time between the partners (R520, R545) -/

/-- AUSIL_TIME: latency is half the round trip; Δ is the partner's boundary minus this device's (R520, R548, R552). `tx` is the
partner's transmit time-stamp, `echo` its receive time-stamp of this device's last TIME frame, `arrival` this device's receive
time-stamp, in ns. -/
def ausilTime (h : AusHdr) (tx echo arrival : Nat) (s : State) : State :=
  s.ausRx h (fun s =>
    let b := b2n h.bundleB
    match tget 0 s.twn.timeSent b with
    | 0 => s
    | t1 + 1 =>
      let rtt : Int := ((arrival : Int) - t1) - ((tx : Int) - echo)
      let latency := (rtt / 2).toNat
      let delta : Int := (((t1 : Int) - echo) + ((arrival : Int) - tx)) / 2
      let n := if 20000 < latency then tget 0 s.twn.slowTicks b + 1 else 0
      let s := { s with twn := { s.twn with slowTicks := tset 0 s.twn.slowTicks b n } }
      let s := (s.setF (Reg.TWN_BUNDLE_STATUS b) 9 9 (b2n (60 ≤ n))).setR (Reg.TWN_BUNDLE_LATENCY b) (Nat.min 65535 latency)
      let s := s.setR Reg.TWN_PHASE (toBits 32 delta)
      if n = 60 then s.raise fltLinkLatency (subjInst 14 (1 + b)) else s)

/-- AUSIL_TIME (R520). -/
def execAusilTime (h : AusHdr) (tx echo arrival : Nat) (s : State) : Host.Outcome State Fault Refusal := finish s (ausilTime h tx echo arrival s)

/-- TIME_DISAGREE: 600 ticks with Δ above 50 µs and at most 1 ms (R545). -/
def timeDisagree (s : State) : State :=
  if s.mirroring && decide (600 ≤ s.twn.disagTicks) then
    ({ s with twn := { s.twn with disagTicks := 0 } }).raise fltTimeDisagree subjLink
  else s

/-- TIME_DISAGREE (R545). -/
def execTimeDisagree (s : State) : Host.Outcome State Fault Refusal := finish s (timeDisagree s)

/-- Every object of the pair is unsynced again, and the pair enters SYNCING (R526, R532, R545). -/
def State.resyncAll (s : State) : State :=
  let s := if s.twn.pair = .paired then s.setPair .syncing else s
  let s := s.unsync (s.foldObjects s.shadowFolds)
  { s with twn := { s.twn with syncEnter := !s.shadows, partnerSynced := !s.holds_ } }

/-- TIME_SPLIT: the partners' tick numbers differ, or Δ was above 1 ms for 6 ticks: shadow running stops; it resumes only after 600 ticks
in which the tick numbers agree (R526, R545). -/
def timeSplit (ticksDiffer : Bool) (s : State) : State :=
  if s.mirroring && !s.twn.split && (ticksDiffer || decide (6 ≤ s.twn.splitTicks)) then
    let s := { s with twn := { s.twn with split := true, okTicks := 0, splitTicks := 0 } }
    ((s.raise fltTimeSplit subjLink).resyncAll).oweAll
  else if s.mirroring && s.twn.split && ticksDiffer then { s with twn := { s.twn with okTicks := 0 } }
  else s

/-- TIME_SPLIT (R545). -/
def execTimeSplit (ticksDiffer : Bool) (s : State) : Host.Outcome State Fault Refusal := finish s (timeSplit ticksDiffer s)

/-! ### Mirroring (R531, R532) -/

/-- Bytes of a MIRROR record (R531). -/
def MirrorRec.bytes (r : MirrorRec) : Nat := 16 + ceilDiv r.length 8 * 8

/-- The path of a mirrored packet. -/
def Body.path : Body → Path
  | .stun _ => .stun
  | .dtls => .dtls
  | .srtp .. => .srtp
  | .srtcp .. => .srtcp
  | _ => .none

/-- A mirrored packet enters the standby's ingress as its leg's; that of an unsynced leg record is not processed (R531, R534, R537).
[DESIGN CHOICE, notes/assumptions 53] -/
def State.takeMirror (s : State) (k : Nat) (r : MirrorRec) : State :=
  let vid := if r.tagged then r.vid else 0
  let ns := (r.stampNs + 1000000000 - boundaryNs k) % 1000000000
  let p : RxPkt := { port := r.port, tick := k, ns := ns, ipLen := r.length, vid := vid, addr := r.addr, body := r.body, mark := r.mark, mirrored := true }
  let take (l : Nat) (path : Path) : State := if (tfind (objLeg l) s.twn.unsynced).isSome then s else s.legPacket l path p
  match s.lookupLeg (r.port % 8) vid r.addr, r.body with
  | some l, b => take l b.path
  | none, .stun m =>
    (match s.stunLeg r.addr m with
     | some l => take l .stun
     | none => s)
  | none, _ => s

/-- Is tick `k` sealed already (R532)? -/
def State.sealedTo (s : State) (k : Nat) : Bool := match s.twn.sealed with | some t => decide (k ≤ t) | none => false

/-- A SEAL of tick `k` meets the records held: a match lets the standby process them; otherwise the SEAL waits for records that come
later, resent ones among them (R520, R532). [DESIGN CHOICE, notes/assumptions 51] -/
def State.trySeal (s : State) (k count bytes : Nat) : State :=
  let mine := s.twn.mirrorRx.filter (fun e => e.1 = k)
  if mine.length ≠ count || sumN (mine.map (fun e => e.2.bytes)) ≠ bytes then
    { s with twn := { s.twn with sealHeld := some (k, count, bytes) } }
  else
    let s := { s with twn := { s.twn with sealed := some k, sealHeld := none, mirrorRx := s.twn.mirrorRx.filter (fun e => decide (k < e.1)) } }
    if s.twn.split then s else s.each mine (fun s (e : Nat × MirrorRec) => s.takeMirror k e.2)

/-- A record put in record order among those of its tick; one already held is not held twice (R531). Record numbers are modulo
65,536. -/
def insertRecord (x : Nat × MirrorRec) : List (Nat × MirrorRec) → List (Nat × MirrorRec)
  | [] => [x]
  | y :: ys =>
    if x = y then y :: ys
    else if x.1 = y.1 && decide (32768 ≤ modSub 16 x.2.record y.2.record) then x :: y :: ys.filter (· ≠ x)
    else y :: insertRecord x ys

/-- MIRROR: records of the authority's ingress kept for the standby's tick (R531). A SEAL that waits for them is tried again (R532). -/
def mirrorFrame (h : AusHdr) (records : List MirrorRec) (s : State) : State :=
  s.ausRx h (fun s =>
    if !s.mirroring || !s.shadows then s
    else
      let held := records.foldl (fun l r => insertRecord (h.tick, r) l) s.twn.mirrorRx
      let s := ({ s with twn := { s.twn with mirrorRx := held } }).incR64 Reg.TWN_MIRROR_RECORDS records.length
      match s.twn.sealHeld with
      | some (k, count, bytes) => if s.sealedTo k then s else s.trySeal k count bytes
      | none => s)

/-- MIRROR (R531). -/
def execMirror (h : AusHdr) (records : List MirrorRec) (s : State) : Host.Outcome State Fault Refusal := finish s (mirrorFrame h records s)

/-- SEAL: the records of tick k are whole; the standby may process tick k + 1 (R532). -/
def sealFrame (h : AusHdr) (count bytes : Nat) (crcOk : Bool) (s : State) : State :=
  s.ausRx h (fun s => if !s.mirroring || !s.shadows || s.sealedTo h.tick || !crcOk then s else s.trySeal h.tick count bytes)

/-- SEAL (R532). -/
def execSealFrame (h : AusHdr) (count bytes : Nat) (crcOk : Bool) (s : State) : Host.Outcome State Fault Refusal := finish s (sealFrame h count bytes crcOk s)

/-- SEAL_TIMEOUT: 200 µs after its boundary the standby has no matching SEAL. With the partner silent it goes on as if no packet
had arrived; otherwise MIRROR_GAP unsyncs every shadow object (R532, R551). -/
def sealTimeout (s : State) : State :=
  let k := s.now - 1
  if !s.mirroring || !s.shadows || s.sealedTo k || s.twn.split then s
  else
    let s := { s with twn := { s.twn with sealed := some k, mirrorRx := s.twn.mirrorRx.filter (fun e => decide (k < e.1)) } }
    if s.twn.heardNow = [] then s.incR Reg.TWN_SILENT_TICKS
    else ((s.incR Reg.TWN_MIRROR_GAPS).raise fltMirrorGap subjLink).resyncAll

/-- SEAL_TIMEOUT (R532). -/
def execSealTimeout (s : State) : Host.Outcome State Fault Refusal := finish s (sealTimeout s)

/-- SNAPSHOT: an object's state installed at the start of the standby's tick (R530, R537, R538). A fold brings its line classes,
whose encoders stay unsynced, as do the decoders of a leg's streams. [DESIGN CHOICE, notes/assumptions 53] -/
def snapshot (h : AusHdr) (kind index content length : Nat) (s : State) : State :=
  s.ausRx h (fun s =>
    if !s.mirroring || !s.shadows then s
    else
      let s := s.incR64 Reg.TWN_SNAPSHOT_BYTES length
      match kind with
      | 1 =>
        (match Config.snapLeg content with
         | none => s
         | some g =>
           let s := s.onLeg index (fun _ => g)
           let put (s : State) (e : Nat) : State := match Config.snapStream content e with
             | some r => s.onStream e (fun old => { r with dec := old.dec })
             | none => s
           let es := fromTo g.desc.streamBase (g.desc.streamBase + g.desc.streamCount)
           let s := s.each es put
           let s := s.unsync ((es.filter (fun e => (s.stream e).desc.decode && (s.stream e).dec.state = .idle)).map objStream)
           s.resync [objLeg index])
      | 2 =>
        (match Config.snapFold content with
         | none => s
         | some r =>
           let s := s.onFold index (fun _ => r)
           let lcs := (Config.snapLcs content).filter (fun e => e.2.live && e.2.desc.fold = index)
           let fresh := lcs.filter (fun e => !(s.lc e.1).live)
           let s := s.each fresh (fun s (e : Nat × LineClass) => s.onLc e.1 (fun _ => e.2))
           (s.unsync (fresh.map (fun e => objRung e.1))).resync [objFold index])
      | 3 =>
        (match Config.snapLeg content with
         | none => s
         | some g => (s.onLeg index (fun old => { old with aud := g.aud })).resync [objAudio index])
      | _ => s)

/-- SNAPSHOT (R538). -/
def execSnapshot (h : AusHdr) (kind index content length : Nat) (s : State) : Host.Outcome State Fault Refusal :=
  finish s (snapshot h kind index content length s)

/-! ### Digests and repair (R535 to R537) -/

/-- This device's digest entry of leg `l` for the tick that ends (R535). -/
def State.digestOf (s : State) (l : Nat) : DigestEnt :=
  let e := (s.leg l).eg
  let item (n : Nat) : DigestItem :=
    let r := s.stream n
    if r.desc.outbound then { entry := n, index := r.tx.lastIndex, rtpTs := r.tx.lastTs } else { entry := n, index := r.rx.highest }
  { leg := l, sent := e.digestSent, srtcpOut := e.srtcpIndex, srtcpIn := e.srtcpIn, digest := e.digest, items := ((s.entries l).take 16).map item }

/-- The legs that have a digest entry: ACTIVE and RETIRING (R535). -/
def State.digestLegs (s : State) : List Nat := (s.legs.filter (fun e => e.2.state = .active || e.2.state = .retiring)).map (·.1)

/-- The values V and V_c that an acknowledged DIGEST fixes, and the output timestamps that the standby notes from it (R536, R543). -/
def State.fixMirrored (s : State) (es : List DigestEnt) (stamps : Bool) : State :=
  s.each es (fun s d =>
    let s := s.onLeg d.leg (fun g => { g with eg := { g.eg with mirroredVc := d.srtcpOut } })
    s.each d.items (fun s i =>
      if (s.stream i.entry).desc.outbound then
        s.onStream i.entry (fun r => { r with tx := { r.tx with mirroredV := i.index, mirroredTs := if stamps then some i.rtpTs else r.tx.mirroredTs } })
      else s))

/-- Does a leg's own digest differ from the authority's (R536)? -/
def DigestEnt.differs (a b : DigestEnt) : Bool := a.sent != b.sent || (a.sent && a.digest != b.digest) || a.items != b.items

/-- DIGEST: the standby compares the legs whose objects are all synced, unsyncs those that differ, and acknowledges (R536, R537,
R546, R551). -/
def digest (h : AusHdr) (entries : List DigestEnt) (s : State) : State :=
  s.ausRx h (fun s =>
    if !s.mirroring || !s.shadows then s
    else
      let own := ((s.twn.digests.find? (fun e => e.1 = h.tick)).map (·.2)).getD []
      let synced (d : DigestEnt) : Bool := (s.legObjects d.leg).all (fun o => (tfind o s.twn.unsynced).isNone) && !s.twn.split
      let compared := entries.filter (fun d => synced d && own.any (fun x => x.leg = d.leg))
      let bad := compared.filter (fun d => own.any (fun x => x.leg = d.leg && x.differs d))
      let legs := bad.map (·.leg)
      let s := s.unsync (legs.flatMap s.legObjects)
      let s := s.incR Reg.TWN_DIVERGENT_LEGS legs.length
      let folds := dedup (legs.map (fun l => (s.leg l).desc.fold))
      let s := s.each folds (fun s f => s.raiseOnce fltDivergence (subjFold f) 600)
      let s := s.fixMirrored entries true
      let flags := b2n (decide (1024 < legs.length)) + b2n (s.twn.unsynced ≠ []) * 2
      s.sendAus 9 h.tick (8 + 2 * (legs.take 1024).length) ([compared.length, Nat.min 65535 legs.length, flags] ++ legs.take 1024))

/-- DIGEST (R536). -/
def execDigest (h : AusHdr) (entries : List DigestEnt) (s : State) : Host.Outcome State Fault Refusal := finish s (digest h entries s)

/-- A convergence action set for boundary `T` and told to the partner (R537). [DESIGN CHOICE, notes/assumptions 53] -/
def State.planConverge (s : State) (T : Nat) (objs : List Nat) : State :=
  if objs = [] then s
  else ({ s with twn := { s.twn with converge := s.twn.converge ++ [(T, objs)] } }).sendEvent 0 T none none

/-- DIGEST_ACK: the mirrored values are fixed; divergent legs are repaired by snapshot and convergence. Legs all unsynced with
nothing under repair are synced anew (R536, R537, R538). [DESIGN CHOICE, notes/assumptions 53] -/
def digestAck (h : AusHdr) (compared divergent flags : Nat) (legs : List Nat) (s : State) : State :=
  s.ausRx h (fun s =>
    if !s.mirroring || !s.holds_ then s
    else
      match s.twn.digests.find? (fun e => e.1 = h.tick) with
      | none => s
      | some (_, es) =>
        let held := es.filter (fun d => s.authority (s.leg d.leg).desc.fold)
        let s := s.fixMirrored held false
        let s := s.incR Reg.TWN_DIVERGENT_LEGS divergent
        let objs := dedup (legs.flatMap s.legObjects)
        let snaps := s.snapOf legs
        let s := { s with twn := { s.twn with snapQ := snaps ++ s.twn.snapQ.filter (fun o => !snaps.contains o) } }
        let s := s.planConverge (s.now + 2) (objs.filter (fun o => 4 ≤ o / 65536))
        let lost := bit flags 1 && compared = 0 && held ≠ [] && s.twn.snapQ = [] && s.twn.owed = [] && s.twn.converge = []
        if lost then (s.resyncAll).oweAll else s)

/-- DIGEST_ACK (R537). -/
def execDigestAck (h : AusHdr) (compared divergent flags : Nat) (divergentLegs : List Nat) (s : State) : Host.Outcome State Fault Refusal :=
  finish s (digestAck h compared divergent flags divergentLegs s)

/-- The convergence action of an object: WAIT_KEY for a decoded stream, with the authority's refresh request; a gradual intra
refresh or a key picture for a rung; intra tiles for a fold's cell encodes (R537). -/
def State.convergeOne (s : State) (o : Nat) : State :=
  let i := o % 65536
  match o / 65536 with
  | 4 =>
    let s := s.onStream i (fun r => if r.dec.state = .idle then r else { r with dec := r.dec.enter .waitKey s.now })
    if s.authority (s.leg (s.stream i).leg).desc.fold then s.refreshRequest i else s
  | 5 =>
    let gir := (s.lcPar i).gir
    s.onRung i (fun r => { r with ref := if r.ref = .start then .start else if gir then .gir else .run, girPos := 0, action := some (if gir then .gir else .key), refreshOpen := true })
  | 6 => s.each (s.fold i).encs (fun s c => s.requestIntra i c.occupant c.cls c.rung)
  | _ => s

/-- CONVERGENCE_ACTION: the actions of this boundary are applied, and their objects are synced (R537). -/
def convergenceAction (s : State) : State :=
  let due := s.twn.converge.filter (fun e => decide (e.1 ≤ s.now))
  let objs := due.flatMap (·.2)
  let s := { s with twn := { s.twn with converge := s.twn.converge.filter (fun e => decide (s.now < e.1)), owed := s.twn.owed.filter (fun e => !objs.contains e.1) } }
  (s.each objs (fun s o => s.convergeOne o)).resync objs

/-- CONVERGENCE_ACTION (R537). -/
def execConvergenceAction (s : State) : Host.Outcome State Fault Refusal := finish s (convergenceAction s)

/-! ### Session events (R533) -/

/-- A session event takes effect on the standby at its tick (R533). -/
def State.applyEvent (s : State) (e : SessEvent) : State :=
  match e with
  | .mute l on => s.onLeg l (fun g => { g with aud := { g.aud with muted := on, muteNext := none } })
  | .caption l g => s.onLeg l (fun r => { r with caption := g, captionNext := none })
  | .guardSet n gs => { s with cmp := { s.cmp with guardSets := tset [] s.cmp.guardSets n gs } }
  | .image n g => { s with cmp := { s.cmp with groups := tset {} s.cmp.groups n g, groupLost := s.cmp.groupLost.filter (· ≠ n), groupPoison := s.cmp.groupPoison.filter (· ≠ n) } }
  | .key l b => { s with cip := { s.cip with waiting := s.cip.waiting ++ [{ blob := b, target := l }] } }
  | .release l => s.releaseLeg l
  | _ => s

/-- EVENT: a session event of the authority accepted for its effective tick, and acknowledged (R519, R533). What an activation is
answered goes before the acknowledgement, so that the host hears it (R622). -/
def event (h : AusHdr) (e : SessEvent) (T : Nat) (s : State) : State :=
  s.ausRx h (fun s =>
    if !s.mirroring then s
    else
      let ack (s : State) : State := s.sendAus 11 s.now 4 [h.seq.toNat]
      match e with
      | .stage f ops =>
        let p : StagedPhase := { id := s.adm.nextId, fold := f, at_ := T, staged := true, mirrored := true, ops := ops, arrival := h.tick }
        ack { s with adm := { s.adm with nextId := s.adm.nextId + 1, staged := s.adm.staged ++ [p] } }
      | .converge objs => ack { s with twn := { s.twn with converge := s.twn.converge ++ [(T, objs)] } }
      | .switchover => ack { s with twn := { s.twn with switchIn := some (T, false) } }
      | .mute .. | .caption .. | .guardSet .. | .image .. | .key .. | .release _ =>
        ack { s with twn := { s.twn with shadowEv := s.twn.shadowEv ++ [(T, e)] } }
      | _ => ack (s.partnerUpdate e T))

/-- EVENT (R533). -/
def execEvent (h : AusHdr) (ev : SessEvent) (effective : Nat) (s : State) : Host.Outcome State Fault Refusal := finish s (event h ev effective s)

/-- EVENT_ACK: the event is mirrored: its staged phase counts as such, and the held reply goes to the host (R47, R533). -/
def eventAck (h : AusHdr) (seq : Nat) (s : State) : State :=
  s.ausRx h (fun s =>
    match s.twn.events.find? (fun e => e.id = seq) with
    | none => s
    | some e =>
      let s := { s with twn := { s.twn with events := s.twn.events.erase e } }
      let s := match e.phase with
        | some id => s.phaseMirrored id
        | none => s
      match e.reply with
      | some r => s.sendReplyNow r
      | none => s)

/-- EVENT_ACK (R533). -/
def execEventAck (h : AusHdr) (seq : Nat) (s : State) : Host.Outcome State Fault Refusal := finish s (eventAck h seq s)

/-- RETRY: a kept frame of the bundle is sent again, at most twice (R520, R553). -/
def retry (h : AusHdr) (seq : Nat) (s : State) : State :=
  s.ausRx h (fun s =>
    let b := b2n h.bundleB
    match (tget [] s.twn.retain b).find? (fun f => f.seq = seq && decide (f.again < 2)) with
    | none => s
    | some f =>
      let s := ((s.incR64 (Reg.TWN_BUNDLE_TX_FRAMES b)).incR64 (Reg.TWN_BUNDLE_TX_BYTES b) (24 + f.len)).incR (Reg.TWN_BUNDLE_RETRIES b)
      let kept := tmod [] s.twn.retain b (fun l => l.map (fun x => if x.seq = seq then { x with again := x.again + 1 } else x))
      { s with twn := { s.twn with retain := kept }, out := s.out ++ [.ausil b f.typ f.tick (f.seq :: f.body)] })

/-- RETRY (R520). -/
def execRetry (h : AusHdr) (seq : Nat) (s : State) : Host.Outcome State Fault Refusal := finish s (retry h seq s)

/-! ### Partner loss and takeover (R541 to R543) -/

/-- The device that acts on a loss commits the next pair epoch, raises its fence and takes over one boundary later; it acts only while
its own AUS_FENCE_IN is low (R540, R541). [DESIGN CHOICE, notes/assumptions 52] -/
def State.actOnLoss (s : State) : State :=
  if s.pins.fenceIn then s
  else
    let s := ((s.commitEpoch (s.tly.epoch.toNat + 1)).setFenceOut true).raise fltTakeover subjLink
    { s with twn := { s.twn with takeAt := some (s.now + 1) } }

/-- PARTNER_LOSS: at the third boundary without hearing the partner. The standby of an active/standby pair, and role B of a cross
pair, act at once; role A of a cross pair acts two boundaries later (R539, R541). [DESIGN CHOICE, notes/assumptions 52] -/
def partnerLoss (s : State) : State :=
  if !s.mirroring || s.twn.takeAt.isSome then s
  else
    let now := if s.twn.cross then s.twn.roleB else !s.twn.authSelf
    match s.twn.lossAt with
    | none =>
      if s.getF Reg.TWN_PAIR_STATUS 13 12 < 3 then s
      else
        let s := { s with twn := { s.twn with lossAt := some s.now } }
        if now then s.actOnLoss else s
    | some d => if s.twn.cross && !now && decide (d + 2 ≤ s.now) then s.actOnLoss else s

/-- PARTNER_LOSS (R541). -/
def execPartnerLoss (s : State) : Host.Outcome State Fault Refusal := finish s (partnerLoss s)

/-- CAP_LIFT: the active device of an active/standby pair, two boundaries after the loss and with AUS_FENCE_IN low, enters SOLO,
which lifts the cap of R542 (R541). -/
def capLift (s : State) : State :=
  match s.twn.lossAt with
  | none => s
  | some d =>
    if s.mirroring && !s.twn.cross && s.twn.authSelf && decide (d + 2 ≤ s.now) && !s.pins.fenceIn then s.setPair .solo else s

/-- CAP_LIFT (R541). -/
def execCapLift (s : State) : Host.Outcome State Fault Refusal := finish s (capLift s)

/-- An outbound stream resumes beyond every index that the old active can have used (R543). Its next index then is the value under
the cap of a pair that goes on (R542). [DESIGN CHOICE, notes/assumptions 55] -/
def State.resumeStream (s : State) (l e : Nat) : State :=
  let t := (s.stream e).tx
  let next := outIndex t t.seq
  let n := Nat.max next (t.mirroredV + 2 * 512 + 1)
  let s := if next < n then s.discardQueues l 5 else s
  s.onStream e (fun r => { r with tx := { r.tx with seq := n % 65536, roc := n / 65536, lastSeq := none, mirroredV := n - 1 } })

/-- An unsynced leg record restarts (R543). [DESIGN CHOICE, notes/assumptions 55] -/
def State.restartLeg (s : State) (l : Nat) : State :=
  let d := (s.leg l).desc
  let rate := Nat.min d.egressMax (Nat.max d.egressMin 800)
  let s := s.each (s.entries l) (fun s e => s.onStream e (fun r => { r with jit := { r.jit with anchored := false } }))
  s.onLeg l (fun g =>
    { g with
      adapt := { delayRate := rate, lossRate := rate, estimate := rate, inForce := rate, serving := g.adapt.serving }
      police := 24 * d.policeBurst, srtcpTok := 6000, stunTok := 3000, dtlsTok := 120000
      fwd := g.fwd.map (fun x => { x with paused := true, waiting := true, needKey := true, waitFrom := s.now })
      eg := { g.eg with level := 192 * g.eg.burst, fecL := 0, fecRuns := [] } })

/-- A leg of the partner's folds resumes on this device (R543). -/
def State.resumeLeg (s : State) (l : Nat) : State :=
  let outs := (s.entries l).filter (fun e => (s.stream e).desc.outbound)
  let s := s.each outs (fun s e => s.resumeStream l e)
  let s := s.each ((s.leg l).fwd.map (·.stream)) (fun s e => s.onStream e (fun r => { r with tx := { r.tx with lastTs := r.tx.mirroredTs.getD r.tx.lastTs } }))
  let s := s.onLeg l (fun g =>
    let i := Nat.max (g.eg.srtcpIndex + 1) (g.eg.mirroredVc + 2 * 16 + 1) - 1
    { g with eg := { g.eg with srtcpIndex := i, mirroredVc := i }, fwd := g.fwd.map (fun x => { x with rebase := true }) })
  if (tfind (objLeg l) s.twn.unsynced).isSome then s.restartLeg l else s

/-- The entries of the local address table that this device does not hold (R534). -/
def State.foreignAddrs (s : State) : List Nat :=
  (upTo s.net.addrs.length).filter (fun i => match s.net.addrs[i]? with | some e => !s.holdsAddr e | none => false)

/-- An announcement of address entry `i` on the side of its pair that is up (R65, R543). -/
def State.announceUp (s : State) (i : Nat) : State :=
  match s.net.addrs[i]? with
  | none => s
  | some e => s.announce i (!s.portUp e.pair && s.portUp (e.pair + 8))

/-- The takeover boundary: this device becomes active for every fold, resumes every outbound index, applies the convergence action of
unsynced objects, and announces the partner's addresses (R543, R551). -/
def State.takeOver (s : State) : State :=
  let folds := s.shadowFolds
  let legs := s.liveLegs.filter (fun l => folds.contains (s.leg l).desc.fold)
  let addrs := s.foreignAddrs
  let objs := s.twn.unsynced.map (·.1)
  let s := { s with twn := { s.twn with authSelf := true, hold := some true, lossAt := none, takeAt := none, sealed := none, sealHeld := none, mirrorRx := [] } }
  let s := if s.twn.cross then s.each folds (fun s f => s.onFold f (fun r => { r with ownB := s.twn.roleB })) else s
  let s := s.each legs (fun s l => s.resumeLeg l)
  let s := (s.each objs (fun s o => s.convergeOne o)).resync objs
  let s := s.each addrs (fun s i => s.announceUp i)
  s.incR Reg.TWN_TAKEOVERS

/-- TAKEOVER: at the boundary after the fence was raised the survivor takes over, and is SOLO (R526, R541, R543). -/
def takeover (s : State) : State :=
  match s.twn.takeAt with
  | none => s
  | some T => if s.now < T then s else (s.takeOver).setPair .solo

/-- TAKEOVER (R543). -/
def execTakeover (s : State) : Host.Outcome State Fault Refusal := finish s (takeover s)

/-! ### Planned switchover (R544) -/

/-- The switchover set for boundary `T` and told to the partner; the reply follows its EVENT_ACK (R533, R544). -/
def State.planSwitch (s : State) (T asked : Nat) (rto : ReplyTo) : State :=
  let r : Reply := if asked < T then { dst := rto, status := stDeferred, pay := .tick T } else { dst := rto, status := stOK }
  ({ s with twn := { s.twn with handover := some (T, true, rto) } }).sendEvent 0x0204 T none (some r)

/-- Is every object of the pair synced, as far as this device knows? -/
def State.allSynced (s : State) : Bool := s.twn.pair = .paired && s.twn.owed = [] && s.twn.snapQ = [] && s.twn.unsynced = []

/-- SWITCHOVER: a planned handover at the authority, for a boundary at least 2 ticks ahead; it waits while an object is unsynced
(R544). [DESIGN CHOICE, notes/assumptions 55] -/
def execSwitchover (m : Msg) (boundary : Nat) (s : State) : Host.Outcome State Fault Refusal :=
  finish s (s.request m 0x0204 .both (fun s _ rto =>
    if boundary < s.now + 2 then s.reply rto stMalformed
    else if !s.mirroring then s.reply rto stInvalid
    else if !s.holds_ then s.reply rto stNotAuthority
    else if s.twn.handover.isSome then s.reply rto stBusy
    else if s.allSynced then s.planSwitch boundary boundary rto
    else { s with twn := { s.twn with handover := some (boundary, false, rto) } }))

/-- The authority hands over at T: its transmitters are gated for the folds, and it adopts the new epoch (R544).
[DESIGN CHOICE, notes/assumptions 55] -/
def State.giveOver (s : State) : State :=
  let folds := s.heldFolds
  let s := { s with twn := { s.twn with handover := none, authSelf := false, hold := some false, sealed := some s.now } }
  let s := if s.twn.cross then s.each folds (fun s f => s.onFold f (fun r => { r with ownB := !s.twn.roleB })) else s
  s.commitEpoch (s.tly.epoch.toNat + 1)

/-- SWITCHOVER_EXECUTE: at T the authority gates its folds and the partner commits the next epoch; at T + 1 the partner takes over
(R544). -/
def switchoverExecute (s : State) : State :=
  let s := match s.twn.handover with
    | some (T, true, _) => if T ≤ s.now then s.giveOver else s
    | _ => s
  match s.twn.switchIn with
  | some (T, false) =>
    if T ≤ s.now then ({ s with twn := { s.twn with switchIn := some (T, true) } }).commitEpoch (s.tly.epoch.toNat + 1) else s
  | some (T, true) => if T < s.now then (({ s with twn := { s.twn with switchIn := none } }).takeOver).oweAll else s
  | none => s

/-- SWITCHOVER_EXECUTE (R544). -/
def execSwitchoverExecute (s : State) : Host.Outcome State Fault Refusal := finish s (switchoverExecute s)

/-! ### Fence release (R540, R550) -/

/-- PAIR_RELEASE: in maintenance mode the latch is cleared, and a FENCED device is SOLO (R526, R540). -/
def execPairRelease (m : Msg) (s : State) : Host.Outcome State Fault Refusal :=
  finish s (s.request m 0x0205 .bothMaint (fun s _ rto =>
    let s := if s.tly.fencedLatched then s.latchFence false else s
    let s := if s.twn.pair = .fenced then s.setPair .solo else s
    s.reply rto stOK))

/-- TWN_CTRL_RELEASE: release lowers AUS_FENCE_OUT while the partner is silent or reports fenced_latched (R540, R550). -/
def execTwnCtrlRelease (value : Nat) (s : State) : Host.Outcome State Fault Refusal :=
  finish s (s.ctrlWrite Reg.TWN_CTRL value 1 (fun s =>
    if bit value 0 && s.pins.fenceOut && (s.getF Reg.TWN_PAIR_STATUS 13 12 = 3 || bit s.twn.partnerFlags 2) then s.setFenceOut false else s))

/-! ### The twin's part of a tick boundary -/

/-- HEARTBEAT on every bundle that is up, and the toggle of AUS_HB_OUT; none in maintenance mode (R539, R570). -/
def State.heartbeat (s : State) : State :=
  if s.boot.maint then s
  else
    let flags := 1 + b2n s.serving * 2 + b2n s.tly.fencedLatched * 4 + b2n s.pins.fenceIn * 8
    let s := { s with twn := { s.twn with hbOut := !s.twn.hbOut } }
    s.each (upTo 2) (fun s b => s.sendAusOn b 1 s.now 4 [flags])

/-- Who was heard at this boundary (R539, R547). -/
def State.hearing (s : State) : State :=
  let h := s.twn.heardNow
  let n := if h = [] then Nat.min 3 (s.getF Reg.TWN_PAIR_STATUS 13 12 + 1) else 0
  let s := (s.setF Reg.TWN_PAIR_STATUS 11 9 (b2n (h.contains 0) + b2n (h.contains 1) * 2 + b2n (h.contains 2) * 4)).setF Reg.TWN_PAIR_STATUS 13 12 n
  { s with twn := { s.twn with heardNow := [] } }

/-- SYNCING becomes PAIRED when both devices have every object synced; a switchover that waited is planned (R526, R529, R544). -/
def State.enterPaired (s : State) : State :=
  let s := if s.twn.pair = .syncing && s.twn.syncEnter && s.twn.partnerSynced then s.setPair .paired else s
  match s.twn.handover with
  | some (T, false, rto) => if s.allSynced then s.planSwitch (Nat.max T (s.now + 2)) T rto else s
  | _ => s

/-- Role A proposes at a boundary while no attempt is in progress (R529). -/
def State.propose (s : State) : State :=
  if s.twn.pair = .linking && s.twn.identOk && s.twn.attempt.isNone && !s.twn.roleB then
    let (auth, e, both) := s.outcome
    let a : PairAttempt := { epoch := e, auth := auth, both := both, tick := s.now + 2, asked := s.now }
    ({ s with twn := { s.twn with attempt := some a } }).sendPair 1 0 e a.tick
  else s

/-- The SNAPSHOT frames of the tick that ended, at most 1 MiB of them, in order (R532, R538). -/
def State.sendSnaps (s : State) : (room : Nat) → List Nat → State
  | _, [] => { s with twn := { s.twn with snapQ := [] } }
  | room, o :: os =>
    let n := 12 + Config.snapBytes (o / 65536) (o % 65536)
    if room < n then { s with twn := { s.twn with snapQ := o :: os } }
    else ((s.sendAus 6 (s.now - 1) n [o / 65536, o % 65536]).incR64 Reg.TWN_SNAPSHOT_BYTES n).sendSnaps (room - n) os

/-- The DIGEST frames of the tick that ended, 42 entries to a frame (R532, R535). [DESIGN CHOICE, notes/assumptions 51] -/
def State.sendDigests (s : State) (tick : Nat) (es : List DigestEnt) : State :=
  s.each (upTo (ceilDiv es.length 42)) (fun s i =>
    let part := (es.drop (42 * i)).take 42
    s.sendAus 8 tick (sumN (part.map (fun d => 24 + 12 * d.items.length))) (part.map (·.leg)))

/-- What the authority sends after a boundary for the tick that ended: snapshots, SEAL, DIGEST (R532, R535). Both devices keep their
own entries of the last 8 ticks. `es` are the entries of that tick. -/
def State.sendTick (s : State) (es : List DigestEnt) : State :=
  if !s.mirroring then s
  else
    let k := s.now - 1
    let s := { s with twn := { s.twn with digests := lastN 8 (s.twn.digests ++ [(k, es)]) } }
    if !s.holds_ then s
    else
      let s := s.sendSnaps (2 ^ 20) s.twn.snapQ
      let s := s.sendAus 7 k 20 [s.twn.mirrorTx, s.twn.mirrorBytes]
      s.sendDigests k (es.filter (fun d => s.authority (s.leg d.leg).desc.fold))

/-- Has an object come to a clean key picture since tick `since` (plus 1) (R537)? -/
def State.converged (s : State) (o since : Nat) : Bool :=
  let i := o % 65536
  match o / 65536 with
  | 4 => let d := (s.stream i).dec; d.state = .idle || (d.lastCleanKey ≠ 0 && decide (since ≤ d.lastCleanKey + 1))
  | 5 =>
    let x := s.lc i
    !x.live || (match x.rung.settled with | some (t, false, _) => x.rung.pics = 0 && decide (since ≤ t + 1) | _ => false)
  | 6 => (s.fold i).encs.isEmpty
  | _ => false

/-- Natural convergence, and the convergence tick of objects that have not converged within 600 ticks (R537). -/
def State.repairs (s : State) : State :=
  let done := (s.twn.unsynced.filter (fun e => s.converged e.1 e.2)).map (·.1)
  let s := if s.twn.split then s else s.resync done
  let owed := s.twn.owed.filter (fun e => !s.converged e.1 e.2)
  let late := (owed.filter (fun e => decide (e.2 + 599 ≤ s.now))).map (·.1)
  let waiting := s.twn.converge.flatMap (·.2)
  ({ s with twn := { s.twn with owed := owed } }).planConverge (s.now + 2) (late.filter (fun o => !waiting.contains o))

/-- The counts of R545 from Δ. -/
def State.phaseCounts (s : State) : State :=
  let d := (fromBits 32 (s.getR Reg.TWN_PHASE)).natAbs
  let t := s.twn
  let ok := if d ≤ 50000 then t.okTicks + 1 else 0
  let t := { t with disagTicks := if 50000 < d ∧ d ≤ 1000000 then t.disagTicks + 1 else 0, splitTicks := if 1000000 < d then t.splitTicks + 1 else 0, okTicks := ok, split := t.split && decide (ok < 600) }
  if s.mirroring then { s with twn := t } else s

/-- TIME frames, one on each bundle that is up (R520). -/
def State.sendTime (s : State) : State :=
  s.each ((upTo 2).filter s.bundleUp) (fun s b =>
    ({ s with twn := { s.twn with timeSent := tset 0 s.twn.timeSent b (tickNs s.now + 1) } }).sendAusOn b 4 s.now 16 [tickNs s.now])

/-- The counts and digests of the tick that ended start anew (R524, R531, R535). -/
def State.twnClear (s : State) : State :=
  let used (r : StreamRt) : Bool := r.tx.tickPkts ≠ 0
  let s := s.each ((s.streams.filter (fun e => used e.2)).map (·.1)) (fun s e => s.onStream e (fun r => { r with tx := { r.tx with tickPkts := 0 } }))
  let busy (g : LegRt) : Bool := g.eg.digestSent || g.eg.srtcpTick ≠ 0
  let s := s.each ((s.legs.filter (fun e => busy e.2)).map (·.1)) (fun s l =>
    s.onLeg l (fun g => { g with eg := { g.eg with digest := 0, digestSent := false, srtcpTick := 0 } }))
  { s with twn := { s.twn with mirrorTx := 0, mirrorBytes := 0 } }

/-- The mirrored events of this tick take effect on the standby (R533). -/
def State.dueEvents (s : State) : State :=
  let due := s.twn.shadowEv.filter (fun e => decide (e.1 ≤ s.now))
  let s := { s with twn := { s.twn with shadowEv := s.twn.shadowEv.filter (fun e => decide (s.now < e.1)) } }
  s.each due (fun s (e : Nat × SessEvent) => s.applyEvent e.2)

/-- The twin's work at a boundary, in the new tick. `es` are the digest entries of the tick that ended, `degraded` says that a degrading
fault was committed with it (R522, R525, R529, R532, R535, R537, R539). -/
def State.twnBoundary (s : State) (es : List DigestEnt) (degraded : Bool) : State :=
  if !s.sealed || s.boot.planeStopped then { s.twnClear with twn := { s.twnClear.twn with heardNow := [] } }
  else
    let s := (s.hearing).heartbeat
    let s := s.linkDown (s.getF Reg.TWN_PAIR_STATUS 11 11 = 1)
    let s := s.enterPaired
    let id := s.twn.pair = .linking || s.twn.pair = .syncing || (s.twn.pair = .paired && degraded)
    let s := if id then s.sendIdentity else s
    let s := (s.propose).sendTick es
    ((((s.repairs).phaseCounts).sendTime).dueEvents).twnClear

end Sys2Proof.Machine
end

