-- ==== Sys2Proof/Machine/Bnd.lean ====
section
/-!
DEFINITION. TICK_BOUNDARY: the end of a tick and the start of the next, in the blocks' order (R18 to R20, R411, and the rule
of each part).
-/

namespace Sys2Proof.Machine

/-! ### The end of a tick -/

/-- The highest of the sensors' temperatures and the first sensor that gave it (R713). -/
def hottest : List Int → Nat × Int
  | [] => (0, -128)
  | x :: xs =>
    let (i, y) := hottest xs
    if y ≤ x then (0, x) else (i + 1, y)

/-- DEV DIE_HOT (R715). -/
def fltDieHot : Nat := faultCode 0 0 4

/-- DEV_DIE_TEMP at the end of a tick, and DIE_HOT above 105 °C (R713 to R715). -/
def State.dieTemp (s : State) (temps : List Int) : State :=
  match temps with
  | [] => s
  | _ =>
    let (i, t) := hottest (temps.take 16)
    let peak := max t (s.boot.diePeak.getD t)
    let s := { s with boot := { s.boot with diePeak := some peak } }
    let s := s.setR Reg.DEV_DIE_TEMP (toBits 8 t + toBits 8 peak * 256 + i * 65536)
    if 105 < t then s.raiseOnce fltDieHot subjNone 600 else s

/-- The code words of a port in the tick: its counters, and FEC_ERRORS over 10 uncorrectable ones in 600 ticks (R100, R105,
R106). [DESIGN CHOICE, notes/assumptions 12] -/
def State.portFec (s : State) (e : Nat × Nat × Nat) : State :=
  let (p, good, bad) := e
  let s := (s.incR64 (Reg.NET_PORT_FEC_CORRECTED p) good).incR64 (Reg.NET_PORT_FEC_UNCORRECTED p) bad
  if bad = 0 then s
  else
    let win := (s.port p).fecWin.filter (fun x => decide (s.now < x.1 + 600)) ++ [(s.now, bad)]
    if 10 < sumN (win.map (·.2)) then
      ((s.onPort p (fun x => { x with fecWin := [] })).setF (Reg.NET_PORT_EVENTS p) 8 8 1).raise fltFecErrors (subjInst 3 p)
    else s.onPort p (fun x => { x with fecWin := win })

/-- MGT TALLY_BLOCK_RETIRED (R666). -/
def fltTallyBlock : Nat := faultCode 15 0 6

/-- Tally blocks that failed verification in the tick are retired (R662, R666, R674). -/
def State.retireBlocks (s : State) (n : Nat) : State :=
  if n = 0 then s
  else
    let was := s.tly.retired
    let s := ({ s with tly := { s.tly with retired := was + n } }).setF Reg.MGT_TALLY_STATUS 31 18 (Nat.min 16383 (was + n))
    let s := s.each (upTo n) (fun s _ => s.raise fltTallyBlock subjNone)
    if was ≤ 8192 ∧ 8192 < was + n then s.raise fltTallyWorn subjNone else s

/-- What the registers show of the tick that ends: intake, cipher pipelines and engines (R108, R147, R233, R237, R316). -/
def State.showTick1 (s : State) : State :=
  let s := (s.setR Reg.NET_PE_TICK_LOAD (s.net.tickPkts % 2 ^ 20)).setR Reg.NET_PE_TICK_BYTES s.net.tickBytes
  let s := s.setR Reg.NET_PE_PEAK_PACKETS (Nat.max (s.getR Reg.NET_PE_PEAK_PACKETS) s.net.tickPkts)
  let s := s.setR Reg.NET_PE_PEAK_BYTES (Nat.max (s.getR Reg.NET_PE_PEAK_BYTES) s.net.tickBytes)
  let s := s.each (upTo 16) (fun s p => s.setR (Reg.CIP_PIPE_LOAD p) (tget 0 s.cip.pipeCycles p % 2 ^ 21))
  s.each (upTo 64) (fun s e =>
    let d := tget 0 s.ven.decUse e
    let n := tget 0 s.ven.encUse e
    let s := (s.setR (Reg.VEN_CYCLES e) ((d + n) % 2 ^ 21)).setR (Reg.VEN_DEC_CYCLES e) (d % 2 ^ 21)
    (s.setR (Reg.VEN_ENC_CYCLES e) (n % 2 ^ 21)).setF (Reg.VEN_ENGINE_STATUS e) 2 1 (b2n (d ≠ 0) + b2n (n ≠ 0) * 2))

/-- What the registers show of the tick that ends: compositors, audio and the lacer (R194, R195, R278, R280, R355). -/
def State.showTick2 (s : State) : State :=
  let s := s.each (upTo 8) (fun s c =>
    let n := tget 0 s.cmp.use c
    (s.setR (Reg.CMP_PIXELS c) (n % 2 ^ 23)).setF (Reg.CMP_STATUS c) 1 1 (b2n (n ≠ 0)))
  let (d, n) := (s.aud.decN % 2 ^ 14, s.aud.encN % 2 ^ 14)
  let s := (s.setF Reg.AUD_STATUS 13 0 d).setF Reg.AUD_STATUS 29 16 n
  let s := s.setR Reg.AUD_PEAK (Nat.max (s.getF Reg.AUD_PEAK 13 0) d + Nat.max (s.getF Reg.AUD_PEAK 29 16) n * 2 ^ 16)
  (s.setF Reg.LAC_STATUS 10 0 (s.lac.asmTick % 2 ^ 11)).setF Reg.LAC_STATUS 28 16 (s.lac.encTick % 2 ^ 13)

/-- The counts of the tick that ended start anew. -/
def State.clearTick (s : State) : State :=
  let s := { s with net := { s.net with tickPkts := 0, tickBytes := 0 }, cip := { s.cip with pipeCycles := [], pipeBlocks := [], blobsTick := 0 } }
  let s := { s with ven := { s.ven with decUse := [], encUse := [] }, cmp := { s.cmp with use := [] } }
  let s := { s with aud := { s.aud with decN := 0, encN := 0 }, lac := { s.lac with asmTick := 0, encTick := 0 } }
  { s with host := { s.host with fetched := 0 } }

/-- Streams that wait in WAIT_KEY or FROZEN count the tick (R242). -/
def State.waitTicks (s : State) : State :=
  let w := (s.streams.filter (fun e => e.2.dec.state = .waitKey || e.2.dec.state = .frozen)).map (·.1)
  s.each w (fun s e => s.venCount e 7)

/-- The end of a tick: snapshots are latched, the readings of the tick taken, and its faults committed (R109, R680, R713).
[DESIGN CHOICE, notes/assumptions 56] -/
def State.endTick (s : State) (i : TickIn) : State :=
  let s := ((s.dieTemp i.temps).each i.fec (fun s e => s.portFec e)).each i.ausFec (fun s e => s.incR (Reg.TWN_BUNDLE_FEC_UNCORRECTED e.1) e.2)
  let s := (((s.retireBlocks i.retired).waitTicks).showTick1).showTick2
  let s := snapshotLatch s
  if s.boot.warmRun then { s with flt := { s.flt with fresh := [] } } else s.commitFaults

/-! ### The start of a tick -/

/-- A leg that is not in the decode set: its decoder state is discarded (R167, R173). -/
def AudLeg.undecoded (x : AudLeg) : AudLeg :=
  { x with inDecodeSet := false, decoder := none, decodedTicks := 0, fadeIn := false, firstBlock := false, blocks := [], pcm := [], delayLine := [], removeBy := none, lineCut := none, loudWin := [] }

/-- The buckets of a leg and what changes for it at a boundary (R69, R76, R78, R80, R162, R170, R173, R259, R345). -/
def LegRt.boundary (g : LegRt) (inSet : Bool) : LegRt :=
  { g with
    police := Nat.min (24 * g.desc.policeBurst) (g.police + 5 * g.desc.policeRate)
    srtcpTok := Nat.min 6000 (g.srtcpTok + 100)
    stunTok := Nat.min 3000 (g.stunTok + 10)
    dtlsTok := Nat.min 120000 (g.dtlsTok + 200)
    txStopped := g.txStopped && !g.resumeNext
    resumeNext := false
    nackItems := 0
    caption := g.captionNext.getD g.caption
    captionNext := none
    adapt := { g.adapt with inForce := g.adapt.estimate }
    aud := { (if inSet then { g.aud with inDecodeSet := true } else g.aud.undecoded) with mutedPrev := g.aud.muted, muted := g.aud.muteNext.getD g.aud.muted, muteNext := none } }

/-- The legs at a boundary; the queues of a FENCED leg are discarded (R365). -/
def State.legsBoundary (s : State) : State :=
  s.each s.liveLegs (fun s l =>
    let inSet := (s.fold (s.leg l).desc.fold).decodeNext.contains l
    let s := s.onLeg l (fun g => g.boundary inSet)
    if (s.leg l).state = .fenced && (s.leg l).queued ≠ 0 then s.discardQueues l 3 else s)

/-- The ports' punt buckets (R69). [DESIGN CHOICE, notes/assumptions 13] -/
def State.puntRefill (s : State) : State :=
  s.each (upTo 16) (fun s p => s.onPort p (fun x => { x with punt := Nat.min 6000000 (x.punt + 10000) }))

/-- Guard sets stored in the tick that ended take effect (R261). -/
def State.guardsBoundary (s : State) : State :=
  { s with cmp := { s.cmp with guardSets := s.cmp.guardNext.foldl (fun t e => tset [] t e.1 e.2) s.cmp.guardSets, guardNext := [] } }

/-- The legs whose pictures a fold's outputs and arrangements show or want, and its spares (R256, R257, R331). -/
def State.pictureLegs (s : State) (f : Nat) : List Nat :=
  let r := s.fold f
  let cell (x : CellSt) : List Nat := x.want.toList ++ x.shown.toList
  let outs := (s.foldLcs f).flatMap (fun c => (s.lc c).cells.flatMap (fun e => cell e.2))
  let use := s.lacedPrickings f
  let arr := (r.arr.filter (fun e => use.contains (e.1 / 32))).flatMap (fun e => cell e.2)
  let spare := (r.spare.filter (fun e => use.contains e.1 && e.2 ≠ 0)).map (fun e => e.2 - 1)
  outs ++ arr ++ spare

/-- Decoding starts for the occupants that the folds chose, and stops for streams that nothing shows any more (R225, R258). -/
def State.decodesBoundary (s : State) : State :=
  let start := s.cmp.decNext.map (fun e => e.2 - 1)
  let shown := (s.liveFolds.flatMap s.pictureLegs).filterMap s.sourceEntry
  let idle := (s.streams.filter (fun e => e.2.dec.state != .idle && !shown.contains e.1 && !start.contains e.1)).map (·.1)
  let s := { s with cmp := { s.cmp with decNext := [] } }
  (s.each idle (fun s e => s.stopDecode e)).each start (fun s e => s.startDecode e)

/-- The folds at a boundary: the bellwether record of the tick that ended is in force, and cell encodes that no viewer takes
end (R170, R341). -/
def State.foldsBoundary (s : State) : State :=
  s.each s.liveFolds (fun s f => (s.onFold f (fun r => { r with record := r.draft, listChanged := false })).endEncodes f)

/-- The rates of a source's layers, measured over 60 ticks, in kb/s (R349). -/
def State.layersBoundary (s : State) : State :=
  if s.now % 60 ≠ 0 then s
  else
    let es := (s.streams.filter (fun e => !(e.2.layerBytes.isEmpty && e.2.layerRate.isEmpty))).map (·.1)
    s.each es (fun s e => s.onStream e (fun r =>
      { r with layerRate := r.layerBytes.map (fun x => (x.1, x.2 * 80 / 1000)), layerBytes := [] }))

/-- NTP time of the boundary of tick `t`: seconds and fraction as one 64-bit number (R493). -/
def State.ntpOf (s : State) (t : Nat) : Nat :=
  (((t / 600 : Nat) : Int) - s.utcNow + 2208988800).toNat % 2 ^ 32 * 2 ^ 32 + boundaryNs t * 2 ^ 32 / 1000000000

/-- The sender reports of the tick that begins (R492, R493). [DESIGN CHOICE, notes/assumptions 12] -/
def State.sendReports (s : State) : State :=
  let media (r : StreamRt) : Bool := r.live && r.desc.outbound && (r.desc.kind = 0 || r.desc.kind = 1)
  let es := (s.streams.filter (fun e => media e.2 && (s.leg e.2.leg).state = .active && Config.reportDue e.1 s.now)).map (·.1)
  s.each es (fun s e =>
    let r := s.stream e
    let d := (s.leg r.leg).desc
    let len := (if d.ip6 then 48 else 28) + 28 + 4 + tagLen d.legacy
    s.packetise { leg := some r.leg, cls := 5, kind := .srtcp (.report r.desc.ssrc (s.ntpOf s.now) (rtpClock r.tx r.desc.clockRate s.now)), ssrc := r.desc.ssrc, len := len })

/-- The media blocks at the start of a tick, while the media plane runs. [DESIGN CHOICE, notes/assumptions 11] -/
def State.mediaBoundary (s : State) (len : Nat) : State :=
  let s := s.portMoves
  let s := (s.each s.liveLegs (fun s l => s.moveQueues l)).egressBoundary len
  let s := ((s.legsBoundary).puntRefill).guardsBoundary
  let s := ((s.foldsBoundary).decodesBoundary).layersBoundary
  s.sendReports

/-- The resource capacities at a boundary, and DEV_ADMIT_OVERCOMMIT with its fault (R44, R59, R682). Re-costing waits while the
management cores are down (R557). -/
def State.capsBoundary (s : State) : State :=
  if s.boot.warmRun then s
  else
    let s := if s.adm.recount then s.recount else s
    let was := s.getF Reg.DEV_ADMIT_OVERCOMMIT 9 0
    let excess := s.overcommit % 1024
    let s := s.setF Reg.DEV_ADMIT_OVERCOMMIT 9 0 excess
    if (upTo 10).any (fun n => bit excess n && !bit was n) then s.raise fltOvercommit subjNone [(4, excess)] else s

/-- Units, memory, modules and images at a boundary (R434, R482, R560, R598, R626). [DESIGN CHOICE, notes/assumptions 56] -/
def State.unitsBoundary (s : State) : State :=
  ((((s.softBoundary).bqBoundary).dmcBoundary).fenceBoundary).moduleBoundary.trialBoundary

/-- What the firmware does at a boundary with what was committed (R641, R650, R680, R683, R686). -/
def State.tellBoundary (s : State) : State :=
  (((s.publishRecord).overflowFault).notifyFaults).flushBlocked

/-- The countdown of a warm reset, and the device's age (R557, R578, R664). -/
def State.ageBoundary (s : State) : State :=
  let s := if s.boot.warmRun then s.setF Reg.BOOT_WARM_REMAIN 15 0 (s.getF Reg.BOOT_WARM_REMAIN 15 0 - 1) else s
  let s := { s with tly := { s.tly with ticksInService := s.tly.ticksInService + 1 } }
  if s.tly.ticksInService % 600 = 0 then s.commitCounters else s

/-- The boundary from tick `t` to the next, with ticks on both sides: `es` are the digest entries of tick `t`, `degraded`
says that a degrading fault was committed with it, `status` is DEV_TICK_STATUS as it was. [DESIGN CHOICE, notes/assumptions 56] -/
def State.nextTick (s : State) (t status : Nat) (es : List DigestEnt) (degraded : Bool) (writes : List TaskWrite) : State :=
  let len := tickLen t
  let s := if s.boot.planeStopped || s.boot.maint then s else s.drvBoundary len writes
  let s := ((s.assembleTele t status).tickSummary t status).clearTick
  let s := if s.boot.planeStopped then s else s.mediaBoundary len
  let s := ((s.svcRefill).unitsBoundary).queueBoundary.capsBoundary
  let s := ((s.tellBoundary).twnBoundary es degraded).unknownBoundary
  ((s.sendTele).ageBoundary).showReady

/-- TICK_BOUNDARY: the end of a tick and the start of the next. Before the first tick only time runs, and the faults of a nominal
tick are committed and told (R499, R723). [DESIGN CHOICE, notes/assumptions 3, 11, 56] -/
def tickBoundary (i : TickIn) (s : State) : State :=
  if !s.up then s
  else if s.flt.queue.any (fun f => classOf f.code = 4) then s.settleFatal
  else
    let t := s.now
    let status := s.getR Reg.DEV_TICK_STATUS
    let was := s.tim.valid
    let es := s.digestLegs.map s.digestOf
    let s := s.endTick i
    let degraded := s.flt.fresh.any (fun e => classOf e.code = 3)
    let s := { s with out := [], host := { s.host with wireSvc := [] } }
    let s := s.timBoundary
    if was && s.tim.valid then s.nextTick t status es degraded i.writes
    else ((s.clearTick).tellBoundary).unknownBoundary.showReady

/-- TICK_BOUNDARY (R18, R20, R411). -/
def execTickBoundary (i : TickIn) (s : State) : Host.Outcome State Fault Refusal := finish s (tickBoundary i s)

end Sys2Proof.Machine
end

