-- ==== Sys2Proof/Machine/Img.lean ====
section
/-!
DEFINITION. The three messages that change what overlays show (06): captions, guard sets and image loads, with the check
of R722 before they take effect.
-/

namespace Sys2Proof.Machine

/-! ### The check of a changed image (R722) -/

/-- The state once everything accepted and waiting for a boundary has taken effect: the staged changes, and the captions,
guard sets and groups that change with them. [DESIGN CHOICE, notes/assumptions 14] -/
def State.contentPlanned (s : State) : State :=
  let s := s.planned
  { s with
    legs := s.legs.map (fun e => (e.1, { e.2 with caption := e.2.captionNext.getD e.2.caption })),
    cmp := { s.cmp with
      guardSets := s.cmp.guardNext.foldl (fun t e => tset [] t e.1 e.2) s.cmp.guardSets,
      groups := s.cmp.groupNext.foldl (fun t e => tset {} t e.1 e.2) s.cmp.groups } }

/-- The check of R722 for the folds `fs`, from state `b` to state `a`, which differ in the images that overlays can show:
the reason of a refusal, 0xF for the guards of R249 and else the limiting resource of R43. [DESIGN CHOICE, notes/assumptions 14] -/
def contentRefusal (b a : State) (fs : List Nat) : Option Nat :=
  fs.foldl (fun acc f => match acc with
    | some c => some c
    | none =>
      if !(a.foldOutputs f).all (a.guardsFit f) then some 0xF
      else match placeJobs b a f with
        | .error c => some c
        | .ok _ => none) none

/-- A change of content accepted or refused (R722): `edit` makes it in the state as planned, `k` stages it. -/
def State.tryContent (s : State) (fs : List Nat) (rto : ReplyTo) (edit k : State → State) : State :=
  let b := s.contentPlanned
  match contentRefusal b (edit b) fs with
  | some c => s.reply rto stRefused (.reason c)
  | none => (k s).reply rto stOK

/-- Is this device the authority for no fold at all: the standby of a pair that is not in cross mode (R521)?
[DESIGN CHOICE, notes/assumptions 14] -/
def State.standbyOnly (s : State) : Bool := s.twn.paired && !s.twn.cross && !s.twn.authSelf

/-! ### Captions (R253) -/

/-- CAPTION: the leg's caption group from the next boundary. A leg that is not ADMITTING or ACTIVE answers INVALID_STATE. -/
def caption (m : Msg) (group reserved : Nat) (s : State) : State :=
  s.request m 0x010B .both (fun s _ rto =>
    let l := m.target
    let g := s.leg l
    let f := g.desc.fold
    if 16383 < l || reserved ≠ 0 || (16383 < group && group ≠ 0xFFFF) then s.reply rto stMalformed
    else if !s.authority f then s.reply rto stNotAuthority
    else if g.state = .active || g.state = .admitting then
      s.tryContent [f] rto (fun b => b.onLeg l (fun r => { r with caption := group })) (fun s => s.onLeg l (fun r => { r with captionNext := some group }))
    else s.reply rto stInvalid)

/-- CAPTION (R253). -/
def execCaption (m : Msg) (group reserved : Nat) (s : State) : Host.Outcome State Fault Refusal := finish s (caption m group reserved s)

/-! ### Guard sets (R254) -/

/-- GUARD_SET: the sixteen groups of a guard set from the next boundary. [DESIGN CHOICE, notes/assumptions 14] -/
def guardSetMsg (m : Msg) (groups : List Nat) (s : State) : State :=
  s.request m 0x010C .both (fun s _ rto =>
    let n := m.target
    if 4095 < n || groups.length ≠ 16 || groups.any (fun g => decide (16383 < g) && g ≠ 0xFFFF) then s.reply rto stMalformed
    else if s.standbyOnly then s.reply rto stNotAuthority
    else
      s.tryContent (s.liveFolds.filter (fun f => (s.fold f).desc.guardSet = n)) rto
        (fun b => { b with cmp := { b.cmp with guardSets := tset [] b.cmp.guardSets n groups } })
        (fun s => { s with cmp := { s.cmp with guardNext := tset [] s.cmp.guardNext n groups } }))

/-- GUARD_SET (R254). -/
def execGuardSet (m : Msg) (groups : List Nat) (s : State) : Host.Outcome State Fault Refusal := finish s (guardSetMsg m groups s)

/-! ### Image loads (R250 to R252) -/

/-- The bytes that have arrived without a gap from offset `at_` on; one pass per part. -/
def reach (parts : List (Nat × Nat)) (at_ : Nat) : Nat :=
  (parts.foldl (fun n _ => parts.foldl (fun n p => if p.1 ≤ n then Nat.max n (p.1 + p.2) else n) n) at_)

/-- A load with one more part. A part with another total starts the load again. -/
def LoadBuf.add (b : LoadBuf) (offset total length : Nat) : LoadBuf :=
  { total := total, parts := (if b.total = total then b.parts else []) ++ [(offset, length)] }

/-- Bytes of the image-group region (R250, R589). -/
def State.groupRegion (s : State) : Nat := ((s.boot.image.device.map (·.groupRegionMib)).getD 0) * 2 ^ 20

/-- Bytes that the stored groups take, with group `n` holding `g`. -/
def State.groupBytes (s : State) (n : Nat) (g : ImgGroup) : Nat := g.bytes + sumN ((s.cmp.groups.filter (fun e => e.1 ≠ n)).map (fun e => e.2.bytes))

/-- The folds of which an overlay can show group `n` (R722). -/
def State.showers (s : State) (n : Nat) : List Nat :=
  s.liveFolds.filter (fun f => (s.foldOutputs f).any (fun g => g.overlays.any (fun o => (s.canShow f o.2.1).contains n)))

/-- IMAGE_LOAD: a part of a host group. When the last byte has arrived the content, `g`, is checked (R252, R722) and
stored, or refused with the group unchanged. Groups below 4,096 are locked (R250). [DESIGN CHOICE, notes/assumptions 14] -/
def imageLoad (m : Msg) (offset total length : Nat) (g : ImgGroup) (s : State) : State :=
  s.request m 0x010D .both (fun s _ rto =>
    let n := m.target
    if 16383 < n || total < offset + length || length = 0 then s.reply rto stMalformed
    else if s.standbyOnly then s.reply rto stNotAuthority
    else if n < 4096 then s.reply rto stRefused (.reason 0xF)
    else
      let buf := (tget {} s.cmp.loads n).add offset total length
      if reach buf.parts 0 < total then ({ s with cmp := { s.cmp with loads := tset {} s.cmp.loads n buf } }).reply rto stOK
      else
        let s := { s with cmp := { s.cmp with loads := tdel n s.cmp.loads } }
        let b := s.contentPlanned
        if !g.ok || g.bytes ≠ total || decide (s.groupRegion < b.groupBytes n g) then s.reply rto stRefused (.reason 0xF)
        else
          s.tryContent (b.showers n) rto (fun b => { b with cmp := { b.cmp with groups := tset {} b.cmp.groups n g } }) (fun s => s.storeGroup n g))

/-- IMAGE_LOAD (R252). -/
def execImageLoad (m : Msg) (offset total length : Nat) (group : ImgGroup) (s : State) : Host.Outcome State Fault Refusal :=
  finish s (imageLoad m offset total length group s)

end Sys2Proof.Machine
end

