-- ==== Sys2Proof/Machine/Regs.lean ====
section
/-!
DEFINITION. BAR0 (R5, R10 to R15, R508, R567, R635, R716 to R718): what a read of each dword returns, the read latch of
64-bit registers, and the plain register write.
-/

namespace Sys2Proof.Machine

/-! ### What a read returns -/

/-- EGS_PORT_STATUS: the entry, template and window of the moment, and its mask (R380). -/
def State.gateNow (s : State) (p ns : Nat) : Nat :=
  if !s.tim.valid then 0
  else
    let t := s.gateTemplate p s.now
    let (w, mask, _) := s.gateWindow p t s.now ns
    s.now % Nat.max 1 (s.getF (Reg.EGS_GATE_CONFIG p) 9 0) + t * 2 ^ 10 + w * 2 ^ 14 + mask * 2 ^ 16

/-- DEV_ADMIT_LOAD_n (R57). -/
def State.admitLoad (s : State) (k : Nat) : Nat :=
  Nat.min 65535 (s.loadNow k * 10000 / Nat.max 1 (s.budget k)) + s.ceilingBp k * 2 ^ 16

/-- The timebase and the units' count `cycles` 800 MHz cycles into the tick (R489, R491). -/
def State.tbAt (s : State) (cycles : Nat) : Nat := s.tbVal + cycles * s.increment

/-- The four dwords of TIME_TB_NOW (R508). -/
def State.tbWord (s : State) (cycles n : Nat) : Nat :=
  let v := s.tbAt cycles
  let sec := v / 2 ^ 32 / 1000000000
  if n = 0 then sec % 2 ^ 32 else if n = 1 then sec / 2 ^ 32 % 2 ^ 32
  else if n = 2 then v / 2 ^ 32 % 1000000000 else v % 2 ^ 32

/-- Is this device active for at least one fold (R521, R547)? -/
def State.activeAny (s : State) : Bool := s.liveFolds.any s.authority

/-- BQ_COUNT and BQ_STATUS of queue `q` (R437, R439). -/
def State.bqWord (s : State) (q n : Nat) : Nat :=
  let b := s.bobbin q
  if n = 0 then (b.write - b.read).toNat % 2 ^ 17 + Nat.min 32767 ((b.unread.filter (fun w => w.kind == .end_ || w.kind == .endPoison)).length) * 2 ^ 17
  else s.bqFree q % 2 ^ 17 + b2n b.producing * 2 ^ 17 + b2n b.heldAt.isSome * 2 ^ 18

/-- The dword at `d` as hardware has it `cycles` cycles into the tick: what it computes when it is read, or what the register
file holds. -/
def State.liveDword (s : State) (d cycles : Nat) : Nat :=
  let sub := subOf d
  let i := instOf d
  let off := offOf d
  if sub = 0 && decide (Reg.DEV_ADMIT_LOAD 0 ≤ d ∧ d < Reg.DEV_ADMIT_LOAD 4) then s.admitLoad (d - Reg.DEV_ADMIT_LOAD 0)
  else if sub = 2 && decide (Reg.TIME_TB_NOW ≤ d ∧ d < Reg.TIME_TB_NOW + 4) then s.tbWord cycles (d - Reg.TIME_TB_NOW)
  else if sub = 2 && decide (16 ≤ i) && off = 8 then (s.tim.count + cycles) % 2 ^ 32
  else if sub = 2 && decide (16 ≤ i) && off = 12 then (s.tim.count + cycles) / 2 ^ 32 % 2 ^ 32
  else if d = Reg.CIP_KS_STATUS then (s.cip.slots.filter (fun e => e.2.valid)).length + s.cip.waiting.length * 2 ^ 17
  else if sub = 5 && off = 0 then s.gateNow i (cycles * s.increment / 2 ^ 32)
  else if d = Reg.DRV_STATUS then
    s.drv.readyW.length % 8192 + s.drv.readyG.length % 8192 * 2 ^ 16 + b2n (!s.drv.spillW.isEmpty) * 2 ^ 29 + b2n (!s.drv.spillG.isEmpty) * 2 ^ 30
      + s.getF Reg.DRV_STATUS 31 31 * 2 ^ 31
  else if sub = 8 && off = 0 then
    s.getF d 15 0 + sumN ((s.drv.takers.filter (fun e => e.2 / 16 = i)).map (fun e => 2 ^ (16 + e.2 % 16)))
  else if d = Reg.DRV_SPILL_W then s.drv.spillW.length
  else if d = Reg.DRV_SPILL_G then s.drv.spillG.length
  else if sub = 7 && decide (off < 0x1000) && (off % 16 = 0 || off % 16 = 12) then s.bqWord (i * 256 + off / 16) (off % 16)
  else if d = Reg.DMC_REMAP_STATUS then
    s.dmc.stripes % 2 ^ 14 + s.dmc.mirrored % 128 * 2 ^ 14 + s.boot.image.device.elim 1 (·.reserveTwelfths) % 4 * 2 ^ 21 + b2n (!s.dmc.jobs.isEmpty) * 2 ^ 23
  else if d = Reg.DMC_REMAP_FREE then s.freeTotal
  else if d = Reg.DMC_REMAP_COPY then s.dmc.jobs.head?.elim 0 (fun j => j.steps.length)
  else if d = Reg.DMC_TRAINED_PEAK then s.trainedPeak
  else if d = Reg.TWN_PAIR_STATUS then
    putBits (putBits (s.getR d) 5 5 (b2n s.activeAny)) 14 14 (b2n (s.mirroring && s.activeAny))
  else s.getR d

/-- What a read of dword `d` returns `cycles` cycles into the tick: 0 where it does not decode, at reserved locations, in
reserved bits and in WO fields (R5, R11, R12, R567). -/
def State.view (s : State) (d cycles : Nat) : Nat :=
  if !s.decodes d then 0 else s.liveDword d cycles &&& maskOf d (fun a => a ≠ .wo)

/-! ### Reads (R15, R508) -/

/-- The dword index of a BAR0 offset. -/
def dwordAt (offset : Nat) : Nat := offset / 4 % 2 ^ 26

/-- How many dwords above `d` a read of `d` latches. -/
def latchCount (d : Nat) : Nat := if d = Reg.TIME_TB_NOW then 3 else if wideLow d then 1 else 0

/-- A read of the dword at `offset`: a latched dword that is next in turn returns its latched value; a read of a lower half
latches the upper part; every other access discards the latch. A field returns its value at the moment of the read unless its
rule names another (R15, R508, R720). -/
def readDword (offset cycles : Nat) (s : State) : State :=
  if s.boot.inReset then s
  else
    let d := dwordAt offset
    let fresh : BitVec 32 × Option (Nat × List (BitVec 32)) :=
      let upper := (upTo (latchCount d)).map (fun k => BitVec.ofNat 32 (s.view (d + 1 + k) cycles))
      (BitVec.ofNat 32 (s.view d cycles), if s.decodes d && !upper.isEmpty then some (d + 1, upper) else none)
    let got :=
      match s.host.readLatch with
      | some (n, v :: vs) => if n = d then (v, if vs.isEmpty then none else some (d + 1, vs)) else fresh
      | _ => fresh
    { s with host := { s.host with lastRead := some got.1, readLatch := got.2 } }

/-- REGISTER_READ_64 (R15, R508): a read of the dword at `offset`. -/
def execRegisterRead64 (offset cycles : Nat) (s : State) : Host.Outcome State Fault Refusal := finish s (readDword offset cycles s)

/-! ### Writes (R11 to R14, R635, R642) -/

/-- The state an outcome goes on with. -/
def went (s : State) (o : Host.Outcome State Fault Refusal) : State :=
  match o with
  | .next t => t
  | _ => s

/-- The snapshot-select registers (R109). -/
def selectRegs : List Nat :=
  [Reg.NET_PE_LEG_SELECT, Reg.CIP_KS_SLOT_SELECT, Reg.AUD_FOLD_SELECT, Reg.AUD_LEG_SELECT, Reg.VEN_STREAM_SELECT, Reg.VEN_LC_SELECT,
   Reg.CMP_OUTPUT_SELECT, Reg.LAC_VIEWER_SELECT, Reg.LAC_FWD_LEG_SELECT, Reg.LAC_ADAPT_LEG_SELECT, Reg.EGS_LEG_SELECT,
   Reg.DRV_TASK_SELECT, Reg.DMC_REMAP_SELECT, Reg.BOOT_INV_SELECT]

/-- A write of BOOT_RESET_CTRL: the key with action 1 or 2; a wrong key is ignored with the fault of R13 (R579). -/
def resetCtrlWrite (v : Nat) (s : State) : State :=
  s.ctrlWrite Reg.BOOT_RESET_CTRL v (3 + 0xFFFF * 65536) (fun s =>
    if v / 65536 % 65536 ≠ 0x57A2 then s.accessIgnored Reg.BOOT_RESET_CTRL v
    else if v % 4 = 1 then s.warmReset 6
    else if v % 4 = 2 && s.up && s.sealed then s.askPlane .command none
    else s)

/-- The ring whose register group holds a DEV offset, and the register's place in the group (R668). -/
def ringOf (d : Nat) : Option (Nat × Nat) :=
  if subOf d = 0 && instOf d = 0 && decide (0x1000 ≤ offOf d ∧ offOf d < 0x1000 + 32 * 35) then
    some ((offOf d - 0x1000) / 32, (offOf d - 0x1000) % 32)
  else none

/-- A write of a ring's register; none for one without an effect of its own (R642, R669). -/
def ringWrite (r place v : Nat) (s : State) : Option State :=
  if place = 0x08 then some (ringConfig r v s)
  else if place = 0x0C then some (ringHeadWrite r v s)
  else if place = 0x10 then some (ringTailWrite r v s)
  else if (place = 0 || place = 4) && s.ringOn r then
    some ((({ s with host := { s.host with readLatch := none } } : State)).accessIgnored (Reg.DEV_RING_CONFIG r - 2 + place / 4) v)
  else none

/-- A write of a register that has a command of its own; none for every other register. [DESIGN CHOICE, notes/assumptions 57] -/
def ownWrite (d v : Nat) (s : State) : Option State :=
  let sub := subOf d
  let i := instOf d
  let off := offOf d
  if selectRegs.contains d then some (s.selectObject d v)
  else if sub = 7 && decide (0x2000 ≤ off ∧ off < 0x2020) then some (bqFlush i ((off - 0x2000) / 4) v s)
  else if sub = 13 && decide (i < 12) && off = 0x18 then some (chCommand i v s)
  else if sub = 10 && decide (i < 64) && off = 0x10 then some (went s (execVenFenceCtrl i v s))
  else if sub = 11 && decide (i < 8) && off = 0x10 then some (went s (execCmpFenceCtrl i v s))
  else if d = Reg.LAC_LANE_FENCE_CTRL then some (went s (execLacLaneFenceCtrl v s))
  else if sub = 8 && decide (i < 16) && off = 0x10 then some (went s (execMcaFenceCtrl i v s))
  else if d = Reg.BOOT_WATCHDOG_KICK then some (went s (execWatchdogKick v s))
  else if d = Reg.BOOT_SOFT_RESET then some (went s (execSoftReset v s))
  else if d = Reg.BOOT_RESET_CTRL then some (resetCtrlWrite v s)
  else if d = Reg.TWN_CTRL then some (went s (execTwnCtrlRelease v s))
  else match ringOf d with
    | some (r, place) => ringWrite r place v s
    | none => none

/-- The fields of a dword that a write sets: RW fields, RWL fields before the seal, and RW1C bits written 1, which clear
(R11). -/
def State.putFields (s : State) (d v : Nat) : State :=
  let m := maskOf d (fun a => a = .rw || (a = .rwl && !s.sealed))
  let c := maskOf d (fun a => a = .rw1c) &&& v
  let old := s.getR d
  let old := old - (old &&& c)
  s.setR d (old - (old &&& m) + (v &&& m))

/-- A write of a register without a command of its own (R11 to R13, R635). -/
def plainWrite (d v cycles : Nat) (s : State) : State :=
  let s := { s with host := { s.host with readLatch := none } }
  let key := if d = Reg.BOOT_HOST_BOOT then 0xFFFF * 65536 else 0
  (if s.ignores d (s.view d cycles) v key then s.accessIgnored d v else s).putFields d v

/-- REGISTER_WRITE: nothing in reset or at a location that does not decode; byte enables that are not all set make it
ignored with the fault of R13 (R635). [DESIGN CHOICE, notes/assumptions 11, 57] -/
def registerWrite (offset value enables cycles : Nat) (s : State) : State :=
  let d := dwordAt offset
  let v := value % 2 ^ 32
  if s.boot.inReset || !s.decodes d then s
  else if enables ≠ 15 then ({ s with host := { s.host with readLatch := none } }).accessIgnored d v
  else match ownWrite d v s with
    | some t => t
    | none => plainWrite d v cycles s

/-- REGISTER_WRITE (R11 to R13, R635). -/
def execRegisterWrite (offset value enables cycles : Nat) (s : State) : Host.Outcome State Fault Refusal :=
  finish s (registerWrite offset value enables cycles s)

end Sys2Proof.Machine
end

