-- ==== Sys2Proof/Machine/Dispatch.lean ====
section
/-!
DEFINITION. One arm per command, each the call of its meaning.
-/

namespace Sys2Proof.Machine

/-- The effect of a command on everything but the queue. -/
def exec (i : Instr) (s : State) : Host.Outcome State Fault Refusal :=
  match i with
  | .powerOn env flash => Sys2Proof.Machine.execPowerOn env flash s
  | .resetPin env => Sys2Proof.Machine.execResetPin env s
  | .warmResetPin => Sys2Proof.Machine.execWarmResetPin s
  | .hostBootStart value cont => Sys2Proof.Machine.execHostBootStart value cont s
  | .hostBootTimeout => Sys2Proof.Machine.execHostBootTimeout s
  | .watchdogExpiry => Sys2Proof.Machine.execWatchdogExpiry s
  | .warmBudgetExpiry => Sys2Proof.Machine.execWarmBudgetExpiry s
  | .mgmtResume => Sys2Proof.Machine.execMgmtResume s
  | .planeResetStart => Sys2Proof.Machine.execPlaneResetStart s
  | .planeReady tests => Sys2Proof.Machine.execPlaneReady tests s
  | .thermalTrip => Sys2Proof.Machine.execThermalTrip s
  | .thermalTripEnd env => Sys2Proof.Machine.execThermalTripEnd env s
  | .avsAlert fault => Sys2Proof.Machine.execAvsAlert fault s
  | .tickBoundary b => Sys2Proof.Machine.execTickBoundary b s
  | .snapshotLatch => Sys2Proof.Machine.execSnapshotLatch s
  | .shedPoint => Sys2Proof.Machine.execShedPoint s
  | .spillDrain poisoned => Sys2Proof.Machine.execSpillDrain poisoned s
  | .nodePush pool ns => Sys2Proof.Machine.execNodePush pool ns s
  | .take core ns => Sys2Proof.Machine.execTake core ns s
  | .doneStatus core task failed cause => Sys2Proof.Machine.execDoneStatus core task failed cause s
  | .doneResult core ns => Sys2Proof.Machine.execDoneResult core ns s
  | .progressPost task ns => Sys2Proof.Machine.execProgressPost task ns s
  | .unitHang pool unit => Sys2Proof.Machine.execUnitHang pool unit s
  | .engineFence engine cause => Sys2Proof.Machine.execEngineFence engine cause s
  | .compositorFence compositor cause => Sys2Proof.Machine.execCompositorFence compositor cause s
  | .coreFence core cause => Sys2Proof.Machine.execCoreFence core cause s
  | .lacerLaneFence lane => Sys2Proof.Machine.execLacerLaneFence lane s
  | .cipherPipeFence pipe => Sys2Proof.Machine.execCipherPipeFence pipe s
  | .assistFail cluster => Sys2Proof.Machine.execAssistFail cluster s
  | .taskEcc task => Sys2Proof.Machine.execTaskEcc task s
  | .venFenceCtrl engine value => Sys2Proof.Machine.execVenFenceCtrl engine value s
  | .cmpFenceCtrl compositor value => Sys2Proof.Machine.execCmpFenceCtrl compositor value s
  | .lacLaneFenceCtrl value => Sys2Proof.Machine.execLacLaneFenceCtrl value s
  | .mcaFenceCtrl cluster value => Sys2Proof.Machine.execMcaFenceCtrl cluster value s
  | .resetCtrlWarm key => Sys2Proof.Machine.execResetCtrlWarm key s
  | .resetCtrlPlane key => Sys2Proof.Machine.execResetCtrlPlane key s
  | .softReset value => Sys2Proof.Machine.execSoftReset value s
  | .watchdogKick value => Sys2Proof.Machine.execWatchdogKick value s
  | .twnCtrlRelease value => Sys2Proof.Machine.execTwnCtrlRelease value s
  | .bqFlush inst n value => Sys2Proof.Machine.execBqFlush inst n value s
  | .dmcDrain channel => Sys2Proof.Machine.execDmcDrain channel s
  | .dmcRetrain channel => Sys2Proof.Machine.execDmcRetrain channel s
  | .dmcRejoin channel => Sys2Proof.Machine.execDmcRejoin channel s
  | .dmcFence channel => Sys2Proof.Machine.execDmcFence channel s
  | .ringTailWrite ring value => Sys2Proof.Machine.execRingTailWrite ring value s
  | .ringHeadWrite ring value => Sys2Proof.Machine.execRingHeadWrite ring value s
  | .ringEnable ring value => Sys2Proof.Machine.execRingEnable ring value s
  | .ringDisable ring value => Sys2Proof.Machine.execRingDisable ring value s
  | .ringDma ring => Sys2Proof.Machine.execRingDma ring s
  | .messageFetch ring typ seq target => Sys2Proof.Machine.execMessageFetch ring typ seq target s
  | .irqModeration ring us enabled masked => Sys2Proof.Machine.execIrqModeration ring us enabled masked s
  | .functionLevelReset => Sys2Proof.Machine.execFunctionLevelReset s
  | .registerWrite offset value enables cycles => Sys2Proof.Machine.execRegisterWrite offset value enables cycles s
  | .registerRead64 offset cycles => Sys2Proof.Machine.execRegisterRead64 offset cycles s
  | .netPeLegSelect value => Sys2Proof.Machine.execNetPeLegSelect value s
  | .cipKsSlotSelect value => Sys2Proof.Machine.execCipKsSlotSelect value s
  | .audFoldSelect value => Sys2Proof.Machine.execAudFoldSelect value s
  | .audLegSelect value => Sys2Proof.Machine.execAudLegSelect value s
  | .venStreamSelect value => Sys2Proof.Machine.execVenStreamSelect value s
  | .venLcSelect value => Sys2Proof.Machine.execVenLcSelect value s
  | .cmpOutputSelect value => Sys2Proof.Machine.execCmpOutputSelect value s
  | .lacViewerSelect value => Sys2Proof.Machine.execLacViewerSelect value s
  | .lacFwdLegSelect value => Sys2Proof.Machine.execLacFwdLegSelect value s
  | .lacAdaptLegSelect value => Sys2Proof.Machine.execLacAdaptLegSelect value s
  | .egsLegSelect value => Sys2Proof.Machine.execEgsLegSelect value s
  | .drvTaskSelect value => Sys2Proof.Machine.execDrvTaskSelect value s
  | .dmcRemapSelect value => Sys2Proof.Machine.execDmcRemapSelect value s
  | .bootInvSelect value => Sys2Proof.Machine.execBootInvSelect value s
  | .serviceDatagram d => Sys2Proof.Machine.execServiceDatagram d s
  | .legArrive m d streams src ice => Sys2Proof.Machine.execLegArrive m d streams src ice s
  | .legUpdate m d streams src ice => Sys2Proof.Machine.execLegUpdate m d streams src ice s
  | .legLeave m => Sys2Proof.Machine.execLegLeave m s
  | .legRelease m => Sys2Proof.Machine.execLegRelease m s
  | .foldSetup m d a => Sys2Proof.Machine.execFoldSetup m d a s
  | .foldRetire m => Sys2Proof.Machine.execFoldRetire m s
  | .lineClassCreate m d e => Sys2Proof.Machine.execLineClassCreate m d e s
  | .lineClassRetire m => Sys2Proof.Machine.execLineClassRetire m s
  | .layoutChoice m pricking reserved pins => Sys2Proof.Machine.execLayoutChoice m pricking reserved pins s
  | .audioControl m mute => Sys2Proof.Machine.execAudioControl m mute s
  | .caption m group reserved => Sys2Proof.Machine.execCaption m group reserved s
  | .guardSet m groups => Sys2Proof.Machine.execGuardSet m groups s
  | .imageLoad m offset total length group => Sys2Proof.Machine.execImageLoad m offset total length group s
  | .imageGroupCommit group => Sys2Proof.Machine.execImageGroupCommit group s
  | .keyLoad m blob => Sys2Proof.Machine.execKeyLoad m blob s
  | .blobProcess => Sys2Proof.Machine.execBlobProcess s
  | .keySlotDrainEnd slot => Sys2Proof.Machine.execKeySlotDrainEnd slot s
  | .dtlsSend m length => Sys2Proof.Machine.execDtlsSend m length s
  | .packetSend m length => Sys2Proof.Machine.execPacketSend m length s
  | .queryLeg m => Sys2Proof.Machine.execQueryLeg m s
  | .queryFold m => Sys2Proof.Machine.execQueryFold m s
  | .timeSource m source => Sys2Proof.Machine.execTimeSource m source s
  | .timeStepApprove m boundary => Sys2Proof.Machine.execTimeStepApprove m boundary s
  | .setPoint m point reserved => Sys2Proof.Machine.execSetPoint m point reserved s
  | .switchover m boundary => Sys2Proof.Machine.execSwitchover m boundary s
  | .pairRelease m => Sys2Proof.Machine.execPairRelease m s
  | .warmReset m => Sys2Proof.Machine.execWarmReset m s
  | .planeReset m => Sys2Proof.Machine.execPlaneReset m s
  | .maintenanceEntry m => Sys2Proof.Machine.execMaintenanceEntry m s
  | .maintenanceExit m => Sys2Proof.Machine.execMaintenanceExit m s
  | .kekProvision m key => Sys2Proof.Machine.execKekProvision m key s
  | .kekRevoke m => Sys2Proof.Machine.execKekRevoke m s
  | .mgmtKeyProvision m key => Sys2Proof.Machine.execMgmtKeyProvision m key s
  | .mgmtKeyRevoke m => Sys2Proof.Machine.execMgmtKeyRevoke m s
  | .optionWrite m o => Sys2Proof.Machine.execOptionWrite m o s
  | .serviceAddress m a reserved => Sys2Proof.Machine.execServiceAddress m a reserved s
  | .telemetryConfig m period flags budget => Sys2Proof.Machine.execTelemetryConfig m period flags budget s
  | .subscribe m addr port flags reserved => Sys2Proof.Machine.execSubscribe m addr port flags reserved s
  | .tallyRead m typ first last reserved => Sys2Proof.Machine.execTallyRead m typ first last reserved s
  | .updateHeader m h => Sys2Proof.Machine.execUpdateHeader m h s
  | .updateChunk m offset length digestsOk torzer => Sys2Proof.Machine.execUpdateChunk m offset length digestsOk torzer s
  | .sdUpdate m => Sys2Proof.Machine.execSdUpdate m s
  | .stagingDone okA okB => Sys2Proof.Machine.execStagingDone okA okB s
  | .activate m second tick reserved cold => Sys2Proof.Machine.execActivate m second tick reserved cold s
  | .swapPrepare loaded => Sys2Proof.Machine.execSwapPrepare loaded s
  | .swapNotReady => Sys2Proof.Machine.execSwapNotReady s
  | .updateSwap => Sys2Proof.Machine.execUpdateSwap s
  | .updateAbort m => Sys2Proof.Machine.execUpdateAbort m s
  | .revert m => Sys2Proof.Machine.execRevert m s
  | .healthFail => Sys2Proof.Machine.execHealthFail s
  | .trialConfirm => Sys2Proof.Machine.execTrialConfirm s
  | .trialTimeout => Sys2Proof.Machine.execTrialTimeout s
  | .fallbackSwap prepared => Sys2Proof.Machine.execFallbackSwap prepared s
  | .frameReceive f => Sys2Proof.Machine.execFrameReceive f s
  | .arpRequest => Sys2Proof.Machine.execArpRequest s
  | .neighbourSolicitation => Sys2Proof.Machine.execNeighbourSolicitation s
  | .punt => Sys2Proof.Machine.execPunt s
  | .stunBindingRequest => Sys2Proof.Machine.execStunBindingRequest s
  | .stunOther => Sys2Proof.Machine.execStunOther s
  | .dtlsRecord => Sys2Proof.Machine.execDtlsRecord s
  | .srtpPacket ecc => Sys2Proof.Machine.execSrtpPacket ecc s
  | .rtcpSr => Sys2Proof.Machine.execRtcpSr s
  | .rtcpRr => Sys2Proof.Machine.execRtcpRr s
  | .rtcpBye => Sys2Proof.Machine.execRtcpBye s
  | .rtcpNack poisoned => Sys2Proof.Machine.execRtcpNack poisoned s
  | .rtcpPli => Sys2Proof.Machine.execRtcpPli s
  | .rtcpFir => Sys2Proof.Machine.execRtcpFir s
  | .rtcpTransportFeedback => Sys2Proof.Machine.execRtcpTransportFeedback s
  | .rtcpIgnored => Sys2Proof.Machine.execRtcpIgnored s
  | .frameRelease entry poisoned => Sys2Proof.Machine.execFrameRelease entry poisoned s
  | .jitterWindowEval entry => Sys2Proof.Machine.execJitterWindowEval entry s
  | .nackRepeat entry => Sys2Proof.Machine.execNackRepeat entry s
  | .consentExpired leg => Sys2Proof.Machine.execConsentExpired leg s
  | .admissionDecision => Sys2Proof.Machine.execAdmissionDecision s
  | .admissionTimeout => Sys2Proof.Machine.execAdmissionTimeout s
  | .epochSwitch fold => Sys2Proof.Machine.execEpochSwitch fold s
  | .legDrainComplete leg => Sys2Proof.Machine.execLegDrainComplete leg s
  | .bellwetherTick fold => Sys2Proof.Machine.execBellwetherTick fold s
  | .audioDecode leg how => Sys2Proof.Machine.execAudioDecode leg how s
  | .audioMix fold => Sys2Proof.Machine.execAudioMix fold s
  | .audioEncode fold config member how => Sys2Proof.Machine.execAudioEncode fold config member how s
  | .loudnessUpdate leg => Sys2Proof.Machine.execLoudnessUpdate leg s
  | .lipsyncEval leg => Sys2Proof.Machine.execLipsyncEval leg s
  | .decodeBandDone entry pic band => Sys2Proof.Machine.execDecodeBandDone entry pic band s
  | .refreshRepeat entry => Sys2Proof.Machine.execRefreshRepeat entry s
  | .sourceStalled entry => Sys2Proof.Machine.execSourceStalled entry s
  | .composeBandDone out band => Sys2Proof.Machine.execComposeBandDone out band s
  | .heldPictureTimeout lineClass cell => Sys2Proof.Machine.execHeldPictureTimeout lineClass cell s
  | .imageGroupRestore group firstOk otherOk => Sys2Proof.Machine.execImageGroupRestore group firstOk otherOk s
  | .encodeBandDone out band => Sys2Proof.Machine.execEncodeBandDone out band s
  | .escalationReset lineClass => Sys2Proof.Machine.execEscalationReset lineClass s
  | .lagDrop lineClass => Sys2Proof.Machine.execLagDrop lineClass s
  | .laceAssembly leg lane how packets mapLost node => Sys2Proof.Machine.execLaceAssembly leg lane how packets mapLost node s
  | .forwardAssign leg => Sys2Proof.Machine.execForwardAssign leg s
  | .fwdSwitchTimeout leg slot => Sys2Proof.Machine.execFwdSwitchTimeout leg slot s
  | .fwdPliRepeat leg slot => Sys2Proof.Machine.execFwdPliRepeat leg slot s
  | .adaptTick leg how => Sys2Proof.Machine.execAdaptTick leg how s
  | .packetEnqueue => Sys2Proof.Machine.execPacketEnqueue s
  | .frameSelect port subport ns ecc => Sys2Proof.Machine.execFrameSelect port subport ns ecc s
  | .refillPoint => Sys2Proof.Machine.execRefillPoint s
  | .staleDrop => Sys2Proof.Machine.execStaleDrop s
  | .portDown port subports => Sys2Proof.Machine.execPortDown port subports s
  | .portUp port subports => Sys2Proof.Machine.execPortUp port subports s
  | .portHomeReturn port => Sys2Proof.Machine.execPortHomeReturn port s
  | .announceRepeat => Sys2Proof.Machine.execAnnounceRepeat s
  | .modulePresenceAssert cage => Sys2Proof.Machine.execModulePresenceAssert cage s
  | .moduleRead cage m => Sys2Proof.Machine.execModuleRead cage m s
  | .moduleReady cage => Sys2Proof.Machine.execModuleReady cage s
  | .modulePresenceDeassert cage => Sys2Proof.Machine.execModulePresenceDeassert cage s
  | .sdCardDetect card cont => Sys2Proof.Machine.execSdCardDetect card cont s
  | .sdVselTimeout => Sys2Proof.Machine.execSdVselTimeout s
  | .bqReserve queue endpoint bytes sameCycle => Sys2Proof.Machine.execBqReserve queue endpoint bytes sameCycle s
  | .bqWordWrite queue endpoint word => Sys2Proof.Machine.execBqWordWrite queue endpoint word s
  | .bqEndMark queue endpoint poison last => Sys2Proof.Machine.execBqEndMark queue endpoint poison last s
  | .bqRead queue endpoint ecc => Sys2Proof.Machine.execBqRead queue endpoint ecc s
  | .bqMark queue endpoint => Sys2Proof.Machine.execBqMark queue endpoint s
  | .bqRewind queue endpoint => Sys2Proof.Machine.execBqRewind queue endpoint s
  | .bqRelease queue endpoint => Sys2Proof.Machine.execBqRelease queue endpoint s
  | .bqSkip queue endpoint => Sys2Proof.Machine.execBqSkip queue endpoint s
  | .dramAccess request => Sys2Proof.Machine.execDramAccess request s
  | .dramCorrectableError channel rank => Sys2Proof.Machine.execDramCorrectableError channel rank s
  | .dramUncorrectableError channel address rereadGood => Sys2Proof.Machine.execDramUncorrectableError channel address rereadGood s
  | .dramCommandError channel rank replays exhausted => Sys2Proof.Machine.execDramCommandError channel rank replays exhausted s
  | .channelLost channel => Sys2Proof.Machine.execChannelLost channel s
  | .copierSliceDone => Sys2Proof.Machine.execCopierSliceDone s
  | .rankMigrationDone channel => Sys2Proof.Machine.execRankMigrationDone channel s
  | .mirrorRebuildDone => Sys2Proof.Machine.execMirrorRebuildDone s
  | .retrainDone channel found outcomes => Sys2Proof.Machine.execRetrainDone channel found outcomes s
  | .refreshDue channel rank bankSet placed => Sys2Proof.Machine.execRefreshDue channel rank bankSet placed s
  | .dimmTempRead channel dimm celsius mr4 => Sys2Proof.Machine.execDimmTempRead channel dimm celsius mr4 s
  | .dqsDriftComp => Sys2Proof.Machine.execDqsDriftComp s
  | .zqLatch => Sys2Proof.Machine.execZqLatch s
  | .rowTableClear => Sys2Proof.Machine.execRowTableClear s
  | .openRowTimeout channel rank bank => Sys2Proof.Machine.execOpenRowTimeout channel rank bank s
  | .setPointSwitch => Sys2Proof.Machine.execSetPointSwitch s
  | .setPointGapEnd inTime => Sys2Proof.Machine.execSetPointGapEnd inTime s
  | .ptpSync sync => Sys2Proof.Machine.execPtpSync sync s
  | .ptpAnnounce announce => Sys2Proof.Machine.execPtpAnnounce announce s
  | .ptpDelayResp resp => Sys2Proof.Machine.execPtpDelayResp resp s
  | .ptpPdelayReq hdr => Sys2Proof.Machine.execPtpPdelayReq hdr s
  | .ptpDelayReqSend domain departure => Sys2Proof.Machine.execPtpDelayReqSend domain departure s
  | .ptpDomainLost domain => Sys2Proof.Machine.execPtpDomainLost domain s
  | .timebaseInitialSet count => Sys2Proof.Machine.execTimebaseInitialSet count s
  | .ppsOutEdge rising => Sys2Proof.Machine.execPpsOutEdge rising s
  | .timePpsInEdge cap => Sys2Proof.Machine.execTimePpsInEdge cap s
  | .timeTodInFrame bytes count => Sys2Proof.Machine.execTimeTodInFrame bytes count s
  | .bundleUp bundle => Sys2Proof.Machine.execBundleUp bundle s
  | .bundleDown bundle => Sys2Proof.Machine.execBundleDown bundle s
  | .ausilHeartbeat h flags => Sys2Proof.Machine.execAusilHeartbeat h flags s
  | .ausilIdentity h id => Sys2Proof.Machine.execAusilIdentity h id s
  | .pairPropose h newEpoch tick => Sys2Proof.Machine.execPairPropose h newEpoch tick s
  | .pairAnswer h result newEpoch tick => Sys2Proof.Machine.execPairAnswer h result newEpoch tick s
  | .pairCommitted h result newEpoch tick => Sys2Proof.Machine.execPairCommitted h result newEpoch tick s
  | .syncStart h => Sys2Proof.Machine.execSyncStart h s
  | .syncDone h => Sys2Proof.Machine.execSyncDone h s
  | .ausilTime h tx echo arrival => Sys2Proof.Machine.execAusilTime h tx echo arrival s
  | .timeSplit ticksDiffer => Sys2Proof.Machine.execTimeSplit ticksDiffer s
  | .mirror h records => Sys2Proof.Machine.execMirror h records s
  | .snapshot h kind index content length => Sys2Proof.Machine.execSnapshot h kind index content length s
  | .sealFrame h count bytes crcOk => Sys2Proof.Machine.execSealFrame h count bytes crcOk s
  | .digest h entries => Sys2Proof.Machine.execDigest h entries s
  | .digestAck h compared divergent flags divergentLegs => Sys2Proof.Machine.execDigestAck h compared divergent flags divergentLegs s
  | .event h ev effective => Sys2Proof.Machine.execEvent h ev effective s
  | .eventAck h seq => Sys2Proof.Machine.execEventAck h seq s
  | .retry h seq => Sys2Proof.Machine.execRetry h seq s
  | .softResetDone pass => Sys2Proof.Machine.execSoftResetDone pass s
  | .servicePortFrame kind tagged target => Sys2Proof.Machine.execServicePortFrame kind tagged target s
  | .setPointRestore => Sys2Proof.Machine.execSetPointRestore s
  | .tallyCommitTimeout => Sys2Proof.Machine.execTallyCommitTimeout s
  | .sourceSwitch => Sys2Proof.Machine.execSourceSwitch s
  | .holdover => Sys2Proof.Machine.execHoldover s
  | .timeStep => Sys2Proof.Machine.execTimeStep s
  | .leapSecond => Sys2Proof.Machine.execLeapSecond s
  | .todOutFrame => Sys2Proof.Machine.execTodOutFrame s
  | .extInputLost => Sys2Proof.Machine.execExtInputLost s
  | .refclkLost => Sys2Proof.Machine.execRefclkLost s
  | .ausHbInToggle => Sys2Proof.Machine.execAusHbInToggle s
  | .ausFenceInRise => Sys2Proof.Machine.execAusFenceInRise s
  | .pairAttemptTimeout => Sys2Proof.Machine.execPairAttemptTimeout s
  | .identityRepeat => Sys2Proof.Machine.execIdentityRepeat s
  | .timeDisagree => Sys2Proof.Machine.execTimeDisagree s
  | .sealTimeout => Sys2Proof.Machine.execSealTimeout s
  | .convergenceAction => Sys2Proof.Machine.execConvergenceAction s
  | .partnerLoss => Sys2Proof.Machine.execPartnerLoss s
  | .takeover => Sys2Proof.Machine.execTakeover s
  | .capLift => Sys2Proof.Machine.execCapLift s
  | .switchoverExecute => Sys2Proof.Machine.execSwitchoverExecute s
  | .powerLoss => Sys2Proof.Machine.execPowerLoss s
  | .ausFenceInFall => Sys2Proof.Machine.execAusFenceInFall s
  | .sdCardRemoval => Sys2Proof.Machine.execSdCardRemoval s

end Sys2Proof.Machine
end

