-- ==== Sys2Proof/Machine/Step.lean ====
section
/-!
DEFINITION. A step: the command at the front of the queue is taken and run with the queue's rest (notes/assumptions 1).
-/

namespace Sys2Proof.Machine

/-- One step: the front command, run on the state whose queue is the rest; on an empty queue the device idles.
[DESIGN CHOICE, notes/assumptions 1] -/
def step (s : State) : Host.Outcome State Fault Refusal :=
  match s.pending with
  | [] => .next s
  | c :: rest => exec c { s with pending := rest }

/-- The state with the command that a word spells put at the front of its queue; no row of the table gives bits.
[DESIGN CHOICE, notes/assumptions 1] -/
def State.withFetchWord (s : State) (nbits w : Nat) : State :=
  match decodeTableWord nbits w with
  | some c => { s with pending := c :: s.pending }
  | none => s

end Sys2Proof.Machine
end

