-- ==== Sys2Proof/Safety.lean ====
section
/-!
DEFINITION. What the claims mean by a state whose registers can be trusted, and by a kept memory.
-/

namespace Sys2Proof.Machine

/-- The status registers show what the device holds: the tick and the grid (R53, R54, R507), the pair's state, fences and latch
(R547), the committed pair epoch (R548) and the last tally record (R674). -/
structure State.Shown (s : State) : Prop where
  tick : s.getR64 Reg.DEV_TICK_NUMBER = s.shownTick % 2 ^ 64
  second : s.getF Reg.DEV_TICK_STATUS 9 0 = s.shownTick % 600
  grid : s.getF Reg.DEV_TICK_STATUS 16 16 = b2n s.tim.valid
  gridTime : s.getF Reg.TIME_TB_STATUS 4 4 = b2n s.tim.valid
  pair : s.getF Reg.TWN_PAIR_STATUS 2 0 = s.twn.pair.code
  fenceOut : s.getF Reg.TWN_PAIR_STATUS 6 6 = b2n s.pins.fenceOut
  fenceIn : s.getF Reg.TWN_PAIR_STATUS 7 7 = b2n s.pins.fenceIn
  latch : s.getF Reg.TWN_PAIR_STATUS 8 8 = b2n s.tly.fencedLatched
  epoch : s.getR Reg.TWN_EPOCH = s.tly.epoch.toNat
  record : s.getR Reg.MGT_TALLY_SEQ = s.tly.seq.toNat % 2 ^ 32

/-- Is `d` a register in which reporting keeps its counts: a ring's index or drops, the service port's datagrams sent, the
faults that did not fit the hardware queue, the tally store, or the counts of a bundle's frames? Every other register stays when a fault is
raised, a record committed, or a notification or reply sent. -/
def reportReg (d : Nat) : Bool :=
  (subOf d = 0 && decide (0x1000 ≤ offOf d)) || d = Reg.DEV_SVC_CTR 5 || d = Reg.BOOT_FAULT_OVERFLOW || subOf d = 15
    || (subOf d = 14 && instOf d ≠ 0 && decide (0x10 ≤ offOf d))

/-- DRAM contents are in their canonical form (R456): addresses strictly rising. -/
def State.MemKept (s : State) : Prop := memWf s.mem = true

/-! ### What a command leaves -/

/-- What a command leaves of `s` when its effect makes `t`: the status registers that show what the device holds are brought up
to date, and the commands that wait are those of `s`. -/
def State.after (s t : State) : State := { t.showStatus with pending := s.pending }

/-- Is a fault of this code and subject waiting to be journalled, or in the hardware queue of a warm reset (R557, R680)? -/
def State.faulted (s : State) (code subject : Nat) : Bool :=
  let same (f : RaisedFault) : Bool := f.code = code && f.subject = subject
  s.flt.queue.any same || s.boot.hwq.any same

/-- A command has left the media state alone: DRAM contents, legs, folds, streams and line classes. -/
structure State.KeepsMedia (s t : State) : Prop where
  mem : t.mem = s.mem
  legs : t.legs = s.legs
  folds : t.folds = s.folds
  streams : t.streams = s.streams
  lcs : t.lcs = s.lcs

/-- A command has left the cipher, the timebase, the pair, the update, the tally store and the pins alone. -/
structure State.KeepsRest (s t : State) : Prop where
  cip : t.cip = s.cip
  tim : t.tim = s.tim
  twn : t.twn = s.twn
  upd : t.upd = s.upd
  tly : t.tly = s.tly
  pins : t.pins = s.pins

/-! ### Requests and control writes -/

/-- Can the firmware take requests: out of reset, its cores up, not halted, not waiting for a host's container (R557)? -/
def State.listens (s : State) : Bool := !(s.boot.inReset || s.boot.warmRun || s.boot.halted || s.boot.waitHost)

/-- Is the firmware up, and did the request arrive before the current tick (R20)? -/
def State.comes (s : State) (m : Msg) (typ : Nat) : Bool := s.listens && !(s.tim.valid && (s.arrival m typ).1 == s.now)

/-- Does the firmware serve a request: it comes, it is well formed, its path and mode allow it (R645, R649), and before the
first tick it is none of those of R723? -/
def State.serves (s : State) (m : Msg) (typ : Nat) (p : Paths) : Bool :=
  s.comes m typ && !m.bad && p.allow m.src s.boot.maint && (!needsGrid typ || s.tim.valid)

/-- Where the reply to a request goes (R647). -/
def State.replyTo (s : State) (m : Msg) (typ : Nat) : ReplyTo :=
  { src := m.src, typ := typ, seq := m.seq, target := m.target, gen := (s.arrival m typ).2.1 }

/-- The state in which a request is served: its recorded arrival is taken away. -/
def State.taken (s : State) (m : Msg) (typ : Nat) : State := (s.arrival m typ).2.2

/-- The requests that have a command: their message, type number and paths (R648, R649). -/
def asRequest : Instr → Option (Msg × Nat × Paths)
  | .legArrive m _ _ _ _ => some (m, 0x0101, .both)
  | .legUpdate m _ _ _ _ => some (m, 0x0102, .both)
  | .legLeave m => some (m, 0x0103, .both)
  | .legRelease m => some (m, 0x0104, .both)
  | .foldSetup m _ _ => some (m, 0x0105, .both)
  | .foldRetire m => some (m, 0x0106, .both)
  | .lineClassCreate m _ _ => some (m, 0x0107, .both)
  | .lineClassRetire m => some (m, 0x0108, .both)
  | .layoutChoice m _ _ _ => some (m, 0x0109, .both)
  | .audioControl m _ => some (m, 0x010A, .both)
  | .caption m _ _ => some (m, 0x010B, .both)
  | .guardSet m _ => some (m, 0x010C, .both)
  | .imageLoad m _ _ _ _ => some (m, 0x010D, .both)
  | .keyLoad m _ => some (m, 0x010E, .both)
  | .dtlsSend m _ => some (m, 0x010F, .both)
  | .packetSend m _ => some (m, 0x0110, .hostOnly)
  | .queryLeg m => some (m, 0x0111, .both)
  | .queryFold m => some (m, 0x0112, .both)
  | .timeSource m _ => some (m, 0x0201, .both)
  | .timeStepApprove m _ => some (m, 0x0202, .both)
  | .setPoint m _ _ => some (m, 0x0203, .both)
  | .switchover m _ => some (m, 0x0204, .both)
  | .pairRelease m => some (m, 0x0205, .bothMaint)
  | .warmReset m => some (m, 0x0301, .both)
  | .planeReset m => some (m, 0x0302, .both)
  | .maintenanceEntry m => some (m, 0x0303, .both)
  | .maintenanceExit m => some (m, 0x0304, .both)
  | .kekProvision m _ => some (m, 0x0305, .bothMaint)
  | .kekRevoke m => some (m, 0x0306, .bothMaint)
  | .mgmtKeyProvision m _ => some (m, 0x0307, .hostMaint)
  | .mgmtKeyRevoke m => some (m, 0x0308, .hostMaint)
  | .optionWrite m _ => some (m, 0x0309, .bothMaint)
  | .serviceAddress m _ _ => some (m, 0x030A, .both)
  | .telemetryConfig m _ _ _ => some (m, 0x030B, .both)
  | .subscribe m _ _ _ _ => some (m, 0x030C, .both)
  | .tallyRead m _ _ _ _ => some (m, 0x030D, .both)
  | .updateHeader m _ => some (m, 0x0401, .both)
  | .updateChunk m _ _ _ _ => some (m, 0x0402, .both)
  | .sdUpdate m => some (m, 0x0403, .both)
  | .activate m _ _ _ _ => some (m, 0x0404, .both)
  | .updateAbort m => some (m, 0x0405, .both)
  | .revert m => some (m, 0x0406, .both)
  | _ => none

/-- Does a register that a command of its own writes answer: the device is out of reset and the location decodes (R567)? -/
def State.answers (s : State) (d : Nat) : Bool := !s.boot.inReset && s.decodes d

/-- The state in which such a write takes effect: the read latch is discarded (R15), and a write that would change what is ignored
is reported (R13). -/
def State.written (s : State) (d v free : Nat) : State :=
  let s := { s with host := { s.host with readLatch := none } }
  if s.ignores d (s.getR d) (v % 2 ^ 32) free then s.accessIgnored d v else s

/-! ### Ausil frames -/

/-- The Ausil frames that have a command, with the header each carries (R519). -/
def asFrame : Instr → Option AusHdr
  | .ausilHeartbeat h _ => some h
  | .ausilIdentity h _ => some h
  | .pairPropose h _ _ => some h
  | .pairAnswer h _ _ _ => some h
  | .pairCommitted h _ _ _ => some h
  | .syncStart h => h
  | .syncDone h => h
  | .ausilTime h _ _ _ => some h
  | .mirror h _ => some h
  | .snapshot h _ _ _ _ => some h
  | .sealFrame h _ _ _ => some h
  | .digest h _ => some h
  | .digestAck h _ _ _ _ => some h
  | .event h _ _ => some h
  | .eventAck h _ => some h
  | .retry h _ => some h
  | _ => none

/-- Does a frame reach the device: it is up with its media plane running, and the frame's bundle is up (R517, R559)? -/
def State.receives (s : State) (h : AusHdr) : Bool := s.sealed && !s.boot.planeStopped && s.bundleUp (b2n h.bundleB)

/-- Is a frame of an older epoch than the pair's, while the pair mirrors (R520)? -/
def State.stale (s : State) (h : AusHdr) : Bool := s.mirroring && decide (h.epoch < s.tly.epoch)

/-- Does a frame have its effect: it reaches the device whole and is not stale (R518, R520)? -/
def State.hears (s : State) (h : AusHdr) : Bool := s.receives h && h.good && !s.stale h

/-- A bundle expects the seq after `n` next. -/
def State.expects (s : State) (b n : Nat) : State := { s with twn := { s.twn with rxSeq := tset 0 s.twn.rxSeq b (n % 2 ^ 32 + 1) } }

/-- A whole frame counted, and a RETRY sent for each seq missing before it (R520, R553). -/
def State.counted (s : State) (h : AusHdr) : State :=
  let b := b2n h.bundleB
  let e := tget 0 s.twn.rxSeq b
  let u := s.incR64 (Reg.TWN_BUNDLE_RX_FRAMES b)
  let gap := if e = 0 then 0 else modSub 32 h.seq.toNat (e - 1)
  if gap < 2 ^ 31 then (u.each (upTo gap) (fun s i => s.askRetry b (e - 1 + i))).expects b (h.seq.toNat + 1) else u

/-- A frame that fails its check counted, and asked for again when its seq can be told (R520, R553).
[DESIGN CHOICE, notes/assumptions 54] -/
def State.missed (s : State) (h : AusHdr) : State :=
  let b := b2n h.bundleB
  let e := tget 0 s.twn.rxSeq b
  let u := s.incR (Reg.TWN_BUNDLE_CRC_ERRORS b)
  if e = 0 then u else (u.askRetry b (e - 1)).expects b e

/-- The state in which a frame has its effect: it is counted and the partner's epoch noted. -/
def State.heard (s : State) (h : AusHdr) : State :=
  { s.counted h with twn := { (s.counted h).twn with partnerEpoch := h.epoch } }

/-- A run of `n` steps meets neither a fault nor a refusal, and every state on the way is shown. -/
def State.SafeRun (s : State) : Nat → Prop
  | 0 => s.Shown
  | n + 1 => s.Shown ∧ ∃ t, step s = .next t ∧ t.SafeRun n

end Sys2Proof.Machine
end

