-- ==== Sys2Proof/Certificates/Slice0/Obligations.lean ====
section
/-!
DEFINITION. The statements about the model: what a step is, what every command keeps, and for every command where it completes
and with what effect. `State.after` is what a command leaves when its effect makes the given state.
-/

open Sys2Proof Sys2Proof.Machine

/-- A step takes the front command and runs it on the state whose queue is the rest; on an empty queue it leaves the state as it is
(the model's choice, notes/assumptions 1). -/
def Obligations.StepRunsFrontCommand : Prop :=
  ∀ (c : Instr) (rest : List Instr) (s : State),
    step { s with pending := c :: rest } = exec c { s with pending := rest } ∧ step { s with pending := [] } = .next { s with pending := [] }

/-- Every command but DRAM_ACCESS answers a next state with the queue kept and the status registers shown; DRAM_ACCESS answers
such a state or the fault addressOutside. -/
def Obligations.CommandsAnswerShownStates : Prop :=
  (∀ (c : Instr) (s : State), (∀ r, c ≠ .dramAccess r) → ∃ t, exec c s = .next t ∧ t.pending = s.pending ∧ t.Shown) ∧
  (∀ (r : MemReq) (s : State),
    (∃ t, exec (.dramAccess r) s = .next t ∧ t.pending = s.pending ∧ t.Shown) ∨ exec (.dramAccess r) s = .fault .addressOutside)

/-- The status registers stay true over every step. -/
def Obligations.StepKeepsShown : Prop := ∀ s t : State, s.Shown → step s = .next t → t.Shown

/-- The state after reset is shown. -/
def Obligations.ResetIsShown : Prop := State.reset.Shown

/-- Requests that are not served: nothing while none can be taken; MALFORMED, NOT_PERMITTED and INVALID_STATE otherwise. -/
def Obligations.UnservedRequestsAreAnswered : Prop :=
  ∀ (c : Instr) (m : Msg) (typ : Nat) (p : Paths) (s : State), asRequest c = some (m, typ, p) →
    (s.comes m typ = false → exec c s = .next (s.after s)) ∧
    (s.comes m typ = true → m.bad = true →
      exec c s = .next (s.after ((s.taken m typ).reply (s.replyTo m typ) stMalformed))) ∧
    (s.comes m typ = true → m.bad = false → p.allow m.src s.boot.maint = false →
      exec c s = .next (s.after ((s.taken m typ).reply (s.replyTo m typ) stNotPermitted))) ∧
    (s.comes m typ = true → m.bad = false → p.allow m.src s.boot.maint = true → needsGrid typ = true → s.tim.valid = false →
      exec c s = .next (s.after ((s.taken m typ).reply (s.replyTo m typ) stInvalid)))

/-- What a received frame does (R66 to R78, R107). -/
def Obligations.FramesPassTheChecks : Prop :=
  ∀ (f : FrameIn) (s : State),
    (s.boot.inReset = true → exec (.frameReceive f) s = .next (s.after s)) ∧
    (s.boot.inReset = false → f.fcsOk = false → exec (.frameReceive f) s = .next (s.after (s.incR (Reg.NET_PE_DROP 0)))) ∧
    (s.boot.inReset = false → f.fcsOk = true → f.isPtp = false → f.etype ≠ .pause → (s.boot.planeStopped = true ∨ s.tim.valid = false) →
      exec (.frameReceive f) s = .next (s.after
        (((s.incR64 (Reg.NET_PORT_RX_FRAMES f.port)).incR64 (Reg.NET_PORT_RX_BYTES f.port) f.size).incR (Reg.NET_PE_DROP 0x16)))) ∧
    (∀ l n tag r, s.boot.inReset = false → f.fcsOk = true → s.boot.planeStopped = false → s.tim.valid = true →
      f.body = .srtp n tag r → (f.etype = .ipv4 ∨ f.etype = .ipv6) → 64 ≤ f.size → f.size ≤ 9238 → s.dstOk f.port f.dst = true →
      f.qTags ≤ 1 → f.sTag = false → f.l3Ok = true → f.fragment = false → f.udp = true → f.udpSumOk = true → f.ipLen ≤ 9216 →
      (s.localEntry (f.port % 8) f.vid f.addr.dst).isSome = true → s.lookupLeg (f.port % 8) f.vid f.addr = some l →
      (s.leg l).state = .active → demux f.b0 f.b1 = .srtp → 24 * f.ipLen ≤ (s.leg l).police →
      ∃ t, exec (.frameReceive f) s = .next t ∧ (t.leg l).police = (s.leg l).police - 24 * f.ipLen ∧
        t.net.inq = insertRx
          { port := f.port, lane := f.lane, tick := s.now, ns := f.ns, leg := some l, ipLen := f.ipLen, vid := f.vid, addr := f.addr,
            body := f.body } s.net.inq)

/-- What becomes of traffic that is not media (R69, R74 to R77). -/
def Obligations.NonMediaTrafficIsAnswered : Prop :=
  ∀ s : State,
    (∀ p u, s.takeRx (fun p => p.isArp && s.asksLocal p) = some (p, u) →
      exec .arpRequest s = .next (s.after (u.packetisePort p.port 7 1 28))) ∧
    (∀ p u, s.takeRx (fun p => p.isNs && s.asksLocal p) = some (p, u) →
      exec .neighbourSolicitation s = .next (s.after (u.packetisePort p.port 7 2 72))) ∧
    (∀ p u, s.takeRx (fun p => p.leg.isNone && p.stunMsg.isNone && !s.asksLocal p) = some (p, u) →
      exec .punt s = .next (s.after (if 600 ≤ (u.port p.port).punt then
        (u.onPort p.port (fun x => { x with punt := x.punt - 600 })).puntItem { length := p.ipLen, addr := p.addr }
        else u.incR (Reg.NET_PE_DROP 0x10)))) ∧
    (∀ p u m, s.takeRx (fun p => p.stunMsg.elim false (·.bindingRequest)) = some (p, u) → p.stunMsg = some m →
      (u.stunLeg p.addr m = none → p.leg = none → exec .stunBindingRequest s = .next (s.after (u.incR (Reg.NET_PE_DROP 9)))) ∧
      (∀ l r, u.stunLeg p.addr m = some l → (u.leg l).ice = some r → m.integrityPwd = some r.pwd → m.fingerprint ≠ some false →
        exec .stunBindingRequest s = .next (s.after
          (if (u.leg l).ownRemote p.addr then
            ((u.rxCount l 11).packetisePort p.port 7 (if m.controlled then 4 else 3) (stunLen m.controlled (u.leg l).desc.ip6) (some l)).consent l
          else ((u.rxCount l 11).packetisePort p.port 7 (if m.controlled then 4 else 3)
            (stunLen m.controlled (u.leg l).desc.ip6) (some l)).candidate l p.addr m.useCandidate)))) ∧
    (∀ p u, s.takeRx (fun p => p.stunMsg.elim false (fun m => !m.bindingRequest)) = some (p, u) →
      exec .stunOther s = .next (s.after (u.incR (Reg.NET_PE_DROP 0x0A)))) ∧
    (∀ p u l, s.takeRx (fun p => p.leg.isSome && p.body = .dtls) = some (p, u) → p.leg = some l →
      (passes (u.leg l).state .dtls = false → exec .dtlsRecord s = .next (s.after (u.incR (Reg.NET_PE_DROP 0x0B)))) ∧
      (passes (u.leg l).state .dtls = true → u.authority (u.leg l).desc.fold = true →
        exec .dtlsRecord s = .next (s.after (if (u.leg l).dtlsTok < 600 then u.incR (Reg.NET_PE_DROP 0x10) else
          (u.onLeg l (fun g => { g with dtlsTok := g.dtlsTok - 600 })).puntItem { leg := some l, length := p.ipLen, addr := p.addr })))) ∧
    (∀ m n, s.serves m 0x010F .both = true → s.authority (s.leg m.target).desc.fold = true →
      (s.leg m.target).state ≠ .idle → (s.leg m.target).state ≠ .fenced →
      exec (.dtlsSend m n) s = .next (s.after (((s.taken m 0x010F).packetisePort (s.legPort m.target) 1 6
        (n + if (s.leg m.target).desc.ip6 then 48 else 28) (some m.target)).reply (s.replyTo m 0x010F) stOK)))

/-- What becomes of media packets, frames, windows, NACKs and consent (R76, R84, R89 to R91, R96). -/
def Obligations.MediaPacketsReachTheirStreams : Prop :=
  ∀ s : State,
    (∀ ecc p u l, s.takeRx RxPkt.isMedia = some (p, u) → p.leg = some l →
      (passes (u.leg l).state .srtp = false → exec (.srtpPacket ecc) s = .next (s.after (u.incR (Reg.NET_PE_DROP 0x0B)))) ∧
      (∀ n tag r v, passes (u.leg l).state .srtp = true → p.body = .srtp n tag r → u.decryptRtp l n tag r ecc = (true, v) →
        exec (.srtpPacket ecc) s = .next (s.after (v.rtpPacket l p r))) ∧
      (∀ n ssrc ix tag items v, passes (u.leg l).state .srtp = true → p.body = .srtcp n ssrc ix tag items →
        u.decryptRtcp l n ix tag ecc = (true, v) →
        ∃ t, exec (.srtpPacket ecc) s = .next t ∧
          t.net.rtcpq = v.net.rtcpq ++ items.map (fun b => { leg := l, tick := p.tick, ns := p.ns, body := b }))) ∧
    (∀ e bad p rest, (s.stream e).jit.pkts.filter (fun p => decide (p.release ≤ s.now)) = p :: rest →
      ∃ t, exec (.frameRelease e bad) s = .next t ∧ (t.stream e).jit.releasedTick = s.now ∧
        (t.stream e).jit.released = ((p :: rest).filter (fun q => q.rtp.ts = p.rtp.ts)).filter (fun q => !bad.contains (q.ext % 65536))) ∧
    (∀ e bad, (s.stream e).jit.pkts.filter (fun p => decide (p.release ≤ s.now)) = [] →
      exec (.frameRelease e bad) s = .next (s.after s)) ∧
    (∀ e, (s.stream e).jit.anchored = true → (s.stream e).jit.winStart + 600 ≤ s.now →
      ∃ t, exec (.jitterWindowEval e) s = .next t ∧ (t.stream e).jit.winStart = s.now ∧ (t.stream e).jit.winPkts = 0 ∧
        (t.stream e).jit.winLate = 0 ∧ (∀ m, (s.stream e).jit.winMargin = some m → (s.jitterDepth e : Int) + 3 ≤ m →
          (t.stream e).jit.t0 = (s.stream e).jit.t0 - 1)) ∧
    (∀ e, s.now < (s.stream e).jit.winStart + 600 → exec (.jitterWindowEval e) s = .next (s.after s)) ∧
    (∀ e, ∃ t, exec (.nackRepeat e) s = .next t ∧
      ∀ n ∈ (t.stream e).jit.missing, ∃ m ∈ (s.stream e).jit.missing, m.ext = n.ext ∧ m.may (s.leg (s.stream e).leg).rttTicks s.now = true) ∧
    (∀ l r, (s.leg l).state = .active → (s.leg l).ice = some r → r.consentCheck = true → (s.leg l).txStopped = false →
      (s.leg l).consentTick + 18000 ≤ s.now → ∃ t, exec (.consentExpired l) s = .next t ∧ (t.leg l).txStopped = true)

/-- What the parts of RTCP compounds do (R93 to R98, R347). -/
def Obligations.RtcpPartsAreServed : Prop :=
  ∀ (s u v : State) (i : RtcpItem), u = s.openRtcp → v = { u with net := { u.net with rtcpq := u.net.rtcpq.erase i } } →
    (∀ ssrc lsr ts wall reports e,
      u.net.rtcpq.find? (fun i => decide (i.tick < u.now) && (match i.body with | .sr .. => true | _ => false)) = some i →
      i.body = .sr ssrc lsr ts wall reports → v.inboundEntry i.leg ssrc = some e →
      exec .rtcpSr s = .next (s.after
        ((v.onStream e (fun r => { r with srLsr := lsr, srMap := some (ts, wall) })).each reports (fun w r => w.reportBlock i r)))) ∧
    (∀ ssrc reports,
      u.net.rtcpq.find? (fun i => decide (i.tick < u.now) && (match i.body with | .rr .. => true | _ => false)) = some i →
      i.body = .rr ssrc reports → exec .rtcpRr s = .next (s.after (v.each reports (fun w r => w.reportBlock i r)))) ∧
    (∀ ssrcs, u.net.rtcpq.find? (fun i => decide (i.tick < u.now) && (match i.body with | .bye _ => true | _ => false)) = some i →
      i.body = .bye ssrcs →
      ∃ t, exec .rtcpBye s = .next t ∧ ∀ x ∈ ssrcs, ∀ e, v.inboundEntry i.leg x = some e → (t.stream e).ended = true) ∧
    (∀ bad ssrc seqs, u.net.rtcpq.find? (fun i => decide (i.tick < u.now) && (match i.body with | .nack .. => true | _ => false)) = some i →
      i.body = .nack ssrc seqs → ∃ t, exec (.rtcpNack bad) s = .next t ∧
        tget 0 (t.leg i.leg).rxCtr 8 = (tget 0 (v.leg i.leg).rxCtr 8 + seqs.length) % 2 ^ 32) ∧
    (∀ ssrc e, u.net.rtcpq.find? (fun i => decide (i.tick < u.now) && (match i.body with | .pli _ => true | _ => false)) = some i →
      i.body = .pli ssrc → v.outboundEntry i.leg ssrc = some e →
      exec .rtcpPli s = .next (s.after (v.refreshAsked i.leg e false))) ∧
    (∀ ssrc n e, u.net.rtcpq.find? (fun i => decide (i.tick < u.now) && (match i.body with | .fir .. => true | _ => false)) = some i →
      i.body = .fir ssrc n → v.outboundEntry i.leg ssrc = some e →
      exec .rtcpFir s = .next (s.after (if (v.stream e).tx.firSeq = some n then v else
        (v.onStream e (fun r => { r with tx := { r.tx with firSeq := some n } })).refreshAsked i.leg e true))) ∧
    (∀ items, u.net.rtcpq.find? (fun i => decide (i.tick < u.now) && (match i.body with | .feedback _ => true | _ => false)) = some i →
      i.body = .feedback items → ∃ t, exec .rtcpTransportFeedback s = .next t ∧ (t.leg i.leg).adapt.lastFeedback = v.now) ∧
    (u.net.rtcpq.find? (fun i => decide (i.tick < u.now) && i.body = .ignored) = some i →
      ∃ t, exec .rtcpIgnored s = .next t ∧ t.net.rtcpIgnored = u.net.rtcpIgnored + 1 ∧ t.net.rtcpq = u.net.rtcpq.erase i)

/-- Ports, sides and announcements (R64, R65, R104). -/
def Obligations.PortsMoveAndAnnounce : Prop :=
  ∀ (p mask : Nat) (s : State), p < 16 →
    (s.getF (Reg.NET_PORT_STATUS p) 3 0 &&& mask ≠ 0 → ∃ t, exec (.portDown p mask) s = .next t ∧
      t.getF (Reg.NET_PORT_STATUS p) 3 0 = s.getF (Reg.NET_PORT_STATUS p) 3 0 - (s.getF (Reg.NET_PORT_STATUS p) 3 0 &&& mask) ∧
      (t.port p).goneDown = true ∧ t.adm.recount = true) ∧
    (s.getF (Reg.NET_PORT_STATUS p) 3 0 &&& mask = 0 → exec (.portDown p mask) s = .next (s.after s)) ∧
    (∀ use up, use = mask &&& (2 ^ (modeSubports (s.portMode p)).1 - 1) → up = s.getF (Reg.NET_PORT_STATUS p) 3 0 → use - (use &&& up) ≠ 0 →
      ∃ t, exec (.portUp p mask) s = .next t ∧ t.getF (Reg.NET_PORT_STATUS p) 3 0 = up + (use - (use &&& up)) ∧ t.adm.recount = true) ∧
    (∀ k, (s.port p).upSince = some k → k + 600 ≤ s.now → ∃ t, exec (.portHomeReturn p) s = .next t ∧
      ∀ l ∈ s.liveLegs, (s.leg l).desc.portPair = p % 8 → (s.leg l).desc.homeB = decide (8 ≤ p) → (t.leg l).sideB = decide (8 ≤ p)) ∧
    (∃ t, exec .announceRepeat s = .next t ∧ t.net.announce = s.net.announce.filter (fun a => !decide (a.due ≤ s.now)))

/-- The way of a key from its blob to its slot, and a fenced pipeline (R123 to R126, R138, R144). -/
def Obligations.KeysLoadAndInstall : Prop :=
  ∀ s : State,
    (∀ m b, s.serves m 0x010E .both = true → s.authority (s.leg m.target).desc.fold = true → s.cip.waiting.length < 4096 →
      ∃ t, exec (.keyLoad m b) s = .next t ∧
        t.cip.waiting = s.cip.waiting ++ [{ blob := b, target := m.target, reply := some (s.replyTo m 0x010E) }]) ∧
    (∀ w rest, s.boot.warmRun = false → s.cip.blobsTick < 512 → s.cip.waiting = w :: rest →
      (s.blobCheck w.blob w.target = 0 → (s.slot w.blob.record.slot).draining = false →
        ∃ t, exec .blobProcess s = .next t ∧ t.cip.waiting = rest ∧ t.cip.blobsTick = s.cip.blobsTick + 1 ∧
          (t.slot w.blob.record.slot).draining = true ∧
          (t.slot w.blob.record.slot).install = some
            { suite := w.blob.record.suite, kek := w.blob.kek, keyId := keyName w.blob.record, activate := w.blob.record.activate,
              activateRtcp := w.blob.record.activateRtcp, maxIndex := w.blob.record.maxIndex, maxRtcp := w.blob.record.maxRtcp,
              expire := w.blob.record.expire, generation := w.blob.record.generation }) ∧
      (∀ to_, s.blobCheck w.blob w.target ≠ 0 → w.reply = some to_ →
        exec .blobProcess s = .next (s.after
          (({ s with cip := { s.cip with waiting := rest, blobsTick := s.cip.blobsTick + 1 } }.incR
            (Reg.CIP_KS_RESULT (s.blobCheck w.blob w.target))).reply to_ stRefused (.reason (s.blobCheck w.blob w.target)))))) ∧
    (∀ n, (s.slot n).draining = true → (s.slot n).install = none →
      exec (.keySlotDrainEnd n) s = .next (s.after (s.onSlot n (fun _ => {})))) ∧
    (∀ n x, (s.slot n).draining = true → (s.slot n).install = some x → (s.slot n).promoteFrom = none →
      ∃ t, exec (.keySlotDrainEnd n) s = .next t ∧ (t.slot n).valid = true ∧ (t.slot n).draining = false ∧
        (t.slot n).keyId = x.keyId ∧ (t.slot n).generation = x.generation ∧ t.storedGen n = x.generation) ∧
    (∀ p, p < 16 → s.pipeFenced p = false → ∃ t, exec (.cipherPipeFence p) s = .next t ∧ t.pipeFenced p = true ∧
      tfind p t.cip.pipeBlocks = none ∧ t.adm.recount = true)

/-- The key-encryption keys (R128 to R130, R151). -/
def Obligations.KeksAreWrittenOnce : Prop :=
  ∀ (m : Msg) (key : BitVec 256) (s : State), m.target < 4 →
    (s.serves m 0x0305 .bothMaint = true →
      ((tget {} s.cip.keks m.target).written = false → exec (.kekProvision m key) s = .next (s.after
        ((((({ s.taken m 0x0305 with cip := { s.cip with keks := tset {} s.cip.keks m.target { written := true, key := key } } } : State).setF
          (Reg.CIP_KEK_STATUS m.target) 0 0 1).setF (Reg.CIP_KEK_STATUS m.target) 31 8 (Config.keyCheck key).toNat).reply
            (s.replyTo m 0x0305) stOK)))) ∧
      ((tget {} s.cip.keks m.target).written = true →
        exec (.kekProvision m key) s = .next (s.after ((s.taken m 0x0305).reply (s.replyTo m 0x0305) stInvalid)))) ∧
    (s.serves m 0x0306 .bothMaint = true →
      (∀ k, k = tget {} s.cip.keks m.target → k.written = true → k.revoked = false → exec (.kekRevoke m) s = .next (s.after
        (((({ s.taken m 0x0306 with cip := { s.cip with keks := tset {} s.cip.keks m.target { k with revoked := true } } } : State).setF
          (Reg.CIP_KEK_STATUS m.target) 1 1 1).reply (s.replyTo m 0x0306) stOK)))) ∧
      ((tget {} s.cip.keks m.target).written = false ∨ (tget {} s.cip.keks m.target).revoked = true →
        exec (.kekRevoke m) s = .next (s.after ((s.taken m 0x0306).reply (s.replyTo m 0x0306) stInvalid))))

/-- What a revision of the bellwether list leaves (R162 to R169). -/
def Obligations.BellwetherListHoldsCandidates : Prop :=
  ∀ (f : Nat) (s : State), ∃ t, exec (.bellwetherTick f) s = .next t ∧
    (∀ l ∈ (t.fold f).list, s.candidateLeg l = true) ∧
    ((s.fold f).list.Nodup → (t.fold f).list.length ≤ (s.fold f).desc.k) ∧
    (∀ x, (t.fold f).lead = some x → x ∈ (t.fold f).list) ∧
    (t.fold f).draft.tick = s.now ∧ (t.fold f).draft.lead = (t.fold f).lead

/-- What decoding, mixing and encoding a tick of audio leave (R171, R177, R182). -/
def Obligations.AudioTickDecodesMixesEncodes : Prop :=
  ∀ s : State,
    (∀ l e how, s.audioIn l = some e → (s.leg l).aud.inDecodeSet = true →
      ∃ t, exec (.audioDecode l how) s = .next t ∧ t.aud.decN = s.aud.decN + 1 ∧
        (t.leg l).aud.decTicks = (s.leg l).aud.decTicks + 1 ∧
        (how = .stateLost → s.boot.warmRun = false → t.faulted fltDecoderLost (subjLeg l) = true) ∧
        (∀ b rest, (s.leg l).aud.blocks = b :: rest → (s.stream e).jit.releasedTick ≠ s.now → (s.leg l).aud.removeBy = none → how ≠ .stateLost →
          (t.leg l).aud.pcm = b ∧ (t.leg l).aud.blocks = rest)) ∧
    (∀ f, ∃ t, exec (.audioMix f) s = .next t ∧
      (t.fold f).mix = (s.fold f).list.foldl (fun m l => addBlocks m (contribution (Config.gainLinear (s.leg l).aud.gainQ)
        ((s.leg l).aud.aligned (s.fold f).audio.act s.now).1)) []) ∧
    (∀ f c how, ∃ t, exec (.audioEncode f c none how) s = .next t ∧ t.aud.encN = s.aud.encN + 1 ∧
      ((s.fold f).frameEnds c s.now = false → how ≠ .stateLost →
        (tget {} (t.fold f).outs c).ticks = (tget {} (s.fold f).outs c).ticks + 1 ∧
        (tget {} (t.fold f).outs c).enc = encStep ((s.fold f).audio.config c) (tget {} (s.fold f).outs c).enc (tget {} (s.fold f).outs c).block ∧
        t.egs = s.egs)) ∧
    (∀ f c l how st, (s.leg l).aud.personal = some st → (s.leg l).aud.persOld = none → ∃ t, exec (.audioEncode f c (some l) how) s = .next t ∧
      t.aud.encN = s.aud.encN + 1 ∧
      ((s.fold f).frameEnds (s.leg l).desc.audioConfig s.now = false → how ≠ .stateLost →
        (t.leg l).aud.personal = some ((s.fold f).persStep (s.leg l).desc.audioConfig st (s.leg l).aud.out) ∧
        (t.leg l).aud.outTicks = (s.leg l).aud.outTicks + 1 ∧ t.egs = s.egs))

/-- Mute, gain, alignment and a lost audio assist (R162, R184 to R186, R191). -/
def Obligations.AudioControlsMove : Prop :=
  ∀ s : State,
    (∀ m mute, s.serves m 0x010A .both = true → s.authority (s.leg m.target).desc.fold = true →
      ((s.leg m.target).state = .active ∨ (s.leg m.target).state = .admitting) →
      exec (.audioControl m mute) s = .next (s.after (((s.taken m 0x010A).onLeg m.target
        (fun g => { g with aud := { g.aud with muteNext := some mute } })).reply (s.replyTo m 0x010A) stOK))) ∧
    (∀ l, s.candidateLeg l = true → (s.leg l).aud.decoder.isSome = true → ∃ t, exec (.loudnessUpdate l) s = .next t ∧
      (t.leg l).aud.gainQ = (Config.loudness ((s.leg l).aud.loudWin.filter (fun b => !b.isEmpty))).elim (s.leg l).aud.gainQ (fun x => clampI (-48) 72 ((s.leg l).aud.gainQ +
        clampI (-2) 2 (roundDivI (((s.fold (s.leg l).desc.fold).desc.target - x) * 2) 5 - (s.leg l).aud.gainQ)))) ∧
    (∀ l, ∃ t, exec (.lipsyncEval l) s = .next t ∧ ∀ want : Int,
      want = (if (s.fold (s.leg l).desc.fold).audio.lipsync && (s.leg l).desc.hasVideo && s.foldComposes (s.leg l).desc.fold then
        clampI 0 30 (4 + (s.leg l).desc.jitterVideo - (2 + (s.leg l).desc.jitterAudio) + s.captureOffset l) else 0) →
      ((t.leg l).aud.delay : Int) = if ((s.leg l).aud.delay : Int) < want then (s.leg l).aud.delay + 1
        else if want < ((s.leg l).aud.delay : Int) then (s.leg l).aud.delay - 1 else (s.leg l).aud.delay) ∧
    (∀ c, c < 16 → s.drv.assistOff.contains c = false → ∃ t, exec (.assistFail c) s = .next t ∧
      t.drv.assistOff.contains c = true ∧ t.adm.recount = true ∧
      t.getF Reg.AUD_LIMITS 13 0 = s.getF Reg.AUD_LIMITS 13 0 - 512 ∧ t.getF Reg.AUD_LIMITS 29 16 = s.getF Reg.AUD_LIMITS 29 16 - 512 ∧
      t.getF Reg.AUD_STATUS 30 30 = 1)

/-- What the end of a decode band leaves (R211 to R225). -/
def Obligations.DecodeBandsSettlePictures : Prop :=
  ∀ (e : Nat) (p : PicFacts) (b : DecBand) (s : State), (s.stream e).dec.state ≠ .idle →
    (b.stateLost = true → ∃ t, exec (.decodeBandDone e p b) s = .next t ∧
      (t.stream e).dec.state = .waitKey ∧ (t.stream e).dec.havePic = false ∧ (t.stream e).dec.curBands = []) ∧
    (b.stateLost = false → p.unsupportedSequence = false → b.how = .done → b.present = true →
      ((s.stream e).dec.curBands.filter (fun x => x.band != b.band)).length + 1 < b.total →
      ∃ t, exec (.decodeBandDone e p b) s = .next t ∧
        (t.stream e).dec.curBands = (s.stream e).dec.curBands.filter (fun x => x.band != b.band) ++
          [{ band := b.band, how := .done, concealed := [], damaged := b.damagedTiles (s.stream e).dec.damage }]) ∧
    (b.stateLost = false → p.unsupportedSequence = false → b.how = .done → b.present = true → b.total = 1 →
      (s.stream e).dec.curBands = [] → (s.stream e).dec.state = .waitKey → b.damagedTiles (s.stream e).dec.damage = [] →
      p.randomAccess = true → discardPicture (s.stream e) p s.now = false →
      ∃ t, exec (.decodeBandDone e p b) s = .next t ∧ (t.stream e).dec.state = .clean ∧ (t.stream e).dec.havePic = true ∧
        (t.stream e).dec.picTick = s.now ∧ (t.stream e).dec.damage = [] ∧
        (t.stream e).dec.storeGen = (s.stream e).dec.storeGen + 1)

/-- Repeated refresh requests and stalled sources (R223, R225). -/
def Obligations.RefreshRepeatsAndStallsTold : Prop :=
  ∀ (e : Nat) (s : State),
    (∀ need due, need = ((s.stream e).dec.state != .idle && ((s.stream e).dec.state != .clean || (s.stream e).dec.layerDown)) →
      due = (match (s.stream e).dec.lastReq with
        | some k => decide (k + Nat.max 60 (2 * (s.leg (s.stream e).leg).rttTicks) ≤ s.now)
        | none => true) →
      (need && due) = true → ∃ t, exec (.refreshRepeat e) s = .next t ∧ (t.stream e).dec.lastReq = some s.now ∧
        tget 0 (t.stream e).dec.ctr 4 = (tget 0 (s.stream e).dec.ctr 4 + 1) % 2 ^ 32) ∧
    ((s.stream e).dec.state = .clean → (s.stream e).dec.layerDown = false → exec (.refreshRepeat e) s = .next (s.after s)) ∧
    (((s.stream e).dec.state = .waitKey ∨ (s.stream e).dec.state = .frozen) → (s.stream e).dec.stalledTold = false →
      (s.stream e).dec.enterTick + 600 ≤ s.now →
      ∃ t, exec (.sourceStalled e) s = .next t ∧ (t.stream e).dec.stalledTold = true) ∧
    ((s.stream e).dec.stalledTold = true → exec (.sourceStalled e) s = .next (s.after s))

/-- What the end of a composition band leaves (R268, R269, R271, R274). -/
def Obligations.ComposeBandsSettlePictures : Prop :=
  ∀ (b : ComposeBand) (s : State),
    (∀ c, (s.lc c).live = true → (s.lc c).bands ≠ [] → (s.lc c).bands.length + 1 < (s.bandPixels (s.lc c).desc.fold (s.lcGeo c)).length →
      ∃ t, exec (.composeBandDone (.lc c) b) s = .next t ∧ (t.lc c).bands = (s.lc c).bands ++ [(b.band, b.how)]) ∧
    (∀ c p, (s.lc c).live = true → (s.lc c).bands ≠ [] → (s.bandPixels (s.lc c).desc.fold (s.lcGeo c)).length ≤ (s.lc c).bands.length + 1 →
      s.pricking (s.lc c).desc.pricking = some p → b.how = .done → (s.lc c).bands.all (fun e => e.2 == .done) = true →
      ∃ t, exec (.composeBandDone (.lc c) b) s = .next t ∧ (t.lc c).bands = [] ∧ (t.lc c).inputTick = some s.now) ∧
    (∀ c, (s.lc c).live = true → (s.lc c).bands ≠ [] → (s.bandPixels (s.lc c).desc.fold (s.lcGeo c)).length ≤ (s.lc c).bands.length + 1 →
      b.how ≠ .done → ∃ t, exec (.composeBandDone (.lc c) b) s = .next t ∧ (t.lc c).bands = [] ∧
        (t.lc c).inputTick = (s.lc c).inputTick ∧ (t.lc c).guard = (s.lc c).guard) ∧
    (∀ f o n u k, u = s.each (s.lacedPrickings f) (fun s id => s.resolveArr f id) → k = (u.cellClasses f).getD n {} →
      n < (u.cellClasses f).length →
      ((s.fold f).render o k).bands.length + 1 < (u.bandPixels f (u.classGeo f k)).length →
      ∃ t, exec (.composeBandDone (.cell f o n) b) s = .next t ∧
        ((t.fold f).render o k).bands = ((s.fold f).render o k).bands ++ [(b.band, b.how)])

/-- Held pictures, and image groups taking effect and restored (R252, R257, R596). -/
def Obligations.ImageGroupsCommitAndRestore : Prop :=
  ∀ s : State,
    (∀ c i, (tget {} (s.lc c).cells i).held = true → (tget {} (s.lc c).cells i).waitFrom + 120 ≤ s.now →
      ∃ t, exec (.heldPictureTimeout c i) s = .next t ∧ (tget {} (t.lc c).cells i).shown = none ∧
        (tget {} (t.lc c).cells i).held = false ∧ ∀ j, j ≠ i → tget {} (t.lc c).cells j = tget {} (s.lc c).cells j) ∧
    (∀ c i, s.now < (tget {} (s.lc c).cells i).waitFrom + 120 → exec (.heldPictureTimeout c i) s = .next (s.after s)) ∧
    (∀ g, tget 0 s.cmp.groupAt g ≠ 0 → tget 0 s.cmp.groupAt g ≤ s.now →
      ∃ t, exec (.imageGroupCommit g) s = .next t ∧ tget {} t.cmp.groups g = tget {} s.cmp.groupNext g ∧
        tfind g t.cmp.groupNext = none ∧ t.cmp.groupLost.contains g = false ∧ t.cmp.groupPoison.contains g = false) ∧
    (∀ g first other, s.cmp.groupPoison.contains g = true → (first || other) = true →
      ∃ t, exec (.imageGroupRestore g first other) s = .next t ∧ tget 0 t.cmp.groupAt g = s.now + 1 ∧
        tget {} t.cmp.groupNext g = ((s.boot.image.groups.find? (fun e => e.1 = g)).map (·.2)).getD {})

/-- What the end of an encode band leaves (R296, R301, R302, R311, R312), the escalation count and the lag limit (R306, R310). -/
def Obligations.EncodeBandsSettlePictures : Prop :=
  (∀ (b : EncBand) (s : State),
    (∀ c, b.stateLost = false → (s.lc c).live = true → (s.lc c).rung.curBands.length + 1 < (s.lcPar c).bands →
      ∃ t, exec (.encodeBandDone (.lc c) b) s = .next t ∧ (t.lc c).rung.curBands = (s.lc c).rung.curBands ++
        [(s.lc c).rung.codeBand (s.lcPar c) (decide ((s.lc c).rung.kind (s.lcPar c) = some .key)) b]) ∧
    (∀ c, b.stateLost = false → s.ladderOf c = [c] → (s.lcPar c).bands ≤ (s.lc c).rung.curBands.length + 1 →
      ∃ t lost missing, exec (.encodeBandDone (.lc c) b) s = .next t ∧ (t.lc c).rung.curBands = [] ∧
        (t.lc c).rung.settled = some (s.now, lost, missing) ∧
        (b.how ≠ .done → lost = true ∧ tget 0 (t.lc c).rung.ctr 4 = (tget 0 (s.lc c).rung.ctr 4 + 1) % 2 ^ 32)) ∧
    (∀ f o n r k, k = (s.cellClasses f).getD n {} →
      ((s.fold f).cellEnc o k r).st.curBands.length + 1 < (s.cellPar f k r).bands →
      ∃ t, exec (.encodeBandDone (.cell f o n r) b) s = .next t ∧
        ((t.fold f).cellEnc o k r).st.curBands = ((s.fold f).cellEnc o k r).st.curBands ++
          [((s.fold f).cellEnc o k r).st.codeBand (s.cellPar f k r) (s.cellIntra f ((s.fold f).cellEnc o k r)) b])) ∧
  (∀ (r : RungSt) (p : EncPar) (intra : Bool) (b : EncBand), b.rows.length ≤ p.bandRows b.band →
    (r.codeBand p intra b).bits ≤ r.hardBudget p b.band intra) ∧
  (∀ (c : Nat) (s : State),
    ((s.lc c).live = true → (s.lc c).rung.escTick + 600 ≤ s.now →
      ∃ t, exec (.escalationReset c) s = .next t ∧ (t.lc c).rung.esc = 0) ∧
    (s.now < (s.lc c).rung.escTick + 600 → exec (.escalationReset c) s = .next (s.after s)) ∧
    (∀ k rest, (s.lc c).live = true → (s.lc c).rung.waitPics = k :: rest → k + (s.lc c).enc.lag ≤ s.now →
      ∃ t, exec (.lagDrop c) s = .next t ∧ (t.lc c).rung.waitPics = rest ∧
        tget 0 (t.lc c).rung.ctr 10 = (tget 0 (s.lc c).rung.ctr 10 + 1) % 2 ^ 32))

/-- What the end of an assembly leaves (R333, R336, R337). -/
def Obligations.AssembliesSendKeysThenPictures : Prop :=
  ∀ (l lane : Nat) (how : BandEnd) (pkts : List LacePacket) (mapLost : Bool) (node : Option Nat) (s : State) (p : Pricking) (g : LaceGrid),
    ((s.leg l).state = .active → s.viewerLayout l = some (p, g) →
      (how ≠ .done ∨ bit (s.getR Reg.LAC_STATUS) (12 + lane) = true →
        ∃ t, exec (.laceAssembly l lane how pkts mapLost node) s = .next t ∧ (t.leg l).view.keyPending = true) ∧
      (how = .done → bit (s.getR Reg.LAC_STATUS) (12 + lane) = false → (s.leg l).view.keyPending = true →
        ∃ t, exec (.laceAssembly l lane how pkts mapLost node) s = .next t ∧ (t.leg l).view.keyPending = false ∧
          (t.leg l).view.lastSynth = some s.now) ∧
      (how = .done → bit (s.getR Reg.LAC_STATUS) (12 + lane) = false → (s.leg l).view.keyPending = false →
        ∃ t, exec (.laceAssembly l lane how pkts mapLost node) s = .next t ∧
          (t.leg l).view.pictures = Nat.min 65535 ((s.leg l).view.pictures + 1) ∧ t.lac.asmTick = s.lac.asmTick + 1)) ∧
    ((s.leg l).state ≠ .active → exec (.laceAssembly l lane how pkts mapLost node) s = .next (s.after (s.endNode node s.drv.clock (how == .done))))

/-- What the forwarder's slots do (R342, R345). -/
def Obligations.ForwarderSlotsFollowOrder : Prop :=
  ∀ (l k : Nat) (s : State),
    ((s.leg l).state = .active → (s.leg l).desc.videoMode = 1 →
      ∃ t, exec (.forwardAssign l) s = .next t ∧
        (t.leg l).fwd.map (·.sender) = (upTo ((s.entries l).filter (fun e => (s.stream e).desc.kind = 1 && (s.stream e).desc.outbound)).length).map
          (fun k => (s.forwardCandidates l)[k]?)) ∧
    ((s.leg l).state ≠ .active ∨ (s.leg l).desc.videoMode ≠ 1 → exec (.forwardAssign l) s = .next (s.after s)) ∧
    (∀ x, (s.leg l).fwd[k]? = some x → x.waiting = true → x.waitUp = false → x.paused = false → x.waitFrom + 60 < s.now →
      ∃ t, exec (.fwdSwitchTimeout l k) s = .next t ∧ (t.leg l).fwd = (s.leg l).fwd.set k { x with paused := true }) ∧
    (∀ x, (s.leg l).fwd[k]? = some x → x.waiting = false → exec (.fwdSwitchTimeout l k) s = .next (s.after s)) ∧
    (∀ x y, (s.leg l).fwd[k]? = some x → x.tgt = some y → x.waiting = true → x.waitUp = true → x.needKey = true →
      x.lastPli + 600 ≤ s.now →
      ∃ t, exec (.fwdPliRepeat l k) s = .next t ∧ (t.leg l).fwd = (s.leg l).fwd.set k { x with lastPli := s.now }) ∧
    (∀ x, (s.leg l).fwd[k]? = some x → s.now < x.lastPli + 600 → exec (.fwdPliRepeat l k) s = .next (s.after s))

/-- What the adaptation item of a leg leaves (R347, R353). -/
def Obligations.AdaptationKeepsEgressLimits : Prop :=
  ∀ (l : Nat) (s : State),
    ((s.leg l).state = .active →
      (∃ t, exec (.adaptTick l .done) s = .next t ∧
        (t.leg l).adapt.estimate = (({ (s.leg l).adapt with
          reserveBytes := (s.leg l).adapt.reserveBytes.filter (fun e => decide (s.now < e.1 + 60)) } : AdaptSt).step l s.now
            (s.leg l).desc.egressMin (s.leg l).desc.egressMax).estimate ∧
        (s.leg l).desc.egressMin ≤ (t.leg l).adapt.estimate ∧
        (t.leg l).adapt.estimate ≤ Nat.max (s.leg l).desc.egressMin (s.leg l).desc.egressMax) ∧
      exec (.adaptTick l .shed) s = .next (s.after s) ∧
      (∃ t, exec (.adaptTick l .stateLost) s = .next t ∧ (t.leg l).adapt.estimate = (s.leg l).desc.egressMin ∧
        (t.leg l).adapt.delayRate = (s.leg l).desc.egressMin ∧ (t.leg l).adapt.lossRate = (s.leg l).desc.egressMin ∧
        (t.leg l).adapt.inForce = (s.leg l).adapt.inForce)) ∧
    (∀ how, (s.leg l).state ≠ .active → exec (.adaptTick l how) s = .next (s.after s))

/-- The egress commands (R362 to R375). -/
def Obligations.EgressQueuesSelectsRefills : Prop :=
  ∀ s : State,
    (∀ p l, s.egs.packetised.find? (fun p => decide (p.tick ≤ s.now)) = some p → p.leg = some l → 2 ≤ p.cls → p.cls ≤ 6 →
      (s.leg l).state = .active → (s.leg l).txStopped = false → p.rtxOf = none → (s.legSub l).isSome = true →
      (s.leg l).queued < 1024 → s.overTwin l { p with tick := s.now } = false →
      ∃ t, exec .packetEnqueue s = .next t ∧ t.egs.packetised = s.egs.packetised.erase p ∧
        ((t.leg l).queue p.cls).pkts = ((s.leg l).queue p.cls).pkts ++ [{ p with tick := s.now }]) ∧
    (∀ p, s.egs.packetised.find? (fun p => decide (p.tick ≤ s.now)) = some p → p.leg = none → (p.cls = 7 ∨ p.cls ≤ 1) →
      (tget ({} : PortQ) s.egs.portq (p.port * 8 + p.cls)).pkts.length < 4096 →
      ∃ t, exec .packetEnqueue s = .next t ∧ (tget ({} : PortQ) t.egs.portq (p.port * 8 + p.cls)).pkts =
        (tget ({} : PortQ) s.egs.portq (p.port * 8 + p.cls)).pkts ++ [{ p with tick := s.now }]) ∧
    (s.egs.packetised.find? (fun p => decide (p.tick ≤ s.now)) = none → exec .packetEnqueue s = .next (s.after s)) ∧
    (∀ m n, s.serves m 0x0110 .hostOnly = true → m.target < 16 → exec (.packetSend m n) s = .next (s.after
      (((s.taken m 0x0110).packetise { port := m.target, cls := 0, kind := .plain 7, len := n - 14 }).reply (s.replyTo m 0x0110) stOK))) ∧
    (∀ port sub ns ecc,
      ((s.upSubports port).contains sub = false ∨ s.boot.planeStopped = true → exec (.frameSelect port sub ns ecc) s = .next (s.after s)) ∧
      (∀ l p u, s.boot.planeStopped = false → (s.upSubports port).contains sub = true → (s.sub (port * 4 + sub)).tau ≤ ns * 1000 →
        s.pickFrom (port * 4 + sub) ns (modeSubports (s.portMode port)).2 [6, 5, 4, 3, 2] = (.some l p, u) →
        exec (.frameSelect port sub ns ecc) s = .next (s.after (u.schedule (port * 4 + sub) ns (modeSubports (s.portMode port)).2 ecc l p))) ∧
      (∀ p, s.boot.planeStopped = false → (s.upSubports port).contains sub = true → ns * 1000 < (s.sub (port * 4 + sub)).tau →
        s.pickPort (port * 4 + sub) ns (modeSubports (s.portMode port)).2 = some p →
        p.leg = none → s.pins.fenceIn = false → s.twn.pair ≠ .fenced →
        ∃ t, exec (.frameSelect port sub ns ecc) s = .next t ∧ t.out = s.out ++ [.frame port sub ns p none])) ∧
    (∀ l, s.egs.refill ≠ 0 → s.egs.refill < 8 → s.liveLegs.Nodup → l ∈ s.liveLegs →
      ((s.leg l).state = .active ∨ (s.leg l).state = .retiring) →
      ∃ t, exec .refillPoint s = .next t ∧ t.egs.refill = s.egs.refill + 1 ∧
        (t.leg l).eg.level = min ((s.leg l).eg.level + 5 * (s.leg l).eg.rate) (192 * ((s.leg l).eg.burst : Int))) ∧
    (8 ≤ s.egs.refill → exec .refillPoint s = .next (s.after s)) ∧
    (∀ l c q p, s.liveLegs = [l] → (s.leg l).eg.queues = [(c, q)] → q.pkts = [p] → p.cls = c → s.staleAfter l p < s.now →
      ∃ t, exec .staleDrop s = .next t ∧ ((t.leg l).queue c).pkts = []) ∧
    ((∀ l ∈ s.liveLegs, ∀ e ∈ (s.leg l).eg.queues, ∀ p ∈ e.2.pkts, s.now ≤ s.staleAfter l p) → exec .staleDrop s = .next (s.after s))

/-- What the take port and the done ports do (R403 to R405). -/
def Obligations.DroverPortsHandOutAndSettle : Prop :=
  ∀ s : State,
    (∀ c ns, s.coreFenced c = true ∨ s.getF Reg.DRV_STATUS 31 31 = 1 →
      exec (.take c ns) s = .next (s.after ((s.drvAt ns).onCore c (fun p => { p with take := takeNone, context := 0, flags := 0 })))) ∧
    (∀ c ns, s.coreFenced c = false → s.getF Reg.DRV_STATUS 31 31 = 0 → s.drv.takers = [] →
      (∀ e, s.bestEntry s.drv.readyW (s.coreTakes c) = some e → exec (.take c ns) s = .next (s.after ((s.drvAt ns).handItem c e))) ∧
      (s.bestEntry s.drv.readyW (s.coreTakes c) = none →
        exec (.take c ns) s = .next (s.after { s with drv := { s.drv with clock := Nat.max s.drv.clock ns, takers := [(tickNs s.now + Nat.max s.drv.clock ns, c)] } }))) ∧
    (∀ c k failed cause i, s.drv.running.find? (fun i => i.unit = c && i.task = k && decide (i.pool ≤ 0x11)) = some i →
      (i.outcome = none ∨ i.aborted = true) →
      exec (.doneStatus c k failed cause) s = .next (s.after { s with drv := { s.drv with
        running := s.drv.running.map (fun j => if j = i then
          { i with outcome := some (if i.aborted then .aborted else if failed then .failed else .completed) } else j) } })) ∧
    (∀ c ns i o, s.drv.running.find? (fun i => i.unit = c && decide (i.pool ≤ 0x11) && i.outcome.isSome) = some i → i.outcome = some o →
      exec (.doneResult c ns) s = .next (s.after
        ((((s.drvAt ns).onCore c (fun p => { p with result := o.code })).endItem i o ns).serveTakers)))

/-- What handing out an item changes (R403, R404). -/
def Obligations.HandedItemRunsAtCore : Prop :=
  ∀ (s : State) (c : Nat) (e : ReadyEnt),
    (s.handItem c e).drv.running = s.drv.running ++
      [{ task := e.task, pool := (s.task e.task).cfg.pool, unit := c, deadline := e.deadline, grantTick := s.now, grantNs := s.drv.clock }] ∧
    ((s.handItem c e).task e.task).st = .running ∧
    (tget {} (s.handItem c e).drv.cores c).take = takeWord e.task (s.task e.task) e.deadline ∧
    (∀ k, k ≠ c → tget {} (s.handItem c e).drv.cores k = tget {} s.drv.cores k) ∧
    (s.handItem c e).legs = s.legs ∧ (s.handItem c e).folds = s.folds ∧ (s.handItem c e).mem = s.mem ∧
    (s.handItem c e).regs = s.regs ∧ (s.handItem c e).tim = s.tim

/-- What the class G and housekeeping commands of the Drover do (R396, R401, R402, R406, R408, R416). -/
def Obligations.DroverNodesSpillsAndSheds : Prop :=
  ∀ s : State,
    (∀ pool ns e u, s.bestEntry s.drv.readyG (fun p => p = pool) = some e → s.leastUnit pool = some u →
      ∃ t, exec (.nodePush pool ns) s = .next t ∧ (t.task e.task).st = .running ∧
        t.drv.running = s.drv.running ++ [{ task := e.task, pool := pool, unit := u, deadline := e.deadline, grantTick := s.now, grantNs := Nat.max s.drv.clock ns }]) ∧
    (∀ k ns, s.drv.running.any (fun i => i.task = k && !i.aborted) = true →
      exec (.progressPost k ns) s = .next (s.after
        ((s.drvAt ns).tellSuccessors ((s.task k).cfg.successors [1]) false true).serveTakers)) ∧
    (∀ poisoned, s.drv.takers = [] →
      ∃ t, exec (.spillDrain poisoned) s = .next t ∧
        t.drv.readyW = (drainRing s.drv.readyW (s.drv.spillW.filter (fun e => !poisoned.contains e.task))).1 ∧
        t.drv.spillW = (drainRing s.drv.readyW (s.drv.spillW.filter (fun e => !poisoned.contains e.task))).2 ∧
        t.drv.readyG = (drainRing s.drv.readyG (s.drv.spillG.filter (fun e => !poisoned.contains e.task))).1 ∧
        t.drv.spillG = (drainRing s.drv.readyG (s.drv.spillG.filter (fun e => !poisoned.contains e.task))).2 ∧
        t.drv.sweep = (s.drv.sweep || (s.drv.spillW ++ s.drv.spillG).any (fun e => poisoned.contains e.task))) ∧
    (exec .shedPoint s = .next (s.after (s.each poolCodes (fun u p => u.shedPool 1250000 p)).serveTakers)) ∧
    (s.drv.takers = [] → (∀ p ∈ poolCodes, s.demand p 1250000 ≤ s.capacity p 1250000) → exec .shedPoint s = .next (s.after s)) ∧
    (∀ k, ∃ t, exec (.taskEcc k) s = .next t ∧ (t.task k).cfg.enabled = false ∧
      TaskWrite.task k { (s.task k).cfg with flags := 0 } ∈ t.drv.writes)

/-- What fencing a unit leaves (R226, R275, R352, R412, R415). -/
def Obligations.FencedUnitsShowTheirFence : Prop :=
  ∀ s : State,
    (∀ e cause, e < 64 → s.getF (Reg.VEN_FENCE_STATUS e) 0 0 = 0 →
      ∃ t, exec (.engineFence e cause) s = .next t ∧
        t.getR (Reg.VEN_FENCE_STATUS e) = 1 + b2n (cause = 4) * 2 + cause % 256 * 256 ∧
        t.getR64 (Reg.VEN_FENCE_TICK e) = s.now % 2 ^ 64 ∧
        t.adm.recount = true ∧ (s.boot.warmRun = false → t.faulted (fltEngine cause) (subjInst 10 e) = true)) ∧
    (∀ c cause, c < 8 → s.getF (Reg.CMP_FENCE_STATUS c) 0 0 = 0 →
      ∃ t, exec (.compositorFence c cause) s = .next t ∧
        t.getR (Reg.CMP_FENCE_STATUS c) = 1 + b2n (cause = 4) * 2 + cause % 256 * 256 ∧
        t.getR64 (Reg.CMP_FENCE_TICK c) = s.now % 2 ^ 64 ∧
        t.adm.recount = true ∧ (s.boot.warmRun = false → t.faulted (fltCompositor cause) (subjInst 11 c) = true)) ∧
    (∀ l, l < 2 → s.getF Reg.LAC_STATUS (12 + l) (12 + l) = 0 →
      ∃ t, exec (.lacerLaneFence l) s = .next t ∧ t.getF Reg.LAC_STATUS (12 + l) (12 + l) = 1 ∧
        t.adm.recount = true ∧ (s.boot.warmRun = false → t.faulted fltLaneFail (subjUnit 12 0 l) = true)) ∧
    (∀ c cause, c < 256 → s.coreFenced c = false → s.drv.fencePend.any (fun p => p.1 = c) = false →
      exec (.coreFence c cause) s = .next (s.after { s with drv := { s.drv with fencePend := s.drv.fencePend ++ [(c, cause)] } })) ∧
    (∀ pool unit, s.drv.running.any (fun i => i.pool = pool && i.unit = unit && decide (i.grantTick + 2 ≤ s.now)) = true →
      (pool ≤ 0x11 → exec (.unitHang pool unit) s = exec (.coreFence unit 3) s) ∧
      (pool = 0x20 → exec (.unitHang pool unit) s = exec (.engineFence unit 3) s) ∧
      (pool = 0x21 → exec (.unitHang pool unit) s = exec (.compositorFence unit 3) s) ∧
      (pool = 0x22 → exec (.unitHang pool unit) s = exec (.lacerLaneFence unit) s)) ∧
    (∀ pool unit, pool ≤ 0x11 → unit < 256 → s.coreFenced unit = false → s.drv.fencePend.any (fun p => p.1 = unit) = false →
      s.drv.running.any (fun i => i.pool = pool && i.unit = unit && decide (i.grantTick + 2 ≤ s.now)) = true →
      ∃ t, exec (.unitHang pool unit) s = .next t ∧ t.drv.fencePend = s.drv.fencePend ++ [(unit, 3)])

/-- What the fence-control writes leave (R236, R280, R356, R423). -/
def Obligations.FenceControlsWaitForBoundary : Prop :=
  ∀ (s : State) (v : Nat),
    (∀ e, s.answers (Reg.VEN_FENCE_CTRL e) = true → ∃ t, exec (.venFenceCtrl e v) s = .next t ∧
      t.ven.fencePend = (if bit v 0 then s.ven.fencePend ++ [(e, 4)] else s.ven.fencePend)) ∧
    (∀ c, s.answers (Reg.CMP_FENCE_CTRL c) = true → ∃ t, exec (.cmpFenceCtrl c v) s = .next t ∧
      t.cmp.fencePend = (if bit v 0 then s.cmp.fencePend ++ [(c, 4)] else s.cmp.fencePend)) ∧
    (s.answers Reg.LAC_LANE_FENCE_CTRL = true → ∃ t, exec (.lacLaneFenceCtrl v) s = .next t ∧
      t.lac.fencePend = s.lac.fencePend ++ ((if bit v 0 then [(0, 1)] else []) ++ (if bit v 1 then [(1, 1)] else []))) ∧
    (∀ k n, k < 16 → n < 16 → s.answers (Reg.MCA_FENCE_CTRL k) = true → bit v n = true → s.coreFenced (k * 16 + n) = false →
      ∃ t, exec (.mcaFenceCtrl k v) s = .next t ∧ t.drv.fencePend.any (fun p => p.1 = k * 16 + n) = true) ∧
    (∀ c, c = .venFenceCtrl 0 v ∨ c = .cmpFenceCtrl 0 v ∨ c = .lacLaneFenceCtrl v ∨ c = .mcaFenceCtrl 0 v → s.boot.inReset = true →
      exec c s = .next (s.after s))

/-- What the queue operations do for their owners (R425 to R433); other units are only reported (R425), and flushes wait for the boundary
(R434). -/
def Obligations.BobbinQueuesObeyTheirOwners : Prop :=
  (∀ (q : Nat) (s : State), s.bqEnabled q = true →
    (∀ n, (s.bobbin q).producing = false →
      (ceilDiv n 16 ≤ s.bqFree q → exec (.bqReserve q (s.bqProducer q) n false) s = .next (s.after
        (s.onBobbin q (fun b => { b with left := ceilDiv n 16, eccHeld := false })))) ∧
      (s.bqFree q < ceilDiv n 16 → exec (.bqReserve q (s.bqProducer q) n false) s = .next (s.after
        ((s.incR (Reg.BQ_FULL_DROPS q)).raiseOnce fltQueueFull (subjBobbin q) 600)))) ∧
    (∀ w, (s.bobbin q).left = 0 → exec (.bqWordWrite q (s.bqProducer q) w) s = .next (s.after s)) ∧
    (∀ w, (s.bobbin q).left ≠ 0 → (s.bobbin q).discard = false →
      ∃ t, exec (.bqWordWrite q (s.bqProducer q) w) s = .next t ∧ (t.bobbin q).write = (s.bobbin q).write + 1 ∧
        (t.bobbin q).left = (if w.kind = .more then (s.bobbin q).left - 1 else 0) ∧
        (t.bobbin q).words = (s.bobbin q).words ++ [if w.kind = .end_ then endMark w none (s.bobbin q).eccHeld w.last
          else if w.kind = .endPoison then w else { w with cause := 0, last := 0 }] ∧
        (t.bobbin q).heldAt = (if w.kind = .held then some (s.bobbin q).write else none)) ∧
    (∀ p poison last, (s.bobbin q).heldAt = some p → (s.bobbin q).discard = false → (s.bobbin q).waiting = false →
      ∃ t, exec (.bqEndMark q (s.bqProducer q) poison last) s = .next t ∧ (t.bobbin q).heldAt = none ∧
        (t.bobbin q).words = (s.bobbin q).words.set (ptrDist (s.bobbin q).head p)
          (endMark ((s.bobbin q).words.getD (ptrDist (s.bobbin q).head p) {}) poison ((s.bobbin q).eccHeld || (s.bobbin q).waitEcc) last)) ∧
    (∀ w rest ecc, (s.bobbin q).unread = w :: rest → w.kind ≠ .held →
      ∃ t, exec (.bqRead q (s.bqConsumer q) ecc) s = .next t ∧ (t.bobbin q).read = (s.bobbin q).read + 1 ∧
        tget {} t.bq.port q = { word := w, ecc := ecc }) ∧
    (∀ w rest ecc, (s.bobbin q).unread = w :: rest → w.kind = .held →
      exec (.bqRead q (s.bqConsumer q) ecc) s = .next (s.after (s.onBobbin q (fun b => { b with waiting := true, waitEcc := ecc })))) ∧
    (∀ ecc, (s.bobbin q).unread = [] → exec (.bqRead q (s.bqConsumer q) ecc) s = .next (s.after (s.bqReturn q { empty := true }))) ∧
    (exec (.bqMark q (s.bqConsumer q)) s = .next (s.after (s.onBobbin q (fun b => { b with mark := b.read })))) ∧
    (exec (.bqRewind q (s.bqConsumer q)) s = .next (s.after (s.onBobbin q (fun b => { b with read := b.mark })))) ∧
    (∃ t, exec (.bqRelease q (s.bqConsumer q)) s = .next t ∧ (t.bobbin q).head = (s.bobbin q).mark ∧
      (t.bobbin q).words = (s.bobbin q).words.drop (ptrDist (s.bobbin q).head (s.bobbin q).mark)) ∧
    (∀ i, (s.bobbin q).unread.findIdx? (fun w => w.kind == .end_ || w.kind == .endPoison) = some i →
      ∃ t, exec (.bqSkip q (s.bqConsumer q)) s = .next t ∧ (t.bobbin q).read = (s.bobbin q).read + BitVec.ofNat 32 (i + 1)) ∧
    ((s.bobbin q).unread.findIdx? (fun w => w.kind == .end_ || w.kind == .endPoison) = none →
      ∃ t, exec (.bqSkip q (s.bqConsumer q)) s = .next t ∧ (t.bobbin q).read = (s.bobbin q).write ∧
        (tget {} t.bq.port q).notDone = true)) ∧
  (∀ (q unit : Nat) (s : State),
    (s.bqEnabled q = false ∨ unit ≠ s.bqProducer q →
      (∀ n same, exec (.bqReserve q unit n same) s = .next (s.after (s.raise fltOwnerViolation (subjBobbin q)))) ∧
      (∀ w, exec (.bqWordWrite q unit w) s = .next (s.after (s.raise fltOwnerViolation (subjBobbin q)))) ∧
      (∀ poison last, exec (.bqEndMark q unit poison last) s = .next (s.after (s.raise fltOwnerViolation (subjBobbin q))))) ∧
    (s.bqEnabled q = false ∨ unit ≠ s.bqConsumer q →
      (∀ ecc, exec (.bqRead q unit ecc) s = .next (s.after (s.raise fltOwnerViolation (subjBobbin q)))) ∧
      (∀ c, c = Instr.bqMark q unit ∨ c = Instr.bqRewind q unit ∨ c = Instr.bqRelease q unit ∨ c = Instr.bqSkip q unit →
        exec c s = .next (s.after (s.raise fltOwnerViolation (subjBobbin q))))) ∧
    (∀ inst n v i, i < 32 → bit v i = true → s.answers (Reg.BQ_FLUSH inst n) = true →
      ∃ t, exec (.bqFlush inst n v) s = .next t ∧ inst * 256 + n * 32 + i ∈ t.bq.flush))

/-- What a read of DRAM returns (R446, R447, R451, R452, R455, R456, R468). -/
def Obligations.DramReadsReturnStoredLines : Prop :=
  ∀ (r : MemReq) (s : State), r.write = false →
    let place (k : Nat) := s.entryPlace k (s.mapAddr r.addr).2
    let stored (k : Nat) := if s.chanServes (place k).1 then memLine s.mem (cellAddr (place k).1 ((place k).2 / 64 * 64)) else none
    let answer (v : Option (List (BitVec 8))) : LineRead :=
      v.elim { addr := r.addr, poison := true } (fun bs => { addr := r.addr, data := (bs.drop (r.addr % 64)).take r.len })
    (r.kind ≠ .syntax_ → s.usableSize < r.addr + r.len → exec (.dramAccess r) s = .fault .addressOutside) ∧
    (r.kind ≠ .syntax_ → r.addr + r.len ≤ s.usableSize → s.dmc.gap = none →
      (∀ k, (s.mapAddr r.addr).1 = [k] → r.kind ≠ .picture →
        ∃ t, exec (.dramAccess r) s = .next t ∧ t.dmc.lastRead = some (answer (stored k)) ∧ t.mem = s.mem) ∧
      (∀ k, (s.mapAddr r.addr).1 = [k] → r.kind = .picture → s.cached r.addr = none →
        ∃ t, exec (.dramAccess r) s = .next t ∧ t.dmc.lastRead = some (answer (stored k)) ∧ t.cached r.addr = stored k ∧ t.mem = s.mem) ∧
      (∀ k v, (s.mapAddr r.addr).1 = [k] → r.kind = .picture → s.cached r.addr = some v → r.cacheErr ≠ .uncorrectable →
        ∃ t, exec (.dramAccess r) s = .next t ∧ t.dmc.lastRead = some (answer (some v)) ∧ t.mem = s.mem) ∧
      (∀ k v, (s.mapAddr r.addr).1 = [k] → r.kind = .picture → s.cached r.addr = some v → r.cacheErr = .uncorrectable →
        ∃ t, exec (.dramAccess r) s = .next t ∧ t.dmc.lastRead = some (answer (stored k)) ∧ t.mem = s.mem) ∧
      (∀ k0 k1 v, (s.mapAddr r.addr).1 = [k0, k1] → s.entryCopying k0 = false → stored k0 = some v →
        ∃ t, exec (.dramAccess r) s = .next t ∧ t.dmc.lastRead = some (answer (some v)) ∧ t.mem = s.mem) ∧
      (∀ k0 k1 v, (s.mapAddr r.addr).1 = [k0, k1] → s.entryCopying k0 = false → s.entryCopying k1 = false →
        stored k0 = none → stored k1 = some v → s.chanServes (place k0).1 = true →
        ∃ t, exec (.dramAccess r) s = .next t ∧ t.dmc.lastRead = some (answer (some v)) ∧
          memLine t.mem (cellAddr (place k0).1 ((place k0).2 / 64 * 64)) = some v) ∧
      (∀ k0 k1, (s.mapAddr r.addr).1 = [k0, k1] → stored k0 = none → stored k1 = none → r.owner = .none → s.boot.warmRun = false →
        ∃ t, exec (.dramAccess r) s = .next t ∧ t.dmc.lastRead = some (answer none) ∧ t.faulted fltMirrorLost subjNone = true)) ∧
    (r.kind = .syntax_ → r.cacheErr ≠ .uncorrectable →
      ∃ t, exec (.dramAccess r) s = .next t ∧ t.mem = s.mem ∧
        t.dmc.lastRead = some (answer ((s.dmc.syntaxLines.find? (fun e => e.line = r.addr / 64)).map (·.data)))) ∧
    (r.kind ≠ .syntax_ → r.kind ≠ .picture → r.addr + r.len ≤ s.usableSize → s.dmc.gap.isSome = true → s.heldFor r = none →
      exec (.dramAccess r) s = .next (s.after { s with dmc := { s.dmc with stalled := s.dmc.stalled ++ [r] } }))

/-- Where a write to DRAM lands (R447, R451, R455, R456, R468, R594). -/
def Obligations.DramWritesLandAtTheirPlaces : Prop :=
  ∀ (r : MemReq) (s : State), r.write = true →
    let place (k : Nat) := s.entryPlace k (s.mapAddr r.addr).2
    let data := r.data.take (64 - r.addr % 64)
    (r.kind ≠ .syntax_ → r.addr + r.len ≤ s.usableSize →
      (r.guarded = true → exec (.dramAccess r) s = .next (s.after (s.raise (faultCode 15 0 1) (subjOffset r.addr)))) ∧
      (r.guarded = false → s.dmc.gap = none → ∃ t, exec (.dramAccess r) s = .next t ∧
        t.legs = s.legs ∧ t.folds = s.folds ∧ t.streams = s.streams ∧
        (∀ a, (∀ k ∈ (s.mapAddr r.addr).1, a < cellAddr (place k).1 (place k).2 ∨ cellAddr (place k).1 (place k).2 + data.length ≤ a) →
          memByte t.mem a = memByte s.mem a) ∧
        (∀ k ∈ (s.mapAddr r.addr).1, s.chanServes (place k).1 = true →
          (data.length = 64 ∨ (memLine s.mem (cellAddr (place k).1 ((place k).2 / 64 * 64))).isSome = true) →
          ∀ i, i < data.length → memByte t.mem (cellAddr (place k).1 (place k).2 + i) = data[i]?)) ∧
      (r.guarded = false → s.dmc.gap.isSome = true → s.dmc.stalled = [] → s.heldBytes + r.data.length ≤ 25165824 →
        exec (.dramAccess r) s = .next (s.after { s with dmc := { s.dmc with hold := s.dmc.hold ++ [r] } }))) ∧
    (r.kind = .syntax_ → ∃ t, exec (.dramAccess r) s = .next t ∧ t.mem = s.mem ∧
      (t.dmc.syntaxLines.find? (fun e => e.line = r.addr / 64)).map (·.data) = some (r.data.take 64))

/-- The commands of the memory plane keep DRAM contents canonical. -/
def Obligations.MemoryCommandsKeepCanonicalForm : Prop :=
  ∀ (c : Instr) (s t : State), s.MemKept → exec c s = .next t →
    (∃ r, c = .dramAccess r) ∨ (∃ a b, c = .dramCorrectableError a b) ∨ (∃ a b g, c = .dramUncorrectableError a b g) ∨
    (∃ a b n e, c = .dramCommandError a b n e) ∨ (∃ a, c = .channelLost a) ∨ c = .copierSliceDone ∨ (∃ a, c = .rankMigrationDone a) ∨
    c = .mirrorRebuildDone ∨ (∃ b, c = .setPointGapEnd b) ∨ (∃ a b d p, c = .refreshDue a b d p) ∨ (∃ a b x y, c = .dimmTempRead a b x y) ∨
    c = .dqsDriftComp ∨ c = .zqLatch ∨ c = .rowTableClear ∨ (∃ a b d, c = .openRowTimeout a b d) →
    t.MemKept

/-- What memory errors and a channel's loss do (R457, R471, R472). -/
def Obligations.MemoryErrorsCountAndEscalate : Prop :=
  ∀ (c r : Nat) (s : State), c < 12 → r < 4 →
    (∃ t, exec (.dramCorrectableError c r) s = .next t ∧ t.getR (Reg.DMC_CH_CE c) = (s.getR (Reg.DMC_CH_CE c) + 1) % 2 ^ 32 ∧
      t.getR (Reg.DMC_CH_RANK_CE c r) = (s.getR (Reg.DMC_CH_RANK_CE c r) + 1) % 2 ^ 32) ∧
    (∀ a, exec (.dramUncorrectableError c a true) s = exec (.dramCorrectableError c (s.dramPlace c a).1) s) ∧
    (∀ a, ∃ t, exec (.dramUncorrectableError c a false) s = .next t ∧ memLine t.mem (cellAddr c (a / 64 * 64)) = none ∧
      (∀ x, x < cellAddr c (a / 64 * 64) ∨ cellAddr c (a / 64 * 64) + 64 ≤ x → memByte t.mem x = memByte s.mem x) ∧
      t.getR (Reg.DMC_CH_UE c) = (s.getR (Reg.DMC_CH_UE c) + 1) % 2 ^ 32) ∧
    (∀ n, exec (.dramCommandError c r n 0) s = .next (s.after (s.incR (Reg.DMC_CH_CMD_RETRY c) (Nat.min 3 n)))) ∧
    (∀ n, s.spareOn (s.chan c).dimm = true → s.getF (Reg.DMC_CH_STATUS c) 6 6 ≠ 1 → (s.chan c).migRank = none →
      ∃ t, exec (.dramCommandError c r n 1) s = .next t ∧ (t.chan c).migRank = some r ∧ t.getF (Reg.DMC_CH_STATUS c) 7 7 = 1 ∧
        t.dmc.jobs = s.dmc.jobs ++ [{ kind := .rank, chan := c, rank := r, steps := [{ chan := c }] }]) ∧
    (∀ n e, 2 ≤ e → exec (.dramCommandError c r n e) s
      = .next (s.after ((s.incR (Reg.DMC_CH_CMD_RETRY c) (Nat.min 3 n)).loseChan c))) ∧
    (∀ u, s.chanServes c = true → s.rehome c = some u → exec (.channelLost c) s = .next (s.after (u.fenceChan c))) ∧
    (s.chanServes c = true → s.rehome c = none →
      exec (.channelLost c) s = .next (s.after ((s.setChState c chFenced).raise fltReserveExhausted (subjChan c)))) ∧
    (s.chState c = chDrained ∨ s.chState c = chTraining → ∃ t, exec (.channelLost c) s = .next t ∧ t.chState c = chFenced ∧
      c ∈ t.tly.chOut ∧ (s.boot.warmRun = false → t.faulted fltChannelLost (subjChan c) = true)) ∧
    (s.chState c = chAbsent ∨ s.chState c = chFenced → exec (.channelLost c) s = .next (s.after s))

/-- What the channel commands and the copier's completions do (R444, R451, R469 to R475, R482). -/
def Obligations.CopierMovesSlicesAndRanks : Prop :=
  ∀ (c : Nat) (s : State), c < 12 →
    (s.answers (Reg.DMC_CH_CTRL c) = true →
      (∃ t, exec (.dmcDrain c) s = .next t ∧ (t.chan c).cmdPend = 1) ∧ (∃ t, exec (.dmcRetrain c) s = .next t ∧ (t.chan c).cmdPend = 2) ∧
      (∃ t, exec (.dmcRejoin c) s = .next t ∧ (t.chan c).cmdPend = 3) ∧ (∃ t, exec (.dmcFence c) s = .next t ∧ (t.chan c).cmdPend = 4)) ∧
    (∀ p o, s.chState c ≠ chTraining → exec (.retrainDone c p o) s = .next (s.after s)) ∧
    (∀ p o, s.chState c = chTraining → s.popOk p = true → s.trainOutcome p o s.dmc.setPoint ≠ 2 → (s.chan c).autoDrain = false →
      ((s.onChan c (fun x => { x with dimm := p, trained := o, slices := s.popSlices p, autoDrain := false })).fitDimm c p false).2 = true →
      ∃ t, exec (.retrainDone c p o) s = .next t ∧ t.chState c = chDrained ∧ (t.chan c).dimm = p ∧ (t.chan c).slices = s.popSlices p) ∧
    (∀ p o, s.chState c = chTraining → s.popOk p = false →
      ∃ t, exec (.retrainDone c p o) s = .next t ∧ t.chState c = chAbsent) ∧
    (s.dmc.jobs = [] → exec .copierSliceDone s = .next (s.after s) ∧ exec .mirrorRebuildDone s = .next (s.after s)) ∧
    (∀ j js x, s.dmc.jobs = j :: js → j.kind = .fill → j.steps = [x] →
      exec .copierSliceDone s = .next (s.after (({ s with dmc := { s.dmc with jobs := js } } : State).giveSlice x.chan x.slice))) ∧
    (∀ j js k d n, s.MemKept → s.dmc.jobs = j :: js → j.kind = .drain → j.chan = c → j.steps = [{ entry := some k, chan := d, slice := n }] →
      (s.chan c).autoDrain = false → cellAddr (s.remapOf k).1 ((s.remapOf k).2 * sliceBytes) ≠ cellAddr d (n * sliceBytes) →
      ∃ t, exec .copierSliceDone s = .next t ∧ t.remapOf k = (d, n) ∧ t.chState c = chDrained ∧
        ∀ i, i < sliceBytes → memByte t.mem (cellAddr d (n * sliceBytes) + i)
          = memByte s.mem (cellAddr (s.remapOf k).1 ((s.remapOf k).2 * sliceBytes) + i)) ∧
    ((s.chan c).migRank = none → exec (.rankMigrationDone c) s = .next (s.after s)) ∧
    (∀ r, r < 4 → (s.chan c).migRank = some r →
      ∃ t, exec (.rankMigrationDone c) s = .next t ∧ (t.chan c).migRank = none ∧ t.getF (Reg.DMC_CH_STATUS c) 6 6 = 1 ∧
        t.getF (Reg.DMC_CH_STATUS c) 7 7 = 0 ∧ t.getF (Reg.DMC_CH_STATUS c) 13 12 = r ∧
        (s.boot.warmRun = false → t.faulted fltRankSpared (subjRank c r) = true)) ∧
    (∀ j js k x rest, s.MemKept → s.dmc.jobs = j :: js → j.kind = .rebuild → j.steps = x :: rest → x.entry = some k →
      ∃ t, exec .mirrorRebuildDone s = .next t ∧ t.dmc.lostCopies = s.dmc.lostCopies.erase k ∧
        (cellAddr (s.remapOf (otherCopy k)).1 ((s.remapOf (otherCopy k)).2 * sliceBytes) ≠ cellAddr (s.remapOf k).1 ((s.remapOf k).2 * sliceBytes) →
          ∀ i, i < sliceBytes → memByte t.mem (cellAddr (s.remapOf k).1 ((s.remapOf k).2 * sliceBytes) + i)
            = memByte s.mem (cellAddr (s.remapOf (otherCopy k)).1 ((s.remapOf (otherCopy k)).2 * sliceBytes) + i)))

/-- Refresh, temperature, rows and the set point (R444, R460 to R468). -/
def Obligations.RefreshAndSetPointFollowTheirRules : Prop :=
  ∀ (c r b : Nat) (s : State), c < 12 →
    (∀ placed, ∃ t, exec (.refreshDue c r b placed) s = .next t ∧
      tget 0 (tget {} (t.chan c).ranks r).owed b = min 4 (max (-4) (tget 0 (tget {} (s.chan c).ranks r).owed b - (placed : Int)) + 1) ∧
      t.getR (Reg.DMC_CH_URGENT_REFRESH c) = (s.getR (Reg.DMC_CH_URGENT_REFRESH c) +
        (if 3 < tget 0 (tget {} (s.chan c).ranks r).owed b - (placed : Int) then 1 else 0)) % 2 ^ 32) ∧
    (∀ d x m, d < 2 → s.chState c ≠ chAbsent → s.chState c ≠ chFenced →
      ∃ t, exec (.dimmTempRead c d x m) s = .next t ∧ t.getF (Reg.DMC_CH_TEMP c) (8 * d + 7) (8 * d) = toBits 8 x ∧
        (85 < x ∨ m = true → bit (t.getR (Reg.DMC_CH_STATUS c)) (14 + d) = true) ∧
        (∀ n, 95 ≤ x → s.lowerSp = some n → s.dmc.wantSp = none →
          t.dmc.wantSp = some n ∧ (s.boot.warmRun = false → t.faulted fltDimmHot (subjChan c) = true))) ∧
    (∀ d x m, s.chState c = chAbsent ∨ s.chState c = chFenced → exec (.dimmTempRead c d x m) s = .next (s.after s)) ∧
    exec .dqsDriftComp s = .next (s.after { s with dmc := { s.dmc with dqs := s.now } }) ∧
    exec .zqLatch s = .next (s.after { s with dmc := { s.dmc with zq := s.now } }) ∧
    (s.now % 19 = 0 → ∃ t, exec .rowTableClear s = .next t ∧ (tget {} (tget {} (t.chan c).ranks r).banks b).rows = []) ∧
    (s.now % 19 ≠ 0 → exec .rowTableClear s = .next (s.after s)) ∧
    (∃ t, exec (.openRowTimeout c r b) s = .next t ∧ (tget {} (tget {} (t.chan c).ranks r).banks b).openRow = none ∧
      ∀ x, x ≠ b → tget {} (tget {} (t.chan c).ranks r).banks x = tget {} (tget {} (s.chan c).ranks r).banks x) ∧
    (∀ n, s.dmc.wantSp = some n → s.dmc.jobs = [] → s.dmc.gap = none → (∀ k, k < 12 → s.chState k ≠ chTraining) →
      ∃ t, exec .setPointSwitch s = .next t ∧ t.dmc.setPoint = n ∧ t.dmc.gap = some s.dmc.setPoint ∧ t.dmc.wantSp = none ∧
        t.getF Reg.DMC_CACHE_STATUS 16 16 = 1) ∧
    (s.dmc.wantSp = none ∨ s.dmc.jobs ≠ [] ∨ s.dmc.gap.isSome = true ∨ s.chState c = chTraining → exec .setPointSwitch s = .next (s.after s)) ∧
    (∀ old, s.dmc.gap = some old →
      (∃ t, exec (.setPointGapEnd true) s = .next t ∧ t.dmc.gap = none ∧ t.dmc.hold = [] ∧ t.dmc.stalled = [] ∧ t.dmc.setPoint = s.dmc.setPoint ∧
        t.getF Reg.DMC_CACHE_STATUS 16 16 = 0) ∧
      (∃ t, exec (.setPointGapEnd false) s = .next t ∧ t.dmc.gap = some s.dmc.setPoint ∧ t.dmc.setPoint = old ∧
        (s.boot.warmRun = false → t.faulted fltTrainingMarginal subjNone = true))) ∧
    (∀ i, s.dmc.gap = none → exec (.setPointGapEnd i) s = .next (s.after s)) ∧
    (s.dmc.hotFrom = none → exec .setPointRestore s = .next (s.after s)) ∧
    (∀ n, s.dmc.hotFrom = some n → s.now < s.dmc.warmTick + 600 → exec .setPointRestore s = .next (s.after s)) ∧
    (∀ n, s.dmc.hotFrom = some n → s.dmc.warmTick + 600 ≤ s.now →
      ∃ t, exec .setPointRestore s = .next t ∧ t.dmc.hotFrom = none ∧
        t.dmc.wantSp = (if s.dmc.setPoints.contains n then some n else none))

/-- What reset leaves: the Cold values and empty tables (R11, R555). -/
def Obligations.ResetLeavesColdValues : Prop :=
  (∀ d, State.reset.getR d = coldOf d % 2 ^ 32) ∧ State.reset.boot.inReset = true ∧ State.reset.pending = [] ∧ State.reset.mem = [] ∧
  State.reset.legs = [] ∧ State.reset.folds = [] ∧ State.reset.lcs = [] ∧ State.reset.streams = [] ∧ State.reset.flt.queue = [] ∧
  State.reset.twn.pair = .solo ∧ State.reset.tim.valid = false ∧ State.reset.tly.recs = []

/-- Power, the reset pin, thermal trips and regulator faults (R554, R555, R563, R567, R568, R704, R705, R713). -/
def Obligations.PowerAndTripsHoldOrStart : Prop :=
  ∀ (s : State),
    (∃ t, exec .powerLoss s = .next t ∧ t.boot.inReset = true ∧ t.boot.alwaysOnFatal = 0 ∧ t.boot.thermalHold = false ∧ t.tly = s.tly ∧
      t.boot.flash = s.boot.flash ∧ t.boot.mgmtKeys = s.boot.mgmtKeys ∧ t.cip.keks = s.cip.keks ∧ t.pending = s.pending ∧
      t.legs = [] ∧ t.folds = [] ∧ t.lcs = [] ∧ t.streams = [] ∧ t.mem = [] ∧
      (∀ d, d ∉ [Reg.DEV_TICK_NUMBER, Reg.DEV_TICK_NUMBER + 1, Reg.DEV_TICK_STATUS, Reg.TIME_TB_STATUS, Reg.TWN_PAIR_STATUS, Reg.TWN_EPOCH,
        Reg.MGT_TALLY_SEQ] → t.getR d = coldOf d % 2 ^ 32)) ∧
    (s.boot.thermalHold = true → exec .thermalTrip s = .next (s.after s) ∧ (∀ env, exec (.resetPin env) s = .next (s.after s)) ∧
      ∀ env, exec (.thermalTripEnd env) s = .next (s.after
        (({ s with boot := { s.boot with env := env, thermalHold := false }, pins := { s.pins with thermTrip := false } }).startUp 1 (some 3)))) ∧
    (s.boot.thermalHold = false → (∀ env, exec (.thermalTripEnd env) s = .next (s.after s)) ∧
      (∀ env, exec (.resetPin env) s = .next (s.after (({ s with boot := { s.boot with env := env } }).startUp 1 (some 1)))) ∧
      ∃ t, exec .thermalTrip s = .next t ∧ t.boot.inReset = true ∧ t.boot.thermalHold = true ∧ t.pins.thermTrip = true ∧ t.legs = [] ∧ t.mem = [] ∧
        (s.boot.inReset = false → t.tly.journal =
          (s.journal { tick := s.faultTick, code := fltThermalTrip, subject := subjNone, hwQueued := s.boot.warmRun }).tly.journal)) ∧
    (∀ env fl, exec (.powerOn env fl) s = .next (s.after (({ s with boot := { s.boot with
      env := env, flash := fl.getD s.boot.flash, alwaysOnFatal := 0, thermalHold := false } }).startUp 0 (some 0)))) ∧
    (∀ env fl c, sumN (env.strap.map (· % 64)) / 8 = 0 ∨ sumN (env.strap.map (· % 64)) / 8 = 63 →
      c = Instr.powerOn env fl ∨ (s.boot.thermalHold = false ∧ c = Instr.resetPin env) →
      ∃ t, exec c s = .next t ∧ t.boot.halted = true ∧ t.boot.env = env ∧ t.getF Reg.BOOT_STATUS 3 0 = 15 ∧
        t.getF Reg.BOOT_STATUS 31 16 = fltStrap) ∧
    (s.boot.inReset = false → s.boot.halted = false → exec (.avsAlert true) s = .next (s.after
      (({ s with free := s.free + 1 }).raise (faultCode 1 4 (Config.freeNat s.free % 256)) subjNone).settleFatal)) ∧
    (∀ b, b = false ∨ s.boot.inReset = true ∨ s.boot.halted = true → exec (.avsAlert b) s = .next (s.after s))

/-- Warm resets and what drives them (R554, R556, R557, R558, R579, R580). -/
def Obligations.WarmResetsRestartTheCores : Prop :=
  ∀ (s : State),
    (s.up = true → s.sealed = true → ∃ t, exec .warmResetPin s = .next t ∧ t.boot.warmRun = true ∧ t.boot.warmCause = 4 ∧
      (∀ c, c < 4 → t.getF (Reg.MGT_CORE_STATUS c) 1 0 = 2) ∧
      (s.boot.warmRun = false → t.getR Reg.BOOT_WARM_REMAIN = (if s.boot.opt.warmBudget = 0 then 36000 else s.boot.opt.warmBudget) % 2 ^ 32) ∧
      t.legs = s.legs ∧ t.folds = s.folds ∧ t.lcs = s.lcs ∧ t.streams = s.streams ∧ t.mem = s.mem ∧ t.tim = s.tim) ∧
    (s.up = true → s.sealed = false → exec .warmResetPin s = .next (s.after (s.startUp 1 (some 4)))) ∧
    (s.up = false → s.boot.waitHost = false → exec .warmResetPin s = .next (s.after s)) ∧
    (∀ m, s.serves m 0x0301 .both = true → exec (.warmReset m) s = .next (s.after
      (((s.taken m 0x0301).reply (s.replyTo m 0x0301) stOK).warmReset 6))) ∧
    (∀ key, s.answers Reg.BOOT_RESET_CTRL = true →
      let v := 1 + key % 65536 * 65536
      let u := s.written Reg.BOOT_RESET_CTRL v (3 + 0xFFFF * 65536)
      exec (.resetCtrlWarm key) s = .next (s.after (if key % 65536 = 0x57A2 then u.warmReset 6 else u.accessIgnored Reg.BOOT_RESET_CTRL v))) ∧
    (s.up = true → s.getF Reg.BOOT_WATCHDOG 16 16 = 1 → exec .watchdogExpiry s = .next (s.after ((s.raise fltWatchdog subjNone).warmReset 5))) ∧
    (s.getF Reg.BOOT_WATCHDOG 16 16 = 0 → exec .watchdogExpiry s = .next (s.after s)) ∧
    (∀ v, s.answers Reg.BOOT_WATCHDOG_KICK = true → ∃ t, exec (.watchdogKick v) s = .next t ∧ t.getF Reg.BOOT_WATCHDOG 16 16 = 1) ∧
    (s.boot.warmRun = true → s.getF Reg.BOOT_WARM_REMAIN 15 0 = 0 →
      exec .warmBudgetExpiry s = .next (s.after ((s.raise fltWarmBudget subjNone).settleFatal))) ∧
    (s.boot.warmRun = false ∨ s.getF Reg.BOOT_WARM_REMAIN 15 0 ≠ 0 → exec .warmBudgetExpiry s = .next (s.after s)) ∧
    (s.boot.warmRun = false → exec .mgmtResume s = .next (s.after s)) ∧
    (s.boot.warmRun = true → s.upd.fallAt = none → s.boot.sdState ≠ 1 → ∃ t, exec .mgmtResume s = .next t ∧ t.boot.warmRun = false ∧
      t.boot.hwq = [] ∧ t.flt.queue = s.flt.queue ++ s.boot.hwq ∧ t.getR Reg.BOOT_WARM_REMAIN = 0 ∧ t.getF Reg.BOOT_WATCHDOG 16 16 = 1)

/-- Plane resets, maintenance, block resets and host boot (R559, R560, R570, R579, R580, R637). -/
def Obligations.PlaneAndBlockResetsRun : Prop :=
  ∀ (s : State),
    (∀ m, s.serves m 0x0302 .both = true → exec (.planeReset m) s = .next (s.after
      (((s.taken m 0x0302).reply (s.replyTo m 0x0302) stOK).askPlane .command none))) ∧
    (∀ key, s.answers Reg.BOOT_RESET_CTRL = true → s.up = true → s.sealed = true → key % 65536 = 0x57A2 →
      exec (.resetCtrlPlane key) s = .next (s.after
        ((s.written Reg.BOOT_RESET_CTRL (2 + key % 65536 * 65536) (3 + 0xFFFF * 65536)).askPlane .command none))) ∧
    (∀ key, s.answers Reg.BOOT_RESET_CTRL = true → key % 65536 ≠ 0x57A2 → exec (.resetCtrlPlane key) s = .next (s.after
      ((s.written Reg.BOOT_RESET_CTRL (2 + key % 65536 * 65536) (3 + 0xFFFF * 65536)).accessIgnored Reg.BOOT_RESET_CTRL
        (2 + key % 65536 * 65536)))) ∧
    (∀ m, s.serves m 0x0303 .both = true →
      let u := s.taken m 0x0303
      let rto := s.replyTo m 0x0303
      exec (.maintenanceEntry m) s = .next (s.after (if u.boot.maint then u.reply rto stInvalid
        else if u.boot.opt.maintLock then u.reply rto stRefused (.reason 0) else (u.reply rto stOK).askPlane .maintenance (some true)))) ∧
    (∀ m, s.serves m 0x0304 .both = true →
      let u := s.taken m 0x0304
      let rto := s.replyTo m 0x0304
      exec (.maintenanceExit m) s = .next (s.after (if !u.boot.maint || bit (u.getF Reg.BOOT_STRAP 9 6) 0 then u.reply rto stInvalid
        else (u.reply rto stOK).askPlane .maintenance (some false)))) ∧
    (s.boot.planePend = none ∨ s.up = false ∨ s.sealed = false → exec .planeResetStart s = .next (s.after s)) ∧
    (∀ c, s.boot.planePend = some c → s.up = true → s.sealed = true → ∃ t, exec .planeResetStart s = .next t ∧
      t.legs = [] ∧ t.folds = [] ∧ t.lcs = [] ∧ t.streams = [] ∧ t.cip.slots = [] ∧ t.adm.pend = [] ∧ t.adm.staged = [] ∧
      t.boot.planePend = none ∧ t.boot.planeRun = true ∧ t.boot.planeStopped = true ∧ t.boot.planeCause = some c ∧
      t.getF Reg.DRV_STATUS 31 31 = 1) ∧
    (∀ tests, s.boot.planeRun = false → exec (.planeReady tests) s = .next (s.after s)) ∧
    (∀ tests, s.boot.planeRun = true → ∃ t, exec (.planeReady tests) s = .next t ∧ t.boot.planeRun = false ∧ t.boot.planeCause = none ∧
      t.boot.maint = s.boot.planeMaint.getD s.boot.maint ∧ t.boot.planeStopped = false ∧
      t.getF Reg.DRV_STATUS 31 31 = b2n (s.boot.planeMaint.getD s.boot.maint) ∧
      bit (t.getR Reg.BOOT_RESET_CAUSE) (s.boot.planeCause.getD .command).bit = true) ∧
    (∀ v, s.answers Reg.BOOT_SOFT_RESET = true →
      let u := s.written Reg.BOOT_SOFT_RESET v (2 ^ 32 - 1)
      exec (.softReset v) s = .next (s.after (if v / 65536 % 65536 = 0x57A2 then
        { u with boot := { u.boot with softPend := u.boot.softPend ++ [v % 65536] } } else u.accessIgnored Reg.BOOT_SOFT_RESET v))) ∧
    (∀ pass, s.boot.softRun = [] → exec (.softResetDone pass) s = .next (s.after s)) ∧
    (∀ pass x rest, s.boot.softRun = x :: rest → ∃ t, exec (.softResetDone pass) s = .next t ∧ t.boot.softRun = rest ∧
      t.getF Reg.BOOT_SOFT_STATUS 0 0 = b2n (!rest.isEmpty) ∧ t.getF Reg.BOOT_SOFT_STATUS 2 2 = b2n pass) ∧
    (∀ v cont, s.answers Reg.BOOT_HOST_BOOT = true → v / 65536 % 65536 ≠ 0x57A2 ∨ s.boot.waitHost = false →
      exec (.hostBootStart v cont) s = .next (s.after (s.written Reg.BOOT_HOST_BOOT v (0xFFFF * 65536)))) ∧
    (∀ v cont, s.answers Reg.BOOT_HOST_BOOT = true → v / 65536 % 65536 = 0x57A2 → s.boot.waitHost = true →
      let u := s.written Reg.BOOT_HOST_BOOT v (0xFFFF * 65536)
      let r := if 100663296 < u.getR Reg.BOOT_HOST_BOOT_LEN then 6 else cont.bootReason u.boot.opt u.boot.flash.slotBytes
      let w := ({ u with boot := { u.boot with waitHost := false } } : State).setF Reg.BOOT_HOST_BOOT 15 0 (if r = 0 then 2 else 4 + r * 256)
      exec (.hostBootStart v cont) s = .next (s.after ((if r = 0 then
        (({ w with boot := { w.boot with hostCont := some cont } } : State).bootStatus 8 7 3).runFirmware cont.hdr
        else w.flashFirmware true).startRest.startEnd))) ∧
    (s.boot.waitHost = false → exec .hostBootTimeout s = .next (s.after s)) ∧
    (s.boot.waitHost = true → exec .hostBootTimeout s = .next (s.after
      ((((({ s with boot := { s.boot with waitHost := false } } : State).setF Reg.BOOT_HOST_BOOT 0 0 0).flashFirmware true).startRest).startEnd)))

/-- The tick grid, the cadence codes and the timestamps of fractional rates (R18, R24, R36). -/
def Obligations.TicksAndTimestampsFollowTheGrid : Prop :=
  (∀ S k, k < 600 → tickNs (S * 600 + k) = S * 1000000000 + k * 5000000 / 3) ∧
  (∀ S, tickNs (S * 600 + 600) = (S + 1) * 1000000000) ∧ (∀ t, tickLen t = tickNs (t + 1) - tickNs t) ∧
  (∀ t v, tickNs t * 2 ^ 32 < v → v ≤ tickNs (t + 1) * 2 ^ 32 → tickAfter v = t + 1) ∧
  ((List.range 12).map (fun c => (cadenceP c, nominalFps c, fractional c)) =
    [(some 5, 120, false), (some 6, 100, false), (some 10, 60, false), (some 12, 50, false), (some 20, 30, false), (some 24, 25, false),
     (some 25, 24, false), (some 40, 15, false), (some 5, 120, true), (some 10, 60, true), (some 20, 30, true), (some 25, 24, true)]) ∧
  (∀ c, 0xC ≤ c → c ≤ 0xFF → cadenceP c = none) ∧
  (∀ c m base, fractional c = true → base + pictureTs c m = base + m * 90000 * 1001 / (1000 * nominalFps c)) ∧
  (∀ m, pictureTs 0xA (m + 1) = pictureTs 0xA m + 3003) ∧
  (∀ m, pictureTs 0x9 (2 * m + 1) = pictureTs 0x9 (2 * m) + 1501 ∧ pictureTs 0x9 (2 * m + 2) = pictureTs 0x9 (2 * m + 1) + 1502) ∧
  (∀ c φ t, fractional c = true → φ < periodOf c → (isDue c φ t = true ↔
    ∃ K n, n < 1000 ∧ t = K * (1001 * periodOf c) + n * 1001 * periodOf c / 1000 + φ))

/-- The tick boundary and the snapshots (R15, R109 and the select rules). -/
def Obligations.BoundariesAndSnapshots : Prop :=
  ∀ (s : State),
    (∀ i, s.up = false → exec (.tickBoundary i) s = .next (s.after s)) ∧
    (∀ i, s.up = true → s.flt.queue.any (fun f => classOf f.code = 4) = true → exec (.tickBoundary i) s = .next (s.after s.settleFatal)) ∧
    (∀ i, s.up = true → s.flt.queue.any (fun f => classOf f.code = 4) = false →
      let e := s.endTick i
      let u := ({ e with out := [], host := { e.host with wireSvc := [] } } : State).timBoundary
      exec (.tickBoundary i) s = .next (s.after (if s.tim.valid && u.tim.valid then
        u.nextTick s.now (s.getR Reg.DEV_TICK_STATUS) (s.digestLegs.map s.digestOf) (e.flt.fresh.any (fun x => classOf x.code = 3)) i.writes
        else u.clearTick.tellBoundary.unknownBoundary.showReady))) ∧
    (∀ v c d, (c, d) ∈ [(Instr.netPeLegSelect v, Reg.NET_PE_LEG_SELECT), (.cipKsSlotSelect v, Reg.CIP_KS_SLOT_SELECT),
        (.audFoldSelect v, Reg.AUD_FOLD_SELECT), (.audLegSelect v, Reg.AUD_LEG_SELECT), (.venStreamSelect v, Reg.VEN_STREAM_SELECT),
        (.venLcSelect v, Reg.VEN_LC_SELECT), (.cmpOutputSelect v, Reg.CMP_OUTPUT_SELECT), (.lacViewerSelect v, Reg.LAC_VIEWER_SELECT),
        (.lacFwdLegSelect v, Reg.LAC_FWD_LEG_SELECT), (.lacAdaptLegSelect v, Reg.LAC_ADAPT_LEG_SELECT), (.egsLegSelect v, Reg.EGS_LEG_SELECT),
        (.drvTaskSelect v, Reg.DRV_TASK_SELECT), (.dmcRemapSelect v, Reg.DMC_REMAP_SELECT), (.bootInvSelect v, Reg.BOOT_INV_SELECT)] →
      s.answers d = true → ∃ t, exec c s = .next t ∧ d ∈ t.selPend ∧ t.getF d 31 31 = 0 ∧
        (∀ f ∈ fieldsOf d, f.acc = .rw → t.getF d f.hi f.lo = bits v f.hi f.lo)) ∧
    (∃ t, exec .snapshotLatch s = .next t ∧ t.selPend = [] ∧ (∀ d ∈ s.selPend, d ∈ selectRegs → (∀ x ∈ s.selPend, x ∈ selectRegs) → t.getF d 31 31 = 1)) ∧
    (s.selPend = [Reg.DRV_TASK_SELECT] → ∃ t, exec .snapshotLatch s = .next t ∧
      ∀ k, k < 6 → t.getR (Reg.DRV_TASK_CTR k) = tget 0 (s.task (s.getF Reg.DRV_TASK_SELECT 15 0)).ctr k % 2 ^ 32)

/-- The rings of the host link (R636 to R642, R646). -/
def Obligations.RingsMoveAndStop : Prop :=
  ∀ (r v : Nat) (s : State), r < 35 →
    (s.answers (Reg.DEV_RING_TAIL r) = true →
      (r < 16 → exec (.ringTailWrite r v) s = .next (s.after ((s.written (Reg.DEV_RING_TAIL r) v (2 ^ 32 - 1)).setR (Reg.DEV_RING_TAIL r) v))) ∧
      (16 ≤ r → exec (.ringTailWrite r v) s = .next (s.after (s.written (Reg.DEV_RING_TAIL r) v 0)))) ∧
    (s.answers (Reg.DEV_RING_HEAD r) = true →
      (r < 16 → exec (.ringHeadWrite r v) s = .next (s.after (s.written (Reg.DEV_RING_HEAD r) v 0))) ∧
      (16 ≤ r → exec (.ringHeadWrite r v) s = .next (s.after
        ((s.written (Reg.DEV_RING_HEAD r) v (2 ^ 32 - 1)).setR (Reg.DEV_RING_HEAD r) v).flushBlocked))) ∧
    (s.answers (Reg.DEV_RING_CONFIG r) = true →
      (s.ringOn r = false → ∃ t, exec (.ringEnable r v) s = .next t ∧ t.ringOn r = true ∧ t.getR (Reg.DEV_RING_HEAD r) = 0 ∧
        t.getF (Reg.DEV_RING_CONFIG r) 10 10 = 0 ∧ (s.host.blocked = [] → t.getR (Reg.DEV_RING_TAIL r) = 0)) ∧
      (s.ringOn r = true → exec (.ringEnable r v) s = .next (s.after
        (({ s with host := { s.host with readLatch := none } } : State).accessIgnored (Reg.DEV_RING_CONFIG r) ((v ||| 512) % 2 ^ 32)))) ∧
      (∃ t, exec (.ringDisable r v) s = .next t ∧ t.ringOn r = false)) ∧
    (s.boot.inReset = false → s.ringOn r = true → ∃ t, exec (.ringDma r) s = .next t ∧ t.ringOn r = false ∧
      t.getF (Reg.DEV_RING_CONFIG r) 10 10 = 1 ∧ (s.boot.warmRun = false → t.faulted fltRingDma (subjUnit 0 0 r) = true)) ∧
    (s.ringOn r = false → exec (.ringDma r) s = .next (s.after s)) ∧
    (∀ typ q target, r < 16 → s.up = true → s.boot.warmRun = false → s.ringOn r = true → s.ringUsed r ≠ 0 →
      s.host.blocked.any (fun b => b.dst.src = .ring r) = false → s.host.fetched < 4096 →
      ∃ t, exec (.messageFetch r typ q target) s = .next t ∧ t.getR (Reg.DEV_RING_HEAD r) = (s.getR (Reg.DEV_RING_HEAD r) + 1) % 2 ^ 32 ∧
        t.host.fetched = s.host.fetched + 1 ∧ t.host.arrived = s.host.arrived ++
          [{ src := .ring r, typ := typ, seq := q, target := target, tick := s.now, gen := s.host.flrGen }]) ∧
    (∀ typ q target, s.ringUsed r = 0 → exec (.messageFetch r typ q target) s = .next (s.after s)) ∧
    (s.boot.inReset = false → ∃ t, exec .functionLevelReset s = .next t ∧ t.ringOn r = false ∧ t.host.msix = 0 ∧ t.host.irqPend = [] ∧
      t.host.flrGen = s.host.flrGen + 1 ∧ t.getF Reg.DEV_HOST_STATUS 15 8 = Nat.min 255 (s.getF Reg.DEV_HOST_STATUS 15 8 + 1) ∧
      t.legs = s.legs ∧ t.folds = s.folds ∧ t.tly = s.tly ∧ t.mem = s.mem)

/-- When a device-to-host ring's vector is signalled (R643). -/
def Obligations.VectorsFollowModeration : Prop :=
  ∀ (r us : Nat) (s : State), 16 ≤ r → r < 35 → s.boot.inReset = false →
    let v := r - 16
    let last := tget 0 s.host.irqLast v
    let due := s.host.irqPend.contains r && (last == 0 || decide (last - 1 + s.getF (Reg.DEV_RING_CONFIG r) 31 16 ≤ us))
    let own : BitVec 64 := BitVec.ofNat 64 (2 ^ v)
    (∀ n it, r ∈ (s.ringPut r n it).host.irqPend) ∧
    (due = true → ∃ t, exec (.irqModeration r us true false) s = .next t ∧ t.out = s.out ++ [.other 20 [v]] ∧ r ∉ t.host.irqPend ∧
      tget 0 t.host.irqLast v = us + 1 ∧ t.host.msix = s.host.msix &&& ~~~ own) ∧
    (due = true → ∃ t, exec (.irqModeration r us true true) s = .next t ∧ t.out = s.out ∧ r ∉ t.host.irqPend ∧ t.host.msix = s.host.msix ||| own) ∧
    (due = false → s.host.msix &&& own ≠ 0 → ∃ t, exec (.irqModeration r us true false) s = .next t ∧ t.out = s.out ++ [.other 20 [v]] ∧
      t.host.msix = s.host.msix &&& ~~~ own ∧ t.host.irqPend = s.host.irqPend) ∧
    (∀ e m, e = false ∨ (due = false ∧ (m = true ∨ s.host.msix &&& own = 0)) →
      ∃ t, exec (.irqModeration r us e m) s = .next t ∧ t.out = s.out ∧ t.host.msix = s.host.msix ∧ t.host.irqPend = s.host.irqPend)

/-- Register accesses and the service port (R11 to R15, R635, R651 to R655, R662). -/
def Obligations.AccessesAndDatagramsAreChecked : Prop :=
  ∀ (s : State),
    (∀ off cyc, s.boot.inReset = false → s.host.readLatch = none → ∃ t, exec (.registerRead64 off cyc) s = .next t ∧
      t.host.lastRead = some (BitVec.ofNat 32 (s.view (dwordAt off) cyc)) ∧
      (wideLow (dwordAt off) = true → dwordAt off ≠ Reg.TIME_TB_NOW → s.decodes (dwordAt off) = true →
        t.host.readLatch = some (dwordAt off + 1, [BitVec.ofNat 32 (s.view (dwordAt off + 1) cyc)]))) ∧
    (∀ off cyc n v, s.boot.inReset = false → s.host.readLatch = some (n, [v]) →
      ∃ t, exec (.registerRead64 off cyc) s = .next t ∧
        (dwordAt off = n → t.host.lastRead = some v ∧ t.host.readLatch = none) ∧
        (dwordAt off ≠ n → t.host.lastRead = some (BitVec.ofNat 32 (s.view (dwordAt off) cyc)))) ∧
    (∀ off v e cyc, s.boot.inReset = false → s.decodes (dwordAt off) = true → e ≠ 15 → exec (.registerWrite off v e cyc) s = .next (s.after
      (({ s with host := { s.host with readLatch := none } } : State).accessIgnored (dwordAt off) (v % 2 ^ 32)))) ∧
    (∀ off v e cyc, s.boot.inReset = true ∨ s.decodes (dwordAt off) = false → exec (.registerWrite off v e cyc) s = .next (s.after s)) ∧
    (∀ off v cyc, s.boot.inReset = false → s.decodes (dwordAt off) = true → ownWrite (dwordAt off) (v % 2 ^ 32) s = none →
      exec (.registerWrite off v 15 cyc) s = .next (s.after (plainWrite (dwordAt off) (v % 2 ^ 32) cyc s))) ∧
    (∀ v cyc, v < 2 ^ 32 → exec (.registerWrite (4 * Reg.DRV_TASK_SELECT) v 15 cyc) s = exec (.drvTaskSelect v) s) ∧
    (∀ d, s.up = true → s.boot.warmRun = false → s.svcOn = true →
      let k := tget {} s.boot.mgmtKeys d.key
      let good := d.addrOk = true ∧ d.n ≤ 1408 ∧ d.key < 2 ∧ k.written = true ∧ k.revoked = false ∧ d.tagOk = true ∧
        tget 0 s.tly.svcAccepted d.key ≤ d.counter
      (d.addrOk = false ∨ 1408 < d.n → exec (.serviceDatagram d) s = .next (s.after (s.svcDrop 1 false))) ∧
      (d.addrOk = true → d.n ≤ 1408 → 2 ≤ d.key ∨ k.written = false ∨ k.revoked = true ∨ d.tagOk = false →
        exec (.serviceDatagram d) s = .next (s.after (s.svcDrop 1 true))) ∧
      (d.addrOk = true → d.n ≤ 1408 → d.key < 2 → k.written = true → k.revoked = false → d.tagOk = true →
        d.counter < tget 0 s.tly.svcAccepted d.key → exec (.serviceDatagram d) s = .next (s.after (s.svcDrop 2 true))) ∧
      (good → s.host.svcTokens < 600 → exec (.serviceDatagram d) s = .next (s.after (s.svcDrop 3 false))) ∧
      (good → 600 ≤ s.host.svcTokens → ∃ t, exec (.serviceDatagram d) s = .next t ∧ t.host.svcTokens = s.host.svcTokens - 600 ∧
        tget 0 t.tly.svcAccepted d.key = d.counter + 1 ∧
        ((∀ c ∈ s.host.svcCache, ¬ (c.key = d.key ∧ c.seq = d.seq)) → t.host.arrived = s.host.arrived ++
          [{ src := .svc d.key, typ := d.typ, seq := d.seq, target := d.target, tick := s.now, gen := s.host.flrGen }]) ∧
        (∀ c r rest, s.host.svcCache = c :: rest → c.key = d.key → c.seq = d.seq → s.now ≤ c.tick + 600 → c.reply = some r →
          t.host.arrived = s.host.arrived ∧ ∃ x, t.host.wireSvc = s.host.wireSvc ++ [x] ∧ x.key = d.key ∧ x.body = .reply r))) ∧
    (∀ kind tagged a, exec (.servicePortFrame kind tagged a) s = .next (s.after
      (if s.up = true ∧ s.boot.warmRun = false ∧ s.svcOn = true ∧ s.getF Reg.DEV_SVC_STATUS 1 1 ≠ 0 ∧ tagged = false ∧ s.svcOwns kind a = true then
        { s with host := { s.host with wireSvc := s.host.wireSvc ++ [{ body := .answer kind.code }] } } else s))) ∧
    (s.boot.inReset = false → s.boot.halted = false →
      let u : State := { s with boot := { s.boot with alwaysOnFatal := fltTallyCommit } }
      exec .tallyCommitTimeout s = .next (s.after (if s.sealed then u.noteFatalReset.startUp 1 (some 2) else u.haltAt fltTallyCommit))) ∧
    (s.boot.inReset = true ∨ s.boot.halted = true → exec .tallyCommitTimeout s = .next (s.after s))

/-- What the time inputs measure (R495 to R497, R503, R505). -/
def Obligations.TimeInputsMeasure : Prop :=
  ∀ (s : State),
    (∀ d e, (d = 1 ∧ e = 2) ∨ (d = 2 ∧ e = 1) →
      (∀ m, s.ptpFor d m.hdr = true → s.ptpFor e m.hdr = false →
        (s.ptpTakes d m.hdr = false ∨ s.fromMaster d m.hdr = false → exec (.ptpSync m) s = .next (s.after (s.domCount d 4))) ∧
        (s.ptpTakes d m.hdr = true → s.fromMaster d m.hdr = true → m.followUp = false → m.twoStep = false →
          ∃ t, exec (.ptpSync m) s = .next t ∧ (t.dom d).lastSync = some (32 * (m.origin : Int) + m.corr / 2048, s.rxStamp m.hdr) ∧
            (t.dom d).syncPend = none ∧ t.getR (Reg.TIME_DOM_CTR (d - 1) 0) = (s.getR (Reg.TIME_DOM_CTR (d - 1) 0) + 1) % 2 ^ 32) ∧
        (s.ptpTakes d m.hdr = true → s.fromMaster d m.hdr = true → m.followUp = false → m.twoStep = true →
          ∃ t, exec (.ptpSync m) s = .next t ∧ (t.dom d).syncPend = some { seq := m.hdr.seq, x := s.rxStamp m.hdr, corr := m.corr }) ∧
        (∀ p, s.ptpTakes d m.hdr = true → s.fromMaster d m.hdr = true → m.followUp = true → (s.dom d).syncPend = some p → p.seq = m.hdr.seq →
          ∃ t, exec (.ptpSync m) s = .next t ∧ (t.dom d).lastSync = some (32 * (m.origin : Int) + (m.corr + p.corr) / 2048, p.x) ∧
            (t.dom d).syncPend = none)) ∧
      (∀ a, s.ptpFor d a.hdr = true → s.ptpFor e a.hdr = false → s.ptpTakes d a.hdr = true →
        ∃ t, exec (.ptpAnnounce a) s = .next t ∧ t.getR (Reg.TIME_DOM_CTR (d - 1) 1) = (s.getR (Reg.TIME_DOM_CTR (d - 1) 1) + 1) % 2 ^ 32 ∧
          ∃ x ∈ (t.dom d).masters, x.ann = a ∧ x.last = 8 * a.hdr.cap.count + a.hdr.cap.phase) ∧
      (∀ r q, s.ptpFor d r.hdr = true → s.ptpFor e r.hdr = false → s.ptpTakes d r.hdr = true → (s.dom d).reqSent = some q → q.seq = r.hdr.seq →
        ∃ t, exec (.ptpDelayResp r) s = .next t ∧ (t.dom d).reqSent = none ∧
          (s.getF (Reg.TIME_DOM_CONFIG (d - 1)) 22 22 = 1 →
            (t.dom d).delay = (s.rxStamp r.hdr - q.x - 32 * (r.turnaround : Int) - r.corr / 2048) / 2) ∧
          (∀ t1 t2, s.getF (Reg.TIME_DOM_CONFIG (d - 1)) 22 22 ≠ 1 → (s.dom d).lastSync = some (t1, t2) →
            (t.dom d).delay = ((t2 - t1) + (32 * (r.recvNs : Int) - r.corr / 2048 - q.x)) / 2)) ∧
      (∀ h, s.ptpFor d h = true → s.ptpFor e h = false → s.ptpTakes d h = true → s.getF (Reg.TIME_DOM_CONFIG (d - 1)) 22 22 = 1 →
        exec (.ptpPdelayReq h) s = .next (s.after (s.packetisePort h.port 7 5 (ptpLen h.transport 54)))) ∧
      ((s.dom d).master = none → ∀ c, exec (.ptpDelayReqSend d c) s = .next (s.after s)) ∧
      (∀ m c, (s.dom d).master = some m → ∃ t, exec (.ptpDelayReqSend d c) s = .next t ∧ (t.dom d).reqSeq = ((s.dom d).reqSeq + 1) % 65536 ∧
        (t.dom d).reqSent = some { seq := (s.dom d).reqSeq, x := c.x + 32 * fromBits 16 (s.getF (Reg.TIME_TSU_COMP (4 * m.ann.hdr.port)) 31 16) }) ∧
      (s.srcState d = 2 ∨ s.srcState d = 3 → ∃ t, exec (.ptpDomainLost d) s = .next t ∧ t.srcState d = 4 ∧ (t.dom d).master = none ∧
        (t.dom d).meas = [] ∧ (t.dom d).reqSent = none) ∧
      (s.srcState d ≠ 2 → s.srcState d ≠ 3 → exec (.ptpDomainLost d) s = .next (s.after s))) ∧
    (∀ c h, s.ptpFor 1 h = false → s.ptpFor 2 h = false → (∃ m, c = Instr.ptpSync m ∧ m.hdr = h) ∨ (∃ a, c = Instr.ptpAnnounce a ∧ a.hdr = h) ∨
      (∃ r, c = Instr.ptpDelayResp r ∧ r.hdr = h) ∨ c = Instr.ptpPdelayReq h → exec c s = .next (s.after s)) ∧
    (∀ bs n, bs.length = 16 → bs.take 2 = [0x4E#8, 0x59#8] → beNat (bs.drop 14) = (crc16 (bs.take 14)).toNat →
      ∃ t f, exec (.timeTodInFrame bs n) s = .next t ∧ t.tim.ext.frame = some f ∧ f.seconds = beNat ((bs.drop 4).take 6) ∧ f.count = n ∧
        f.locked = bit (bs.getD 3 0).toNat 0 ∧ f.leap61 = bit (bs.getD 3 0).toNat 2 ∧ f.leap59 = bit (bs.getD 3 0).toNat 3 ∧
        f.utc = (if bit (bs.getD 3 0).toNat 4 then some (fromBits 16 (beNat ((bs.drop 10).take 2))) else none)) ∧
    (∀ bs n, bs.length ≠ 16 ∨ bs.take 2 ≠ [0x4E#8, 0x59#8] ∨ beNat (bs.drop 14) ≠ (crc16 (bs.take 14)).toNat →
      exec (.timeTodInFrame bs n) s = .next (s.after ((s.incR Reg.TIME_TOD_ERRORS).raiseOnce fltTodFormat subjNone 600))) ∧
    (∀ c f, s.tim.ext.frame = some f → f.locked = true → f.count ≤ c.count → c.count ≤ f.count + 800000000 →
      ∃ t, exec (.timePpsInEdge c) s = .next t ∧ t.tim.ext.frame = none ∧ (t.srcState 3 = 2 ∨ t.srcState 3 = 3) ∧
        (t.tim.ext.meas.getLast?).map (fun m => m.x + m.y) = some (32 * (s.extendSec f.seconds * 1000000000 : Nat))) ∧
    (∀ c, s.tim.ext.frame = none → exec (.timePpsInEdge c) s = .next (s.after s)) ∧
    (∃ t, exec .extInputLost s = .next t ∧ t.srcState 3 = 4 ∧ t.tim.ext.meas = [])

/-- Selection, holdover, steps and outputs of time (R494, R498 to R500, R504, R506). -/
def Obligations.TimeSelectsHoldsAndSteps : Prop :=
  ∀ (s : State),
    (∀ m k, s.serves m 0x0201 .both = true → exec (.timeSource m k) s = .next (s.after
      (if 3 < k then (s.taken m 0x0201).reply (s.replyTo m 0x0201) stMalformed
        else ({ s.taken m 0x0201 with tim := { (s.taken m 0x0201).tim with forced := k } } : State).reply (s.replyTo m 0x0201) stOK))) ∧
    (s.tim.valid = true → s.wantSource ≠ 0 → s.wantSource ≠ s.selSource → ∃ t, exec .sourceSwitch s = .next t ∧
      t.selSource = s.wantSource % 4 ∧ t.getF Reg.TIME_TB_STATUS 2 2 = 0 ∧ t.getR Reg.TIME_SWITCHES = (s.getR Reg.TIME_SWITCHES + 1) % 2 ^ 32 ∧
      t.tim.f = clampI (-200000000) 200000000 (s.srcFit (s.wantSource % 4)).freq ∧
      t.tim.p = clampI (-10000000) 10000000 (100 * s.srcTheta (s.wantSource % 4)) ∧ t.tbVal = s.tbVal ∧ t.now = s.now ∧
      (s.boot.warmRun = false → t.faulted fltSourceSwitch subjNone = true)) ∧
    (s.tim.valid = false ∨ s.wantSource = 0 ∨ s.wantSource = s.selSource → exec .sourceSwitch s = .next (s.after s)) ∧
    (s.tim.valid = true → s.wantSource = 0 → s.getF Reg.TIME_TB_STATUS 2 2 = 0 → ∃ t, exec .holdover s = .next t ∧
      t.tim.f = (if s.tim.fHist = [] then s.tim.f else s.tim.fHist.foldl (· + ·) 0 / s.tim.fHist.length) ∧ t.tim.p = 0 ∧
      t.tbVal = s.tbVal ∧ t.now = s.now ∧
      t.selSource = 0 ∧ t.getF Reg.TIME_TB_STATUS 2 2 = 1 ∧ (s.boot.warmRun = false → t.faulted fltHoldover subjNone = true)) ∧
    (s.tim.valid = false ∨ s.wantSource ≠ 0 ∨ s.getF Reg.TIME_TB_STATUS 2 2 = 1 → exec .holdover s = .next (s.after s)) ∧
    (∀ n k, s.tim.valid = false → s.tim.startNext = false → s.ranks.find? s.locked = some k → ∃ t, exec (.timebaseInitialSet n) s = .next t ∧
      t.tim.startNext = true ∧ t.tim.count = n ∧ t.tim.f = clampI (-200000000) 200000000 (s.srcFit k).freq ∧ t.tim.p = 0 ∧
      t.tbVal = ((s.srcFit k).at_ (40 * (n : Int)) + 40 * (n : Int)).toNat * 2 ^ 27 ∧ t.selSource = k % 4) ∧
    (∀ n, s.tim.valid = true ∨ s.tim.startNext = true ∨ s.ranks.find? s.locked = none → exec (.timebaseInitialSet n) s = .next (s.after s)) ∧
    (∀ m ta, s.serves m 0x0202 .both = true →
      let u := s.taken m 0x0202
      let rto := s.replyTo m 0x0202
      (s.getF Reg.TIME_TB_STATUS 3 3 = 0 → exec (.timeStepApprove m ta) s = .next (s.after
        (u.reply rto (if u.getR Reg.TIME_STEPS = 0 then stInvalid else stAlready)))) ∧
      (s.getF Reg.TIME_TB_STATUS 3 3 ≠ 0 → ta < s.now + 2 → exec (.timeStepApprove m ta) s = .next (s.after (u.reply rto stInvalid))) ∧
      (s.getF Reg.TIME_TB_STATUS 3 3 ≠ 0 → s.now + 2 ≤ ta →
        ∃ t, exec (.timeStepApprove m ta) s = .next t ∧ t.tim.stepAt = some (ta, s.selSource, rto))) ∧
    (s.tim.stepAt = none → exec .timeStep s = .next (s.after s)) ∧
    (∀ ta src rto, s.tim.stepAt = some (ta, src, rto) → s.now < ta → exec .timeStep s = .next (s.after s)) ∧
    (∀ src rto, s.tim.stepAt = some (s.now, src, rto) → s.getF Reg.TIME_TB_STATUS 3 3 = 1 → s.selSource = src →
      s.liveLegs = [] ∨ s.boot.maint = true → ∃ t, exec .timeStep s = .next t ∧ t.tim.stepAt = none ∧
        t.tim.tick = ((s.now : Int) + roundDivI (3 * s.tim.theta) 5000000).toNat ∧ t.tbVal = tickNs t.tim.tick * 2 ^ 32 ∧
        t.getF Reg.TIME_TB_STATUS 3 3 = 0 ∧ t.getR Reg.TIME_STEPS = (s.getR Reg.TIME_STEPS + 1) % 2 ^ 32) ∧
    (∀ ta src rto, s.tim.stepAt = some (ta, src, rto) → ta ≤ s.now →
      ta < s.now ∨ s.getF Reg.TIME_TB_STATUS 3 3 ≠ 1 ∨ s.selSource ≠ src ∨ (s.liveLegs ≠ [] ∧ s.boot.maint = false) →
      exec .timeStep s = .next (s.after (({ s with tim := { s.tim with stepAt := none } } : State).reply rto stAborted))) ∧
    (let go := s.tim.valid = true ∧ s.now % 600 = 0 ∧ (((s.now / 600 : Nat) : Int) - s.utcNow) % 86400 = 0 ∧
        (s.srcLeap.1 = true ∨ s.srcLeap.2 = true) ∧ s.tim.utcLeap = 0;
      (go → ∃ t, exec .leapSecond s = .next t ∧ t.getF Reg.TIME_UTC 15 0 = toBits 16 (s.utcNow + if s.srcLeap.1 then 1 else -1)) ∧
      (¬ go → exec .leapSecond s = .next (s.after s))) ∧
    (∀ up, exec (.ppsOutEdge up) s = .next (s.after { s with pins := { s.pins with ppsOut := up && s.tim.valid } })) ∧
    (exec .todOutFrame s = .next (s.after (if s.tim.valid then
      { s with pins := { s.pins with todOut := s.todBytes (s.now / 600 + 1) } } else s))) ∧
    (∃ t, exec .refclkLost s = .next t ∧ t.getF Reg.TIME_TB_STATUS 5 5 = 0 ∧ t.faulted fltRefclkLost subjNone = true)

/-- What the requests about legs do (R28, R31, R34, R45, R49). -/
def Obligations.LegRequestsFollowTheirStates : Prop :=
  ∀ (m : Msg) (s : State),
    (s.serves m 0x0101 .both = true →
      let u := s.taken m 0x0101; let rto := s.replyTo m 0x0101; let l := m.target
      ∀ d xs src ice, l ≤ 16383 →
        let op := StageOp.legIn l d xs src ice [0, 0, 0, 0]
        (u.boot.maint = true ∨ (u.leg l).state ≠ .idle → exec (.legArrive m d xs src ice) s = .next (s.after (u.reply rto stInvalid))) ∧
        (u.boot.maint = false → (u.leg l).state = .idle → u.authority d.fold = false →
          exec (.legArrive m d xs src ice) s = .next (s.after (u.reply rto stNotAuthority))) ∧
        (u.boot.maint = false → (u.leg l).state = .idle → u.authority d.fold = true →
          (u.fold d.fold).state ≠ .active ∨ u.legValid l d xs src ice = false →
          exec (.legArrive m d xs src ice) s = .next (s.after (u.refuse (some rto) op 0xF [0, 0, 0, 0]))) ∧
        (u.boot.maint = false → (u.leg l).state = .idle → u.authority d.fold = true → (u.fold d.fold).state = .active →
          u.legValid l d xs src ice = true → (u.adm.pend.filter (fun p => p.fold = d.fold && p.queued)) = [] →
          ((u.fold d.fold).stagedTick = u.now → (u.fold d.fold).stagedNow < 256) →
          ∃ t, exec (.legArrive m d xs src ice) s = .next t ∧ (t.leg l).state = .admitting ∧ (t.leg l).desc = d ∧
            t.adm.pend = u.adm.pend ++ [{ id := u.adm.nextId, arrival := (s.arrival m 0x0101).1, fold := d.fold, change := op, reply := some rto, queued := false }])) ∧
    (s.serves m 0x0102 .both = true →
      let u := s.taken m 0x0102; let rto := s.replyTo m 0x0102; let l := m.target
      ∀ d xs src ice, l ≤ 16383 → (u.leg l).state = .active → u.leaving l = false → u.authority (u.leg l).desc.fold = true →
        d.fold = (u.leg l).desc.fold → u.legValid l d xs src ice = true →
        ((u.adm.pend.filter (fun p => p.fold = d.fold && p.queued)) = [] → ((u.fold d.fold).stagedTick = u.now → (u.fold d.fold).stagedNow < 256) →
          ∃ t, exec (.legUpdate m d xs src ice) s = .next t ∧ t.legs = u.legs ∧ t.adm.pend = u.adm.pend ++ [{
            id := u.adm.nextId, arrival := (s.arrival m 0x0102).1, fold := d.fold, change := .legSet l d xs src ice [0, 0, 0, 0], reply := some rto, queued := false }]) ∧
        (64 ≤ (u.adm.pend.filter (fun p => p.fold = d.fold && p.queued)).length →
          exec (.legUpdate m d xs src ice) s = .next (s.after (u.reply rto stBusy)))) ∧
    (s.serves m 0x0103 .both = true →
      let u := s.taken m 0x0103; let rto := s.replyTo m 0x0103; let l := m.target
      l ≤ 16383 →
        ((u.leg l).state = .idle ∨ (u.leg l).state = .retiring ∨ (u.leg l).state = .fenced → exec (.legLeave m) s = .next (s.after (u.reply rto stInvalid))) ∧
        ((u.leg l).state = .active → u.leaving l = false → u.authority (u.leg l).desc.fold = true → u.mirroring = false →
          (u.adm.pend.filter (fun p => p.fold = (u.leg l).desc.fold && p.queued)) = [] →
          ((u.fold (u.leg l).desc.fold).stagedTick = u.now → (u.fold (u.leg l).desc.fold).stagedNow < 256) →
          ∃ t p, exec (.legLeave m) s = .next t ∧ t.adm.staged = u.adm.staged ++ [p] ∧ p.ops = [.legOut l] ∧ p.reply = some rto ∧
            p.fold = (u.leg l).desc.fold ∧ p.at_ = Nat.max ((s.arrival m 0x0103).1 + 2) (u.now + 2)) ∧
        (∀ p, (u.leg l).state = .admitting → u.leaving l = false → u.authority (u.leg l).desc.fold = true →
          u.adm.pend.find? (fun p => match p.change with | .legIn k .. => k = l | _ => false) = some p →
          ∃ t, exec (.legLeave m) s = .next t ∧ (t.leg l).state = .idle ∧ t.adm.pend = u.adm.pend.filter (fun x => x.id != p.id))) ∧
    (s.serves m 0x0104 .both = true →
      let u := s.taken m 0x0104; let rto := s.replyTo m 0x0104; let l := m.target
      l ≤ 16383 →
        ((u.leg l).state = .fenced → u.authority (u.leg l).desc.fold = true →
          exec (.legRelease m) s = .next (s.after ((u.releaseLeg l).reply rto stOK)) ∧ ((u.releaseLeg l).leg l).state = .idle) ∧
        ((u.leg l).state ≠ .fenced → exec (.legRelease m) s = .next (s.after (u.reply rto stInvalid))) ∧
        ((u.leg l).state = .fenced → u.authority (u.leg l).desc.fold = false →
          exec (.legRelease m) s = .next (s.after (u.reply rto stNotAuthority)))) ∧
    (s.serves m 0x0111 .both = true →
      let u := s.taken m 0x0111; let rto := s.replyTo m 0x0111
      exec (.queryLeg m) s = .next (s.after (if 16383 < m.target then u.reply rto stMalformed else u.reply rto stOK (.leg (u.legInfo m.target))))) ∧
    (s.serves m 0x0112 .both = true →
      let u := s.taken m 0x0112; let rto := s.replyTo m 0x0112
      exec (.queryFold m) s = .next (s.after (if 4095 < m.target then u.reply rto stMalformed
        else u.reply rto stOK (.fold (u.foldInfo m.target) ((u.foldLcs m.target).map (fun c => ((u.lc c).desc, (u.lc c).phase)))))))

/-- What the requests about folds, line classes, layouts and images do (R35, R37, R49, R252 to R255, R722). -/
def Obligations.FoldAndContentRequestsAreTaken : Prop :=
  ∀ (m : Msg) (s : State),
    let calm (u : State) (f : Nat) := (u.adm.pend.filter (fun p => p.fold = f && p.queued)) = [] ∧
      ((u.fold f).stagedTick = u.now → (u.fold f).stagedNow < 256)
    let begun (typ f : Nat) (op : StageOp) (t : State) := t.adm.pend = (s.taken m typ).adm.pend ++ [{
      id := (s.taken m typ).adm.nextId, arrival := (s.arrival m typ).1, fold := f, change := op, reply := some (s.replyTo m typ), queued := false }]
    (∀ d a, s.serves m 0x0105 .both = true → m.target ≤ 4095 → ((s.taken m 0x0105).fold m.target).state ≠ .retiring → s.twn.paired = false →
      ((s.taken m 0x0105).foldValid d a = true → calm (s.taken m 0x0105) m.target →
        ∃ t, exec (.foldSetup m d a) s = .next t ∧ begun 0x0105 m.target (.foldIn m.target d a) t) ∧
      ((s.taken m 0x0105).foldValid d a = false → exec (.foldSetup m d a) s = .next (s.after
        ((s.taken m 0x0105).refuse (some (s.replyTo m 0x0105)) (.foldIn m.target d a) 0xF [0, 0, 0, 0])))) ∧
    (s.serves m 0x0106 .both = true → m.target ≤ 4095 → ((s.taken m 0x0106).fold m.target).state = .active →
      ((s.taken m 0x0106).fold m.target).retireTold = false → (s.taken m 0x0106).authority m.target = true → calm (s.taken m 0x0106) m.target →
      ∃ t p, exec (.foldRetire m) s = .next t ∧ (t.fold m.target).retireTold = true ∧ t.adm.staged = (s.taken m 0x0106).adm.staged ++ [p] ∧
        p.ops = [.foldOut m.target] ∧ p.reply = some (s.replyTo m 0x0106)) ∧
    (∀ d e, s.serves m 0x0107 .both = true → m.target ≤ 8191 → ((s.taken m 0x0107).lc m.target).live = false →
      (s.taken m 0x0107).adm.pend = [] → (s.taken m 0x0107).adm.staged = [] → (s.taken m 0x0107).authority d.fold = true →
      (((s.taken m 0x0107).fold d.fold).state = .active → (s.taken m 0x0107).lcValid d e = true → calm (s.taken m 0x0107) d.fold →
        ∃ t, exec (.lineClassCreate m d e) s = .next t ∧ begun 0x0107 d.fold (.lcIn m.target d e 0 0) t) ∧
      (((s.taken m 0x0107).fold d.fold).state ≠ .active ∨ (s.taken m 0x0107).lcValid d e = false → exec (.lineClassCreate m d e) s = .next (s.after
        ((s.taken m 0x0107).refuse (some (s.replyTo m 0x0107)) (.lcIn m.target d e 0 0) 0xF [0, 0, 0, 0])))) ∧
    (s.serves m 0x0108 .both = true → m.target ≤ 8191 → ((s.taken m 0x0108).lc m.target).live = true →
      (s.taken m 0x0108).authority ((s.taken m 0x0108).lc m.target).desc.fold = true → calm (s.taken m 0x0108) ((s.taken m 0x0108).lc m.target).desc.fold →
      ∃ t p, exec (.lineClassRetire m) s = .next t ∧ t.adm.staged = (s.taken m 0x0108).adm.staged ++ [p] ∧
        p.ops = [.lcOut m.target] ∧ p.reply = some (s.replyTo m 0x0108)) ∧
    (∀ n pins, s.serves m 0x0109 .both = true → m.target ≤ 4095 → pins.length = 32 → ((s.taken m 0x0109).fold m.target).state = .active →
      (s.taken m 0x0109).authority m.target = true →
      (n ≤ 1023 → (∀ l ∈ pins, l = 0xFFFF ∨ l ≤ 16383) → calm (s.taken m 0x0109) m.target →
        ∃ t, exec (.layoutChoice m n 0 pins) s = .next t ∧ begun 0x0109 m.target (.layout m.target n pins) t) ∧
      (1023 < n → exec (.layoutChoice m n 0 pins) s = .next (s.after
        ((s.taken m 0x0109).refuse (some (s.replyTo m 0x0109)) (.layout m.target n pins) 0xF [0, 0, 0, 0])))) ∧
    (∀ g, s.serves m 0x010B .both = true → m.target ≤ 16383 → g ≤ 16383 ∨ g = 0xFFFF →
      let u := s.taken m 0x010B; let rto := s.replyTo m 0x010B; let l := m.target
      (u.authority (u.leg l).desc.fold = true → (u.leg l).state = .active ∨ (u.leg l).state = .admitting →
        exec (.caption m g 0) s = .next (s.after
          (match contentRefusal u.contentPlanned (u.contentPlanned.onLeg l (fun r => { r with caption := g })) [(u.leg l).desc.fold] with
            | some c => u.reply rto stRefused (.reason c)
            | none => (u.onLeg l (fun r => { r with captionNext := some g })).reply rto stOK))) ∧
      (u.authority (u.leg l).desc.fold = true → (u.leg l).state = .idle ∨ (u.leg l).state = .retiring ∨ (u.leg l).state = .fenced →
        exec (.caption m g 0) s = .next (s.after (u.reply rto stInvalid)))) ∧
    (∀ gs, s.serves m 0x010C .both = true → m.target ≤ 4095 → gs.length = 16 → (∀ g ∈ gs, g ≤ 16383 ∨ g = 0xFFFF) →
      let u := s.taken m 0x010C; let rto := s.replyTo m 0x010C; let n := m.target
      u.standbyOnly = false → exec (.guardSet m gs) s = .next (s.after (match contentRefusal u.contentPlanned
          { u.contentPlanned with cmp := { u.contentPlanned.cmp with guardSets := tset [] u.contentPlanned.cmp.guardSets n gs } }
          (u.liveFolds.filter (fun f => (u.fold f).desc.guardSet = n)) with
        | some c => u.reply rto stRefused (.reason c)
        | none => ({ u with cmp := { u.cmp with guardNext := tset [] u.cmp.guardNext n gs } } : State).reply rto stOK))) ∧
    (∀ off total len g, s.serves m 0x010D .both = true → m.target ≤ 16383 → off + len ≤ total → len ≠ 0 →
      let u := s.taken m 0x010D; let rto := s.replyTo m 0x010D; let n := m.target
      let buf := (tget {} u.cmp.loads n).add off total len
      let v : State := { u with cmp := { u.cmp with loads := tdel n u.cmp.loads } }
      u.standbyOnly = false →
        (n < 4096 → exec (.imageLoad m off total len g) s = .next (s.after (u.reply rto stRefused (.reason 0xF)))) ∧
        (4096 ≤ n → reach buf.parts 0 < total → exec (.imageLoad m off total len g) s = .next (s.after
          (({ u with cmp := { u.cmp with loads := tset {} u.cmp.loads n buf } } : State).reply rto stOK))) ∧
        (4096 ≤ n → total ≤ reach buf.parts 0 → g.ok = false ∨ g.bytes ≠ total ∨ v.groupRegion < v.contentPlanned.groupBytes n g → exec (.imageLoad m off total len g) s = .next (s.after
          (v.reply rto stRefused (.reason 0xF)))) ∧
        (4096 ≤ n → total ≤ reach buf.parts 0 → g.ok = true → g.bytes = total → v.contentPlanned.groupBytes n g ≤ v.groupRegion →
          exec (.imageLoad m off total len g) s = .next (s.after (match contentRefusal v.contentPlanned
              { v.contentPlanned with cmp := { v.contentPlanned.cmp with groups := tset {} v.contentPlanned.cmp.groups n g } } (v.contentPlanned.showers n) with
            | some c => v.reply rto stRefused (.reason c)
            | none => (v.storeGroup n g).reply rto stOK))))

/-- Decisions, switches and drains (R31 to R33, R41, R45 to R49). -/
def Obligations.ChangesAreDecidedAndSwitched : Prop :=
  ∀ (s : State), s.boot.inReset = false → s.boot.warmRun = false → s.boot.halted = false →
    (s.adm.pend.find? (fun p => !p.queued) = none → exec .admissionDecision s = .next (s.after s)) ∧
    (∀ p, s.adm.pend.find? (fun p => !p.queued) = some p →
      let u : State := { s with adm := { s.adm with pend := s.adm.pend.filter (fun x => x.id != p.id) } }
      (p.arrival + 60 < s.now → exec .admissionDecision s = .next (s.after (u.endRefused p 0xE [0, 0, 0, 0]))) ∧
      (s.now ≤ p.arrival + 60 → (∃ l d xs src ice cs, p.change = .legIn l d xs src ice cs) →
        (∀ code cs, (u.fold p.fold).retireTold = false → u.planned.stillValid p.change = true → decideChange u.planned p.fold p.change = .error (code, cs) →
          exec .admissionDecision s = .next (s.after (u.endRefused p code cs))) ∧
        (∀ ops cs lim, (u.fold p.fold).retireTold = false → u.planned.stillValid p.change = true →
          decideChange u.planned p.fold p.change = .ok (ops, cs, lim) →
          exec .admissionDecision s = .next (s.after
            ((u.incR (if cs != [0, 0, 0, 0] then Reg.DEV_ADMIT_DEGRADED else Reg.DEV_ADMIT_ADMITTED)).stage p.fold p.arrival (ops.map (withCounts cs)) p.reply
              (some { outcome := b2n (cs != [0, 0, 0, 0]), limiting := lim, effective := 0, counts := cs })))) ∧
        ((u.fold p.fold).retireTold = true ∨ u.planned.stillValid p.change = false →
          exec .admissionDecision s = .next (s.after (u.endRefused p 0xF [0, 0, 0, 0])))) ∧
      (∀ l d xs src ice cs code counts, p.change = .legIn l d xs src ice cs →
        ((s.endRefused p code counts).leg l).state = .idle ∧ (s.endRefused p code counts).getR Reg.DEV_ADMIT_REFUSED = (s.getR Reg.DEV_ADMIT_REFUSED + 1) % 2 ^ 32)) ∧
    ((∀ p ∈ s.adm.pend, s.now < p.arrival + 60) → exec .admissionTimeout s = .next (s.after s)) ∧
    (∀ p, s.adm.pend.find? (fun p => decide (p.arrival + 60 ≤ s.now)) = some p → exec .admissionTimeout s = .next (s.after
      (({ s with adm := { s.adm with pend := s.adm.pend.filter (fun x => x.id != p.id) } } : State).endRefused p 0xE [0, 0, 0, 0]))) ∧
    (∀ f, (∀ p ∈ s.adm.staged, p.fold = f → s.now < p.at_) → exec (.epochSwitch f) s = .next (s.after s)) ∧
    (∀ f p, s.adm.staged = [p] → p.fold = f → p.at_ ≤ s.now → p.staged = true → p.mirrored = true →
      exec (.epochSwitch f) s = .next (s.after (((((({ s with adm := { s.adm with staged := [] } } : State).each p.ops State.switchOp).onFold f
        (fun r => if r.state = .idle then r else { r with epoch := r.epoch + 1 })).incR Reg.DEV_EPOCH_SWITCHES).endFold f)))) ∧
    (∀ f p, s.adm.staged = [p] → p.fold = f → p.at_ ≤ s.now → p.mirrored = false →
      ∃ t, exec (.epochSwitch f) s = .next t ∧ t.adm.staged = [{ p with at_ := s.now + 1, deferred := true }] ∧ t.legs = s.legs ∧ t.folds = s.folds) ∧
    (∀ l T, (s.leg l).state = .retiring → (s.leg l).drainEnd = some T →
      (s.now < T → exec (.legDrainComplete l) s = .next (s.after s)) ∧
      (T ≤ s.now → ∃ t, exec (.legDrainComplete l) s = .next t ∧ (t.leg l).state = .idle)) ∧
    (∀ l, (s.leg l).state ≠ .retiring → exec (.legDrainComplete l) s = .next (s.after s))

/-- What the update messages and events do (R613 to R628). -/
def Obligations.UpdatesStageActivateAndFallBack : Prop :=
  ∀ (m : Msg) (s : State),
    (∀ h, s.serves m 0x0401 .both = true →
      let u := s.taken m 0x0401; let rto := s.replyTo m 0x0401
      exec (.updateHeader m h) s = .next (s.after (if u.headerReason h ≠ 0 then (u.refuseOf h (u.headerReason h)).reply rto stRefused (.reason (u.headerReason h))
        else (({ u with upd := { hdr := some h, path := some rto } } : State).showUpd).reply rto stOK))) ∧
    (∀ off len dig tz, s.serves m 0x0402 .both = true →
      let u := s.taken m 0x0402; let rto := s.replyTo m 0x0402
      (u.upd.hdr = none → exec (.updateChunk m off len dig tz) s = .next (s.after (u.reply rto stInvalid))) ∧
      (∀ h, u.upd.hdr = some h → u.upd.staging = false → u.upd.staged = 0 →
        (off ≠ u.upd.got → exec (.updateChunk m off len dig tz) s = .next (s.after (u.reply rto stInvalid (.tick u.upd.got)))) ∧
        (off = u.upd.got → u.upd.got + len < h.payload → exec (.updateChunk m off len dig tz) s = .next (s.after
          (({ u with upd := { u.upd with got := u.upd.got + len } } : State).reply rto stOK))) ∧
        (off = u.upd.got → u.upd.got + len = h.payload →
          let e := ({ u with upd := { u.upd with got := u.upd.got + len } } : State).payloadEnd { hdr := h, digestsOk := dig, torzer := tz }
          exec (.updateChunk m off len dig tz) s = .next (s.after (if e.2 = 0 then e.1.showUpd.reply rto stOK else e.1.showUpd.reply rto stRefused (.reason e.2)))))) ∧
    (s.serves m 0x0403 .both = true →
      let u := s.taken m 0x0403; let rto := s.replyTo m 0x0403; let c := u.boot.env.cardCont
      (u.boot.sdState ≠ 2 ∨ u.itemUsed 2 0 = false → exec (.sdUpdate m) s = .next (s.after (u.reply rto stInvalid))) ∧
      (u.boot.sdState = 2 → u.itemUsed 2 0 = true → c.readOk = true → u.headerReason c.hdr = 0 →
        let e := ({ u with upd := { hdr := some c.hdr, path := some rto, got := c.hdr.payload } } : State).payloadEnd c
        exec (.sdUpdate m) s = .next (s.after (if e.2 = 0 then e.1.showUpd.reply rto stOK else e.1.showUpd.reply rto stRefused (.reason e.2)))) ∧
      (u.boot.sdState = 2 → u.itemUsed 2 0 = true → c.readOk = true → u.headerReason c.hdr ≠ 0 →
        exec (.sdUpdate m) s = .next (s.after ((u.refuseOf c.hdr (u.headerReason c.hdr)).reply rto stRefused (.reason (u.headerReason c.hdr)))))) ∧
    (∀ a b, s.upd.staging = false → exec (.stagingDone a b) s = .next (s.after s)) ∧
    (∀ a b, s.upd.staging = true →
      let n := b2n (a && s.boot.flash.a.capacityOk) + b2n (b && s.boot.flash.b.capacityOk)
      (n ≠ 0 → ∃ t, exec (.stagingDone a b) s = .next t ∧ t.upd = { s.upd with staging := false, staged := n } ∧
        (n = 1 → s.boot.warmRun = false → t.faulted fltStagePartial subjNone = true)) ∧
      (n = 0 → ∃ t, exec (.stagingDone a b) s = .next t ∧ t.upd = {})) ∧
    (∀ sec k cold, s.serves m 0x0404 .both = true →
      let u := s.taken m 0x0404; let rto := s.replyTo m 0x0404; let T := sec * 600 + k; let t0 := (s.arrival m 0x0404).1
      (u.upd.staged = 0 ∨ u.upd.at_ ≠ 0 → exec (.activate m sec k 0 cold) s = .next (s.after (u.reply rto stInvalid))) ∧
      (u.upd.staged ≠ 0 → u.upd.at_ = 0 → u.tim.valid = false ∨ T < t0 + 120 ∨ t0 + 51840000 < T →
        exec (.activate m sec k 0 cold) s = .next (s.after ((u.refuseUpdate 0x15).reply rto stRefused (.reason 0x15)))) ∧
      (u.upd.staged ≠ 0 → u.upd.at_ = 0 → u.tim.valid = true → t0 + 120 ≤ T → T ≤ t0 + 51840000 →
        exec (.activate m sec k 0 cold) s = .next (s.after (if u.activationReason cold ≠ 0 then
            (u.refuseUpdate (u.activationReason cold)).reply rto stRefused (.reason (u.activationReason cold))
          else if (u.scheduleSwap T cold).mirroring then (u.scheduleSwap T cold).sendEvent 0x0404 T none (some { dst := rto, status := stOK })
          else (u.scheduleSwap T cold).reply rto stOK)))) ∧
    (s.boot.warmRun = false → s.upd.at_ ≠ 0 → s.upd.prepared = false → s.upd.at_ ≤ s.now + 60 → s.activationReason s.upd.cold = 0 →
      ∃ t, exec (.swapPrepare true) s = .next t ∧ t.upd = { s.upd with prepared := true }) ∧
    (∀ l, s.upd.at_ = 0 ∨ s.upd.prepared = true ∨ s.now + 60 < s.upd.at_ → exec (.swapPrepare l) s = .next (s.after s)) ∧
    (s.upd.at_ ≠ 0 → s.upd.at_ ≤ s.now + 1 → s.swapReady = false → ∃ t, exec .swapNotReady s = .next t ∧ t.upd.at_ = 0 ∧ t.upd.staged = s.upd.staged ∧
      t.tly.boot.trial = 0 ∧ (s.boot.warmRun = false → t.faulted fltActivationAborted subjNone = true)) ∧
    (s.upd.at_ = 0 ∨ s.now + 1 < s.upd.at_ ∨ s.swapReady = true → exec .swapNotReady s = .next (s.after s)) ∧
    (s.upd.at_ ≠ 0 → s.upd.at_ ≤ s.now → s.swapReady = true → s.boot.warmRun = false → s.upd.cold = false →
      ∃ t, exec .updateSwap s = .next t ∧ t.tly.boot = s.swappedRecord ∧ t.upd = { trialFrom := s.upd.at_ }) ∧
    (s.upd.at_ ≠ 0 → s.upd.at_ ≤ s.now → s.swapReady = true → s.boot.warmRun = false → s.upd.cold = true →
      exec .updateSwap s = .next (s.after (((s.commitBoot s.swappedRecord).updNote 5 0 0).startUp 1 none true))) ∧
    (s.upd.at_ = 0 ∨ s.now < s.upd.at_ ∨ s.swapReady = false ∨ s.boot.warmRun = true → exec .updateSwap s = .next (s.after s)) ∧
    (s.serves m 0x0405 .both = true →
      let u := s.taken m 0x0405; let rto := s.replyTo m 0x0405
      (u.upd.hdr = none → exec (.updateAbort m) s = .next (s.after (u.reply rto (if u.tly.boot.trial = 2 then stAlready else stInvalid)))) ∧
      (u.upd.hdr.isSome = true → u.upd.at_ ≠ 0 → u.upd.at_ ≤ u.now + 1 → exec (.updateAbort m) s = .next (s.after (u.reply rto stAlready))) ∧
      (u.upd.hdr.isSome = true → u.upd.at_ = 0 → u.upd.staged = 0 → ∃ t, exec (.updateAbort m) s = .next t ∧ t.upd = {}) ∧
      (u.upd.hdr.isSome = true → u.upd.staged ≠ 0 → u.upd.at_ = 0 ∨ u.now + 1 < u.upd.at_ →
        ∃ t, exec (.updateAbort m) s = .next t ∧ t.upd.at_ = 0 ∧ t.upd.staged = u.upd.staged ∧
          t.tly.boot = (if u.upd.at_ = 0 then u.tly.boot else { u.tly.boot with trial := 0 }))) ∧
    (s.serves m 0x0406 .both = true → exec (.revert m) s = .next (s.after (if (s.taken m 0x0406).onTrial then
      (s.taken m 0x0406).triggerFallback (some { dst := s.replyTo m 0x0406, status := stOK }) else (s.taken m 0x0406).reply (s.replyTo m 0x0406) stInvalid))) ∧
    (s.onTrial = true → s.boot.warmRun = false → ∃ t, exec .healthFail s = .next t ∧ t.upd.fallAt = some (s.now + 2) ∧
      t.faulted fltHealthFail subjNone = true) ∧
    (s.onTrial = true → s.upd.trialFrom + 36000 ≤ s.now → ∃ t, exec .trialTimeout s = .next t ∧ t.upd.fallAt = some (s.now + 2)) ∧
    (s.onTrial = true → 6000 ≤ s.upd.clean → ∃ t, exec .trialConfirm s = .next t ∧ t.upd = {} ∧
      t.tly.boot = { s.tly.boot with trial := 3, confirmTick := s.now }) ∧
    (s.onTrial = false → exec .healthFail s = .next (s.after s) ∧ exec .trialTimeout s = .next (s.after s) ∧ exec .trialConfirm s = .next (s.after s)) ∧
    (∀ p, s.upd.fallAt = none → exec (.fallbackSwap p) s = .next (s.after s)) ∧
    (∀ p T, s.upd.fallAt = some T → s.boot.warmRun = false → T ≤ s.now → exec (.fallbackSwap p) s = .next (s.after (if p then s.fallBack else s.warmReset 6)))

/-- What the cages' modules and the SD card do (R598, R599, R601, R707). -/
def Obligations.ModulesAndCardsComeAndGo : Prop :=
  ∀ (s : State), s.up = true →
    (∀ c, c < 16 → ∃ t, exec (.modulePresenceAssert c) s = .next t ∧ c ∈ t.boot.presence ∧ (c, s.now + 1200) ∈ t.boot.reads) ∧
    (∀ c, 16 ≤ c → exec (.modulePresenceAssert c) s = .next (s.after s) ∧ exec (.modulePresenceDeassert c) s = .next (s.after s)) ∧
    (∀ c m, s.boot.warmRun = true ∨ (∀ r ∈ s.boot.reads, r.1 = c → s.now < r.2) → exec (.moduleRead c m) s = .next (s.after s)) ∧
    (∀ c m, s.boot.warmRun = false → (∃ r ∈ s.boot.reads, r.1 = c ∧ r.2 ≤ s.now) →
      let u : State := { s with boot := { s.boot with reads := s.boot.reads.filter (fun r => r.1 ≠ c) } }
      exec (.moduleRead c m) s = .next (s.after (if m.isSome then u.readCage c m false else u.putInv { kind := 1, index := c, state := invAbsent }))) ∧
    (∀ c, s.itemUsed 1 c = true → ∃ t, exec (.moduleReady c) s = .next t ∧ c ∈ t.boot.moduleReady) ∧
    (∀ c, s.itemUsed 1 c = false → exec (.moduleReady c) s = .next (s.after s)) ∧
    (∀ c, c < 16 → ∃ t, exec (.modulePresenceDeassert c) s = .next t ∧ c ∉ t.boot.presence ∧ (∀ r ∈ t.boot.reads, r.1 ≠ c) ∧
      c ∉ t.boot.moduleReady ∧ (t.port c).moduleHold = true) ∧
    (∀ card cont,
      let u : State := { s with boot := { s.boot with env := { s.boot.env with card := some card, cardCont := cont } } }
      exec (.sdCardDetect card cont) s = .next (s.after (if s.boot.warmRun then { u with boot := { u.boot with sdState := 1 } }
        else u.readCard (some card) true false))) ∧
    (s.pins.sdVsel = false → exec .sdVselTimeout s = .next (s.after s)) ∧
    (s.pins.sdVsel = true → ∃ t, exec .sdVselTimeout s = .next t ∧ t.pins.sdVsel = false ∧ t.boot.sdState = 3) ∧
    (∃ t, exec .sdCardRemoval s = .next t ∧ t.boot.sdState = 0 ∧ t.boot.env.card = none ∧ t.pins.sdPwr = false ∧ t.pins.sdVsel = false)

/-- What the management requests do (R467, R565, R652, R656, R660, R665). -/
def Obligations.ManagementRequestsActAndAnswer : Prop :=
  ∀ (m : Msg) (s : State),
    (∀ key, s.serves m 0x0307 .hostMaint = true →
      let u := s.taken m 0x0307; let rto := s.replyTo m 0x0307
      exec (.mgmtKeyProvision m key) s = .next (s.after (if 2 ≤ m.target then u.reply rto stMalformed
        else if (tget {} u.boot.mgmtKeys m.target).written then u.reply rto stInvalid
        else (u.setMgmtKey m.target { written := true, key := key }).reply rto stOK))) ∧
    (s.serves m 0x0308 .hostMaint = true →
      let u := s.taken m 0x0308; let rto := s.replyTo m 0x0308; let k := tget {} u.boot.mgmtKeys m.target
      exec (.mgmtKeyRevoke m) s = .next (s.after (if 2 ≤ m.target then u.reply rto stMalformed
        else if !k.written || k.revoked then u.reply rto stInvalid else (u.setMgmtKey m.target { k with revoked := true }).reply rto stOK))) ∧
    (∀ o, s.serves m 0x0309 .bothMaint = true →
      let u := s.taken m 0x0309; let rto := s.replyTo m 0x0309; let f := u.boot.flash
      exec (.optionWrite m o) s = .next (s.after (if 4 ≤ m.target then u.reply rto stMalformed
        else ({ u with boot := { u.boot with flash := if m.target < 2 then { f with a := f.a.withOption (m.target % 2) o }
          else { f with b := f.b.withOption (m.target % 2) o } } } : State).reply rto stOK))) ∧
    (∀ a, s.serves m 0x030A .both = true → a.prefix4 ≤ 32 → a.prefix6 ≤ 128 →
      ∃ t, exec (.serviceAddress m a 0) s = .next t ∧ t.tly.svcAddr = a ∧
        t.getF Reg.DEV_SVC_STATUS 31 16 = (if a.port = 0 then 50740 else a.port % 65536)) ∧
    (∀ p fl b, s.serves m 0x030B .both = true →
      let u := s.taken m 0x030B; let rto := s.replyTo m 0x030B; let n := if b = 0 then 150000 else b
      exec (.telemetryConfig m p fl b) s = .next (s.after (if p = 0 ∨ 600 < p ∨ 3 < fl ∨ n < 10000 ∨ 200000 < n then u.reply rto stMalformed
        else (({ u with host := { u.host with teleBudget := n } } : State).setR Reg.DEV_TELE_CONFIG (p + fl * 1024 + n / 1024 * 4096)).reply rto stOK))) ∧
    (∀ addr port fl rs, s.serves m 0x030C .both = true →
      let u := s.taken m 0x030C; let rto := s.replyTo m 0x030C
      exec (.subscribe m addr port fl rs) s = .next (s.after (if 4 ≤ m.target ∨ 7 < fl ∨ rs ≠ 0 then u.reply rto stMalformed
        else ({ u with host := { u.host with subs := tset {} u.host.subs m.target (if port = 0 then {} else
          { port := port, ip6 := bit fl 0, addr := addr, notify := bit fl 1, tele := bit fl 2 }) } } : State).reply rto stOK))) ∧
    (∀ typ a b, s.serves m 0x030D .both = true →
      let u := s.taken m 0x030D; let rto := s.replyTo m 0x030D
      let rs := (u.tly.recs.filter (fun r => r.typ = typ && decide (a ≤ r.key ∧ r.key ≤ b))).foldl (fun acc r => insertRec r acc) []
      let got := takeRecs (match m.src with | .ring _ => 65536 | .svc _ => 1408) rs
      exec (.tallyRead m typ a b 0) s = .next (s.after (u.reply rto stOK (.tally got.1 got.2)))) ∧
    (∀ n, s.serves m 0x0203 .both = true →
      let u := s.taken m 0x0203; let rto := s.replyTo m 0x0203
      let ceil := Nat.min (u.less (u.peakAt n)) (8 * u.peakAt n / 10)
      (n ∉ u.dmc.setPoints → exec (.setPoint m n 0) s = .next (s.after (u.reply rto stInvalid))) ∧
      (n ∈ u.dmc.setPoints → u.spRate n < u.spRate u.dmc.setPoint → ceil < u.loadNow 2 →
        exec (.setPoint m n 0) s = .next (s.after (u.reply rto stRefused (.reason 2)))) ∧
      (n ∈ u.dmc.setPoints → u.spRate u.dmc.setPoint ≤ u.spRate n ∨ u.loadNow 2 ≤ ceil → exec (.setPoint m n 0) s = .next (s.after
        (({ u with dmc := { u.dmc with wantSp := some n, hotFrom := none } } : State).reply rto stOK))))

/-- What an Ausil frame that has no effect of its own leaves (R518, R520, R545, R553). How a bad frame's seq is told is the
model's choice (log 54). -/
def Obligations.UnheardFramesOnlyCount : Prop :=
  ∀ (c : Instr) (h : AusHdr) (s : State), asFrame c = some h →
    (s.receives h = false → exec c s = .next (s.after s)) ∧
    (s.receives h = true → h.good = false → exec c s = .next (s.after (s.missed h))) ∧
    (s.receives h = true → h.good = true → s.stale h = true → exec c s = .next (s.after ((s.counted h).incR Reg.TWN_STALE_EPOCH))) ∧
    (tget 0 s.twn.rxSeq (b2n h.bundleB) = 0 ∨ tget 0 s.twn.rxSeq (b2n h.bundleB) = h.seq.toNat + 1 →
      tget 0 (s.heard h).twn.rxSeq (b2n h.bundleB) = (h.seq.toNat + 1) % 2 ^ 32 + 1)

/-- What the pairing commands do (R525 to R530, R539, R545, R548). The number that a failed check is given, and the result 0 of an
unanswered attempt, are the model's choices (log 54). -/
def Obligations.PairingFollowsItsSteps : Prop :=
  ∀ (h : AusHdr) (s : State),
    let failed (n : Nat) (t : State) : Prop := (s.twn.fails < 2 → t.twn.attempt = none ∧ t.twn.fails = s.twn.fails + 1) ∧
      (2 ≤ s.twn.fails → t.twn.pair = .refused ∧ t.twn.refused = n)
    (s.hears h = true →
      let u := s.heard h
      (∀ fl, ∃ t, exec (.ausilHeartbeat h fl) s = .next t ∧ t.twn.partnerFlags = fl % 16 ∧
        (bit fl 0 = true → h.tick = s.now → b2n h.bundleB ∈ t.twn.heardNow) ∧
        (bit fl 0 = false ∨ h.tick ≠ s.now → t.twn.heardNow = s.twn.heardNow)) ∧
      (∀ i, s.twn.pair = .linking →
        let fit := if s.twn.identOk then true else ((u.noteIdentity i).fitPartner i).2
        ∃ t, exec (.ausilIdentity h i) s = .next t ∧ t.twn.ident = some i ∧ t.twn.ceilings = i.ceilings ∧
          (s.identCheck i fit = 0 → t.twn.identOk = true ∧ t.twn.pair = .linking) ∧
          (s.identCheck i fit ≠ 0 → t.twn.pair = .refused ∧ t.twn.refused = s.identCheck i fit)) ∧
      (∀ i, s.mirroring = true → ∃ t, exec (.ausilIdentity h i) s = .next t ∧ t.twn.ident = some i ∧
        (i.digest ≠ s.boot.image.digest → t.twn.pair = .refused ∧ t.twn.refused = 3) ∧
        (i.digest = s.boot.image.digest → i.format ≠ s.boot.fwWrite → t.twn.pair = .refused ∧ t.twn.refused = 4) ∧
        (i.digest = s.boot.image.digest → i.format = s.boot.fwWrite → t.twn.pair = s.twn.pair)) ∧
      (∀ e T, s.twn.pair ≠ .linking ∨ s.twn.roleB = false ∨ s.twn.identOk = false → exec (.pairPropose h e T) s = .next (s.after u)) ∧
      (∀ e T, s.twn.pair = .linking → s.twn.roleB = true → s.twn.identOk = true → ∃ t, exec (.pairPropose h e T) s = .next t ∧
        (e ≠ u.outcome.2.1 → failed 2 t) ∧
        (e = u.outcome.2.1 → t.twn.attempt = some { epoch := e, auth := u.outcome.1, both := u.outcome.2.2, tick := T, asked := s.now, answered := true, mine := true } ∧
          (s.tly.epoch.toNat < e → t.tly.epoch = BitVec.ofNat 32 e))) ∧
      (∀ a r e T, s.twn.attempt = some a → s.twn.pair = .linking → s.twn.roleB = false → a.answered = false → a.epoch = e → a.tick = T →
        ∃ t, exec (.pairAnswer h r e T) s = .next t ∧ (r ≠ 0 → failed r t) ∧
          (r = 0 → t.twn.attempt = some { a with answered := true, mine := true } ∧ (s.tly.epoch.toNat < e → t.tly.epoch = BitVec.ofNat 32 e))) ∧
      (∀ a r e T, s.twn.attempt = some a → s.twn.pair = .linking → a.epoch = e → a.tick = T →
        ∃ t, exec (.pairCommitted h r e T) s = .next t ∧ (r ≠ 0 → failed r t) ∧ (r = 0 → t.twn.attempt = some { a with theirs := true })) ∧
      (∀ r e T, s.twn.attempt = none → exec (.pairAnswer h r e T) s = .next (s.after u) ∧ exec (.pairCommitted h r e T) s = .next (s.after u)) ∧
      (s.twn.pair = .syncing → ∃ t, exec (.syncDone (some h)) s = .next t ∧ t.twn.partnerSynced = true) ∧
      (s.twn.pair ≠ .syncing → exec (.syncDone (some h)) s = .next (s.after u)) ∧
      (∀ tx echo arr, tget 0 s.twn.timeSent (b2n h.bundleB) = 0 → exec (.ausilTime h tx echo arr) s = .next (s.after u)) ∧
      (∀ (tx echo arr t1 : Nat), tget 0 s.twn.timeSent (b2n h.bundleB) = t1 + 1 →
        let latency := ((((arr : Int) - t1) - ((tx : Int) - echo)) / 2).toNat
        let n := if 20000 < latency then tget 0 s.twn.slowTicks (b2n h.bundleB) + 1 else 0
        ∃ t, exec (.ausilTime h tx echo arr) s = .next t ∧ tget 0 t.twn.slowTicks (b2n h.bundleB) = n ∧
          t.getR (Reg.TWN_BUNDLE_LATENCY (b2n h.bundleB)) = Nat.min 65535 latency ∧
          t.getR Reg.TWN_PHASE = toBits 32 ((((t1 : Int) - echo) + ((arr : Int) - tx)) / 2) ∧
          (n = 60 → s.boot.warmRun = false → t.faulted fltLinkLatency (subjInst 14 (1 + b2n h.bundleB)) = true))) ∧
    (∀ (o : Option AusHdr) (a : PairAttempt), (∀ x, o = some x → s.hears x = true) → s.twn.attempt = some a → s.twn.pair = .linking →
      a.mine = true → a.theirs = true → a.tick ≤ s.now →
      ∃ t, exec (.syncStart o) s = .next t ∧ t.twn.attempt = none ∧ t.twn.fails = 0 ∧
        (a.both = false → t.twn.pair = .syncing ∧ (s.twn.cross = false → t.twn.authSelf = decide (a.auth = b2n s.twn.roleB))) ∧
        (a.both = true → t.twn.pair = .solo) ∧
        (a.both = true → a.auth = b2n s.twn.roleB → t.pins.fenceOut = !s.pins.fenceIn) ∧
        (a.both = true → a.auth ≠ b2n s.twn.roleB → t.boot.planePend = some .split ∧ t.tly.fencedLatched = true)) ∧
    (s.twn.attempt = none → exec (.syncStart none) s = .next (s.after s) ∧ exec .pairAttemptTimeout s = .next (s.after s)) ∧
    (s.twn.pair = .syncing → s.shadows = true → s.twn.unsynced = [] → s.twn.split = false → ∃ t, exec (.syncDone none) s = .next t ∧ t.twn.syncEnter = true) ∧
    (s.twn.pair ≠ .syncing → exec (.syncDone none) s = .next (s.after s)) ∧
    (∀ a, s.twn.attempt = some a → s.twn.pair = .linking → (a.answered = false ∧ a.asked + 60 ≤ s.now) ∨ (a.tick ≤ s.now ∧ (a.mine && a.theirs) = false) →
      ∃ t, exec .pairAttemptTimeout s = .next t ∧ failed 0 t) ∧
    (s.twn.pair = .refused → s.twn.identTick + 600 ≤ s.now → ∃ t, exec .identityRepeat s = .next t ∧ t.twn.identTick = s.now) ∧
    (s.twn.pair ≠ .refused ∨ s.now < s.twn.identTick + 600 → exec .identityRepeat s = .next (s.after s))

/-- What the commands of shadow running do (R520, R531 to R538, R545). -/
def Obligations.ShadowRunningFollowsTheAuthority : Prop :=
  ∀ (h : AusHdr) (s : State),
    (s.hears h = true →
      let u := s.heard h
      (∀ rs, s.mirroring = true → s.shadows = true → ∃ t, exec (.mirror h rs) s = .next t ∧
        (s.twn.sealHeld = none → ∀ x, x ∈ t.twn.mirrorRx ↔ x ∈ s.twn.mirrorRx ∨ x ∈ rs.map (fun r => (h.tick, r)))) ∧
      (∀ i c n, s.mirroring = true → s.shadows = true →
        (∃ t, exec (.snapshot h 1 i c n) s = .next t ∧ t.leg i = (Config.snapLeg c).getD (s.leg i)) ∧
        (∃ t, exec (.snapshot h 2 i c n) s = .next t ∧ t.fold i = (Config.snapFold c).getD (s.fold i)) ∧
        (∃ t, exec (.snapshot h 3 i c n) s = .next t ∧ (t.leg i).aud = (Config.snapLeg c).elim (s.leg i).aud (·.aud))) ∧
      (∀ rs i k c n es cnt bytes ok, s.mirroring = false ∨ s.shadows = false →
        exec (.mirror h rs) s = .next (s.after u) ∧ exec (.snapshot h k i c n) s = .next (s.after u) ∧
        exec (.digest h es) s = .next (s.after u) ∧ exec (.sealFrame h cnt bytes ok) s = .next (s.after u)) ∧
      (∀ cnt bytes ok, s.mirroring = true → s.shadows = true → (∀ k, s.twn.sealed = some k → k < h.tick) →
        let mine := s.twn.mirrorRx.filter (fun e => e.1 = h.tick)
        let v : State := { u with twn := { u.twn with sealed := some h.tick, sealHeld := none, mirrorRx := s.twn.mirrorRx.filter (fun e => decide (h.tick < e.1)) } }
        exec (.sealFrame h cnt bytes ok) s = .next (s.after (
          if ok = false then u
          else if mine.length = cnt ∧ sumN (mine.map (fun e => e.2.bytes)) = bytes then
            (if s.twn.split then v else v.each mine (fun (s : State) (e : Nat × MirrorRec) => s.takeMirror h.tick e.2))
          else { u with twn := { u.twn with sealHeld := some (h.tick, cnt, bytes) } }))) ∧
      (∀ es own, s.mirroring = true → s.shadows = true → s.twn.split = false → (h.tick, own) ∈ s.twn.digests →
        (∀ x ∈ s.twn.digests, x.1 = h.tick → x.2 = own) →
        ∃ t, exec (.digest h es) s = .next t ∧
          ∀ d ∈ es, (∀ o ∈ s.legObjects d.leg, tfind o s.twn.unsynced = none) → (∃ x ∈ own, x.leg = d.leg ∧ x.differs d = true) →
            ∀ o ∈ s.legObjects d.leg, (tfind o t.twn.unsynced).isSome = true) ∧
      (∀ n dv fl legs k es, s.mirroring = true → s.holds_ = true → s.twn.digests.find? (fun e => e.1 = h.tick) = some (k, es) → legs ≠ [] →
        let snaps := u.snapOf legs
        ∃ t, exec (.digestAck h n dv fl legs) s = .next t ∧ t.twn.snapQ = snaps ++ s.twn.snapQ.filter (fun o => !snaps.contains o)) ∧
      (∀ n dv fl legs, s.mirroring = false ∨ s.holds_ = false ∨ s.twn.digests.find? (fun e => e.1 = h.tick) = none →
        exec (.digestAck h n dv fl legs) s = .next (s.after u)) ∧
      (∀ e T, s.mirroring = false → exec (.event h e T) s = .next (s.after u)) ∧
      (∀ T, s.mirroring = true →
        (∀ f ops, ∃ t, exec (.event h (.stage f ops) T) s = .next t ∧ t.adm.staged = s.adm.staged ++
          [{ id := s.adm.nextId, fold := f, at_ := T, staged := true, mirrored := true, ops := ops, arrival := h.tick }]) ∧
        (∀ objs, ∃ t, exec (.event h (.converge objs) T) s = .next t ∧ t.twn.converge = s.twn.converge ++ [(T, objs)]) ∧
        (∃ t, exec (.event h .switchover T) s = .next t ∧ t.twn.switchIn = some (T, false)) ∧
        (∀ e, (∃ l b, e = .mute l b) ∨ (∃ l g, e = .caption l g) ∨ (∃ n gs, e = .guardSet n gs) ∨ (∃ n g, e = .image n g) ∨ (∃ l b, e = .key l b) ∨ (∃ l, e = .release l) →
          ∃ t, exec (.event h e T) s = .next t ∧ t.twn.shadowEv = s.twn.shadowEv ++ [(T, e)]) ∧
        (∀ e, (∃ d b, e = .activate d b) ∨ e = .ready ∨ e = .notStaged ∨ e = .abortUpdate ∨ e = .fallback →
          exec (.event h e T) s = .next (s.after ((u.partnerUpdate e T).sendAus 11 (u.partnerUpdate e T).now 4 [h.seq.toNat])))) ∧
      (∀ q e, s.twn.events.find? (fun x => x.id = q) = some e →
        let v : State := { u with twn := { u.twn with events := s.twn.events.erase e } }
        let w := match e.phase with
          | some id => v.phaseMirrored id
          | none => v
        exec (.eventAck h q) s = .next (s.after (match e.reply with
          | some r => w.sendReplyNow r
          | none => w)) ∧
        (e.phase = none → e.reply = none → ∃ t, exec (.eventAck h q) s = .next t ∧ t.twn.events = s.twn.events.erase e)) ∧
      (∀ q, s.twn.events.find? (fun x => x.id = q) = none → exec (.eventAck h q) s = .next (s.after u)) ∧
      (∀ q f, (tget [] u.twn.retain (b2n h.bundleB)).find? (fun x => x.seq = q && decide (x.again < 2)) = some f →
        ∃ t, exec (.retry h q) s = .next t ∧ t.out = u.out ++ [.ausil (b2n h.bundleB) f.typ f.tick (f.seq :: f.body)]) ∧
      (∀ q, (tget [] u.twn.retain (b2n h.bundleB)).find? (fun x => x.seq = q && decide (x.again < 2)) = none → exec (.retry h q) s = .next (s.after u))) ∧
    (s.mirroring = false ∨ s.shadows = false ∨ s.twn.split = true ∨ (∃ k, s.twn.sealed = some k ∧ s.now - 1 ≤ k) → exec .sealTimeout s = .next (s.after s)) ∧
    (s.mirroring = true → s.shadows = true → s.twn.split = false → (∀ k, s.twn.sealed = some k → k < s.now - 1) →
      let v : State := { s with twn := { s.twn with sealed := some (s.now - 1), mirrorRx := s.twn.mirrorRx.filter (fun e => decide (s.now - 1 < e.1)) } }
      exec .sealTimeout s = .next (s.after (if s.twn.heardNow = [] then v.incR Reg.TWN_SILENT_TICKS
        else ((v.incR Reg.TWN_MIRROR_GAPS).raise fltMirrorGap subjLink).resyncAll))) ∧
    (∃ t, exec .convergenceAction s = .next t ∧
      ∀ x ∈ s.twn.converge, x.1 ≤ s.now → ∀ o ∈ x.2, ∀ y ∈ t.twn.unsynced, y.1 ≠ o) ∧
    (s.mirroring = true → 600 ≤ s.twn.disagTicks → ∃ t, exec .timeDisagree s = .next t ∧ t.twn.disagTicks = 0 ∧
      (s.boot.warmRun = false → t.faulted fltTimeDisagree subjLink = true)) ∧
    (s.mirroring = false ∨ s.twn.disagTicks < 600 → exec .timeDisagree s = .next (s.after s)) ∧
    (∀ d, s.mirroring = true → s.twn.split = false → d = true ∨ 6 ≤ s.twn.splitTicks →
      ∃ t, exec (.timeSplit d) s = .next t ∧ t.twn.split = true ∧ t.twn.splitTicks = 0 ∧ t.twn.pair = .syncing) ∧
    (∀ d, s.mirroring = true → s.twn.split = true → exec (.timeSplit d) s = .next (s.after (if d then { s with twn := { s.twn with okTicks := 0 } } else s))) ∧
    (∀ d, s.mirroring = false ∨ (s.twn.split = false ∧ d = false ∧ s.twn.splitTicks < 6) → exec (.timeSplit d) s = .next (s.after s))

/-- What ends and moves a pair (R526, R539 to R544, R550). -/
def Obligations.FencesLossAndSwitchoverFollowTheirRules : Prop :=
  ∀ (s : State),
    (∀ b, b < 2 → s.sealed = true → s.bundleUp b = false → ∃ t, exec (.bundleUp b) s = .next t ∧ t.bundleUp b = true ∧ t.adm.recount = true ∧
      t.twn.pair = (if s.twn.pair = .solo ∧ s.twn.paired = true then .linking else s.twn.pair)) ∧
    (∀ b, 2 ≤ b ∨ s.sealed = false ∨ s.bundleUp b = true → exec (.bundleUp b) s = .next (s.after s)) ∧
    (∀ b, b < 2 → s.sealed = true → s.bundleUp b = true → ∃ t, exec (.bundleDown b) s = .next t ∧ t.bundleUp b = false ∧ t.adm.recount = true ∧
      (s.bundleUp (1 - b) = true → t.twn.pair = s.twn.pair ∧ (s.boot.warmRun = false → t.faulted fltBundleDown (subjInst 14 (1 + b)) = true)) ∧
      (s.bundleUp (1 - b) = false → s.twn.pair = .linking ∨ s.twn.pair = .refused → t.twn.pair = .solo) ∧
      (s.bundleUp (1 - b) = false → s.mirroring = true →
        t.twn.pair = (if 2 ∈ s.twn.heardNow ∨ s.getF Reg.TWN_PAIR_STATUS 11 11 = 1 then .solo else s.twn.pair))) ∧
    (∀ b, 2 ≤ b ∨ s.sealed = false ∨ s.bundleUp b = false → exec (.bundleDown b) s = .next (s.after s)) ∧
    (∃ t, exec .ausHbInToggle s = .next t ∧ t.pins.hbIn = !s.pins.hbIn ∧ 2 ∈ t.twn.heardNow) ∧
    (s.pins.fenceIn = true → exec .ausFenceInRise s = .next (s.after s)) ∧
    (s.pins.fenceIn = false → ∃ t, exec .ausFenceInRise s = .next t ∧ t.pins.fenceIn = true ∧ (s.sealed = true → t.twn.pair = .fenced) ∧
      (s.sealed = true → s.mirroring = true → t.tly.fencedLatched = true ∧ t.boot.planePend = some .fence) ∧
      (s.sealed = false → t.twn.pair = s.twn.pair)) ∧
    (∃ t, exec .ausFenceInFall s = .next t ∧ t.pins.fenceIn = false ∧ t.twn.pair = s.twn.pair ∧ t.getF Reg.TWN_PAIR_STATUS 7 7 = 0) ∧
    (s.mirroring = false ∨ s.twn.takeAt.isSome = true ∨ (s.twn.lossAt = none ∧ s.getF Reg.TWN_PAIR_STATUS 13 12 < 3) → exec .partnerLoss s = .next (s.after s)) ∧
    (s.mirroring = true → s.twn.takeAt = none →
      let now := if s.twn.cross then s.twn.roleB else !s.twn.authSelf
      (s.twn.lossAt = none → s.getF Reg.TWN_PAIR_STATUS 13 12 = 3 → ∃ t, exec .partnerLoss s = .next t ∧ t.twn.lossAt = some s.now ∧
        t.twn.takeAt = (if now = true ∧ s.pins.fenceIn = false then some (s.now + 1) else none) ∧
        (now = true → s.pins.fenceIn = false → t.pins.fenceOut = true ∧ t.tly.epoch = s.tly.epoch + 1)) ∧
      (∀ d, s.twn.lossAt = some d → s.twn.cross = true → s.twn.roleB = false → d + 2 ≤ s.now → s.pins.fenceIn = false →
        ∃ t, exec .partnerLoss s = .next t ∧ t.twn.takeAt = some (s.now + 1) ∧ t.pins.fenceOut = true) ∧
      (∀ d, s.twn.lossAt = some d → s.twn.cross = false ∨ s.now < d + 2 → exec .partnerLoss s = .next (s.after s))) ∧
    (∀ T, s.twn.takeAt = some T → T ≤ s.now → exec .takeover s = .next (s.after ((s.takeOver).setPair .solo)) ∧
      ∃ t, exec .takeover s = .next t ∧ t.twn.pair = .solo) ∧
    (s.twn.takeAt = none → exec .takeover s = .next (s.after s)) ∧
    (∀ T, s.twn.takeAt = some T → s.now < T → exec .takeover s = .next (s.after s)) ∧
    (∀ d, s.twn.lossAt = some d → s.mirroring = true → s.twn.cross = false → s.twn.authSelf = true → d + 2 ≤ s.now → s.pins.fenceIn = false →
      ∃ t, exec .capLift s = .next t ∧ t.twn.pair = .solo) ∧
    (s.twn.lossAt = none → exec .capLift s = .next (s.after s)) ∧
    (∀ d, s.twn.lossAt = some d → s.mirroring = false ∨ s.twn.cross = true ∨ s.twn.authSelf = false ∨ s.now < d + 2 ∨ s.pins.fenceIn = true →
      exec .capLift s = .next (s.after s)) ∧
    (∀ m T, s.serves m 0x0204 .both = true →
      let u := s.taken m 0x0204; let rto := s.replyTo m 0x0204
      (T < s.now + 2 → exec (.switchover m T) s = .next (s.after (u.reply rto stMalformed))) ∧
      (s.now + 2 ≤ T → s.mirroring = false → exec (.switchover m T) s = .next (s.after (u.reply rto stInvalid))) ∧
      (s.now + 2 ≤ T → s.mirroring = true → s.holds_ = false → exec (.switchover m T) s = .next (s.after (u.reply rto stNotAuthority))) ∧
      (s.now + 2 ≤ T → s.mirroring = true → s.holds_ = true → s.twn.handover.isSome = true → exec (.switchover m T) s = .next (s.after (u.reply rto stBusy))) ∧
      (s.now + 2 ≤ T → s.mirroring = true → s.holds_ = true → s.twn.handover = none → ∃ t, exec (.switchover m T) s = .next t ∧
        t.twn.handover = some (T, s.allSynced, rto))) ∧
    (∀ T rto, s.twn.handover = some (T, true, rto) → s.twn.switchIn = none → T ≤ s.now → ∃ t, exec .switchoverExecute s = .next t ∧
      t.twn.handover = none ∧ t.twn.authSelf = false ∧ t.twn.hold = some false) ∧
    (∀ T, s.twn.handover = none → s.twn.switchIn = some (T, false) → T ≤ s.now → ∃ t, exec .switchoverExecute s = .next t ∧ t.twn.switchIn = some (T, true)) ∧
    (∀ T, s.twn.handover = none → s.twn.switchIn = some (T, true) → T < s.now → exec .switchoverExecute s =
      .next (s.after (({ s with twn := { s.twn with switchIn := none } }).takeOver).oweAll)) ∧
    (s.twn.handover = none → s.twn.switchIn = none → exec .switchoverExecute s = .next (s.after s)) ∧
    (∀ m, s.serves m 0x0205 .bothMaint = true → ∃ t, exec (.pairRelease m) s = .next t ∧ t.tly.fencedLatched = false ∧
      t.twn.pair = (if s.twn.pair = .fenced then .solo else s.twn.pair)) ∧
    (∀ v, s.answers Reg.TWN_CTRL = true → ∃ t, exec (.twnCtrlRelease v) s = .next t ∧
      t.pins.fenceOut = (s.pins.fenceOut && !(bit v 0 && (s.getF Reg.TWN_PAIR_STATUS 13 12 = 3 || bit s.twn.partnerFlags 2)))) ∧
    (∀ v, s.answers Reg.TWN_CTRL = false → exec (.twnCtrlRelease v) s = .next (s.after s))

/-- The frame of the control writes whose effect waits for the boundary (R13, R236, R280, R352, R423, R474). -/
def Obligations.WaitingControlsKeepEverythingElse : Prop :=
  ∀ (c : Instr) (s t : State), exec c s = .next t →
    (∃ e v, c = .venFenceCtrl e v) ∨ (∃ e v, c = .cmpFenceCtrl e v) ∨ (∃ v, c = .lacLaneFenceCtrl v) ∨ (∃ k v, c = .mcaFenceCtrl k v) ∨
    (∃ n, c = .dmcDrain n ∨ c = .dmcRetrain n ∨ c = .dmcRejoin n ∨ c = .dmcFence n) ∨ (∃ v, c = .softReset v) →
    s.KeepsMedia t ∧ s.KeepsRest t ∧ (s.Shown → ∀ d, reportReg d = false → t.getR d = s.getR d)

/-- The frame of the events that keep DRAM alive (R444, R460 to R466). -/
def Obligations.MemoryUpkeepKeepsContents : Prop :=
  ∀ (c : Instr) (s t : State), exec c s = .next t →
    (∃ a b d p, c = .refreshDue a b d p) ∨ (∃ a b x y, c = .dimmTempRead a b x y) ∨ c = .dqsDriftComp ∨ c = .zqLatch ∨ c = .rowTableClear ∨
    (∃ a b d, c = .openRowTimeout a b d) →
    s.KeepsMedia t ∧ s.KeepsRest t

/-- The frame of the requests that ask or set (R35, R128, R467, R498, R652 to R665). -/
def Obligations.QueriesAndSettingsKeepMedia : Prop :=
  ∀ (c : Instr) (m : Msg) (s t : State), exec c s = .next t →
    c = .queryLeg m ∨ c = .queryFold m ∨ (∃ a b d e, c = .tallyRead m a b d e) ∨ (∃ k, c = .kekProvision m k) ∨ c = .kekRevoke m ∨
    (∃ k, c = .mgmtKeyProvision m k) ∨ c = .mgmtKeyRevoke m ∨ (∃ o, c = .optionWrite m o) ∨ (∃ a r, c = .serviceAddress m a r) ∨
    (∃ p f b, c = .telemetryConfig m p f b) ∨ (∃ a p f r, c = .subscribe m a p f r) ∨ (∃ k, c = .timeSource m k) ∨ (∃ n r, c = .setPoint m n r) →
    s.KeepsMedia t ∧ t.twn = s.twn ∧ t.upd = s.upd
end

