-- ==== Sys2Proof/Laws/Commands.lean ====
section
/-!
SUPPORT. What the shared frame of a command leaves, once for all commands: the end of a command, a request that is served,
and a write of a control register that answers.
-/

namespace Sys2Proof.Machine

/-- A command that ends leaves its effect, with the status registers brought up to date and the queue as it was. -/
theorem finish_after (s t : State) : finish s t = .next (s.after t) := rfl

/-- A served request runs its body on the state with its arrival taken. -/
theorem request_served {s : State} {m : Msg} {typ : Nat} {p : Paths} (h : s.serves m typ p = true)
    (k : State → Nat → ReplyTo → State) : s.request m typ p k = k (s.taken m typ) (s.arrival m typ).1 (s.replyTo m typ) := by
  simp only [State.serves, State.comes, State.listens, Bool.and_eq_true, Bool.not_eq_true', Bool.or_eq_false_iff] at h
  obtain ⟨⟨⟨⟨⟨⟨⟨h1, h2⟩, h3⟩, h4⟩, h5⟩, h6⟩, h7⟩, h8⟩ := h
  unfold State.request
  rw [h1, h2, h3, h4, if_neg (by simp)]
  simp only []
  rw [if_neg (by simpa using h5), if_neg (by simp [h6]), if_neg (by simp [h7]), if_neg]
  · rfl
  · cases h : needsGrid typ <;> simp_all

/-- A control register that answers runs its command on the state written. -/
theorem ctrlWrite_answered {s : State} {d v free : Nat} (h : s.answers d = true) (k : State → State) :
    s.ctrlWrite d v free k = k (s.written d v free) := by
  simp only [State.answers, Bool.and_eq_true, Bool.not_eq_true'] at h
  unfold State.ctrlWrite
  rw [if_neg (by simp [h.1, h.2])]
  rfl

end Sys2Proof.Machine
end

