-- ==== Sys2Proof/Laws/Tables.lean ====
section
/-!
SUPPORT. Laws of the sparse tables and of the DRAM contents: a read after a write, and the canonical form.
-/

namespace Sys2Proof.Machine

variable {α : Type}

/-! ### Reads after writes -/

@[simp] theorem tfind_nil (k : Nat) : tfind k ([] : Tbl α) = none := rfl

theorem tfind_tdel_self (k : Nat) (t : Tbl α) : tfind k (tdel k t) = none := by
  induction t with
  | nil => rfl
  | cons e t ih =>
    obtain ⟨k', v⟩ := e
    by_cases h : k' = k <;> simp [tdel, h, tfind, ih]

theorem tfind_tdel_ne {j k : Nat} (h : j ≠ k) (t : Tbl α) : tfind j (tdel k t) = tfind j t := by
  induction t with
  | nil => rfl
  | cons e t ih =>
    obtain ⟨k', v⟩ := e
    by_cases hk : k' = k
    · subst hk
      simp [tdel, tfind, ih, Ne.symm h]
    · simp only [tdel, hk, if_false, tfind, ih]

theorem tfind_tins_self {k : Nat} (v : α) {t : Tbl α} (h : tfind k t = none) : tfind k (tins k v t) = some v := by
  induction t with
  | nil => simp [tins, tfind]
  | cons e t ih =>
    obtain ⟨k', v'⟩ := e
    have hk : k' ≠ k := by
      intro hk
      simp [tfind, hk] at h
    have ht : tfind k t = none := by simpa [tfind, hk] using h
    by_cases hl : k < k' <;> simp [tins, hl, tfind, hk, ih ht]

theorem tfind_tins_ne {j k : Nat} (h : j ≠ k) (v : α) (t : Tbl α) : tfind j (tins k v t) = tfind j t := by
  induction t with
  | nil => simp [tins, tfind, Ne.symm h]
  | cons e t ih =>
    obtain ⟨k', v'⟩ := e
    by_cases hl : k < k'
    · simp [tins, hl, tfind, Ne.symm h]
    · simp only [tins, hl, if_false, tfind, ih]

/-! ### Membership -/

theorem mem_tdel {k : Nat} {t : Tbl α} {e : Nat × α} (h : e ∈ tdel k t) : e ∈ t ∧ e.1 ≠ k := by
  induction t with
  | nil => simp [tdel] at h
  | cons x t ih =>
    obtain ⟨k', v⟩ := x
    by_cases hk : k' = k
    · simp only [tdel, hk, if_true] at h
      exact ⟨List.mem_cons_of_mem _ (ih h).1, (ih h).2⟩
    · simp only [tdel, hk, if_false, List.mem_cons] at h
      rcases h with rfl | h
      · exact ⟨List.mem_cons_self, hk⟩
      · exact ⟨List.mem_cons_of_mem _ (ih h).1, (ih h).2⟩

theorem mem_tins {k : Nat} {v : α} {t : Tbl α} {e : Nat × α} (h : e ∈ tins k v t) : e = (k, v) ∨ e ∈ t := by
  induction t with
  | nil => simpa [tins] using h
  | cons x t ih =>
    obtain ⟨k', v'⟩ := x
    by_cases hl : k < k'
    · simpa [tins, hl] using h
    · simp only [tins, hl, if_false, List.mem_cons] at h ⊢
      rcases h with h | h
      · exact .inr (.inl h)
      · rcases ih h with h | h
        · exact .inl h
        · exact .inr (.inr h)

section Defaults

variable [DecidableEq α] (d : α)

@[simp] theorem tget_tset_self (t : Tbl α) (k : Nat) (v : α) : tget d (tset d t k v) k = v := by
  unfold tget tset
  split
  · rename_i h
    simp [tfind_tdel_self, h]
  · simp [tfind_tins_self v (tfind_tdel_self k t)]

theorem tget_tset_ne {j k : Nat} (h : j ≠ k) (t : Tbl α) (v : α) : tget d (tset d t k v) j = tget d t j := by
  unfold tget tset
  split
  · simp [tfind_tdel_ne h]
  · simp [tfind_tins_ne h, tfind_tdel_ne h]

@[simp] theorem tget_tmod_self (t : Tbl α) (k : Nat) (f : α → α) : tget d (tmod d t k f) k = f (tget d t k) := by
  simp [tmod]

theorem tget_tmod_ne {j k : Nat} (h : j ≠ k) (t : Tbl α) (f : α → α) : tget d (tmod d t k f) j = tget d t j := by
  simp [tmod, tget_tset_ne d h]

/-! ### The canonical form -/

theorem twf_tdel (k : Nat) {t : Tbl α} (h : twf d t = true) : twf d (tdel k t) = true := by
  induction t with
  | nil => rfl
  | cons x t ih =>
    obtain ⟨k', v⟩ := x
    simp only [twf, Bool.and_eq_true, List.all_eq_true, decide_eq_true_eq] at h
    by_cases hk : k' = k
    · simpa [tdel, hk] using ih h.2
    · simp only [tdel, hk, if_false, twf, Bool.and_eq_true, List.all_eq_true, decide_eq_true_eq]
      exact ⟨⟨h.1.1, fun e he => h.1.2 e (mem_tdel he).1⟩, ih h.2⟩

theorem twf_tins {k : Nat} {v : α} (hv : v ≠ d) {t : Tbl α} (hk : ∀ e ∈ t, e.1 ≠ k) (h : twf d t = true) :
    twf d (tins k v t) = true := by
  induction t with
  | nil => simp [tins, twf, hv]
  | cons x t ih =>
    obtain ⟨k', v'⟩ := x
    have hne : k' ≠ k := hk (k', v') List.mem_cons_self
    have h' := h
    simp only [twf, Bool.and_eq_true, List.all_eq_true, decide_eq_true_eq] at h
    by_cases hl : k < k'
    · simp only [tins, hl, if_true]
      rw [twf, h']
      simp only [Bool.and_true, Bool.and_eq_true, List.all_eq_true, decide_eq_true_eq, List.mem_cons]
      refine ⟨hv, ?_⟩
      rintro e (rfl | he)
      · exact hl
      · exact lt_trans hl (h.1.2 e he)
    · simp only [tins, hl, if_false, twf, Bool.and_eq_true, List.all_eq_true, decide_eq_true_eq]
      refine ⟨⟨h.1.1, ?_⟩, ih (fun e he => hk e (List.mem_cons_of_mem _ he)) h.2⟩
      intro e he
      rcases mem_tins he with rfl | he
      · exact lt_of_le_of_ne (Nat.le_of_not_lt hl) hne
      · exact h.1.2 e he

/-- A write keeps a table's canonical form. -/
theorem twf_tset (k : Nat) (v : α) {t : Tbl α} (h : twf d t = true) : twf d (tset d t k v) = true := by
  unfold tset
  split
  · exact twf_tdel d k h
  · rename_i hv
    exact twf_tins d hv (fun e he => (mem_tdel he).2) (twf_tdel d k h)

end Defaults

/-! ### DRAM contents -/

theorem memWf_iff_pairwise (m : List Host.Cell) : memWf m = true ↔ m.Pairwise (fun a b => a.1 < b.1) := by
  induction m with
  | nil => simp [memWf]
  | cons e m ih =>
    obtain ⟨a, b⟩ := e
    simp [memWf, ih, List.pairwise_cons]

/-- A byte stored keeps the canonical form. -/
theorem memWf_memPut (a : Nat) (b : BitVec 8) {m : List Host.Cell} (h : memWf m = true) : memWf (memPut m a b) = true := by
  rw [memWf_iff_pairwise] at *
  have hd : (tdel a m).Pairwise (fun a b => a.1 < b.1) := by
    clear b
    induction m with
    | nil => simp [tdel]
    | cons e m ih =>
      obtain ⟨k, v⟩ := e
      rw [List.pairwise_cons] at h
      by_cases hk : k = a
      · simpa [tdel, hk] using ih h.2
      · simp only [tdel, hk, if_false, List.pairwise_cons]
        exact ⟨fun e he => h.1 e (mem_tdel he).1, ih h.2⟩
  have hn : ∀ e ∈ tdel a m, e.1 ≠ a := fun e he => (mem_tdel he).2
  unfold memPut
  generalize tdel a m = t at hd hn
  induction t with
  | nil => simp [tins]
  | cons e t ih =>
    obtain ⟨k, v⟩ := e
    have hne : k ≠ a := hn (k, v) List.mem_cons_self
    rw [List.pairwise_cons] at hd
    by_cases hl : a < k
    · simp only [tins, hl, if_true, List.pairwise_cons, List.mem_cons]
      refine ⟨?_, hd⟩
      rintro e (rfl | he)
      · exact hl
      · exact lt_trans hl (hd.1 e he)
    · simp only [tins, hl, if_false, List.pairwise_cons]
      refine ⟨?_, ih hd.2 (fun e he => hn e (List.mem_cons_of_mem _ he))⟩
      intro e he
      rcases mem_tins he with rfl | he
      · exact lt_of_le_of_ne (Nat.le_of_not_lt hl) hne
      · exact hd.1 e he

theorem memWf_memPutAll (bs : List (BitVec 8)) : ∀ (a : Nat) {m : List Host.Cell}, memWf m = true → memWf (memPutAll m a bs) = true := by
  induction bs with
  | nil => intro a m h; exact h
  | cons b bs ih => intro a m h; exact ih (a + 1) (memWf_memPut a b h)

theorem memWf_memErase (lo hi : Nat) {m : List Host.Cell} (h : memWf m = true) : memWf (memErase m lo hi) = true := by
  rw [memWf_iff_pairwise] at *
  exact h.filter _

theorem memWf_memCopy (src dst len : Nat) {m : List Host.Cell} (h : memWf m = true) : memWf (memCopy m src dst len) = true := by
  have key : ∀ (p : List Host.Cell) (m : List Host.Cell), memWf m = true →
      memWf (p.foldl (fun m e => memPut m (e.1 - src + dst) e.2) m) = true := by
    intro p
    induction p with
    | nil => intro m h; exact h
    | cons e p ih => intro m h; exact ih _ (memWf_memPut _ _ h)
  exact key _ _ (memWf_memErase _ _ h)

/-- A byte reads back as it was stored. -/
theorem memByte_memPut_self (m : List Host.Cell) (a : Nat) (b : BitVec 8) : memByte (memPut m a b) a = some b :=
  tfind_tins_self b (tfind_tdel_self a m)

/-- A byte stored leaves every other address alone. -/
theorem memByte_memPut_ne {a x : Nat} (h : x ≠ a) (m : List Host.Cell) (b : BitVec 8) : memByte (memPut m a b) x = memByte m x := by
  unfold memByte memPut
  rw [tfind_tins_ne h, tfind_tdel_ne h]

end Sys2Proof.Machine
end

