-- ==== Sys2Proof/Laws/Regs.lean ====
section
/-!
SUPPORT. Laws of bit fields and of the register file: a read after a write, writes elsewhere, and the status registers at the
end of a command.
-/

namespace Sys2Proof

/-! ### Bit fields -/

/-- Two digits are below the product of their bases. -/
theorem digits_lt {a b p q : Nat} (ha : a < p) (hb : b < q) : a * q + b < p * q := by
  have h : (a + 1) * q ≤ p * q := Nat.mul_le_mul_right q ha
  have e : (a + 1) * q = a * q + q := by ring
  omega

/-- A number cut at a field: what stands above, the field, what stands below. -/
theorem bits_cut (v hi lo : Nat) (h : lo ≤ hi) :
    v = v / 2 ^ (hi + 1) * 2 ^ (hi + 1) + bits v hi lo * 2 ^ lo + v % 2 ^ lo := by
  unfold bits
  rw [Nat.shiftRight_eq_div_pow]
  have e : hi + 1 = lo + (hi + 1 - lo) := by omega
  have h1 : v / 2 ^ (hi + 1) = v / 2 ^ lo / 2 ^ (hi + 1 - lo) := by
    rw [Nat.div_div_eq_div_mul, ← pow_add, ← e]
  have h2 := Nat.div_add_mod (v / 2 ^ lo) (2 ^ (hi + 1 - lo))
  have h3 := Nat.div_add_mod v (2 ^ lo)
  have h4 : 2 ^ (hi + 1) = 2 ^ lo * 2 ^ (hi + 1 - lo) := by rw [← pow_add, ← e]
  rw [h1, h4]
  generalize v / 2 ^ lo / 2 ^ (hi + 1 - lo) = a at *
  generalize v / 2 ^ lo % 2 ^ (hi + 1 - lo) = b at *
  rw [← h2] at h3
  nlinarith [h3]

theorem bits_lt (v hi lo : Nat) : bits v hi lo < 2 ^ (hi + 1 - lo) := Nat.mod_lt _ (by positivity)

/-- The field of a number given by its parts. -/
theorem bits_parts (a b c hi lo : Nat) (h : lo ≤ hi) (hb : b < 2 ^ (hi + 1 - lo)) (hc : c < 2 ^ lo) :
    bits (a * 2 ^ (hi + 1) + b * 2 ^ lo + c) hi lo = b := by
  unfold bits
  rw [Nat.shiftRight_eq_div_pow]
  have e : hi + 1 = lo + (hi + 1 - lo) := by omega
  have h4 : 2 ^ (hi + 1) = 2 ^ lo * 2 ^ (hi + 1 - lo) := by rw [← pow_add, ← e]
  have h5 : a * 2 ^ (hi + 1) + b * 2 ^ lo + c = c + 2 ^ lo * (b + 2 ^ (hi + 1 - lo) * a) := by rw [h4]; ring
  rw [h5, Nat.add_mul_div_left _ _ (by positivity), Nat.div_eq_of_lt hc, zero_add, Nat.add_mul_mod_self_left, Nat.mod_eq_of_lt hb]

theorem putBits_eq (v hi lo x : Nat) (h : lo ≤ hi) :
    putBits v hi lo x = v / 2 ^ (hi + 1) * 2 ^ (hi + 1) + x % 2 ^ (hi + 1 - lo) * 2 ^ lo + v % 2 ^ lo := by
  have hc := bits_cut v hi lo h
  unfold putBits
  omega

/-- A field reads as it was put. -/
theorem bits_putBits_self (v hi lo x : Nat) (h : lo ≤ hi) : bits (putBits v hi lo x) hi lo = x % 2 ^ (hi + 1 - lo) := by
  rw [putBits_eq v hi lo x h]
  exact bits_parts _ _ _ _ _ h (Nat.mod_lt _ (by positivity)) (Nat.mod_lt _ (by positivity))

/-- A field above the one put stays. -/
theorem bits_putBits_above (v hi lo x hi' lo' : Nat) (h : lo ≤ hi) (h' : hi < lo') :
    bits (putBits v hi lo x) hi' lo' = bits v hi' lo' := by
  have key : ∀ w : Nat, w / 2 ^ (hi + 1) = v / 2 ^ (hi + 1) → bits w hi' lo' = bits v hi' lo' := by
    intro w hw
    unfold bits
    rw [Nat.shiftRight_eq_div_pow, Nat.shiftRight_eq_div_pow]
    have e : lo' = (hi + 1) + (lo' - (hi + 1)) := by omega
    rw [e, pow_add, ← Nat.div_div_eq_div_mul, ← Nat.div_div_eq_div_mul, hw]
  apply key
  rw [putBits_eq v hi lo x h]
  have hx : x % 2 ^ (hi + 1 - lo) * 2 ^ lo + v % 2 ^ lo < 2 ^ (hi + 1) := by
    have e : hi + 1 = (hi + 1 - lo) + lo := by omega
    have h1 : x % 2 ^ (hi + 1 - lo) < 2 ^ (hi + 1 - lo) := Nat.mod_lt _ (by positivity)
    have h2 : v % 2 ^ lo < 2 ^ lo := Nat.mod_lt _ (by positivity)
    rw [show (2 : Nat) ^ (hi + 1) = 2 ^ (hi + 1 - lo) * 2 ^ lo by rw [← pow_add, ← e]]
    exact digits_lt h1 h2
  rw [add_assoc, Nat.mul_comm, Nat.mul_add_div (by positivity), Nat.div_eq_of_lt hx, add_zero]

/-- A field below the one put stays. -/
theorem bits_putBits_below (v hi lo x hi' lo' : Nat) (h : lo ≤ hi) (h' : hi' < lo) (hl : lo' ≤ hi') :
    bits (putBits v hi lo x) hi' lo' = bits v hi' lo' := by
  have key : ∀ w : Nat, bits w hi' lo' = w % 2 ^ lo / 2 ^ lo' % 2 ^ (hi' + 1 - lo') := by
    intro w
    unfold bits
    rw [Nat.shiftRight_eq_div_pow]
    have e1 : lo = lo' + (lo - lo') := by omega
    have e2 : (2 : Nat) ^ (hi' + 1 - lo') ∣ 2 ^ (lo - lo') := pow_dvd_pow 2 (by omega)
    conv_rhs => rw [e1, pow_add, Nat.mod_mul_right_div_self, Nat.mod_mod_of_dvd _ e2]
  rw [key, key v]
  congr 2
  rw [putBits_eq v hi lo x h]
  have e : hi + 1 = (hi + 1 - lo) + lo := by omega
  rw [e, pow_add, ← mul_assoc]
  simp [Nat.add_mod, Nat.mul_mod_left]

theorem putBits_lt (v hi lo x n : Nat) (h : lo ≤ hi) (hn : hi < n) (hv : v < 2 ^ n) : putBits v hi lo x < 2 ^ n := by
  rw [putBits_eq v hi lo x h]
  have e : n = (hi + 1) + (n - (hi + 1)) := by omega
  have e2 : hi + 1 = (hi + 1 - lo) + lo := by omega
  have h1 : x % 2 ^ (hi + 1 - lo) < 2 ^ (hi + 1 - lo) := Nat.mod_lt _ (by positivity)
  have h2 : v % 2 ^ lo < 2 ^ lo := Nat.mod_lt _ (by positivity)
  have h3 : v / 2 ^ (hi + 1) < 2 ^ (n - (hi + 1)) := by
    rw [Nat.div_lt_iff_lt_mul (by positivity), ← pow_add]
    rwa [show n - (hi + 1) + (hi + 1) = n by omega]
  have h4 : x % 2 ^ (hi + 1 - lo) * 2 ^ lo + v % 2 ^ lo < 2 ^ (hi + 1) := by
    rw [show (2 : Nat) ^ (hi + 1) = 2 ^ (hi + 1 - lo) * 2 ^ lo by rw [← pow_add, ← e2]]
    exact digits_lt h1 h2
  rw [show (2 : Nat) ^ n = 2 ^ (n - (hi + 1)) * 2 ^ (hi + 1) by rw [← pow_add, Nat.add_comm, ← e], add_assoc]
  exact digits_lt h3 h4

namespace Machine

/-! ### The register file -/

theorem getR_lt (s : State) (d : Nat) : s.getR d < 2 ^ 32 := (s.dword d).isLt

/-- A dword reads as it was set. -/
@[simp] theorem getR_setR_self (s : State) (d v : Nat) : (s.setR d v).getR d = v % 2 ^ 32 := by
  simp [State.getR, State.setR, State.setDword, State.dword, BitVec.toNat_ofNat]

/-- Every other dword stays. -/
theorem getR_setR_ne {d e : Nat} (h : e ≠ d) (s : State) (v : Nat) : (s.setR d v).getR e = s.getR e := by
  unfold State.getR State.setR State.setDword State.dword
  simp only
  by_cases hc : BitVec.ofNat 32 (coldOf d) = BitVec.ofNat 32 (coldOf e)
  · rw [hc, tget_tset_ne _ h]
  · unfold tget tset
    split <;> simp [tfind_tdel_ne h, tfind_tins_ne h]

theorem getR_setF_ne {d e : Nat} (h : e ≠ d) (s : State) (hi lo v : Nat) : (s.setF d hi lo v).getR e = s.getR e :=
  getR_setR_ne h s _

theorem getF_setR_ne {d e : Nat} (h : e ≠ d) (s : State) (hi lo v : Nat) : (s.setR d v).getF e hi lo = s.getF e hi lo := by
  simp [State.getF, getR_setR_ne h]

theorem getF_setF_ne {d e : Nat} (h : e ≠ d) (s : State) (hi lo hi' lo' v : Nat) :
    (s.setF d hi lo v).getF e hi' lo' = s.getF e hi' lo' := getF_setR_ne h s _ _ _

/-- A field reads as it was set. -/
theorem getF_setF_self (s : State) (d hi lo v : Nat) (h : lo ≤ hi) (hn : hi < 32) :
    (s.setF d hi lo v).getF d hi lo = v % 2 ^ (hi + 1 - lo) := by
  unfold State.getF State.setF
  rw [getR_setR_self, Nat.mod_eq_of_lt (putBits_lt _ _ _ _ 32 h hn (getR_lt s d)), bits_putBits_self _ _ _ _ h]

/-- A field above the one set stays. -/
theorem getF_setF_above (s : State) (d hi lo v hi' lo' : Nat) (h : lo ≤ hi) (hn : hi < 32) (h' : hi < lo') :
    (s.setF d hi lo v).getF d hi' lo' = s.getF d hi' lo' := by
  unfold State.getF State.setF
  rw [getR_setR_self, Nat.mod_eq_of_lt (putBits_lt _ _ _ _ 32 h hn (getR_lt s d)), bits_putBits_above _ _ _ _ _ _ h h']

/-- A field below the one set stays. -/
theorem getF_setF_below (s : State) (d hi lo v hi' lo' : Nat) (h : lo ≤ hi) (hn : hi < 32) (h' : hi' < lo) (hl : lo' ≤ hi') :
    (s.setF d hi lo v).getF d hi' lo' = s.getF d hi' lo' := by
  unfold State.getF State.setF
  rw [getR_setR_self, Nat.mod_eq_of_lt (putBits_lt _ _ _ _ 32 h hn (getR_lt s d)), bits_putBits_below _ _ _ _ _ _ h h' hl]

theorem getR_setR64_ne {d e : Nat} (h : e ≠ d) (h' : e ≠ d + 1) (s : State) (v : Nat) : (s.setR64 d v).getR e = s.getR e := by
  unfold State.setR64
  rw [getR_setR_ne h', getR_setR_ne h]

/-- A 64-bit register reads as it was set. -/
@[simp] theorem getR64_setR64_self (s : State) (d v : Nat) : (s.setR64 d v).getR64 d = v % 2 ^ 64 := by
  unfold State.getR64 State.setR64
  rw [getR_setR_ne (by omega : d ≠ d + 1), getR_setR_self, getR_setR_self]
  omega

/-- A dword set keeps the register file in its canonical form. -/
theorem dword_setDword_ne {d e : Nat} (h : e ≠ d) (s : State) (v : BitVec 32) : (s.setDword d v).dword e = s.dword e := by
  have := getR_setR_ne h s v.toNat
  unfold State.getR State.setR at this
  simp only [BitVec.ofNat_toNat, BitVec.setWidth_eq] at this
  exact BitVec.eq_of_toNat_eq this

end Machine

end Sys2Proof
end

