-- ==== Sys2Proof/Laws/State.lean ====
section
/-!
SUPPORT. Each shared update of the state and each field: what an update leaves alone, and what it sets, true by unfolding.
-/

namespace Sys2Proof.Machine

/-! ### setDword -/

@[simp] theorem setDword_pending (s : State) (d : Nat) (v : BitVec 32) : (s.setDword d v).pending = s.pending := by simp only [State.setDword]
@[simp] theorem setDword_legs (s : State) (d : Nat) (v : BitVec 32) : (s.setDword d v).legs = s.legs := by simp only [State.setDword]
@[simp] theorem setDword_folds (s : State) (d : Nat) (v : BitVec 32) : (s.setDword d v).folds = s.folds := by simp only [State.setDword]
@[simp] theorem setDword_lcs (s : State) (d : Nat) (v : BitVec 32) : (s.setDword d v).lcs = s.lcs := by simp only [State.setDword]
@[simp] theorem setDword_streams (s : State) (d : Nat) (v : BitVec 32) : (s.setDword d v).streams = s.streams := by simp only [State.setDword]
@[simp] theorem setDword_adm (s : State) (d : Nat) (v : BitVec 32) : (s.setDword d v).adm = s.adm := by simp only [State.setDword]
@[simp] theorem setDword_net (s : State) (d : Nat) (v : BitVec 32) : (s.setDword d v).net = s.net := by simp only [State.setDword]
@[simp] theorem setDword_cip (s : State) (d : Nat) (v : BitVec 32) : (s.setDword d v).cip = s.cip := by simp only [State.setDword]
@[simp] theorem setDword_aud (s : State) (d : Nat) (v : BitVec 32) : (s.setDword d v).aud = s.aud := by simp only [State.setDword]
@[simp] theorem setDword_ven (s : State) (d : Nat) (v : BitVec 32) : (s.setDword d v).ven = s.ven := by simp only [State.setDword]
@[simp] theorem setDword_cmp (s : State) (d : Nat) (v : BitVec 32) : (s.setDword d v).cmp = s.cmp := by simp only [State.setDword]
@[simp] theorem setDword_lac (s : State) (d : Nat) (v : BitVec 32) : (s.setDword d v).lac = s.lac := by simp only [State.setDword]
@[simp] theorem setDword_egs (s : State) (d : Nat) (v : BitVec 32) : (s.setDword d v).egs = s.egs := by simp only [State.setDword]
@[simp] theorem setDword_drv (s : State) (d : Nat) (v : BitVec 32) : (s.setDword d v).drv = s.drv := by simp only [State.setDword]
@[simp] theorem setDword_bq (s : State) (d : Nat) (v : BitVec 32) : (s.setDword d v).bq = s.bq := by simp only [State.setDword]
@[simp] theorem setDword_dmc (s : State) (d : Nat) (v : BitVec 32) : (s.setDword d v).dmc = s.dmc := by simp only [State.setDword]
@[simp] theorem setDword_mem (s : State) (d : Nat) (v : BitVec 32) : (s.setDword d v).mem = s.mem := by simp only [State.setDword]
@[simp] theorem setDword_tim (s : State) (d : Nat) (v : BitVec 32) : (s.setDword d v).tim = s.tim := by simp only [State.setDword]
@[simp] theorem setDword_twn (s : State) (d : Nat) (v : BitVec 32) : (s.setDword d v).twn = s.twn := by simp only [State.setDword]
@[simp] theorem setDword_pins (s : State) (d : Nat) (v : BitVec 32) : (s.setDword d v).pins = s.pins := by simp only [State.setDword]
@[simp] theorem setDword_tly (s : State) (d : Nat) (v : BitVec 32) : (s.setDword d v).tly = s.tly := by simp only [State.setDword]
@[simp] theorem setDword_boot (s : State) (d : Nat) (v : BitVec 32) : (s.setDword d v).boot = s.boot := by simp only [State.setDword]
@[simp] theorem setDword_upd (s : State) (d : Nat) (v : BitVec 32) : (s.setDword d v).upd = s.upd := by simp only [State.setDword]
@[simp] theorem setDword_host (s : State) (d : Nat) (v : BitVec 32) : (s.setDword d v).host = s.host := by simp only [State.setDword]
@[simp] theorem setDword_flt (s : State) (d : Nat) (v : BitVec 32) : (s.setDword d v).flt = s.flt := by simp only [State.setDword]
@[simp] theorem setDword_selPend (s : State) (d : Nat) (v : BitVec 32) : (s.setDword d v).selPend = s.selPend := by simp only [State.setDword]
@[simp] theorem setDword_out (s : State) (d : Nat) (v : BitVec 32) : (s.setDword d v).out = s.out := by simp only [State.setDword]
@[simp] theorem setDword_free (s : State) (d : Nat) (v : BitVec 32) : (s.setDword d v).free = s.free := by simp only [State.setDword]

/-! ### setR -/

@[simp] theorem setR_pending (s : State) (d v : Nat) : (s.setR d v).pending = s.pending := by simp only [State.setR, setDword_pending]
@[simp] theorem setR_legs (s : State) (d v : Nat) : (s.setR d v).legs = s.legs := by simp only [State.setR, setDword_legs]
@[simp] theorem setR_folds (s : State) (d v : Nat) : (s.setR d v).folds = s.folds := by simp only [State.setR, setDword_folds]
@[simp] theorem setR_lcs (s : State) (d v : Nat) : (s.setR d v).lcs = s.lcs := by simp only [State.setR, setDword_lcs]
@[simp] theorem setR_streams (s : State) (d v : Nat) : (s.setR d v).streams = s.streams := by simp only [State.setR, setDword_streams]
@[simp] theorem setR_adm (s : State) (d v : Nat) : (s.setR d v).adm = s.adm := by simp only [State.setR, setDword_adm]
@[simp] theorem setR_net (s : State) (d v : Nat) : (s.setR d v).net = s.net := by simp only [State.setR, setDword_net]
@[simp] theorem setR_cip (s : State) (d v : Nat) : (s.setR d v).cip = s.cip := by simp only [State.setR, setDword_cip]
@[simp] theorem setR_aud (s : State) (d v : Nat) : (s.setR d v).aud = s.aud := by simp only [State.setR, setDword_aud]
@[simp] theorem setR_ven (s : State) (d v : Nat) : (s.setR d v).ven = s.ven := by simp only [State.setR, setDword_ven]
@[simp] theorem setR_cmp (s : State) (d v : Nat) : (s.setR d v).cmp = s.cmp := by simp only [State.setR, setDword_cmp]
@[simp] theorem setR_lac (s : State) (d v : Nat) : (s.setR d v).lac = s.lac := by simp only [State.setR, setDword_lac]
@[simp] theorem setR_egs (s : State) (d v : Nat) : (s.setR d v).egs = s.egs := by simp only [State.setR, setDword_egs]
@[simp] theorem setR_drv (s : State) (d v : Nat) : (s.setR d v).drv = s.drv := by simp only [State.setR, setDword_drv]
@[simp] theorem setR_bq (s : State) (d v : Nat) : (s.setR d v).bq = s.bq := by simp only [State.setR, setDword_bq]
@[simp] theorem setR_dmc (s : State) (d v : Nat) : (s.setR d v).dmc = s.dmc := by simp only [State.setR, setDword_dmc]
@[simp] theorem setR_mem (s : State) (d v : Nat) : (s.setR d v).mem = s.mem := by simp only [State.setR, setDword_mem]
@[simp] theorem setR_tim (s : State) (d v : Nat) : (s.setR d v).tim = s.tim := by simp only [State.setR, setDword_tim]
@[simp] theorem setR_twn (s : State) (d v : Nat) : (s.setR d v).twn = s.twn := by simp only [State.setR, setDword_twn]
@[simp] theorem setR_pins (s : State) (d v : Nat) : (s.setR d v).pins = s.pins := by simp only [State.setR, setDword_pins]
@[simp] theorem setR_tly (s : State) (d v : Nat) : (s.setR d v).tly = s.tly := by simp only [State.setR, setDword_tly]
@[simp] theorem setR_boot (s : State) (d v : Nat) : (s.setR d v).boot = s.boot := by simp only [State.setR, setDword_boot]
@[simp] theorem setR_upd (s : State) (d v : Nat) : (s.setR d v).upd = s.upd := by simp only [State.setR, setDword_upd]
@[simp] theorem setR_host (s : State) (d v : Nat) : (s.setR d v).host = s.host := by simp only [State.setR, setDword_host]
@[simp] theorem setR_flt (s : State) (d v : Nat) : (s.setR d v).flt = s.flt := by simp only [State.setR, setDword_flt]
@[simp] theorem setR_selPend (s : State) (d v : Nat) : (s.setR d v).selPend = s.selPend := by simp only [State.setR, setDword_selPend]
@[simp] theorem setR_out (s : State) (d v : Nat) : (s.setR d v).out = s.out := by simp only [State.setR, setDword_out]
@[simp] theorem setR_free (s : State) (d v : Nat) : (s.setR d v).free = s.free := by simp only [State.setR, setDword_free]

/-! ### setF -/

@[simp] theorem setF_pending (s : State) (d hi lo v : Nat) : (s.setF d hi lo v).pending = s.pending := by simp only [State.setF, setR_pending]
@[simp] theorem setF_legs (s : State) (d hi lo v : Nat) : (s.setF d hi lo v).legs = s.legs := by simp only [State.setF, setR_legs]
@[simp] theorem setF_folds (s : State) (d hi lo v : Nat) : (s.setF d hi lo v).folds = s.folds := by simp only [State.setF, setR_folds]
@[simp] theorem setF_lcs (s : State) (d hi lo v : Nat) : (s.setF d hi lo v).lcs = s.lcs := by simp only [State.setF, setR_lcs]
@[simp] theorem setF_streams (s : State) (d hi lo v : Nat) : (s.setF d hi lo v).streams = s.streams := by simp only [State.setF, setR_streams]
@[simp] theorem setF_adm (s : State) (d hi lo v : Nat) : (s.setF d hi lo v).adm = s.adm := by simp only [State.setF, setR_adm]
@[simp] theorem setF_net (s : State) (d hi lo v : Nat) : (s.setF d hi lo v).net = s.net := by simp only [State.setF, setR_net]
@[simp] theorem setF_cip (s : State) (d hi lo v : Nat) : (s.setF d hi lo v).cip = s.cip := by simp only [State.setF, setR_cip]
@[simp] theorem setF_aud (s : State) (d hi lo v : Nat) : (s.setF d hi lo v).aud = s.aud := by simp only [State.setF, setR_aud]
@[simp] theorem setF_ven (s : State) (d hi lo v : Nat) : (s.setF d hi lo v).ven = s.ven := by simp only [State.setF, setR_ven]
@[simp] theorem setF_cmp (s : State) (d hi lo v : Nat) : (s.setF d hi lo v).cmp = s.cmp := by simp only [State.setF, setR_cmp]
@[simp] theorem setF_lac (s : State) (d hi lo v : Nat) : (s.setF d hi lo v).lac = s.lac := by simp only [State.setF, setR_lac]
@[simp] theorem setF_egs (s : State) (d hi lo v : Nat) : (s.setF d hi lo v).egs = s.egs := by simp only [State.setF, setR_egs]
@[simp] theorem setF_drv (s : State) (d hi lo v : Nat) : (s.setF d hi lo v).drv = s.drv := by simp only [State.setF, setR_drv]
@[simp] theorem setF_bq (s : State) (d hi lo v : Nat) : (s.setF d hi lo v).bq = s.bq := by simp only [State.setF, setR_bq]
@[simp] theorem setF_dmc (s : State) (d hi lo v : Nat) : (s.setF d hi lo v).dmc = s.dmc := by simp only [State.setF, setR_dmc]
@[simp] theorem setF_mem (s : State) (d hi lo v : Nat) : (s.setF d hi lo v).mem = s.mem := by simp only [State.setF, setR_mem]
@[simp] theorem setF_tim (s : State) (d hi lo v : Nat) : (s.setF d hi lo v).tim = s.tim := by simp only [State.setF, setR_tim]
@[simp] theorem setF_twn (s : State) (d hi lo v : Nat) : (s.setF d hi lo v).twn = s.twn := by simp only [State.setF, setR_twn]
@[simp] theorem setF_pins (s : State) (d hi lo v : Nat) : (s.setF d hi lo v).pins = s.pins := by simp only [State.setF, setR_pins]
@[simp] theorem setF_tly (s : State) (d hi lo v : Nat) : (s.setF d hi lo v).tly = s.tly := by simp only [State.setF, setR_tly]
@[simp] theorem setF_boot (s : State) (d hi lo v : Nat) : (s.setF d hi lo v).boot = s.boot := by simp only [State.setF, setR_boot]
@[simp] theorem setF_upd (s : State) (d hi lo v : Nat) : (s.setF d hi lo v).upd = s.upd := by simp only [State.setF, setR_upd]
@[simp] theorem setF_host (s : State) (d hi lo v : Nat) : (s.setF d hi lo v).host = s.host := by simp only [State.setF, setR_host]
@[simp] theorem setF_flt (s : State) (d hi lo v : Nat) : (s.setF d hi lo v).flt = s.flt := by simp only [State.setF, setR_flt]
@[simp] theorem setF_selPend (s : State) (d hi lo v : Nat) : (s.setF d hi lo v).selPend = s.selPend := by simp only [State.setF, setR_selPend]
@[simp] theorem setF_out (s : State) (d hi lo v : Nat) : (s.setF d hi lo v).out = s.out := by simp only [State.setF, setR_out]
@[simp] theorem setF_free (s : State) (d hi lo v : Nat) : (s.setF d hi lo v).free = s.free := by simp only [State.setF, setR_free]

/-! ### setR64 -/

@[simp] theorem setR64_pending (s : State) (d v : Nat) : (s.setR64 d v).pending = s.pending := by simp only [State.setR64, setR_pending]
@[simp] theorem setR64_legs (s : State) (d v : Nat) : (s.setR64 d v).legs = s.legs := by simp only [State.setR64, setR_legs]
@[simp] theorem setR64_folds (s : State) (d v : Nat) : (s.setR64 d v).folds = s.folds := by simp only [State.setR64, setR_folds]
@[simp] theorem setR64_lcs (s : State) (d v : Nat) : (s.setR64 d v).lcs = s.lcs := by simp only [State.setR64, setR_lcs]
@[simp] theorem setR64_streams (s : State) (d v : Nat) : (s.setR64 d v).streams = s.streams := by simp only [State.setR64, setR_streams]
@[simp] theorem setR64_adm (s : State) (d v : Nat) : (s.setR64 d v).adm = s.adm := by simp only [State.setR64, setR_adm]
@[simp] theorem setR64_net (s : State) (d v : Nat) : (s.setR64 d v).net = s.net := by simp only [State.setR64, setR_net]
@[simp] theorem setR64_cip (s : State) (d v : Nat) : (s.setR64 d v).cip = s.cip := by simp only [State.setR64, setR_cip]
@[simp] theorem setR64_aud (s : State) (d v : Nat) : (s.setR64 d v).aud = s.aud := by simp only [State.setR64, setR_aud]
@[simp] theorem setR64_ven (s : State) (d v : Nat) : (s.setR64 d v).ven = s.ven := by simp only [State.setR64, setR_ven]
@[simp] theorem setR64_cmp (s : State) (d v : Nat) : (s.setR64 d v).cmp = s.cmp := by simp only [State.setR64, setR_cmp]
@[simp] theorem setR64_lac (s : State) (d v : Nat) : (s.setR64 d v).lac = s.lac := by simp only [State.setR64, setR_lac]
@[simp] theorem setR64_egs (s : State) (d v : Nat) : (s.setR64 d v).egs = s.egs := by simp only [State.setR64, setR_egs]
@[simp] theorem setR64_drv (s : State) (d v : Nat) : (s.setR64 d v).drv = s.drv := by simp only [State.setR64, setR_drv]
@[simp] theorem setR64_bq (s : State) (d v : Nat) : (s.setR64 d v).bq = s.bq := by simp only [State.setR64, setR_bq]
@[simp] theorem setR64_dmc (s : State) (d v : Nat) : (s.setR64 d v).dmc = s.dmc := by simp only [State.setR64, setR_dmc]
@[simp] theorem setR64_mem (s : State) (d v : Nat) : (s.setR64 d v).mem = s.mem := by simp only [State.setR64, setR_mem]
@[simp] theorem setR64_tim (s : State) (d v : Nat) : (s.setR64 d v).tim = s.tim := by simp only [State.setR64, setR_tim]
@[simp] theorem setR64_twn (s : State) (d v : Nat) : (s.setR64 d v).twn = s.twn := by simp only [State.setR64, setR_twn]
@[simp] theorem setR64_pins (s : State) (d v : Nat) : (s.setR64 d v).pins = s.pins := by simp only [State.setR64, setR_pins]
@[simp] theorem setR64_tly (s : State) (d v : Nat) : (s.setR64 d v).tly = s.tly := by simp only [State.setR64, setR_tly]
@[simp] theorem setR64_boot (s : State) (d v : Nat) : (s.setR64 d v).boot = s.boot := by simp only [State.setR64, setR_boot]
@[simp] theorem setR64_upd (s : State) (d v : Nat) : (s.setR64 d v).upd = s.upd := by simp only [State.setR64, setR_upd]
@[simp] theorem setR64_host (s : State) (d v : Nat) : (s.setR64 d v).host = s.host := by simp only [State.setR64, setR_host]
@[simp] theorem setR64_flt (s : State) (d v : Nat) : (s.setR64 d v).flt = s.flt := by simp only [State.setR64, setR_flt]
@[simp] theorem setR64_selPend (s : State) (d v : Nat) : (s.setR64 d v).selPend = s.selPend := by simp only [State.setR64, setR_selPend]
@[simp] theorem setR64_out (s : State) (d v : Nat) : (s.setR64 d v).out = s.out := by simp only [State.setR64, setR_out]
@[simp] theorem setR64_free (s : State) (d v : Nat) : (s.setR64 d v).free = s.free := by simp only [State.setR64, setR_free]

/-! ### incR -/

@[simp] theorem incR_pending (s : State) (d n : Nat) : (s.incR d n).pending = s.pending := by simp only [State.incR, setR_pending]
@[simp] theorem incR_legs (s : State) (d n : Nat) : (s.incR d n).legs = s.legs := by simp only [State.incR, setR_legs]
@[simp] theorem incR_folds (s : State) (d n : Nat) : (s.incR d n).folds = s.folds := by simp only [State.incR, setR_folds]
@[simp] theorem incR_lcs (s : State) (d n : Nat) : (s.incR d n).lcs = s.lcs := by simp only [State.incR, setR_lcs]
@[simp] theorem incR_streams (s : State) (d n : Nat) : (s.incR d n).streams = s.streams := by simp only [State.incR, setR_streams]
@[simp] theorem incR_adm (s : State) (d n : Nat) : (s.incR d n).adm = s.adm := by simp only [State.incR, setR_adm]
@[simp] theorem incR_net (s : State) (d n : Nat) : (s.incR d n).net = s.net := by simp only [State.incR, setR_net]
@[simp] theorem incR_cip (s : State) (d n : Nat) : (s.incR d n).cip = s.cip := by simp only [State.incR, setR_cip]
@[simp] theorem incR_aud (s : State) (d n : Nat) : (s.incR d n).aud = s.aud := by simp only [State.incR, setR_aud]
@[simp] theorem incR_ven (s : State) (d n : Nat) : (s.incR d n).ven = s.ven := by simp only [State.incR, setR_ven]
@[simp] theorem incR_cmp (s : State) (d n : Nat) : (s.incR d n).cmp = s.cmp := by simp only [State.incR, setR_cmp]
@[simp] theorem incR_lac (s : State) (d n : Nat) : (s.incR d n).lac = s.lac := by simp only [State.incR, setR_lac]
@[simp] theorem incR_egs (s : State) (d n : Nat) : (s.incR d n).egs = s.egs := by simp only [State.incR, setR_egs]
@[simp] theorem incR_drv (s : State) (d n : Nat) : (s.incR d n).drv = s.drv := by simp only [State.incR, setR_drv]
@[simp] theorem incR_bq (s : State) (d n : Nat) : (s.incR d n).bq = s.bq := by simp only [State.incR, setR_bq]
@[simp] theorem incR_dmc (s : State) (d n : Nat) : (s.incR d n).dmc = s.dmc := by simp only [State.incR, setR_dmc]
@[simp] theorem incR_mem (s : State) (d n : Nat) : (s.incR d n).mem = s.mem := by simp only [State.incR, setR_mem]
@[simp] theorem incR_tim (s : State) (d n : Nat) : (s.incR d n).tim = s.tim := by simp only [State.incR, setR_tim]
@[simp] theorem incR_twn (s : State) (d n : Nat) : (s.incR d n).twn = s.twn := by simp only [State.incR, setR_twn]
@[simp] theorem incR_pins (s : State) (d n : Nat) : (s.incR d n).pins = s.pins := by simp only [State.incR, setR_pins]
@[simp] theorem incR_tly (s : State) (d n : Nat) : (s.incR d n).tly = s.tly := by simp only [State.incR, setR_tly]
@[simp] theorem incR_boot (s : State) (d n : Nat) : (s.incR d n).boot = s.boot := by simp only [State.incR, setR_boot]
@[simp] theorem incR_upd (s : State) (d n : Nat) : (s.incR d n).upd = s.upd := by simp only [State.incR, setR_upd]
@[simp] theorem incR_host (s : State) (d n : Nat) : (s.incR d n).host = s.host := by simp only [State.incR, setR_host]
@[simp] theorem incR_flt (s : State) (d n : Nat) : (s.incR d n).flt = s.flt := by simp only [State.incR, setR_flt]
@[simp] theorem incR_selPend (s : State) (d n : Nat) : (s.incR d n).selPend = s.selPend := by simp only [State.incR, setR_selPend]
@[simp] theorem incR_out (s : State) (d n : Nat) : (s.incR d n).out = s.out := by simp only [State.incR, setR_out]
@[simp] theorem incR_free (s : State) (d n : Nat) : (s.incR d n).free = s.free := by simp only [State.incR, setR_free]

/-! ### incR64 -/

@[simp] theorem incR64_pending (s : State) (d n : Nat) : (s.incR64 d n).pending = s.pending := by simp only [State.incR64, setR64_pending]
@[simp] theorem incR64_legs (s : State) (d n : Nat) : (s.incR64 d n).legs = s.legs := by simp only [State.incR64, setR64_legs]
@[simp] theorem incR64_folds (s : State) (d n : Nat) : (s.incR64 d n).folds = s.folds := by simp only [State.incR64, setR64_folds]
@[simp] theorem incR64_lcs (s : State) (d n : Nat) : (s.incR64 d n).lcs = s.lcs := by simp only [State.incR64, setR64_lcs]
@[simp] theorem incR64_streams (s : State) (d n : Nat) : (s.incR64 d n).streams = s.streams := by simp only [State.incR64, setR64_streams]
@[simp] theorem incR64_adm (s : State) (d n : Nat) : (s.incR64 d n).adm = s.adm := by simp only [State.incR64, setR64_adm]
@[simp] theorem incR64_net (s : State) (d n : Nat) : (s.incR64 d n).net = s.net := by simp only [State.incR64, setR64_net]
@[simp] theorem incR64_cip (s : State) (d n : Nat) : (s.incR64 d n).cip = s.cip := by simp only [State.incR64, setR64_cip]
@[simp] theorem incR64_aud (s : State) (d n : Nat) : (s.incR64 d n).aud = s.aud := by simp only [State.incR64, setR64_aud]
@[simp] theorem incR64_ven (s : State) (d n : Nat) : (s.incR64 d n).ven = s.ven := by simp only [State.incR64, setR64_ven]
@[simp] theorem incR64_cmp (s : State) (d n : Nat) : (s.incR64 d n).cmp = s.cmp := by simp only [State.incR64, setR64_cmp]
@[simp] theorem incR64_lac (s : State) (d n : Nat) : (s.incR64 d n).lac = s.lac := by simp only [State.incR64, setR64_lac]
@[simp] theorem incR64_egs (s : State) (d n : Nat) : (s.incR64 d n).egs = s.egs := by simp only [State.incR64, setR64_egs]
@[simp] theorem incR64_drv (s : State) (d n : Nat) : (s.incR64 d n).drv = s.drv := by simp only [State.incR64, setR64_drv]
@[simp] theorem incR64_bq (s : State) (d n : Nat) : (s.incR64 d n).bq = s.bq := by simp only [State.incR64, setR64_bq]
@[simp] theorem incR64_dmc (s : State) (d n : Nat) : (s.incR64 d n).dmc = s.dmc := by simp only [State.incR64, setR64_dmc]
@[simp] theorem incR64_mem (s : State) (d n : Nat) : (s.incR64 d n).mem = s.mem := by simp only [State.incR64, setR64_mem]
@[simp] theorem incR64_tim (s : State) (d n : Nat) : (s.incR64 d n).tim = s.tim := by simp only [State.incR64, setR64_tim]
@[simp] theorem incR64_twn (s : State) (d n : Nat) : (s.incR64 d n).twn = s.twn := by simp only [State.incR64, setR64_twn]
@[simp] theorem incR64_pins (s : State) (d n : Nat) : (s.incR64 d n).pins = s.pins := by simp only [State.incR64, setR64_pins]
@[simp] theorem incR64_tly (s : State) (d n : Nat) : (s.incR64 d n).tly = s.tly := by simp only [State.incR64, setR64_tly]
@[simp] theorem incR64_boot (s : State) (d n : Nat) : (s.incR64 d n).boot = s.boot := by simp only [State.incR64, setR64_boot]
@[simp] theorem incR64_upd (s : State) (d n : Nat) : (s.incR64 d n).upd = s.upd := by simp only [State.incR64, setR64_upd]
@[simp] theorem incR64_host (s : State) (d n : Nat) : (s.incR64 d n).host = s.host := by simp only [State.incR64, setR64_host]
@[simp] theorem incR64_flt (s : State) (d n : Nat) : (s.incR64 d n).flt = s.flt := by simp only [State.incR64, setR64_flt]
@[simp] theorem incR64_selPend (s : State) (d n : Nat) : (s.incR64 d n).selPend = s.selPend := by simp only [State.incR64, setR64_selPend]
@[simp] theorem incR64_out (s : State) (d n : Nat) : (s.incR64 d n).out = s.out := by simp only [State.incR64, setR64_out]
@[simp] theorem incR64_free (s : State) (d n : Nat) : (s.incR64 d n).free = s.free := by simp only [State.incR64, setR64_free]

/-! ### showStatus -/

@[simp] theorem showStatus_pending (s : State) : (s.showStatus).pending = s.pending := by simp only [State.showStatus, setR_pending, setF_pending, setR64_pending]
@[simp] theorem showStatus_legs (s : State) : (s.showStatus).legs = s.legs := by simp only [State.showStatus, setR_legs, setF_legs, setR64_legs]
@[simp] theorem showStatus_folds (s : State) : (s.showStatus).folds = s.folds := by simp only [State.showStatus, setR_folds, setF_folds, setR64_folds]
@[simp] theorem showStatus_lcs (s : State) : (s.showStatus).lcs = s.lcs := by simp only [State.showStatus, setR_lcs, setF_lcs, setR64_lcs]
@[simp] theorem showStatus_streams (s : State) : (s.showStatus).streams = s.streams := by simp only [State.showStatus, setR_streams, setF_streams, setR64_streams]
@[simp] theorem showStatus_adm (s : State) : (s.showStatus).adm = s.adm := by simp only [State.showStatus, setR_adm, setF_adm, setR64_adm]
@[simp] theorem showStatus_net (s : State) : (s.showStatus).net = s.net := by simp only [State.showStatus, setR_net, setF_net, setR64_net]
@[simp] theorem showStatus_cip (s : State) : (s.showStatus).cip = s.cip := by simp only [State.showStatus, setR_cip, setF_cip, setR64_cip]
@[simp] theorem showStatus_aud (s : State) : (s.showStatus).aud = s.aud := by simp only [State.showStatus, setR_aud, setF_aud, setR64_aud]
@[simp] theorem showStatus_ven (s : State) : (s.showStatus).ven = s.ven := by simp only [State.showStatus, setR_ven, setF_ven, setR64_ven]
@[simp] theorem showStatus_cmp (s : State) : (s.showStatus).cmp = s.cmp := by simp only [State.showStatus, setR_cmp, setF_cmp, setR64_cmp]
@[simp] theorem showStatus_lac (s : State) : (s.showStatus).lac = s.lac := by simp only [State.showStatus, setR_lac, setF_lac, setR64_lac]
@[simp] theorem showStatus_egs (s : State) : (s.showStatus).egs = s.egs := by simp only [State.showStatus, setR_egs, setF_egs, setR64_egs]
@[simp] theorem showStatus_drv (s : State) : (s.showStatus).drv = s.drv := by simp only [State.showStatus, setR_drv, setF_drv, setR64_drv]
@[simp] theorem showStatus_bq (s : State) : (s.showStatus).bq = s.bq := by simp only [State.showStatus, setR_bq, setF_bq, setR64_bq]
@[simp] theorem showStatus_dmc (s : State) : (s.showStatus).dmc = s.dmc := by simp only [State.showStatus, setR_dmc, setF_dmc, setR64_dmc]
@[simp] theorem showStatus_mem (s : State) : (s.showStatus).mem = s.mem := by simp only [State.showStatus, setR_mem, setF_mem, setR64_mem]
@[simp] theorem showStatus_tim (s : State) : (s.showStatus).tim = s.tim := by simp only [State.showStatus, setR_tim, setF_tim, setR64_tim]
@[simp] theorem showStatus_twn (s : State) : (s.showStatus).twn = s.twn := by simp only [State.showStatus, setR_twn, setF_twn, setR64_twn]
@[simp] theorem showStatus_pins (s : State) : (s.showStatus).pins = s.pins := by simp only [State.showStatus, setR_pins, setF_pins, setR64_pins]
@[simp] theorem showStatus_tly (s : State) : (s.showStatus).tly = s.tly := by simp only [State.showStatus, setR_tly, setF_tly, setR64_tly]
@[simp] theorem showStatus_boot (s : State) : (s.showStatus).boot = s.boot := by simp only [State.showStatus, setR_boot, setF_boot, setR64_boot]
@[simp] theorem showStatus_upd (s : State) : (s.showStatus).upd = s.upd := by simp only [State.showStatus, setR_upd, setF_upd, setR64_upd]
@[simp] theorem showStatus_host (s : State) : (s.showStatus).host = s.host := by simp only [State.showStatus, setR_host, setF_host, setR64_host]
@[simp] theorem showStatus_flt (s : State) : (s.showStatus).flt = s.flt := by simp only [State.showStatus, setR_flt, setF_flt, setR64_flt]
@[simp] theorem showStatus_selPend (s : State) : (s.showStatus).selPend = s.selPend := by simp only [State.showStatus, setR_selPend, setF_selPend, setR64_selPend]
@[simp] theorem showStatus_out (s : State) : (s.showStatus).out = s.out := by simp only [State.showStatus, setR_out, setF_out, setR64_out]
@[simp] theorem showStatus_free (s : State) : (s.showStatus).free = s.free := by simp only [State.showStatus, setR_free, setF_free, setR64_free]

/-! ### onLeg -/

@[simp] theorem onLeg_pending (s : State) (l : Nat) (f : LegRt → LegRt) : (s.onLeg l f).pending = s.pending := by simp only [State.onLeg]
@[simp] theorem onLeg_regs (s : State) (l : Nat) (f : LegRt → LegRt) : (s.onLeg l f).regs = s.regs := by simp only [State.onLeg]
@[simp] theorem onLeg_folds (s : State) (l : Nat) (f : LegRt → LegRt) : (s.onLeg l f).folds = s.folds := by simp only [State.onLeg]
@[simp] theorem onLeg_lcs (s : State) (l : Nat) (f : LegRt → LegRt) : (s.onLeg l f).lcs = s.lcs := by simp only [State.onLeg]
@[simp] theorem onLeg_streams (s : State) (l : Nat) (f : LegRt → LegRt) : (s.onLeg l f).streams = s.streams := by simp only [State.onLeg]
@[simp] theorem onLeg_adm (s : State) (l : Nat) (f : LegRt → LegRt) : (s.onLeg l f).adm = s.adm := by simp only [State.onLeg]
@[simp] theorem onLeg_net (s : State) (l : Nat) (f : LegRt → LegRt) : (s.onLeg l f).net = s.net := by simp only [State.onLeg]
@[simp] theorem onLeg_cip (s : State) (l : Nat) (f : LegRt → LegRt) : (s.onLeg l f).cip = s.cip := by simp only [State.onLeg]
@[simp] theorem onLeg_aud (s : State) (l : Nat) (f : LegRt → LegRt) : (s.onLeg l f).aud = s.aud := by simp only [State.onLeg]
@[simp] theorem onLeg_ven (s : State) (l : Nat) (f : LegRt → LegRt) : (s.onLeg l f).ven = s.ven := by simp only [State.onLeg]
@[simp] theorem onLeg_cmp (s : State) (l : Nat) (f : LegRt → LegRt) : (s.onLeg l f).cmp = s.cmp := by simp only [State.onLeg]
@[simp] theorem onLeg_lac (s : State) (l : Nat) (f : LegRt → LegRt) : (s.onLeg l f).lac = s.lac := by simp only [State.onLeg]
@[simp] theorem onLeg_egs (s : State) (l : Nat) (f : LegRt → LegRt) : (s.onLeg l f).egs = s.egs := by simp only [State.onLeg]
@[simp] theorem onLeg_drv (s : State) (l : Nat) (f : LegRt → LegRt) : (s.onLeg l f).drv = s.drv := by simp only [State.onLeg]
@[simp] theorem onLeg_bq (s : State) (l : Nat) (f : LegRt → LegRt) : (s.onLeg l f).bq = s.bq := by simp only [State.onLeg]
@[simp] theorem onLeg_dmc (s : State) (l : Nat) (f : LegRt → LegRt) : (s.onLeg l f).dmc = s.dmc := by simp only [State.onLeg]
@[simp] theorem onLeg_mem (s : State) (l : Nat) (f : LegRt → LegRt) : (s.onLeg l f).mem = s.mem := by simp only [State.onLeg]
@[simp] theorem onLeg_tim (s : State) (l : Nat) (f : LegRt → LegRt) : (s.onLeg l f).tim = s.tim := by simp only [State.onLeg]
@[simp] theorem onLeg_twn (s : State) (l : Nat) (f : LegRt → LegRt) : (s.onLeg l f).twn = s.twn := by simp only [State.onLeg]
@[simp] theorem onLeg_pins (s : State) (l : Nat) (f : LegRt → LegRt) : (s.onLeg l f).pins = s.pins := by simp only [State.onLeg]
@[simp] theorem onLeg_tly (s : State) (l : Nat) (f : LegRt → LegRt) : (s.onLeg l f).tly = s.tly := by simp only [State.onLeg]
@[simp] theorem onLeg_boot (s : State) (l : Nat) (f : LegRt → LegRt) : (s.onLeg l f).boot = s.boot := by simp only [State.onLeg]
@[simp] theorem onLeg_upd (s : State) (l : Nat) (f : LegRt → LegRt) : (s.onLeg l f).upd = s.upd := by simp only [State.onLeg]
@[simp] theorem onLeg_host (s : State) (l : Nat) (f : LegRt → LegRt) : (s.onLeg l f).host = s.host := by simp only [State.onLeg]
@[simp] theorem onLeg_flt (s : State) (l : Nat) (f : LegRt → LegRt) : (s.onLeg l f).flt = s.flt := by simp only [State.onLeg]
@[simp] theorem onLeg_selPend (s : State) (l : Nat) (f : LegRt → LegRt) : (s.onLeg l f).selPend = s.selPend := by simp only [State.onLeg]
@[simp] theorem onLeg_out (s : State) (l : Nat) (f : LegRt → LegRt) : (s.onLeg l f).out = s.out := by simp only [State.onLeg]
@[simp] theorem onLeg_free (s : State) (l : Nat) (f : LegRt → LegRt) : (s.onLeg l f).free = s.free := by simp only [State.onLeg]
@[simp] theorem onLeg_getR (s : State) (l : Nat) (f : LegRt → LegRt) (d : Nat) : (s.onLeg l f).getR d = s.getR d := by simp only [State.getR, State.dword, onLeg_regs]
@[simp] theorem onLeg_getF (s : State) (l : Nat) (f : LegRt → LegRt) (d hi lo : Nat) : (s.onLeg l f).getF d hi lo = s.getF d hi lo := by simp only [State.getF, onLeg_getR]
@[simp] theorem onLeg_self (s : State) (l : Nat) (f : LegRt → LegRt) : (s.onLeg l f).leg l = f (s.leg l) := tget_tmod_self _ _ _ _
theorem onLeg_ne (s : State) (l : Nat) (f : LegRt → LegRt) (j : Nat) (h : j ≠ l) : (s.onLeg l f).leg j = s.leg j := tget_tmod_ne _ h _ _

/-! ### onFold -/

@[simp] theorem onFold_pending (s : State) (x : Nat) (f : FoldRt → FoldRt) : (s.onFold x f).pending = s.pending := by simp only [State.onFold]
@[simp] theorem onFold_regs (s : State) (x : Nat) (f : FoldRt → FoldRt) : (s.onFold x f).regs = s.regs := by simp only [State.onFold]
@[simp] theorem onFold_legs (s : State) (x : Nat) (f : FoldRt → FoldRt) : (s.onFold x f).legs = s.legs := by simp only [State.onFold]
@[simp] theorem onFold_lcs (s : State) (x : Nat) (f : FoldRt → FoldRt) : (s.onFold x f).lcs = s.lcs := by simp only [State.onFold]
@[simp] theorem onFold_streams (s : State) (x : Nat) (f : FoldRt → FoldRt) : (s.onFold x f).streams = s.streams := by simp only [State.onFold]
@[simp] theorem onFold_adm (s : State) (x : Nat) (f : FoldRt → FoldRt) : (s.onFold x f).adm = s.adm := by simp only [State.onFold]
@[simp] theorem onFold_net (s : State) (x : Nat) (f : FoldRt → FoldRt) : (s.onFold x f).net = s.net := by simp only [State.onFold]
@[simp] theorem onFold_cip (s : State) (x : Nat) (f : FoldRt → FoldRt) : (s.onFold x f).cip = s.cip := by simp only [State.onFold]
@[simp] theorem onFold_aud (s : State) (x : Nat) (f : FoldRt → FoldRt) : (s.onFold x f).aud = s.aud := by simp only [State.onFold]
@[simp] theorem onFold_ven (s : State) (x : Nat) (f : FoldRt → FoldRt) : (s.onFold x f).ven = s.ven := by simp only [State.onFold]
@[simp] theorem onFold_cmp (s : State) (x : Nat) (f : FoldRt → FoldRt) : (s.onFold x f).cmp = s.cmp := by simp only [State.onFold]
@[simp] theorem onFold_lac (s : State) (x : Nat) (f : FoldRt → FoldRt) : (s.onFold x f).lac = s.lac := by simp only [State.onFold]
@[simp] theorem onFold_egs (s : State) (x : Nat) (f : FoldRt → FoldRt) : (s.onFold x f).egs = s.egs := by simp only [State.onFold]
@[simp] theorem onFold_drv (s : State) (x : Nat) (f : FoldRt → FoldRt) : (s.onFold x f).drv = s.drv := by simp only [State.onFold]
@[simp] theorem onFold_bq (s : State) (x : Nat) (f : FoldRt → FoldRt) : (s.onFold x f).bq = s.bq := by simp only [State.onFold]
@[simp] theorem onFold_dmc (s : State) (x : Nat) (f : FoldRt → FoldRt) : (s.onFold x f).dmc = s.dmc := by simp only [State.onFold]
@[simp] theorem onFold_mem (s : State) (x : Nat) (f : FoldRt → FoldRt) : (s.onFold x f).mem = s.mem := by simp only [State.onFold]
@[simp] theorem onFold_tim (s : State) (x : Nat) (f : FoldRt → FoldRt) : (s.onFold x f).tim = s.tim := by simp only [State.onFold]
@[simp] theorem onFold_twn (s : State) (x : Nat) (f : FoldRt → FoldRt) : (s.onFold x f).twn = s.twn := by simp only [State.onFold]
@[simp] theorem onFold_pins (s : State) (x : Nat) (f : FoldRt → FoldRt) : (s.onFold x f).pins = s.pins := by simp only [State.onFold]
@[simp] theorem onFold_tly (s : State) (x : Nat) (f : FoldRt → FoldRt) : (s.onFold x f).tly = s.tly := by simp only [State.onFold]
@[simp] theorem onFold_boot (s : State) (x : Nat) (f : FoldRt → FoldRt) : (s.onFold x f).boot = s.boot := by simp only [State.onFold]
@[simp] theorem onFold_upd (s : State) (x : Nat) (f : FoldRt → FoldRt) : (s.onFold x f).upd = s.upd := by simp only [State.onFold]
@[simp] theorem onFold_host (s : State) (x : Nat) (f : FoldRt → FoldRt) : (s.onFold x f).host = s.host := by simp only [State.onFold]
@[simp] theorem onFold_flt (s : State) (x : Nat) (f : FoldRt → FoldRt) : (s.onFold x f).flt = s.flt := by simp only [State.onFold]
@[simp] theorem onFold_selPend (s : State) (x : Nat) (f : FoldRt → FoldRt) : (s.onFold x f).selPend = s.selPend := by simp only [State.onFold]
@[simp] theorem onFold_out (s : State) (x : Nat) (f : FoldRt → FoldRt) : (s.onFold x f).out = s.out := by simp only [State.onFold]
@[simp] theorem onFold_free (s : State) (x : Nat) (f : FoldRt → FoldRt) : (s.onFold x f).free = s.free := by simp only [State.onFold]
@[simp] theorem onFold_getR (s : State) (x : Nat) (f : FoldRt → FoldRt) (d : Nat) : (s.onFold x f).getR d = s.getR d := by simp only [State.getR, State.dword, onFold_regs]
@[simp] theorem onFold_getF (s : State) (x : Nat) (f : FoldRt → FoldRt) (d hi lo : Nat) : (s.onFold x f).getF d hi lo = s.getF d hi lo := by simp only [State.getF, onFold_getR]
@[simp] theorem onFold_self (s : State) (x : Nat) (f : FoldRt → FoldRt) : (s.onFold x f).fold x = f (s.fold x) := tget_tmod_self _ _ _ _
theorem onFold_ne (s : State) (x : Nat) (f : FoldRt → FoldRt) (j : Nat) (h : j ≠ x) : (s.onFold x f).fold j = s.fold j := tget_tmod_ne _ h _ _

/-! ### onLc -/

@[simp] theorem onLc_pending (s : State) (c : Nat) (f : LineClass → LineClass) : (s.onLc c f).pending = s.pending := by simp only [State.onLc]
@[simp] theorem onLc_regs (s : State) (c : Nat) (f : LineClass → LineClass) : (s.onLc c f).regs = s.regs := by simp only [State.onLc]
@[simp] theorem onLc_legs (s : State) (c : Nat) (f : LineClass → LineClass) : (s.onLc c f).legs = s.legs := by simp only [State.onLc]
@[simp] theorem onLc_folds (s : State) (c : Nat) (f : LineClass → LineClass) : (s.onLc c f).folds = s.folds := by simp only [State.onLc]
@[simp] theorem onLc_streams (s : State) (c : Nat) (f : LineClass → LineClass) : (s.onLc c f).streams = s.streams := by simp only [State.onLc]
@[simp] theorem onLc_adm (s : State) (c : Nat) (f : LineClass → LineClass) : (s.onLc c f).adm = s.adm := by simp only [State.onLc]
@[simp] theorem onLc_net (s : State) (c : Nat) (f : LineClass → LineClass) : (s.onLc c f).net = s.net := by simp only [State.onLc]
@[simp] theorem onLc_cip (s : State) (c : Nat) (f : LineClass → LineClass) : (s.onLc c f).cip = s.cip := by simp only [State.onLc]
@[simp] theorem onLc_aud (s : State) (c : Nat) (f : LineClass → LineClass) : (s.onLc c f).aud = s.aud := by simp only [State.onLc]
@[simp] theorem onLc_ven (s : State) (c : Nat) (f : LineClass → LineClass) : (s.onLc c f).ven = s.ven := by simp only [State.onLc]
@[simp] theorem onLc_cmp (s : State) (c : Nat) (f : LineClass → LineClass) : (s.onLc c f).cmp = s.cmp := by simp only [State.onLc]
@[simp] theorem onLc_lac (s : State) (c : Nat) (f : LineClass → LineClass) : (s.onLc c f).lac = s.lac := by simp only [State.onLc]
@[simp] theorem onLc_egs (s : State) (c : Nat) (f : LineClass → LineClass) : (s.onLc c f).egs = s.egs := by simp only [State.onLc]
@[simp] theorem onLc_drv (s : State) (c : Nat) (f : LineClass → LineClass) : (s.onLc c f).drv = s.drv := by simp only [State.onLc]
@[simp] theorem onLc_bq (s : State) (c : Nat) (f : LineClass → LineClass) : (s.onLc c f).bq = s.bq := by simp only [State.onLc]
@[simp] theorem onLc_dmc (s : State) (c : Nat) (f : LineClass → LineClass) : (s.onLc c f).dmc = s.dmc := by simp only [State.onLc]
@[simp] theorem onLc_mem (s : State) (c : Nat) (f : LineClass → LineClass) : (s.onLc c f).mem = s.mem := by simp only [State.onLc]
@[simp] theorem onLc_tim (s : State) (c : Nat) (f : LineClass → LineClass) : (s.onLc c f).tim = s.tim := by simp only [State.onLc]
@[simp] theorem onLc_twn (s : State) (c : Nat) (f : LineClass → LineClass) : (s.onLc c f).twn = s.twn := by simp only [State.onLc]
@[simp] theorem onLc_pins (s : State) (c : Nat) (f : LineClass → LineClass) : (s.onLc c f).pins = s.pins := by simp only [State.onLc]
@[simp] theorem onLc_tly (s : State) (c : Nat) (f : LineClass → LineClass) : (s.onLc c f).tly = s.tly := by simp only [State.onLc]
@[simp] theorem onLc_boot (s : State) (c : Nat) (f : LineClass → LineClass) : (s.onLc c f).boot = s.boot := by simp only [State.onLc]
@[simp] theorem onLc_upd (s : State) (c : Nat) (f : LineClass → LineClass) : (s.onLc c f).upd = s.upd := by simp only [State.onLc]
@[simp] theorem onLc_host (s : State) (c : Nat) (f : LineClass → LineClass) : (s.onLc c f).host = s.host := by simp only [State.onLc]
@[simp] theorem onLc_flt (s : State) (c : Nat) (f : LineClass → LineClass) : (s.onLc c f).flt = s.flt := by simp only [State.onLc]
@[simp] theorem onLc_selPend (s : State) (c : Nat) (f : LineClass → LineClass) : (s.onLc c f).selPend = s.selPend := by simp only [State.onLc]
@[simp] theorem onLc_out (s : State) (c : Nat) (f : LineClass → LineClass) : (s.onLc c f).out = s.out := by simp only [State.onLc]
@[simp] theorem onLc_free (s : State) (c : Nat) (f : LineClass → LineClass) : (s.onLc c f).free = s.free := by simp only [State.onLc]
@[simp] theorem onLc_getR (s : State) (c : Nat) (f : LineClass → LineClass) (d : Nat) : (s.onLc c f).getR d = s.getR d := by simp only [State.getR, State.dword, onLc_regs]
@[simp] theorem onLc_getF (s : State) (c : Nat) (f : LineClass → LineClass) (d hi lo : Nat) : (s.onLc c f).getF d hi lo = s.getF d hi lo := by simp only [State.getF, onLc_getR]
@[simp] theorem onLc_self (s : State) (c : Nat) (f : LineClass → LineClass) : (s.onLc c f).lc c = f (s.lc c) := tget_tmod_self _ _ _ _
theorem onLc_ne (s : State) (c : Nat) (f : LineClass → LineClass) (j : Nat) (h : j ≠ c) : (s.onLc c f).lc j = s.lc j := tget_tmod_ne _ h _ _

/-! ### onStream -/

@[simp] theorem onStream_pending (s : State) (e : Nat) (f : StreamRt → StreamRt) : (s.onStream e f).pending = s.pending := by simp only [State.onStream]
@[simp] theorem onStream_regs (s : State) (e : Nat) (f : StreamRt → StreamRt) : (s.onStream e f).regs = s.regs := by simp only [State.onStream]
@[simp] theorem onStream_legs (s : State) (e : Nat) (f : StreamRt → StreamRt) : (s.onStream e f).legs = s.legs := by simp only [State.onStream]
@[simp] theorem onStream_folds (s : State) (e : Nat) (f : StreamRt → StreamRt) : (s.onStream e f).folds = s.folds := by simp only [State.onStream]
@[simp] theorem onStream_lcs (s : State) (e : Nat) (f : StreamRt → StreamRt) : (s.onStream e f).lcs = s.lcs := by simp only [State.onStream]
@[simp] theorem onStream_adm (s : State) (e : Nat) (f : StreamRt → StreamRt) : (s.onStream e f).adm = s.adm := by simp only [State.onStream]
@[simp] theorem onStream_net (s : State) (e : Nat) (f : StreamRt → StreamRt) : (s.onStream e f).net = s.net := by simp only [State.onStream]
@[simp] theorem onStream_cip (s : State) (e : Nat) (f : StreamRt → StreamRt) : (s.onStream e f).cip = s.cip := by simp only [State.onStream]
@[simp] theorem onStream_aud (s : State) (e : Nat) (f : StreamRt → StreamRt) : (s.onStream e f).aud = s.aud := by simp only [State.onStream]
@[simp] theorem onStream_ven (s : State) (e : Nat) (f : StreamRt → StreamRt) : (s.onStream e f).ven = s.ven := by simp only [State.onStream]
@[simp] theorem onStream_cmp (s : State) (e : Nat) (f : StreamRt → StreamRt) : (s.onStream e f).cmp = s.cmp := by simp only [State.onStream]
@[simp] theorem onStream_lac (s : State) (e : Nat) (f : StreamRt → StreamRt) : (s.onStream e f).lac = s.lac := by simp only [State.onStream]
@[simp] theorem onStream_egs (s : State) (e : Nat) (f : StreamRt → StreamRt) : (s.onStream e f).egs = s.egs := by simp only [State.onStream]
@[simp] theorem onStream_drv (s : State) (e : Nat) (f : StreamRt → StreamRt) : (s.onStream e f).drv = s.drv := by simp only [State.onStream]
@[simp] theorem onStream_bq (s : State) (e : Nat) (f : StreamRt → StreamRt) : (s.onStream e f).bq = s.bq := by simp only [State.onStream]
@[simp] theorem onStream_dmc (s : State) (e : Nat) (f : StreamRt → StreamRt) : (s.onStream e f).dmc = s.dmc := by simp only [State.onStream]
@[simp] theorem onStream_mem (s : State) (e : Nat) (f : StreamRt → StreamRt) : (s.onStream e f).mem = s.mem := by simp only [State.onStream]
@[simp] theorem onStream_tim (s : State) (e : Nat) (f : StreamRt → StreamRt) : (s.onStream e f).tim = s.tim := by simp only [State.onStream]
@[simp] theorem onStream_twn (s : State) (e : Nat) (f : StreamRt → StreamRt) : (s.onStream e f).twn = s.twn := by simp only [State.onStream]
@[simp] theorem onStream_pins (s : State) (e : Nat) (f : StreamRt → StreamRt) : (s.onStream e f).pins = s.pins := by simp only [State.onStream]
@[simp] theorem onStream_tly (s : State) (e : Nat) (f : StreamRt → StreamRt) : (s.onStream e f).tly = s.tly := by simp only [State.onStream]
@[simp] theorem onStream_boot (s : State) (e : Nat) (f : StreamRt → StreamRt) : (s.onStream e f).boot = s.boot := by simp only [State.onStream]
@[simp] theorem onStream_upd (s : State) (e : Nat) (f : StreamRt → StreamRt) : (s.onStream e f).upd = s.upd := by simp only [State.onStream]
@[simp] theorem onStream_host (s : State) (e : Nat) (f : StreamRt → StreamRt) : (s.onStream e f).host = s.host := by simp only [State.onStream]
@[simp] theorem onStream_flt (s : State) (e : Nat) (f : StreamRt → StreamRt) : (s.onStream e f).flt = s.flt := by simp only [State.onStream]
@[simp] theorem onStream_selPend (s : State) (e : Nat) (f : StreamRt → StreamRt) : (s.onStream e f).selPend = s.selPend := by simp only [State.onStream]
@[simp] theorem onStream_out (s : State) (e : Nat) (f : StreamRt → StreamRt) : (s.onStream e f).out = s.out := by simp only [State.onStream]
@[simp] theorem onStream_free (s : State) (e : Nat) (f : StreamRt → StreamRt) : (s.onStream e f).free = s.free := by simp only [State.onStream]
@[simp] theorem onStream_getR (s : State) (e : Nat) (f : StreamRt → StreamRt) (d : Nat) : (s.onStream e f).getR d = s.getR d := by simp only [State.getR, State.dword, onStream_regs]
@[simp] theorem onStream_getF (s : State) (e : Nat) (f : StreamRt → StreamRt) (d hi lo : Nat) : (s.onStream e f).getF d hi lo = s.getF d hi lo := by simp only [State.getF, onStream_getR]
@[simp] theorem onStream_self (s : State) (e : Nat) (f : StreamRt → StreamRt) : (s.onStream e f).stream e = f (s.stream e) := tget_tmod_self _ _ _ _
theorem onStream_ne (s : State) (e : Nat) (f : StreamRt → StreamRt) (j : Nat) (h : j ≠ e) : (s.onStream e f).stream j = s.stream j := tget_tmod_ne _ h _ _

/-! ### onSlot -/

@[simp] theorem onSlot_pending (s : State) (n : Nat) (f : KeySlot → KeySlot) : (s.onSlot n f).pending = s.pending := by simp only [State.onSlot]
@[simp] theorem onSlot_regs (s : State) (n : Nat) (f : KeySlot → KeySlot) : (s.onSlot n f).regs = s.regs := by simp only [State.onSlot]
@[simp] theorem onSlot_legs (s : State) (n : Nat) (f : KeySlot → KeySlot) : (s.onSlot n f).legs = s.legs := by simp only [State.onSlot]
@[simp] theorem onSlot_folds (s : State) (n : Nat) (f : KeySlot → KeySlot) : (s.onSlot n f).folds = s.folds := by simp only [State.onSlot]
@[simp] theorem onSlot_lcs (s : State) (n : Nat) (f : KeySlot → KeySlot) : (s.onSlot n f).lcs = s.lcs := by simp only [State.onSlot]
@[simp] theorem onSlot_streams (s : State) (n : Nat) (f : KeySlot → KeySlot) : (s.onSlot n f).streams = s.streams := by simp only [State.onSlot]
@[simp] theorem onSlot_adm (s : State) (n : Nat) (f : KeySlot → KeySlot) : (s.onSlot n f).adm = s.adm := by simp only [State.onSlot]
@[simp] theorem onSlot_net (s : State) (n : Nat) (f : KeySlot → KeySlot) : (s.onSlot n f).net = s.net := by simp only [State.onSlot]
@[simp] theorem onSlot_aud (s : State) (n : Nat) (f : KeySlot → KeySlot) : (s.onSlot n f).aud = s.aud := by simp only [State.onSlot]
@[simp] theorem onSlot_ven (s : State) (n : Nat) (f : KeySlot → KeySlot) : (s.onSlot n f).ven = s.ven := by simp only [State.onSlot]
@[simp] theorem onSlot_cmp (s : State) (n : Nat) (f : KeySlot → KeySlot) : (s.onSlot n f).cmp = s.cmp := by simp only [State.onSlot]
@[simp] theorem onSlot_lac (s : State) (n : Nat) (f : KeySlot → KeySlot) : (s.onSlot n f).lac = s.lac := by simp only [State.onSlot]
@[simp] theorem onSlot_egs (s : State) (n : Nat) (f : KeySlot → KeySlot) : (s.onSlot n f).egs = s.egs := by simp only [State.onSlot]
@[simp] theorem onSlot_drv (s : State) (n : Nat) (f : KeySlot → KeySlot) : (s.onSlot n f).drv = s.drv := by simp only [State.onSlot]
@[simp] theorem onSlot_bq (s : State) (n : Nat) (f : KeySlot → KeySlot) : (s.onSlot n f).bq = s.bq := by simp only [State.onSlot]
@[simp] theorem onSlot_dmc (s : State) (n : Nat) (f : KeySlot → KeySlot) : (s.onSlot n f).dmc = s.dmc := by simp only [State.onSlot]
@[simp] theorem onSlot_mem (s : State) (n : Nat) (f : KeySlot → KeySlot) : (s.onSlot n f).mem = s.mem := by simp only [State.onSlot]
@[simp] theorem onSlot_tim (s : State) (n : Nat) (f : KeySlot → KeySlot) : (s.onSlot n f).tim = s.tim := by simp only [State.onSlot]
@[simp] theorem onSlot_twn (s : State) (n : Nat) (f : KeySlot → KeySlot) : (s.onSlot n f).twn = s.twn := by simp only [State.onSlot]
@[simp] theorem onSlot_pins (s : State) (n : Nat) (f : KeySlot → KeySlot) : (s.onSlot n f).pins = s.pins := by simp only [State.onSlot]
@[simp] theorem onSlot_tly (s : State) (n : Nat) (f : KeySlot → KeySlot) : (s.onSlot n f).tly = s.tly := by simp only [State.onSlot]
@[simp] theorem onSlot_boot (s : State) (n : Nat) (f : KeySlot → KeySlot) : (s.onSlot n f).boot = s.boot := by simp only [State.onSlot]
@[simp] theorem onSlot_upd (s : State) (n : Nat) (f : KeySlot → KeySlot) : (s.onSlot n f).upd = s.upd := by simp only [State.onSlot]
@[simp] theorem onSlot_host (s : State) (n : Nat) (f : KeySlot → KeySlot) : (s.onSlot n f).host = s.host := by simp only [State.onSlot]
@[simp] theorem onSlot_flt (s : State) (n : Nat) (f : KeySlot → KeySlot) : (s.onSlot n f).flt = s.flt := by simp only [State.onSlot]
@[simp] theorem onSlot_selPend (s : State) (n : Nat) (f : KeySlot → KeySlot) : (s.onSlot n f).selPend = s.selPend := by simp only [State.onSlot]
@[simp] theorem onSlot_out (s : State) (n : Nat) (f : KeySlot → KeySlot) : (s.onSlot n f).out = s.out := by simp only [State.onSlot]
@[simp] theorem onSlot_free (s : State) (n : Nat) (f : KeySlot → KeySlot) : (s.onSlot n f).free = s.free := by simp only [State.onSlot]
@[simp] theorem onSlot_getR (s : State) (n : Nat) (f : KeySlot → KeySlot) (d : Nat) : (s.onSlot n f).getR d = s.getR d := by simp only [State.getR, State.dword, onSlot_regs]
@[simp] theorem onSlot_getF (s : State) (n : Nat) (f : KeySlot → KeySlot) (d hi lo : Nat) : (s.onSlot n f).getF d hi lo = s.getF d hi lo := by simp only [State.getF, onSlot_getR]
@[simp] theorem onSlot_self (s : State) (n : Nat) (f : KeySlot → KeySlot) : (s.onSlot n f).slot n = f (s.slot n) := tget_tmod_self _ _ _ _
theorem onSlot_ne (s : State) (n : Nat) (f : KeySlot → KeySlot) (j : Nat) (h : j ≠ n) : (s.onSlot n f).slot j = s.slot j := tget_tmod_ne _ h _ _

/-! ### onPort -/

@[simp] theorem onPort_pending (s : State) (p : Nat) (f : PortSt → PortSt) : (s.onPort p f).pending = s.pending := by simp only [State.onPort]
@[simp] theorem onPort_regs (s : State) (p : Nat) (f : PortSt → PortSt) : (s.onPort p f).regs = s.regs := by simp only [State.onPort]
@[simp] theorem onPort_legs (s : State) (p : Nat) (f : PortSt → PortSt) : (s.onPort p f).legs = s.legs := by simp only [State.onPort]
@[simp] theorem onPort_folds (s : State) (p : Nat) (f : PortSt → PortSt) : (s.onPort p f).folds = s.folds := by simp only [State.onPort]
@[simp] theorem onPort_lcs (s : State) (p : Nat) (f : PortSt → PortSt) : (s.onPort p f).lcs = s.lcs := by simp only [State.onPort]
@[simp] theorem onPort_streams (s : State) (p : Nat) (f : PortSt → PortSt) : (s.onPort p f).streams = s.streams := by simp only [State.onPort]
@[simp] theorem onPort_adm (s : State) (p : Nat) (f : PortSt → PortSt) : (s.onPort p f).adm = s.adm := by simp only [State.onPort]
@[simp] theorem onPort_cip (s : State) (p : Nat) (f : PortSt → PortSt) : (s.onPort p f).cip = s.cip := by simp only [State.onPort]
@[simp] theorem onPort_aud (s : State) (p : Nat) (f : PortSt → PortSt) : (s.onPort p f).aud = s.aud := by simp only [State.onPort]
@[simp] theorem onPort_ven (s : State) (p : Nat) (f : PortSt → PortSt) : (s.onPort p f).ven = s.ven := by simp only [State.onPort]
@[simp] theorem onPort_cmp (s : State) (p : Nat) (f : PortSt → PortSt) : (s.onPort p f).cmp = s.cmp := by simp only [State.onPort]
@[simp] theorem onPort_lac (s : State) (p : Nat) (f : PortSt → PortSt) : (s.onPort p f).lac = s.lac := by simp only [State.onPort]
@[simp] theorem onPort_egs (s : State) (p : Nat) (f : PortSt → PortSt) : (s.onPort p f).egs = s.egs := by simp only [State.onPort]
@[simp] theorem onPort_drv (s : State) (p : Nat) (f : PortSt → PortSt) : (s.onPort p f).drv = s.drv := by simp only [State.onPort]
@[simp] theorem onPort_bq (s : State) (p : Nat) (f : PortSt → PortSt) : (s.onPort p f).bq = s.bq := by simp only [State.onPort]
@[simp] theorem onPort_dmc (s : State) (p : Nat) (f : PortSt → PortSt) : (s.onPort p f).dmc = s.dmc := by simp only [State.onPort]
@[simp] theorem onPort_mem (s : State) (p : Nat) (f : PortSt → PortSt) : (s.onPort p f).mem = s.mem := by simp only [State.onPort]
@[simp] theorem onPort_tim (s : State) (p : Nat) (f : PortSt → PortSt) : (s.onPort p f).tim = s.tim := by simp only [State.onPort]
@[simp] theorem onPort_twn (s : State) (p : Nat) (f : PortSt → PortSt) : (s.onPort p f).twn = s.twn := by simp only [State.onPort]
@[simp] theorem onPort_pins (s : State) (p : Nat) (f : PortSt → PortSt) : (s.onPort p f).pins = s.pins := by simp only [State.onPort]
@[simp] theorem onPort_tly (s : State) (p : Nat) (f : PortSt → PortSt) : (s.onPort p f).tly = s.tly := by simp only [State.onPort]
@[simp] theorem onPort_boot (s : State) (p : Nat) (f : PortSt → PortSt) : (s.onPort p f).boot = s.boot := by simp only [State.onPort]
@[simp] theorem onPort_upd (s : State) (p : Nat) (f : PortSt → PortSt) : (s.onPort p f).upd = s.upd := by simp only [State.onPort]
@[simp] theorem onPort_host (s : State) (p : Nat) (f : PortSt → PortSt) : (s.onPort p f).host = s.host := by simp only [State.onPort]
@[simp] theorem onPort_flt (s : State) (p : Nat) (f : PortSt → PortSt) : (s.onPort p f).flt = s.flt := by simp only [State.onPort]
@[simp] theorem onPort_selPend (s : State) (p : Nat) (f : PortSt → PortSt) : (s.onPort p f).selPend = s.selPend := by simp only [State.onPort]
@[simp] theorem onPort_out (s : State) (p : Nat) (f : PortSt → PortSt) : (s.onPort p f).out = s.out := by simp only [State.onPort]
@[simp] theorem onPort_free (s : State) (p : Nat) (f : PortSt → PortSt) : (s.onPort p f).free = s.free := by simp only [State.onPort]
@[simp] theorem onPort_getR (s : State) (p : Nat) (f : PortSt → PortSt) (d : Nat) : (s.onPort p f).getR d = s.getR d := by simp only [State.getR, State.dword, onPort_regs]
@[simp] theorem onPort_getF (s : State) (p : Nat) (f : PortSt → PortSt) (d hi lo : Nat) : (s.onPort p f).getF d hi lo = s.getF d hi lo := by simp only [State.getF, onPort_getR]
@[simp] theorem onPort_self (s : State) (p : Nat) (f : PortSt → PortSt) : (s.onPort p f).port p = f (s.port p) := tget_tmod_self _ _ _ _
theorem onPort_ne (s : State) (p : Nat) (f : PortSt → PortSt) (j : Nat) (h : j ≠ p) : (s.onPort p f).port j = s.port j := tget_tmod_ne _ h _ _

/-! ### onTask -/

@[simp] theorem onTask_pending (s : State) (n : Nat) (f : Task → Task) : (s.onTask n f).pending = s.pending := by simp only [State.onTask]
@[simp] theorem onTask_regs (s : State) (n : Nat) (f : Task → Task) : (s.onTask n f).regs = s.regs := by simp only [State.onTask]
@[simp] theorem onTask_legs (s : State) (n : Nat) (f : Task → Task) : (s.onTask n f).legs = s.legs := by simp only [State.onTask]
@[simp] theorem onTask_folds (s : State) (n : Nat) (f : Task → Task) : (s.onTask n f).folds = s.folds := by simp only [State.onTask]
@[simp] theorem onTask_lcs (s : State) (n : Nat) (f : Task → Task) : (s.onTask n f).lcs = s.lcs := by simp only [State.onTask]
@[simp] theorem onTask_streams (s : State) (n : Nat) (f : Task → Task) : (s.onTask n f).streams = s.streams := by simp only [State.onTask]
@[simp] theorem onTask_adm (s : State) (n : Nat) (f : Task → Task) : (s.onTask n f).adm = s.adm := by simp only [State.onTask]
@[simp] theorem onTask_net (s : State) (n : Nat) (f : Task → Task) : (s.onTask n f).net = s.net := by simp only [State.onTask]
@[simp] theorem onTask_cip (s : State) (n : Nat) (f : Task → Task) : (s.onTask n f).cip = s.cip := by simp only [State.onTask]
@[simp] theorem onTask_aud (s : State) (n : Nat) (f : Task → Task) : (s.onTask n f).aud = s.aud := by simp only [State.onTask]
@[simp] theorem onTask_ven (s : State) (n : Nat) (f : Task → Task) : (s.onTask n f).ven = s.ven := by simp only [State.onTask]
@[simp] theorem onTask_cmp (s : State) (n : Nat) (f : Task → Task) : (s.onTask n f).cmp = s.cmp := by simp only [State.onTask]
@[simp] theorem onTask_lac (s : State) (n : Nat) (f : Task → Task) : (s.onTask n f).lac = s.lac := by simp only [State.onTask]
@[simp] theorem onTask_egs (s : State) (n : Nat) (f : Task → Task) : (s.onTask n f).egs = s.egs := by simp only [State.onTask]
@[simp] theorem onTask_bq (s : State) (n : Nat) (f : Task → Task) : (s.onTask n f).bq = s.bq := by simp only [State.onTask]
@[simp] theorem onTask_dmc (s : State) (n : Nat) (f : Task → Task) : (s.onTask n f).dmc = s.dmc := by simp only [State.onTask]
@[simp] theorem onTask_mem (s : State) (n : Nat) (f : Task → Task) : (s.onTask n f).mem = s.mem := by simp only [State.onTask]
@[simp] theorem onTask_tim (s : State) (n : Nat) (f : Task → Task) : (s.onTask n f).tim = s.tim := by simp only [State.onTask]
@[simp] theorem onTask_twn (s : State) (n : Nat) (f : Task → Task) : (s.onTask n f).twn = s.twn := by simp only [State.onTask]
@[simp] theorem onTask_pins (s : State) (n : Nat) (f : Task → Task) : (s.onTask n f).pins = s.pins := by simp only [State.onTask]
@[simp] theorem onTask_tly (s : State) (n : Nat) (f : Task → Task) : (s.onTask n f).tly = s.tly := by simp only [State.onTask]
@[simp] theorem onTask_boot (s : State) (n : Nat) (f : Task → Task) : (s.onTask n f).boot = s.boot := by simp only [State.onTask]
@[simp] theorem onTask_upd (s : State) (n : Nat) (f : Task → Task) : (s.onTask n f).upd = s.upd := by simp only [State.onTask]
@[simp] theorem onTask_host (s : State) (n : Nat) (f : Task → Task) : (s.onTask n f).host = s.host := by simp only [State.onTask]
@[simp] theorem onTask_flt (s : State) (n : Nat) (f : Task → Task) : (s.onTask n f).flt = s.flt := by simp only [State.onTask]
@[simp] theorem onTask_selPend (s : State) (n : Nat) (f : Task → Task) : (s.onTask n f).selPend = s.selPend := by simp only [State.onTask]
@[simp] theorem onTask_out (s : State) (n : Nat) (f : Task → Task) : (s.onTask n f).out = s.out := by simp only [State.onTask]
@[simp] theorem onTask_free (s : State) (n : Nat) (f : Task → Task) : (s.onTask n f).free = s.free := by simp only [State.onTask]
@[simp] theorem onTask_getR (s : State) (n : Nat) (f : Task → Task) (d : Nat) : (s.onTask n f).getR d = s.getR d := by simp only [State.getR, State.dword, onTask_regs]
@[simp] theorem onTask_getF (s : State) (n : Nat) (f : Task → Task) (d hi lo : Nat) : (s.onTask n f).getF d hi lo = s.getF d hi lo := by simp only [State.getF, onTask_getR]
@[simp] theorem onTask_self (s : State) (n : Nat) (f : Task → Task) : (s.onTask n f).task n = f (s.task n) := tget_tmod_self _ _ _ _
theorem onTask_ne (s : State) (n : Nat) (f : Task → Task) (j : Nat) (h : j ≠ n) : (s.onTask n f).task j = s.task j := tget_tmod_ne _ h _ _

/-! ### onChan -/

@[simp] theorem onChan_pending (s : State) (c : Nat) (f : ChanSt → ChanSt) : (s.onChan c f).pending = s.pending := by simp only [State.onChan]
@[simp] theorem onChan_regs (s : State) (c : Nat) (f : ChanSt → ChanSt) : (s.onChan c f).regs = s.regs := by simp only [State.onChan]
@[simp] theorem onChan_legs (s : State) (c : Nat) (f : ChanSt → ChanSt) : (s.onChan c f).legs = s.legs := by simp only [State.onChan]
@[simp] theorem onChan_folds (s : State) (c : Nat) (f : ChanSt → ChanSt) : (s.onChan c f).folds = s.folds := by simp only [State.onChan]
@[simp] theorem onChan_lcs (s : State) (c : Nat) (f : ChanSt → ChanSt) : (s.onChan c f).lcs = s.lcs := by simp only [State.onChan]
@[simp] theorem onChan_streams (s : State) (c : Nat) (f : ChanSt → ChanSt) : (s.onChan c f).streams = s.streams := by simp only [State.onChan]
@[simp] theorem onChan_adm (s : State) (c : Nat) (f : ChanSt → ChanSt) : (s.onChan c f).adm = s.adm := by simp only [State.onChan]
@[simp] theorem onChan_net (s : State) (c : Nat) (f : ChanSt → ChanSt) : (s.onChan c f).net = s.net := by simp only [State.onChan]
@[simp] theorem onChan_cip (s : State) (c : Nat) (f : ChanSt → ChanSt) : (s.onChan c f).cip = s.cip := by simp only [State.onChan]
@[simp] theorem onChan_aud (s : State) (c : Nat) (f : ChanSt → ChanSt) : (s.onChan c f).aud = s.aud := by simp only [State.onChan]
@[simp] theorem onChan_ven (s : State) (c : Nat) (f : ChanSt → ChanSt) : (s.onChan c f).ven = s.ven := by simp only [State.onChan]
@[simp] theorem onChan_cmp (s : State) (c : Nat) (f : ChanSt → ChanSt) : (s.onChan c f).cmp = s.cmp := by simp only [State.onChan]
@[simp] theorem onChan_lac (s : State) (c : Nat) (f : ChanSt → ChanSt) : (s.onChan c f).lac = s.lac := by simp only [State.onChan]
@[simp] theorem onChan_egs (s : State) (c : Nat) (f : ChanSt → ChanSt) : (s.onChan c f).egs = s.egs := by simp only [State.onChan]
@[simp] theorem onChan_drv (s : State) (c : Nat) (f : ChanSt → ChanSt) : (s.onChan c f).drv = s.drv := by simp only [State.onChan]
@[simp] theorem onChan_bq (s : State) (c : Nat) (f : ChanSt → ChanSt) : (s.onChan c f).bq = s.bq := by simp only [State.onChan]
@[simp] theorem onChan_mem (s : State) (c : Nat) (f : ChanSt → ChanSt) : (s.onChan c f).mem = s.mem := by simp only [State.onChan]
@[simp] theorem onChan_tim (s : State) (c : Nat) (f : ChanSt → ChanSt) : (s.onChan c f).tim = s.tim := by simp only [State.onChan]
@[simp] theorem onChan_twn (s : State) (c : Nat) (f : ChanSt → ChanSt) : (s.onChan c f).twn = s.twn := by simp only [State.onChan]
@[simp] theorem onChan_pins (s : State) (c : Nat) (f : ChanSt → ChanSt) : (s.onChan c f).pins = s.pins := by simp only [State.onChan]
@[simp] theorem onChan_tly (s : State) (c : Nat) (f : ChanSt → ChanSt) : (s.onChan c f).tly = s.tly := by simp only [State.onChan]
@[simp] theorem onChan_boot (s : State) (c : Nat) (f : ChanSt → ChanSt) : (s.onChan c f).boot = s.boot := by simp only [State.onChan]
@[simp] theorem onChan_upd (s : State) (c : Nat) (f : ChanSt → ChanSt) : (s.onChan c f).upd = s.upd := by simp only [State.onChan]
@[simp] theorem onChan_host (s : State) (c : Nat) (f : ChanSt → ChanSt) : (s.onChan c f).host = s.host := by simp only [State.onChan]
@[simp] theorem onChan_flt (s : State) (c : Nat) (f : ChanSt → ChanSt) : (s.onChan c f).flt = s.flt := by simp only [State.onChan]
@[simp] theorem onChan_selPend (s : State) (c : Nat) (f : ChanSt → ChanSt) : (s.onChan c f).selPend = s.selPend := by simp only [State.onChan]
@[simp] theorem onChan_out (s : State) (c : Nat) (f : ChanSt → ChanSt) : (s.onChan c f).out = s.out := by simp only [State.onChan]
@[simp] theorem onChan_free (s : State) (c : Nat) (f : ChanSt → ChanSt) : (s.onChan c f).free = s.free := by simp only [State.onChan]
@[simp] theorem onChan_getR (s : State) (c : Nat) (f : ChanSt → ChanSt) (d : Nat) : (s.onChan c f).getR d = s.getR d := by simp only [State.getR, State.dword, onChan_regs]
@[simp] theorem onChan_getF (s : State) (c : Nat) (f : ChanSt → ChanSt) (d hi lo : Nat) : (s.onChan c f).getF d hi lo = s.getF d hi lo := by simp only [State.getF, onChan_getR]
@[simp] theorem onChan_self (s : State) (c : Nat) (f : ChanSt → ChanSt) : (s.onChan c f).chan c = f (s.chan c) := tget_tmod_self _ _ _ _
theorem onChan_ne (s : State) (c : Nat) (f : ChanSt → ChanSt) (j : Nat) (h : j ≠ c) : (s.onChan c f).chan j = s.chan j := tget_tmod_ne _ h _ _

/-! ### onBobbin -/

@[simp] theorem onBobbin_pending (s : State) (q : Nat) (f : BqSt → BqSt) : (s.onBobbin q f).pending = s.pending := by simp only [State.onBobbin]
@[simp] theorem onBobbin_regs (s : State) (q : Nat) (f : BqSt → BqSt) : (s.onBobbin q f).regs = s.regs := by simp only [State.onBobbin]
@[simp] theorem onBobbin_legs (s : State) (q : Nat) (f : BqSt → BqSt) : (s.onBobbin q f).legs = s.legs := by simp only [State.onBobbin]
@[simp] theorem onBobbin_folds (s : State) (q : Nat) (f : BqSt → BqSt) : (s.onBobbin q f).folds = s.folds := by simp only [State.onBobbin]
@[simp] theorem onBobbin_lcs (s : State) (q : Nat) (f : BqSt → BqSt) : (s.onBobbin q f).lcs = s.lcs := by simp only [State.onBobbin]
@[simp] theorem onBobbin_streams (s : State) (q : Nat) (f : BqSt → BqSt) : (s.onBobbin q f).streams = s.streams := by simp only [State.onBobbin]
@[simp] theorem onBobbin_adm (s : State) (q : Nat) (f : BqSt → BqSt) : (s.onBobbin q f).adm = s.adm := by simp only [State.onBobbin]
@[simp] theorem onBobbin_net (s : State) (q : Nat) (f : BqSt → BqSt) : (s.onBobbin q f).net = s.net := by simp only [State.onBobbin]
@[simp] theorem onBobbin_cip (s : State) (q : Nat) (f : BqSt → BqSt) : (s.onBobbin q f).cip = s.cip := by simp only [State.onBobbin]
@[simp] theorem onBobbin_aud (s : State) (q : Nat) (f : BqSt → BqSt) : (s.onBobbin q f).aud = s.aud := by simp only [State.onBobbin]
@[simp] theorem onBobbin_ven (s : State) (q : Nat) (f : BqSt → BqSt) : (s.onBobbin q f).ven = s.ven := by simp only [State.onBobbin]
@[simp] theorem onBobbin_cmp (s : State) (q : Nat) (f : BqSt → BqSt) : (s.onBobbin q f).cmp = s.cmp := by simp only [State.onBobbin]
@[simp] theorem onBobbin_lac (s : State) (q : Nat) (f : BqSt → BqSt) : (s.onBobbin q f).lac = s.lac := by simp only [State.onBobbin]
@[simp] theorem onBobbin_egs (s : State) (q : Nat) (f : BqSt → BqSt) : (s.onBobbin q f).egs = s.egs := by simp only [State.onBobbin]
@[simp] theorem onBobbin_drv (s : State) (q : Nat) (f : BqSt → BqSt) : (s.onBobbin q f).drv = s.drv := by simp only [State.onBobbin]
@[simp] theorem onBobbin_dmc (s : State) (q : Nat) (f : BqSt → BqSt) : (s.onBobbin q f).dmc = s.dmc := by simp only [State.onBobbin]
@[simp] theorem onBobbin_mem (s : State) (q : Nat) (f : BqSt → BqSt) : (s.onBobbin q f).mem = s.mem := by simp only [State.onBobbin]
@[simp] theorem onBobbin_tim (s : State) (q : Nat) (f : BqSt → BqSt) : (s.onBobbin q f).tim = s.tim := by simp only [State.onBobbin]
@[simp] theorem onBobbin_twn (s : State) (q : Nat) (f : BqSt → BqSt) : (s.onBobbin q f).twn = s.twn := by simp only [State.onBobbin]
@[simp] theorem onBobbin_pins (s : State) (q : Nat) (f : BqSt → BqSt) : (s.onBobbin q f).pins = s.pins := by simp only [State.onBobbin]
@[simp] theorem onBobbin_tly (s : State) (q : Nat) (f : BqSt → BqSt) : (s.onBobbin q f).tly = s.tly := by simp only [State.onBobbin]
@[simp] theorem onBobbin_boot (s : State) (q : Nat) (f : BqSt → BqSt) : (s.onBobbin q f).boot = s.boot := by simp only [State.onBobbin]
@[simp] theorem onBobbin_upd (s : State) (q : Nat) (f : BqSt → BqSt) : (s.onBobbin q f).upd = s.upd := by simp only [State.onBobbin]
@[simp] theorem onBobbin_host (s : State) (q : Nat) (f : BqSt → BqSt) : (s.onBobbin q f).host = s.host := by simp only [State.onBobbin]
@[simp] theorem onBobbin_flt (s : State) (q : Nat) (f : BqSt → BqSt) : (s.onBobbin q f).flt = s.flt := by simp only [State.onBobbin]
@[simp] theorem onBobbin_selPend (s : State) (q : Nat) (f : BqSt → BqSt) : (s.onBobbin q f).selPend = s.selPend := by simp only [State.onBobbin]
@[simp] theorem onBobbin_out (s : State) (q : Nat) (f : BqSt → BqSt) : (s.onBobbin q f).out = s.out := by simp only [State.onBobbin]
@[simp] theorem onBobbin_free (s : State) (q : Nat) (f : BqSt → BqSt) : (s.onBobbin q f).free = s.free := by simp only [State.onBobbin]
@[simp] theorem onBobbin_getR (s : State) (q : Nat) (f : BqSt → BqSt) (d : Nat) : (s.onBobbin q f).getR d = s.getR d := by simp only [State.getR, State.dword, onBobbin_regs]
@[simp] theorem onBobbin_getF (s : State) (q : Nat) (f : BqSt → BqSt) (d hi lo : Nat) : (s.onBobbin q f).getF d hi lo = s.getF d hi lo := by simp only [State.getF, onBobbin_getR]
@[simp] theorem onBobbin_self (s : State) (q : Nat) (f : BqSt → BqSt) : (s.onBobbin q f).bobbin q = f (s.bobbin q) := tget_tmod_self _ _ _ _
theorem onBobbin_ne (s : State) (q : Nat) (f : BqSt → BqSt) (j : Nat) (h : j ≠ q) : (s.onBobbin q f).bobbin j = s.bobbin j := tget_tmod_ne _ h _ _

end Sys2Proof.Machine
end

