-- ==== Sys2Proof/Laws/Ops.lean ====
section
/-!
SUPPORT. What the shared operations leave alone: a fault raised, a record committed, an item put on a ring, a notification or a
reply sent change only the registers, the fault queue, the tally store, the host's and the partner's links, and the output.
-/

namespace Sys2Proof.Machine

/-- The part of the state that reporting leaves alone. -/
structure Media where
  legs : Tbl LegRt
  folds : Tbl FoldRt
  lcs : Tbl LineClass
  streams : Tbl StreamRt
  adm : Admission
  net : NetSt
  cip : CipSt
  aud : AudSt
  ven : VenSt
  cmp : CmpSt
  lac : LacSt
  egs : EgsSt
  drv : DrvSt
  bq : BqAll
  dmc : DmcSt
  mem : List Host.Cell
  tim : TimSt
  pins : PinSt
  upd : UpdSt
  pending : List Instr
  selPend : List Nat
  free : Nat

/-- The part of a state that reporting leaves alone. -/
def State.media (s : State) : Media :=
  { legs := s.legs, folds := s.folds, lcs := s.lcs, streams := s.streams, adm := s.adm, net := s.net, cip := s.cip, aud := s.aud, ven := s.ven, cmp := s.cmp, lac := s.lac, egs := s.egs, drv := s.drv, bq := s.bq, dmc := s.dmc, mem := s.mem, tim := s.tim, pins := s.pins, upd := s.upd, pending := s.pending, selPend := s.selPend, free := s.free }

/-! ### Loops and choices -/

theorem each_media {α : Type} (xs : List α) (f : State → α → State) (h : ∀ s x, (f s x).media = s.media) (s : State) :
    (s.each xs f).media = s.media := by
  unfold State.each
  induction xs generalizing s with
  | nil => rfl
  | cons x xs ih => rw [List.foldl_cons, ih, h]

theorem media_regs (s : State) (r : Tbl (BitVec 32)) : ({ s with regs := r } : State).media = s.media := by simp only [State.media]
theorem media_flt (s : State) (x : FaultSt) : ({ s with flt := x } : State).media = s.media := by simp only [State.media]
theorem media_boot (s : State) (x : BootSt) : ({ s with boot := x } : State).media = s.media := by simp only [State.media]
theorem media_tly (s : State) (x : TallySt) : ({ s with tly := x } : State).media = s.media := by simp only [State.media]
theorem media_host (s : State) (x : HostSt) : ({ s with host := x } : State).media = s.media := by simp only [State.media]
theorem media_twn (s : State) (x : TwnSt) : ({ s with twn := x } : State).media = s.media := by simp only [State.media]
theorem media_twn_out (s : State) (x : TwnSt) (y : List OutEv) : ({ s with twn := x, out := y } : State).media = s.media := by
  simp only [State.media]
theorem media_out (s : State) (x : List OutEv) : ({ s with out := x } : State).media = s.media := by simp only [State.media]

theorem setDword_media (s : State) (d : Nat) (v : BitVec 32) : (s.setDword d v).media = s.media := by simp only [State.setDword, State.media]
theorem setR_media (s : State) (d v : Nat) : (s.setR d v).media = s.media := by simp only [State.setR, setDword_media]
theorem setF_media (s : State) (d hi lo v : Nat) : (s.setF d hi lo v).media = s.media := by simp only [State.setF, setR_media]
theorem setR64_media (s : State) (d v : Nat) : (s.setR64 d v).media = s.media := by simp only [State.setR64, setR_media]
theorem incR_media (s : State) (d n : Nat) : (s.incR d n).media = s.media := by simp only [State.incR, setR_media]
theorem incR64_media (s : State) (d n : Nat) : (s.incR64 d n).media = s.media := by simp only [State.incR64, setR64_media]
theorem showStatus_media (s : State)  : (s.showStatus ).media = s.media := by simp only [State.showStatus, setR_media, setF_media, setR64_media]

/-! ### Reports -/

theorem queueFault_media (s : State) (f : RaisedFault) : (s.queueFault f).media = s.media := by
  unfold State.queueFault
  dsimp only
  split <;> exact media_flt s _

/-- A fault raised (R557, R676 to R680). -/
theorem raise_media (s : State) (code subject : Nat) (detail : List (Nat × Nat)) : (s.raise code subject detail).media = s.media := by
  unfold State.raise
  dsimp only
  split
  · split
    · exact media_boot s _
    · rw [queueFault_media, incR_media]
  · exact queueFault_media s _

/-- A fault raised at most once in a period (R679). -/
theorem raiseOnce_media (s : State) (code subject period : Nat) (detail : List (Nat × Nat)) :
    (s.raiseOnce code subject period detail).media = s.media := by
  unfold State.raiseOnce
  dsimp only
  repeat' split
  all_goals first
    | rfl
    | exact media_flt s _
    | rw [raise_media, media_flt]

theorem accessIgnored_media (s : State) (d v : Nat) : (s.accessIgnored d v).media = s.media := raise_media s _ _ _

/-- A record committed (R662, R663). -/
theorem tallyCommit_media (s : State) (typ key bytes : Nat) (payload : List (Nat × Nat)) (live : Bool) :
    (s.tallyCommit typ key bytes payload live).media = s.media := by
  unfold State.tallyCommit
  simp only [setF_media, setR64_media, setR_media, media_tly]

theorem ringPut_media (s : State) (r bytes : Nat) (it : RingItem) : (s.ringPut r bytes it).media = s.media := by
  unfold State.ringPut
  split
  · rfl
  · rw [media_host, incR_media]

theorem ringDrop_media (s : State) (r : Nat) : (s.ringDrop r).media = s.media := by
  unfold State.ringDrop
  split
  · rfl
  · rw [raiseOnce_media, incR_media]

theorem svcSend_media (s : State) (key : Nat) (slot : Option Nat) (body : SvcBody) : (s.svcSend key slot body).media = s.media := by
  unfold State.svcSend
  dsimp only
  split
  · rw [incR_media, media_host]
  · rw [incR_media, media_host, media_tly, tallyCommit_media]

/-- A notification sent (R650). -/
theorem notify_media (s : State) (code fault subject : Nat) (detail : List (Nat × Nat)) (tick : Option Nat) :
    (s.notify code fault subject detail tick).media = s.media := by
  have loop : ∀ (g : State → Nat → Notif) (t : State), (t.each (upTo 4) (fun s i =>
      let sub := tget {} s.host.subs i
      if sub.notify && sub.port != 0 then
        { s.svcSend s.svcOwnKey (some i) (.notify (g s i)) with
          host := { (s.svcSend s.svcOwnKey (some i) (.notify (g s i))).host with
            notifySeq := tmod 0 (s.svcSend s.svcOwnKey (some i) (.notify (g s i))).host.notifySeq (1 + i) (fun n => (n + 1) % 2 ^ 32) } }
      else s)).media = t.media := by
    intro g t
    apply each_media
    intro u i
    dsimp only
    split
    · rw [media_host, svcSend_media]
    · rfl
  unfold State.notify
  dsimp only
  repeat' split
  all_goals first
    | rw [loop (fun s i => _), ringPut_media, media_host]
    | rw [loop (fun s i => _), ringDrop_media, media_host]
    | rw [ringPut_media, media_host]
    | rw [ringDrop_media, media_host]

theorem sendReplyNow_media (s : State) (r : Reply) : (s.sendReplyNow r).media = s.media := by
  unfold State.sendReplyNow
  split
  · split
    · rfl
    · dsimp only
      split
      · exact ringPut_media s _ _ _
      · split
        · exact ringDrop_media s _
        · exact media_host s _
  · simp only [svcSend_media, media_host]

theorem sendAusOn_media (s : State) (b typ tick len : Nat) (body : List Nat) : (s.sendAusOn b typ tick len body).media = s.media := by
  unfold State.sendAusOn
  split
  · rfl
  · rw [media_twn_out, incR64_media, incR64_media]

theorem sendAus_media (s : State) (typ tick len : Nat) (body : List Nat) : (s.sendAus typ tick len body).media = s.media := by
  unfold State.sendAus
  split
  · rfl
  · dsimp only
    split
    · rw [media_twn, sendAusOn_media]
    · exact sendAusOn_media s _ _ _ _ _

theorem sendEvent_media (s : State) (typ effective : Nat) (phase : Option Nat) (held : Option Reply) :
    (s.sendEvent typ effective phase held).media = s.media := by
  unfold State.sendEvent
  dsimp only
  rw [sendAus_media, media_twn]

theorem sendReply_media (s : State) (r : Reply) : (s.sendReply r).media = s.media := by
  unfold State.sendReply
  split
  · exact sendEvent_media s _ _ _ _
  · exact sendReplyNow_media s r

/-- A reply sent (R641, R647). -/
theorem reply_media (s : State) (dst : ReplyTo) (status : Nat) (pay : RPay) : (s.reply dst status pay).media = s.media :=
  sendReply_media s _

theorem flushBlocked_media (s : State) : s.flushBlocked.media = s.media := by
  unfold State.flushBlocked
  dsimp only
  rw [each_media _ _ sendReplyNow_media, media_host]

theorem legStateNote_media (s : State) (l : Nat) : (s.legStateNote l).media = s.media := notify_media s _ _ _ _ _

/-! ### The same, field by field -/

@[simp] theorem raise_legs (s : State) (code subject : Nat) (detail : List (Nat × Nat)) : (s.raise code subject detail).legs = s.legs := congrArg Media.legs (raise_media s code subject detail)
@[simp] theorem raise_folds (s : State) (code subject : Nat) (detail : List (Nat × Nat)) : (s.raise code subject detail).folds = s.folds := congrArg Media.folds (raise_media s code subject detail)
@[simp] theorem raise_lcs (s : State) (code subject : Nat) (detail : List (Nat × Nat)) : (s.raise code subject detail).lcs = s.lcs := congrArg Media.lcs (raise_media s code subject detail)
@[simp] theorem raise_streams (s : State) (code subject : Nat) (detail : List (Nat × Nat)) : (s.raise code subject detail).streams = s.streams := congrArg Media.streams (raise_media s code subject detail)
@[simp] theorem raise_adm (s : State) (code subject : Nat) (detail : List (Nat × Nat)) : (s.raise code subject detail).adm = s.adm := congrArg Media.adm (raise_media s code subject detail)
@[simp] theorem raise_net (s : State) (code subject : Nat) (detail : List (Nat × Nat)) : (s.raise code subject detail).net = s.net := congrArg Media.net (raise_media s code subject detail)
@[simp] theorem raise_cip (s : State) (code subject : Nat) (detail : List (Nat × Nat)) : (s.raise code subject detail).cip = s.cip := congrArg Media.cip (raise_media s code subject detail)
@[simp] theorem raise_aud (s : State) (code subject : Nat) (detail : List (Nat × Nat)) : (s.raise code subject detail).aud = s.aud := congrArg Media.aud (raise_media s code subject detail)
@[simp] theorem raise_ven (s : State) (code subject : Nat) (detail : List (Nat × Nat)) : (s.raise code subject detail).ven = s.ven := congrArg Media.ven (raise_media s code subject detail)
@[simp] theorem raise_cmp (s : State) (code subject : Nat) (detail : List (Nat × Nat)) : (s.raise code subject detail).cmp = s.cmp := congrArg Media.cmp (raise_media s code subject detail)
@[simp] theorem raise_lac (s : State) (code subject : Nat) (detail : List (Nat × Nat)) : (s.raise code subject detail).lac = s.lac := congrArg Media.lac (raise_media s code subject detail)
@[simp] theorem raise_egs (s : State) (code subject : Nat) (detail : List (Nat × Nat)) : (s.raise code subject detail).egs = s.egs := congrArg Media.egs (raise_media s code subject detail)
@[simp] theorem raise_drv (s : State) (code subject : Nat) (detail : List (Nat × Nat)) : (s.raise code subject detail).drv = s.drv := congrArg Media.drv (raise_media s code subject detail)
@[simp] theorem raise_bq (s : State) (code subject : Nat) (detail : List (Nat × Nat)) : (s.raise code subject detail).bq = s.bq := congrArg Media.bq (raise_media s code subject detail)
@[simp] theorem raise_dmc (s : State) (code subject : Nat) (detail : List (Nat × Nat)) : (s.raise code subject detail).dmc = s.dmc := congrArg Media.dmc (raise_media s code subject detail)
@[simp] theorem raise_mem (s : State) (code subject : Nat) (detail : List (Nat × Nat)) : (s.raise code subject detail).mem = s.mem := congrArg Media.mem (raise_media s code subject detail)
@[simp] theorem raise_tim (s : State) (code subject : Nat) (detail : List (Nat × Nat)) : (s.raise code subject detail).tim = s.tim := congrArg Media.tim (raise_media s code subject detail)
@[simp] theorem raise_pins (s : State) (code subject : Nat) (detail : List (Nat × Nat)) : (s.raise code subject detail).pins = s.pins := congrArg Media.pins (raise_media s code subject detail)
@[simp] theorem raise_upd (s : State) (code subject : Nat) (detail : List (Nat × Nat)) : (s.raise code subject detail).upd = s.upd := congrArg Media.upd (raise_media s code subject detail)
@[simp] theorem raise_pending (s : State) (code subject : Nat) (detail : List (Nat × Nat)) : (s.raise code subject detail).pending = s.pending := congrArg Media.pending (raise_media s code subject detail)
@[simp] theorem raise_selPend (s : State) (code subject : Nat) (detail : List (Nat × Nat)) : (s.raise code subject detail).selPend = s.selPend := congrArg Media.selPend (raise_media s code subject detail)
@[simp] theorem raise_free (s : State) (code subject : Nat) (detail : List (Nat × Nat)) : (s.raise code subject detail).free = s.free := congrArg Media.free (raise_media s code subject detail)

@[simp] theorem raiseOnce_legs (s : State) (code subject period : Nat) (detail : List (Nat × Nat)) : (s.raiseOnce code subject period detail).legs = s.legs := congrArg Media.legs (raiseOnce_media s code subject period detail)
@[simp] theorem raiseOnce_folds (s : State) (code subject period : Nat) (detail : List (Nat × Nat)) : (s.raiseOnce code subject period detail).folds = s.folds := congrArg Media.folds (raiseOnce_media s code subject period detail)
@[simp] theorem raiseOnce_lcs (s : State) (code subject period : Nat) (detail : List (Nat × Nat)) : (s.raiseOnce code subject period detail).lcs = s.lcs := congrArg Media.lcs (raiseOnce_media s code subject period detail)
@[simp] theorem raiseOnce_streams (s : State) (code subject period : Nat) (detail : List (Nat × Nat)) : (s.raiseOnce code subject period detail).streams = s.streams := congrArg Media.streams (raiseOnce_media s code subject period detail)
@[simp] theorem raiseOnce_adm (s : State) (code subject period : Nat) (detail : List (Nat × Nat)) : (s.raiseOnce code subject period detail).adm = s.adm := congrArg Media.adm (raiseOnce_media s code subject period detail)
@[simp] theorem raiseOnce_net (s : State) (code subject period : Nat) (detail : List (Nat × Nat)) : (s.raiseOnce code subject period detail).net = s.net := congrArg Media.net (raiseOnce_media s code subject period detail)
@[simp] theorem raiseOnce_cip (s : State) (code subject period : Nat) (detail : List (Nat × Nat)) : (s.raiseOnce code subject period detail).cip = s.cip := congrArg Media.cip (raiseOnce_media s code subject period detail)
@[simp] theorem raiseOnce_aud (s : State) (code subject period : Nat) (detail : List (Nat × Nat)) : (s.raiseOnce code subject period detail).aud = s.aud := congrArg Media.aud (raiseOnce_media s code subject period detail)
@[simp] theorem raiseOnce_ven (s : State) (code subject period : Nat) (detail : List (Nat × Nat)) : (s.raiseOnce code subject period detail).ven = s.ven := congrArg Media.ven (raiseOnce_media s code subject period detail)
@[simp] theorem raiseOnce_cmp (s : State) (code subject period : Nat) (detail : List (Nat × Nat)) : (s.raiseOnce code subject period detail).cmp = s.cmp := congrArg Media.cmp (raiseOnce_media s code subject period detail)
@[simp] theorem raiseOnce_lac (s : State) (code subject period : Nat) (detail : List (Nat × Nat)) : (s.raiseOnce code subject period detail).lac = s.lac := congrArg Media.lac (raiseOnce_media s code subject period detail)
@[simp] theorem raiseOnce_egs (s : State) (code subject period : Nat) (detail : List (Nat × Nat)) : (s.raiseOnce code subject period detail).egs = s.egs := congrArg Media.egs (raiseOnce_media s code subject period detail)
@[simp] theorem raiseOnce_drv (s : State) (code subject period : Nat) (detail : List (Nat × Nat)) : (s.raiseOnce code subject period detail).drv = s.drv := congrArg Media.drv (raiseOnce_media s code subject period detail)
@[simp] theorem raiseOnce_bq (s : State) (code subject period : Nat) (detail : List (Nat × Nat)) : (s.raiseOnce code subject period detail).bq = s.bq := congrArg Media.bq (raiseOnce_media s code subject period detail)
@[simp] theorem raiseOnce_dmc (s : State) (code subject period : Nat) (detail : List (Nat × Nat)) : (s.raiseOnce code subject period detail).dmc = s.dmc := congrArg Media.dmc (raiseOnce_media s code subject period detail)
@[simp] theorem raiseOnce_mem (s : State) (code subject period : Nat) (detail : List (Nat × Nat)) : (s.raiseOnce code subject period detail).mem = s.mem := congrArg Media.mem (raiseOnce_media s code subject period detail)
@[simp] theorem raiseOnce_tim (s : State) (code subject period : Nat) (detail : List (Nat × Nat)) : (s.raiseOnce code subject period detail).tim = s.tim := congrArg Media.tim (raiseOnce_media s code subject period detail)
@[simp] theorem raiseOnce_pins (s : State) (code subject period : Nat) (detail : List (Nat × Nat)) : (s.raiseOnce code subject period detail).pins = s.pins := congrArg Media.pins (raiseOnce_media s code subject period detail)
@[simp] theorem raiseOnce_upd (s : State) (code subject period : Nat) (detail : List (Nat × Nat)) : (s.raiseOnce code subject period detail).upd = s.upd := congrArg Media.upd (raiseOnce_media s code subject period detail)
@[simp] theorem raiseOnce_pending (s : State) (code subject period : Nat) (detail : List (Nat × Nat)) : (s.raiseOnce code subject period detail).pending = s.pending := congrArg Media.pending (raiseOnce_media s code subject period detail)
@[simp] theorem raiseOnce_selPend (s : State) (code subject period : Nat) (detail : List (Nat × Nat)) : (s.raiseOnce code subject period detail).selPend = s.selPend := congrArg Media.selPend (raiseOnce_media s code subject period detail)
@[simp] theorem raiseOnce_free (s : State) (code subject period : Nat) (detail : List (Nat × Nat)) : (s.raiseOnce code subject period detail).free = s.free := congrArg Media.free (raiseOnce_media s code subject period detail)

@[simp] theorem accessIgnored_legs (s : State) (d v : Nat) : (s.accessIgnored d v).legs = s.legs := congrArg Media.legs (accessIgnored_media s d v)
@[simp] theorem accessIgnored_folds (s : State) (d v : Nat) : (s.accessIgnored d v).folds = s.folds := congrArg Media.folds (accessIgnored_media s d v)
@[simp] theorem accessIgnored_lcs (s : State) (d v : Nat) : (s.accessIgnored d v).lcs = s.lcs := congrArg Media.lcs (accessIgnored_media s d v)
@[simp] theorem accessIgnored_streams (s : State) (d v : Nat) : (s.accessIgnored d v).streams = s.streams := congrArg Media.streams (accessIgnored_media s d v)
@[simp] theorem accessIgnored_adm (s : State) (d v : Nat) : (s.accessIgnored d v).adm = s.adm := congrArg Media.adm (accessIgnored_media s d v)
@[simp] theorem accessIgnored_net (s : State) (d v : Nat) : (s.accessIgnored d v).net = s.net := congrArg Media.net (accessIgnored_media s d v)
@[simp] theorem accessIgnored_cip (s : State) (d v : Nat) : (s.accessIgnored d v).cip = s.cip := congrArg Media.cip (accessIgnored_media s d v)
@[simp] theorem accessIgnored_aud (s : State) (d v : Nat) : (s.accessIgnored d v).aud = s.aud := congrArg Media.aud (accessIgnored_media s d v)
@[simp] theorem accessIgnored_ven (s : State) (d v : Nat) : (s.accessIgnored d v).ven = s.ven := congrArg Media.ven (accessIgnored_media s d v)
@[simp] theorem accessIgnored_cmp (s : State) (d v : Nat) : (s.accessIgnored d v).cmp = s.cmp := congrArg Media.cmp (accessIgnored_media s d v)
@[simp] theorem accessIgnored_lac (s : State) (d v : Nat) : (s.accessIgnored d v).lac = s.lac := congrArg Media.lac (accessIgnored_media s d v)
@[simp] theorem accessIgnored_egs (s : State) (d v : Nat) : (s.accessIgnored d v).egs = s.egs := congrArg Media.egs (accessIgnored_media s d v)
@[simp] theorem accessIgnored_drv (s : State) (d v : Nat) : (s.accessIgnored d v).drv = s.drv := congrArg Media.drv (accessIgnored_media s d v)
@[simp] theorem accessIgnored_bq (s : State) (d v : Nat) : (s.accessIgnored d v).bq = s.bq := congrArg Media.bq (accessIgnored_media s d v)
@[simp] theorem accessIgnored_dmc (s : State) (d v : Nat) : (s.accessIgnored d v).dmc = s.dmc := congrArg Media.dmc (accessIgnored_media s d v)
@[simp] theorem accessIgnored_mem (s : State) (d v : Nat) : (s.accessIgnored d v).mem = s.mem := congrArg Media.mem (accessIgnored_media s d v)
@[simp] theorem accessIgnored_tim (s : State) (d v : Nat) : (s.accessIgnored d v).tim = s.tim := congrArg Media.tim (accessIgnored_media s d v)
@[simp] theorem accessIgnored_pins (s : State) (d v : Nat) : (s.accessIgnored d v).pins = s.pins := congrArg Media.pins (accessIgnored_media s d v)
@[simp] theorem accessIgnored_upd (s : State) (d v : Nat) : (s.accessIgnored d v).upd = s.upd := congrArg Media.upd (accessIgnored_media s d v)
@[simp] theorem accessIgnored_pending (s : State) (d v : Nat) : (s.accessIgnored d v).pending = s.pending := congrArg Media.pending (accessIgnored_media s d v)
@[simp] theorem accessIgnored_selPend (s : State) (d v : Nat) : (s.accessIgnored d v).selPend = s.selPend := congrArg Media.selPend (accessIgnored_media s d v)
@[simp] theorem accessIgnored_free (s : State) (d v : Nat) : (s.accessIgnored d v).free = s.free := congrArg Media.free (accessIgnored_media s d v)

@[simp] theorem tallyCommit_legs (s : State) (typ key bytes : Nat) (payload : List (Nat × Nat)) (live : Bool) : (s.tallyCommit typ key bytes payload live).legs = s.legs := congrArg Media.legs (tallyCommit_media s typ key bytes payload live)
@[simp] theorem tallyCommit_folds (s : State) (typ key bytes : Nat) (payload : List (Nat × Nat)) (live : Bool) : (s.tallyCommit typ key bytes payload live).folds = s.folds := congrArg Media.folds (tallyCommit_media s typ key bytes payload live)
@[simp] theorem tallyCommit_lcs (s : State) (typ key bytes : Nat) (payload : List (Nat × Nat)) (live : Bool) : (s.tallyCommit typ key bytes payload live).lcs = s.lcs := congrArg Media.lcs (tallyCommit_media s typ key bytes payload live)
@[simp] theorem tallyCommit_streams (s : State) (typ key bytes : Nat) (payload : List (Nat × Nat)) (live : Bool) : (s.tallyCommit typ key bytes payload live).streams = s.streams := congrArg Media.streams (tallyCommit_media s typ key bytes payload live)
@[simp] theorem tallyCommit_adm (s : State) (typ key bytes : Nat) (payload : List (Nat × Nat)) (live : Bool) : (s.tallyCommit typ key bytes payload live).adm = s.adm := congrArg Media.adm (tallyCommit_media s typ key bytes payload live)
@[simp] theorem tallyCommit_net (s : State) (typ key bytes : Nat) (payload : List (Nat × Nat)) (live : Bool) : (s.tallyCommit typ key bytes payload live).net = s.net := congrArg Media.net (tallyCommit_media s typ key bytes payload live)
@[simp] theorem tallyCommit_cip (s : State) (typ key bytes : Nat) (payload : List (Nat × Nat)) (live : Bool) : (s.tallyCommit typ key bytes payload live).cip = s.cip := congrArg Media.cip (tallyCommit_media s typ key bytes payload live)
@[simp] theorem tallyCommit_aud (s : State) (typ key bytes : Nat) (payload : List (Nat × Nat)) (live : Bool) : (s.tallyCommit typ key bytes payload live).aud = s.aud := congrArg Media.aud (tallyCommit_media s typ key bytes payload live)
@[simp] theorem tallyCommit_ven (s : State) (typ key bytes : Nat) (payload : List (Nat × Nat)) (live : Bool) : (s.tallyCommit typ key bytes payload live).ven = s.ven := congrArg Media.ven (tallyCommit_media s typ key bytes payload live)
@[simp] theorem tallyCommit_cmp (s : State) (typ key bytes : Nat) (payload : List (Nat × Nat)) (live : Bool) : (s.tallyCommit typ key bytes payload live).cmp = s.cmp := congrArg Media.cmp (tallyCommit_media s typ key bytes payload live)
@[simp] theorem tallyCommit_lac (s : State) (typ key bytes : Nat) (payload : List (Nat × Nat)) (live : Bool) : (s.tallyCommit typ key bytes payload live).lac = s.lac := congrArg Media.lac (tallyCommit_media s typ key bytes payload live)
@[simp] theorem tallyCommit_egs (s : State) (typ key bytes : Nat) (payload : List (Nat × Nat)) (live : Bool) : (s.tallyCommit typ key bytes payload live).egs = s.egs := congrArg Media.egs (tallyCommit_media s typ key bytes payload live)
@[simp] theorem tallyCommit_drv (s : State) (typ key bytes : Nat) (payload : List (Nat × Nat)) (live : Bool) : (s.tallyCommit typ key bytes payload live).drv = s.drv := congrArg Media.drv (tallyCommit_media s typ key bytes payload live)
@[simp] theorem tallyCommit_bq (s : State) (typ key bytes : Nat) (payload : List (Nat × Nat)) (live : Bool) : (s.tallyCommit typ key bytes payload live).bq = s.bq := congrArg Media.bq (tallyCommit_media s typ key bytes payload live)
@[simp] theorem tallyCommit_dmc (s : State) (typ key bytes : Nat) (payload : List (Nat × Nat)) (live : Bool) : (s.tallyCommit typ key bytes payload live).dmc = s.dmc := congrArg Media.dmc (tallyCommit_media s typ key bytes payload live)
@[simp] theorem tallyCommit_mem (s : State) (typ key bytes : Nat) (payload : List (Nat × Nat)) (live : Bool) : (s.tallyCommit typ key bytes payload live).mem = s.mem := congrArg Media.mem (tallyCommit_media s typ key bytes payload live)
@[simp] theorem tallyCommit_tim (s : State) (typ key bytes : Nat) (payload : List (Nat × Nat)) (live : Bool) : (s.tallyCommit typ key bytes payload live).tim = s.tim := congrArg Media.tim (tallyCommit_media s typ key bytes payload live)
@[simp] theorem tallyCommit_pins (s : State) (typ key bytes : Nat) (payload : List (Nat × Nat)) (live : Bool) : (s.tallyCommit typ key bytes payload live).pins = s.pins := congrArg Media.pins (tallyCommit_media s typ key bytes payload live)
@[simp] theorem tallyCommit_upd (s : State) (typ key bytes : Nat) (payload : List (Nat × Nat)) (live : Bool) : (s.tallyCommit typ key bytes payload live).upd = s.upd := congrArg Media.upd (tallyCommit_media s typ key bytes payload live)
@[simp] theorem tallyCommit_pending (s : State) (typ key bytes : Nat) (payload : List (Nat × Nat)) (live : Bool) : (s.tallyCommit typ key bytes payload live).pending = s.pending := congrArg Media.pending (tallyCommit_media s typ key bytes payload live)
@[simp] theorem tallyCommit_selPend (s : State) (typ key bytes : Nat) (payload : List (Nat × Nat)) (live : Bool) : (s.tallyCommit typ key bytes payload live).selPend = s.selPend := congrArg Media.selPend (tallyCommit_media s typ key bytes payload live)
@[simp] theorem tallyCommit_free (s : State) (typ key bytes : Nat) (payload : List (Nat × Nat)) (live : Bool) : (s.tallyCommit typ key bytes payload live).free = s.free := congrArg Media.free (tallyCommit_media s typ key bytes payload live)

@[simp] theorem notify_legs (s : State) (code fault subject : Nat) (detail : List (Nat × Nat)) (tick : Option Nat) : (s.notify code fault subject detail tick).legs = s.legs := congrArg Media.legs (notify_media s code fault subject detail tick)
@[simp] theorem notify_folds (s : State) (code fault subject : Nat) (detail : List (Nat × Nat)) (tick : Option Nat) : (s.notify code fault subject detail tick).folds = s.folds := congrArg Media.folds (notify_media s code fault subject detail tick)
@[simp] theorem notify_lcs (s : State) (code fault subject : Nat) (detail : List (Nat × Nat)) (tick : Option Nat) : (s.notify code fault subject detail tick).lcs = s.lcs := congrArg Media.lcs (notify_media s code fault subject detail tick)
@[simp] theorem notify_streams (s : State) (code fault subject : Nat) (detail : List (Nat × Nat)) (tick : Option Nat) : (s.notify code fault subject detail tick).streams = s.streams := congrArg Media.streams (notify_media s code fault subject detail tick)
@[simp] theorem notify_adm (s : State) (code fault subject : Nat) (detail : List (Nat × Nat)) (tick : Option Nat) : (s.notify code fault subject detail tick).adm = s.adm := congrArg Media.adm (notify_media s code fault subject detail tick)
@[simp] theorem notify_net (s : State) (code fault subject : Nat) (detail : List (Nat × Nat)) (tick : Option Nat) : (s.notify code fault subject detail tick).net = s.net := congrArg Media.net (notify_media s code fault subject detail tick)
@[simp] theorem notify_cip (s : State) (code fault subject : Nat) (detail : List (Nat × Nat)) (tick : Option Nat) : (s.notify code fault subject detail tick).cip = s.cip := congrArg Media.cip (notify_media s code fault subject detail tick)
@[simp] theorem notify_aud (s : State) (code fault subject : Nat) (detail : List (Nat × Nat)) (tick : Option Nat) : (s.notify code fault subject detail tick).aud = s.aud := congrArg Media.aud (notify_media s code fault subject detail tick)
@[simp] theorem notify_ven (s : State) (code fault subject : Nat) (detail : List (Nat × Nat)) (tick : Option Nat) : (s.notify code fault subject detail tick).ven = s.ven := congrArg Media.ven (notify_media s code fault subject detail tick)
@[simp] theorem notify_cmp (s : State) (code fault subject : Nat) (detail : List (Nat × Nat)) (tick : Option Nat) : (s.notify code fault subject detail tick).cmp = s.cmp := congrArg Media.cmp (notify_media s code fault subject detail tick)
@[simp] theorem notify_lac (s : State) (code fault subject : Nat) (detail : List (Nat × Nat)) (tick : Option Nat) : (s.notify code fault subject detail tick).lac = s.lac := congrArg Media.lac (notify_media s code fault subject detail tick)
@[simp] theorem notify_egs (s : State) (code fault subject : Nat) (detail : List (Nat × Nat)) (tick : Option Nat) : (s.notify code fault subject detail tick).egs = s.egs := congrArg Media.egs (notify_media s code fault subject detail tick)
@[simp] theorem notify_drv (s : State) (code fault subject : Nat) (detail : List (Nat × Nat)) (tick : Option Nat) : (s.notify code fault subject detail tick).drv = s.drv := congrArg Media.drv (notify_media s code fault subject detail tick)
@[simp] theorem notify_bq (s : State) (code fault subject : Nat) (detail : List (Nat × Nat)) (tick : Option Nat) : (s.notify code fault subject detail tick).bq = s.bq := congrArg Media.bq (notify_media s code fault subject detail tick)
@[simp] theorem notify_dmc (s : State) (code fault subject : Nat) (detail : List (Nat × Nat)) (tick : Option Nat) : (s.notify code fault subject detail tick).dmc = s.dmc := congrArg Media.dmc (notify_media s code fault subject detail tick)
@[simp] theorem notify_mem (s : State) (code fault subject : Nat) (detail : List (Nat × Nat)) (tick : Option Nat) : (s.notify code fault subject detail tick).mem = s.mem := congrArg Media.mem (notify_media s code fault subject detail tick)
@[simp] theorem notify_tim (s : State) (code fault subject : Nat) (detail : List (Nat × Nat)) (tick : Option Nat) : (s.notify code fault subject detail tick).tim = s.tim := congrArg Media.tim (notify_media s code fault subject detail tick)
@[simp] theorem notify_pins (s : State) (code fault subject : Nat) (detail : List (Nat × Nat)) (tick : Option Nat) : (s.notify code fault subject detail tick).pins = s.pins := congrArg Media.pins (notify_media s code fault subject detail tick)
@[simp] theorem notify_upd (s : State) (code fault subject : Nat) (detail : List (Nat × Nat)) (tick : Option Nat) : (s.notify code fault subject detail tick).upd = s.upd := congrArg Media.upd (notify_media s code fault subject detail tick)
@[simp] theorem notify_pending (s : State) (code fault subject : Nat) (detail : List (Nat × Nat)) (tick : Option Nat) : (s.notify code fault subject detail tick).pending = s.pending := congrArg Media.pending (notify_media s code fault subject detail tick)
@[simp] theorem notify_selPend (s : State) (code fault subject : Nat) (detail : List (Nat × Nat)) (tick : Option Nat) : (s.notify code fault subject detail tick).selPend = s.selPend := congrArg Media.selPend (notify_media s code fault subject detail tick)
@[simp] theorem notify_free (s : State) (code fault subject : Nat) (detail : List (Nat × Nat)) (tick : Option Nat) : (s.notify code fault subject detail tick).free = s.free := congrArg Media.free (notify_media s code fault subject detail tick)

@[simp] theorem reply_legs (s : State) (dst : ReplyTo) (status : Nat) (pay : RPay) : (s.reply dst status pay).legs = s.legs := congrArg Media.legs (reply_media s dst status pay)
@[simp] theorem reply_folds (s : State) (dst : ReplyTo) (status : Nat) (pay : RPay) : (s.reply dst status pay).folds = s.folds := congrArg Media.folds (reply_media s dst status pay)
@[simp] theorem reply_lcs (s : State) (dst : ReplyTo) (status : Nat) (pay : RPay) : (s.reply dst status pay).lcs = s.lcs := congrArg Media.lcs (reply_media s dst status pay)
@[simp] theorem reply_streams (s : State) (dst : ReplyTo) (status : Nat) (pay : RPay) : (s.reply dst status pay).streams = s.streams := congrArg Media.streams (reply_media s dst status pay)
@[simp] theorem reply_adm (s : State) (dst : ReplyTo) (status : Nat) (pay : RPay) : (s.reply dst status pay).adm = s.adm := congrArg Media.adm (reply_media s dst status pay)
@[simp] theorem reply_net (s : State) (dst : ReplyTo) (status : Nat) (pay : RPay) : (s.reply dst status pay).net = s.net := congrArg Media.net (reply_media s dst status pay)
@[simp] theorem reply_cip (s : State) (dst : ReplyTo) (status : Nat) (pay : RPay) : (s.reply dst status pay).cip = s.cip := congrArg Media.cip (reply_media s dst status pay)
@[simp] theorem reply_aud (s : State) (dst : ReplyTo) (status : Nat) (pay : RPay) : (s.reply dst status pay).aud = s.aud := congrArg Media.aud (reply_media s dst status pay)
@[simp] theorem reply_ven (s : State) (dst : ReplyTo) (status : Nat) (pay : RPay) : (s.reply dst status pay).ven = s.ven := congrArg Media.ven (reply_media s dst status pay)
@[simp] theorem reply_cmp (s : State) (dst : ReplyTo) (status : Nat) (pay : RPay) : (s.reply dst status pay).cmp = s.cmp := congrArg Media.cmp (reply_media s dst status pay)
@[simp] theorem reply_lac (s : State) (dst : ReplyTo) (status : Nat) (pay : RPay) : (s.reply dst status pay).lac = s.lac := congrArg Media.lac (reply_media s dst status pay)
@[simp] theorem reply_egs (s : State) (dst : ReplyTo) (status : Nat) (pay : RPay) : (s.reply dst status pay).egs = s.egs := congrArg Media.egs (reply_media s dst status pay)
@[simp] theorem reply_drv (s : State) (dst : ReplyTo) (status : Nat) (pay : RPay) : (s.reply dst status pay).drv = s.drv := congrArg Media.drv (reply_media s dst status pay)
@[simp] theorem reply_bq (s : State) (dst : ReplyTo) (status : Nat) (pay : RPay) : (s.reply dst status pay).bq = s.bq := congrArg Media.bq (reply_media s dst status pay)
@[simp] theorem reply_dmc (s : State) (dst : ReplyTo) (status : Nat) (pay : RPay) : (s.reply dst status pay).dmc = s.dmc := congrArg Media.dmc (reply_media s dst status pay)
@[simp] theorem reply_mem (s : State) (dst : ReplyTo) (status : Nat) (pay : RPay) : (s.reply dst status pay).mem = s.mem := congrArg Media.mem (reply_media s dst status pay)
@[simp] theorem reply_tim (s : State) (dst : ReplyTo) (status : Nat) (pay : RPay) : (s.reply dst status pay).tim = s.tim := congrArg Media.tim (reply_media s dst status pay)
@[simp] theorem reply_pins (s : State) (dst : ReplyTo) (status : Nat) (pay : RPay) : (s.reply dst status pay).pins = s.pins := congrArg Media.pins (reply_media s dst status pay)
@[simp] theorem reply_upd (s : State) (dst : ReplyTo) (status : Nat) (pay : RPay) : (s.reply dst status pay).upd = s.upd := congrArg Media.upd (reply_media s dst status pay)
@[simp] theorem reply_pending (s : State) (dst : ReplyTo) (status : Nat) (pay : RPay) : (s.reply dst status pay).pending = s.pending := congrArg Media.pending (reply_media s dst status pay)
@[simp] theorem reply_selPend (s : State) (dst : ReplyTo) (status : Nat) (pay : RPay) : (s.reply dst status pay).selPend = s.selPend := congrArg Media.selPend (reply_media s dst status pay)
@[simp] theorem reply_free (s : State) (dst : ReplyTo) (status : Nat) (pay : RPay) : (s.reply dst status pay).free = s.free := congrArg Media.free (reply_media s dst status pay)

@[simp] theorem ringPut_legs (s : State) (r bytes : Nat) (it : RingItem) : (s.ringPut r bytes it).legs = s.legs := congrArg Media.legs (ringPut_media s r bytes it)
@[simp] theorem ringPut_folds (s : State) (r bytes : Nat) (it : RingItem) : (s.ringPut r bytes it).folds = s.folds := congrArg Media.folds (ringPut_media s r bytes it)
@[simp] theorem ringPut_lcs (s : State) (r bytes : Nat) (it : RingItem) : (s.ringPut r bytes it).lcs = s.lcs := congrArg Media.lcs (ringPut_media s r bytes it)
@[simp] theorem ringPut_streams (s : State) (r bytes : Nat) (it : RingItem) : (s.ringPut r bytes it).streams = s.streams := congrArg Media.streams (ringPut_media s r bytes it)
@[simp] theorem ringPut_adm (s : State) (r bytes : Nat) (it : RingItem) : (s.ringPut r bytes it).adm = s.adm := congrArg Media.adm (ringPut_media s r bytes it)
@[simp] theorem ringPut_net (s : State) (r bytes : Nat) (it : RingItem) : (s.ringPut r bytes it).net = s.net := congrArg Media.net (ringPut_media s r bytes it)
@[simp] theorem ringPut_cip (s : State) (r bytes : Nat) (it : RingItem) : (s.ringPut r bytes it).cip = s.cip := congrArg Media.cip (ringPut_media s r bytes it)
@[simp] theorem ringPut_aud (s : State) (r bytes : Nat) (it : RingItem) : (s.ringPut r bytes it).aud = s.aud := congrArg Media.aud (ringPut_media s r bytes it)
@[simp] theorem ringPut_ven (s : State) (r bytes : Nat) (it : RingItem) : (s.ringPut r bytes it).ven = s.ven := congrArg Media.ven (ringPut_media s r bytes it)
@[simp] theorem ringPut_cmp (s : State) (r bytes : Nat) (it : RingItem) : (s.ringPut r bytes it).cmp = s.cmp := congrArg Media.cmp (ringPut_media s r bytes it)
@[simp] theorem ringPut_lac (s : State) (r bytes : Nat) (it : RingItem) : (s.ringPut r bytes it).lac = s.lac := congrArg Media.lac (ringPut_media s r bytes it)
@[simp] theorem ringPut_egs (s : State) (r bytes : Nat) (it : RingItem) : (s.ringPut r bytes it).egs = s.egs := congrArg Media.egs (ringPut_media s r bytes it)
@[simp] theorem ringPut_drv (s : State) (r bytes : Nat) (it : RingItem) : (s.ringPut r bytes it).drv = s.drv := congrArg Media.drv (ringPut_media s r bytes it)
@[simp] theorem ringPut_bq (s : State) (r bytes : Nat) (it : RingItem) : (s.ringPut r bytes it).bq = s.bq := congrArg Media.bq (ringPut_media s r bytes it)
@[simp] theorem ringPut_dmc (s : State) (r bytes : Nat) (it : RingItem) : (s.ringPut r bytes it).dmc = s.dmc := congrArg Media.dmc (ringPut_media s r bytes it)
@[simp] theorem ringPut_mem (s : State) (r bytes : Nat) (it : RingItem) : (s.ringPut r bytes it).mem = s.mem := congrArg Media.mem (ringPut_media s r bytes it)
@[simp] theorem ringPut_tim (s : State) (r bytes : Nat) (it : RingItem) : (s.ringPut r bytes it).tim = s.tim := congrArg Media.tim (ringPut_media s r bytes it)
@[simp] theorem ringPut_pins (s : State) (r bytes : Nat) (it : RingItem) : (s.ringPut r bytes it).pins = s.pins := congrArg Media.pins (ringPut_media s r bytes it)
@[simp] theorem ringPut_upd (s : State) (r bytes : Nat) (it : RingItem) : (s.ringPut r bytes it).upd = s.upd := congrArg Media.upd (ringPut_media s r bytes it)
@[simp] theorem ringPut_pending (s : State) (r bytes : Nat) (it : RingItem) : (s.ringPut r bytes it).pending = s.pending := congrArg Media.pending (ringPut_media s r bytes it)
@[simp] theorem ringPut_selPend (s : State) (r bytes : Nat) (it : RingItem) : (s.ringPut r bytes it).selPend = s.selPend := congrArg Media.selPend (ringPut_media s r bytes it)
@[simp] theorem ringPut_free (s : State) (r bytes : Nat) (it : RingItem) : (s.ringPut r bytes it).free = s.free := congrArg Media.free (ringPut_media s r bytes it)

@[simp] theorem flushBlocked_legs (s : State)  : (s.flushBlocked ).legs = s.legs := congrArg Media.legs (flushBlocked_media s )
@[simp] theorem flushBlocked_folds (s : State)  : (s.flushBlocked ).folds = s.folds := congrArg Media.folds (flushBlocked_media s )
@[simp] theorem flushBlocked_lcs (s : State)  : (s.flushBlocked ).lcs = s.lcs := congrArg Media.lcs (flushBlocked_media s )
@[simp] theorem flushBlocked_streams (s : State)  : (s.flushBlocked ).streams = s.streams := congrArg Media.streams (flushBlocked_media s )
@[simp] theorem flushBlocked_adm (s : State)  : (s.flushBlocked ).adm = s.adm := congrArg Media.adm (flushBlocked_media s )
@[simp] theorem flushBlocked_net (s : State)  : (s.flushBlocked ).net = s.net := congrArg Media.net (flushBlocked_media s )
@[simp] theorem flushBlocked_cip (s : State)  : (s.flushBlocked ).cip = s.cip := congrArg Media.cip (flushBlocked_media s )
@[simp] theorem flushBlocked_aud (s : State)  : (s.flushBlocked ).aud = s.aud := congrArg Media.aud (flushBlocked_media s )
@[simp] theorem flushBlocked_ven (s : State)  : (s.flushBlocked ).ven = s.ven := congrArg Media.ven (flushBlocked_media s )
@[simp] theorem flushBlocked_cmp (s : State)  : (s.flushBlocked ).cmp = s.cmp := congrArg Media.cmp (flushBlocked_media s )
@[simp] theorem flushBlocked_lac (s : State)  : (s.flushBlocked ).lac = s.lac := congrArg Media.lac (flushBlocked_media s )
@[simp] theorem flushBlocked_egs (s : State)  : (s.flushBlocked ).egs = s.egs := congrArg Media.egs (flushBlocked_media s )
@[simp] theorem flushBlocked_drv (s : State)  : (s.flushBlocked ).drv = s.drv := congrArg Media.drv (flushBlocked_media s )
@[simp] theorem flushBlocked_bq (s : State)  : (s.flushBlocked ).bq = s.bq := congrArg Media.bq (flushBlocked_media s )
@[simp] theorem flushBlocked_dmc (s : State)  : (s.flushBlocked ).dmc = s.dmc := congrArg Media.dmc (flushBlocked_media s )
@[simp] theorem flushBlocked_mem (s : State)  : (s.flushBlocked ).mem = s.mem := congrArg Media.mem (flushBlocked_media s )
@[simp] theorem flushBlocked_tim (s : State)  : (s.flushBlocked ).tim = s.tim := congrArg Media.tim (flushBlocked_media s )
@[simp] theorem flushBlocked_pins (s : State)  : (s.flushBlocked ).pins = s.pins := congrArg Media.pins (flushBlocked_media s )
@[simp] theorem flushBlocked_upd (s : State)  : (s.flushBlocked ).upd = s.upd := congrArg Media.upd (flushBlocked_media s )
@[simp] theorem flushBlocked_pending (s : State)  : (s.flushBlocked ).pending = s.pending := congrArg Media.pending (flushBlocked_media s )
@[simp] theorem flushBlocked_selPend (s : State)  : (s.flushBlocked ).selPend = s.selPend := congrArg Media.selPend (flushBlocked_media s )
@[simp] theorem flushBlocked_free (s : State)  : (s.flushBlocked ).free = s.free := congrArg Media.free (flushBlocked_media s )

end Sys2Proof.Machine
end

