-- ==== Sys2Proof/Laws/Pix.lean ====
section
/-!
SUPPORT. Laws of composed pictures: blending at the ends of its range, and that culling covered layers changes no sample.
-/

namespace Sys2Proof.Machine

/-- An opaque overlay sample replaces what lies beneath it (R262). -/
@[simp] theorem blend_opaque (f b : Nat) : blend (blendAlpha 255 255) f b = f := by
  simp only [blend, blendAlpha]
  omega

/-- A fully transparent sample leaves what lies beneath it (R262). -/
@[simp] theorem blend_transparent (f b : Nat) : blend 0 f b = b := by
  simp only [blend]
  omega

/-- A point of the output lies inside every rectangle that holds its tile. -/
theorem PicRec.point_inside {p : PicRec} {x y : Nat} {q : Rect} (hx : x < p.w) (hy : y < p.h) (h : (p.tileRect x y).inside q = true) :
    q.x0 ≤ (x : Int) ∧ (x : Int) < q.x1 ∧ q.y0 ≤ (y : Int) ∧ (y : Int) < q.y1 := by
  obtain ⟨h1, h2, h3, h4⟩ := of_decide_eq_true h
  simp only [PicRec.tileRect] at h1 h2 h3 h4
  have e1 : (Nat.min p.w (x / 32 * 32 + 32) : Nat) ≥ x + 1 := le_min hx (by omega)
  have e2 : (Nat.min p.h (y / 32 * 32 + 32) : Nat) ≥ y + 1 := le_min hy (by omega)
  generalize Nat.min p.w (x / 32 * 32 + 32) = a at *
  generalize Nat.min p.h (y / 32 * 32 + 32) = b at *
  omega

/-- A layer that is opaque over a sample's whole tile gives the same whatever lies beneath it (R266). -/
theorem PicRec.apply_covering (p : PicRec) (r : ScalerRec) (plane x y b b' : Nat) (l : LayerRec)
    (hx : lumaStep plane * x < p.w) (hy : lumaStep plane * y < p.h) (hc : p.covers l = true)
    (hi : (p.tileRect (lumaStep plane * x) (lumaStep plane * y)).inside l.rect = true) :
    p.apply r plane x y b l = p.apply r plane x y b' l := by
  have hin := decide_eq_true (PicRec.point_inside hx hy hi)
  obtain ⟨z, rect, src, overlay, fit, alpha⟩ := l
  cases overlay with
  | none => simp only [PicRec.apply, hin, PicRec.visible, Bool.and_true, if_true]
  | some o =>
    cases src with
    | picture q => simp [PicRec.covers] at hc
    | background => simp [PicRec.covers] at hc
    | image g v =>
      simp only [PicRec.covers, Bool.and_eq_true, decide_eq_true_eq] at hc
      obtain ⟨⟨rfl, ho⟩, hv⟩ := hc
      simp only [PicRec.apply, hin, hv, ImgVariant.alphaAt, ho, if_true, blend_opaque, Bool.and_true]

/-- Culling changes no sample: the layers of a sample's tile give what all layers give (R266). -/
theorem PicRec.sample_eq_all (p : PicRec) (r : ScalerRec) (plane x y : Nat)
    (hx : lumaStep plane * x < p.w) (hy : lumaStep plane * y < p.h) :
    p.sample r plane x y = p.layers.foldl (p.apply r plane x y) (p.ground plane) := by
  simp only [PicRec.sample, PicRec.layersOf]
  generalize ht : p.tileRect (lumaStep plane * x) (lumaStep plane * y) = tile
  suffices h : ∀ (ls acc : List LayerRec),
      (ls.foldl (fun acc l => if p.covers l && tile.inside l.rect then [l] else acc ++ [l]) acc).foldl
        (p.apply r plane x y) (p.ground plane) = (acc ++ ls).foldl (p.apply r plane x y) (p.ground plane) by
    simpa using h p.layers []
  intro ls
  induction ls with
  | nil => intro acc; simp
  | cons l ls ih =>
    intro acc
    rw [List.foldl_cons, ih]
    split
    · rename_i hc
      simp only [Bool.and_eq_true] at hc
      simp only [List.singleton_append, List.foldl_cons, List.foldl_append]
      rw [PicRec.apply_covering p r plane x y _ _ l hx hy hc.1 (ht ▸ hc.2)]
    · simp

end Sys2Proof.Machine
end

