-- ==== Sys2Proof/Laws/Report.lean ====
section
/-!
SUPPORT. The registers that reporting leaves alone: all but the counts of `reportReg`.
-/

namespace Sys2Proof.Machine

theorem getR_of_regs {s t : State} (h : t.regs = s.regs) (d : Nat) : t.getR d = s.getR d := by
  simp only [State.getR, State.dword, h]

theorem getR_host (s : State) (x : _) (d : Nat) : ({ s with host := x } : State).getR d = s.getR d := by
  simp only [State.getR, State.dword]

theorem getR_flt (s : State) (x : _) (d : Nat) : ({ s with flt := x } : State).getR d = s.getR d := by
  simp only [State.getR, State.dword]

theorem getR_tly (s : State) (x : _) (d : Nat) : ({ s with tly := x } : State).getR d = s.getR d := by
  simp only [State.getR, State.dword]

theorem getR_twn (s : State) (x : _) (d : Nat) : ({ s with twn := x } : State).getR d = s.getR d := by
  simp only [State.getR, State.dword]

theorem getR_boot (s : State) (x : _) (d : Nat) : ({ s with boot := x } : State).getR d = s.getR d := by
  simp only [State.getR, State.dword]

theorem getR_out (s : State) (x : _) (d : Nat) : ({ s with out := x } : State).getR d = s.getR d := by
  simp only [State.getR, State.dword]

theorem getR_free (s : State) (x : _) (d : Nat) : ({ s with free := x } : State).getR d = s.getR d := by
  simp only [State.getR, State.dword]

theorem getR_pending (s : State) (x : _) (d : Nat) : ({ s with pending := x } : State).getR d = s.getR d := by
  simp only [State.getR, State.dword]

theorem getR_twn_out (s : State) (x : _) (y : _) (d : Nat) : ({ s with twn := x, out := y } : State).getR d = s.getR d := by
  simp only [State.getR, State.dword]

theorem getR_ite {c : Prop} [Decidable c] (a b : State) (d : Nat) : (if c then a else b).getR d = if c then a.getR d else b.getR d := by
  split <;> rfl

theorem notify_dest_getR {d : Nat} (s : State) (i n : Nat) :
    ({ s with host := { s.host with notifySeq := tmod 0 s.host.notifySeq i (fun k => (k + 1) % n) } } : State).getR d = s.getR d :=
  getR_of_regs rfl d

theorem each_getR {α : Type} (d : Nat) (xs : List α) (f : State → α → State) (h : ∀ s x, (f s x).getR d = s.getR d) (s : State) :
    (s.each xs f).getR d = s.getR d := by
  unfold State.each
  induction xs generalizing s with
  | nil => rfl
  | cons x xs ih => rw [List.foldl_cons, ih, h]

variable {d : Nat}

theorem report_ne {e : Nat} (h : reportReg d = false) (he : reportReg e = true) : d ≠ e := by
  intro hd
  rw [hd, he] at h
  exact absurd h (by decide)

theorem reportReg_ring {r k : Nat} (h : r < 35) (hk : k < 8) : reportReg (1024 + r * 8 + k) = true := by
  have h1 : subOf (1024 + r * 8 + k) = 0 := by unfold subOf; omega
  have h2 : 0x1000 ≤ offOf (1024 + r * 8 + k) := by unfold offOf; omega
  simp [reportReg, h1, h2]

theorem reportReg_tail {r : Nat} (h : r < 35) : reportReg (Reg.DEV_RING_TAIL r) = true := by
  have := reportReg_ring (k := 4) h (by omega)
  unfold Reg.DEV_RING_TAIL
  convert this using 2
  omega

theorem reportReg_drops {r : Nat} (h : r < 35) : reportReg (Reg.DEV_RING_DROPS r) = true := by
  have := reportReg_ring (k := 5) h (by omega)
  unfold Reg.DEV_RING_DROPS
  convert this using 2
  omega

theorem reportReg_svc : reportReg (Reg.DEV_SVC_CTR 5) = true := by decide
theorem reportReg_overflow : reportReg Reg.BOOT_FAULT_OVERFLOW = true := by decide
theorem reportReg_seq : reportReg Reg.MGT_TALLY_SEQ = true := by decide
theorem reportReg_writes : reportReg Reg.MGT_TALLY_WRITES = true := by decide
theorem reportReg_writes1 : reportReg (Reg.MGT_TALLY_WRITES + 1) = true := by decide
theorem reportReg_status : reportReg Reg.MGT_TALLY_STATUS = true := by decide

theorem reportReg_bundle {b k : Nat} (h : b < 2) (hk : k < 16) : reportReg (58736644 + b * 16384 + k) = true := by
  have h1 : subOf (58736644 + b * 16384 + k) = 14 := by unfold subOf; omega
  have h2 : instOf (58736644 + b * 16384 + k) ≠ 0 := by unfold instOf; omega
  have h3 : 0x10 ≤ offOf (58736644 + b * 16384 + k) := by unfold offOf; omega
  simp [reportReg, h1, h2, h3]

/-! ### Reports -/

theorem queueFault_regs (s : State) (f : RaisedFault) : (s.queueFault f).regs = s.regs := by
  unfold State.queueFault
  dsimp only
  split <;> rfl

theorem raise_getR (h : reportReg d = false) (s : State) (code subject : Nat) (detail : List (Nat × Nat)) :
    (s.raise code subject detail).getR d = s.getR d := by
  unfold State.raise
  dsimp only
  split
  · split
    · exact getR_of_regs rfl d
    · rw [getR_of_regs (queueFault_regs _ _), State.incR, getR_setR_ne (report_ne h reportReg_overflow)]
  · exact getR_of_regs (queueFault_regs _ _) d

theorem raiseOnce_getR (h : reportReg d = false) (s : State) (code subject period : Nat) (detail : List (Nat × Nat)) :
    (s.raiseOnce code subject period detail).getR d = s.getR d := by
  unfold State.raiseOnce
  dsimp only
  repeat' split
  all_goals first
    | exact getR_of_regs rfl d
    | (rw [raise_getR h]; exact getR_of_regs rfl d)

theorem accessIgnored_getR (h : reportReg d = false) (s : State) (e v : Nat) : (s.accessIgnored e v).getR d = s.getR d :=
  raise_getR h s _ _ _

theorem tallyCommit_getR (h : reportReg d = false) (s : State) (typ key bytes : Nat) (payload : List (Nat × Nat)) (live : Bool) :
    (s.tallyCommit typ key bytes payload live).getR d = s.getR d := by
  unfold State.tallyCommit
  dsimp only
  rw [getR_setF_ne (report_ne h reportReg_status), getR_setR64_ne (report_ne h reportReg_writes) (report_ne h reportReg_writes1),
    getR_setR_ne (report_ne h reportReg_seq)]
  exact getR_of_regs rfl d

theorem ringPut_getR (h : reportReg d = false) (s : State) (r bytes : Nat) (it : RingItem) : (s.ringPut r bytes it).getR d = s.getR d := by
  unfold State.ringPut
  split
  · rfl
  · rename_i hr
    dsimp only
    rw [getR_host, State.incR, getR_setR_ne (report_ne h (reportReg_tail (by omega)))]

theorem ringDrop_getR (h : reportReg d = false) (s : State) (r : Nat) : (s.ringDrop r).getR d = s.getR d := by
  unfold State.ringDrop
  split
  · rfl
  · rw [raiseOnce_getR h, State.incR, getR_setR_ne (report_ne h (reportReg_drops (by omega)))]

theorem svcSend_getR (h : reportReg d = false) (s : State) (key : Nat) (slot : Option Nat) (body : SvcBody) :
    (s.svcSend key slot body).getR d = s.getR d := by
  unfold State.svcSend
  dsimp only
  rw [State.incR, getR_setR_ne (report_ne h reportReg_svc), getR_host, getR_ite, getR_tly (s.tallyCommit _ _ _ _ _), tallyCommit_getR h, ite_self]

theorem notify_getR (h : reportReg d = false) (s : State) (code fault subject : Nat) (detail : List (Nat × Nat)) (tick : Option Nat) :
    (s.notify code fault subject detail tick).getR d = s.getR d := by
  have hput : ∀ (t : State) (it : RingItem),
      (if t.ringFits 32 56 then t.ringPut 32 56 it
        else t.ringDrop 32).getR d = t.getR d := by
    intro t it
    rw [getR_ite, ringPut_getR h, ringDrop_getR h, ite_self]
  unfold State.notify
  dsimp only
  rw [getR_ite, each_getR d, hput, getR_host, ite_self]
  intro u i
  rw [getR_ite, getR_host, svcSend_getR h, ite_self]

theorem sendReplyNow_getR (h : reportReg d = false) (s : State) (r : Reply) : (s.sendReplyNow r).getR d = s.getR d := by
  unfold State.sendReplyNow
  split
  · split
    · rfl
    · dsimp only
      split
      · exact ringPut_getR h s _ _ _
      · split
        · exact ringDrop_getR h s _
        · exact getR_of_regs rfl d
  · dsimp only
    rw [svcSend_getR h]
    exact getR_of_regs rfl d

theorem ausBundle_lt {s : State} {typ b : Nat} (h : s.ausBundle typ = some b) : b < 2 := by
  unfold State.ausBundle at h
  split at h
  · split at h <;> simp at h <;> omega
  · split at h
    · simp at h
      omega
    · split at h <;> simp at h
      omega

theorem sendAusOn_getR (h : reportReg d = false) (s : State) {b : Nat} (hb : b < 2) (typ tick len : Nat) (body : List Nat) :
    (s.sendAusOn b typ tick len body).getR d = s.getR d := by
  have h0 := report_ne h (reportReg_bundle (k := 0) hb (by omega))
  have h1 := report_ne h (reportReg_bundle (k := 1) hb (by omega))
  have h4 := report_ne h (reportReg_bundle (k := 4) hb (by omega))
  have h5 := report_ne h (reportReg_bundle (k := 5) hb (by omega))
  unfold State.sendAusOn
  split
  · rfl
  · dsimp only
    rw [getR_twn_out, State.incR64,
      getR_setR64_ne (by unfold Reg.TWN_BUNDLE_TX_BYTES; omega) (by unfold Reg.TWN_BUNDLE_TX_BYTES; omega), State.incR64,
      getR_setR64_ne (by unfold Reg.TWN_BUNDLE_TX_FRAMES; omega) (by unfold Reg.TWN_BUNDLE_TX_FRAMES; omega)]

theorem sendAus_getR (h : reportReg d = false) (s : State) (typ tick len : Nat) (body : List Nat) :
    (s.sendAus typ tick len body).getR d = s.getR d := by
  unfold State.sendAus
  split
  · rfl
  · rename_i b hb
    dsimp only
    split
    · rw [← sendAusOn_getR h s (ausBundle_lt hb) _ _ _ _]
      exact getR_of_regs rfl d
    · exact sendAusOn_getR h s (ausBundle_lt hb) _ _ _ _

theorem sendEvent_getR (h : reportReg d = false) (s : State) (typ effective : Nat) (phase : Option Nat) (held : Option Reply) :
    (s.sendEvent typ effective phase held).getR d = s.getR d := by
  unfold State.sendEvent
  dsimp only
  rw [sendAus_getR h]
  exact getR_of_regs rfl d

theorem reply_getR (h : reportReg d = false) (s : State) (dst : ReplyTo) (status : Nat) (pay : RPay) :
    (s.reply dst status pay).getR d = s.getR d := by
  unfold State.reply State.sendReply
  split
  · exact sendEvent_getR h s _ _ _ _
  · exact sendReplyNow_getR h s _

theorem flushBlocked_getR (h : reportReg d = false) (s : State) : s.flushBlocked.getR d = s.getR d := by
  unfold State.flushBlocked
  dsimp only
  rw [each_getR d _ _ (sendReplyNow_getR h)]
  exact getR_of_regs rfl d

end Sys2Proof.Machine
end

