-- ==== Sys2Proof/WellFormed.lean ====
section
/-!
DEFINITION. Well-formed commands: operands within the ranges that the hardware's indices and message fields have (R1, R3,
R28, R35, R37, R83, R398, R425, R442, R634, R638, R644). A command outside them names nothing of the device.
-/

namespace Sys2Proof

open Machine

/-- A leg index (R1). -/
def legOk (n : Nat) : Bool := decide (n < 16384)
/-- A fold index (R1). -/
def foldOk (n : Nat) : Bool := decide (n < 4096)
/-- A line-class index (R37). -/
def lcOk (n : Nat) : Bool := decide (n < 8192)
/-- A stream entry (R83). -/
def entryOk (n : Nat) : Bool := decide (n < 65536)
/-- A cipher pipeline (R716). -/
def pipeOk (n : Nat) : Bool := decide (n < 16)
/-- A media-core cluster (R716). -/
def clusterOk (n : Nat) : Bool := decide (n < 16)
/-- A video engine (R716). -/
def engineOk (n : Nat) : Bool := decide (n < 64)
/-- A compositor (R716). -/
def compositorOk (n : Nat) : Bool := decide (n < 8)
/-- A cell of a pricking (R285). -/
def cellOk (n : Nat) : Bool := decide (n < 32)
/-- A port, or the cage of a port (R716). -/
def portOk (n : Nat) : Bool := decide (n < 16)
/-- A mask of sub-ports (R105). -/
def maskOk (n : Nat) : Bool := decide (n < 16)
/-- A sub-port of a port (R105). -/
def subportOk (n : Nat) : Bool := decide (n < 4)
/-- A ring (R638). -/
def ringOk (n : Nat) : Bool := decide (n < 35)
/-- A media core (R716, R423). -/
def coreOk (n : Nat) : Bool := decide (n < 256)
/-- A bobbin queue (R437, R716). -/
def queueOk (n : Nat) : Bool := decide (n < 4096)
/-- A DRAM channel (R716). -/
def channelOk (n : Nat) : Bool := decide (n < 12)
/-- A rank of a channel (R442). -/
def rankOk (n : Nat) : Bool := decide (n < 4)
/-- A DIMM of a channel (R442). -/
def dimmOk (n : Nat) : Bool := decide (n < 2)
/-- A bundle of the Ausil link (R517). -/
def bundleOk (n : Nat) : Bool := decide (n < 2)
/-- A lacer lane (R352). -/
def laneOk (n : Nat) : Bool := decide (n < 2)
/-- A forwarder slot of a leg (R360). -/
def fwdSlotOk (n : Nat) : Bool := decide (n < 16)
/-- Byte enables of a dword (R635). -/
def nibbleOk (n : Nat) : Bool := decide (n < 16)
/-- An 8-bit field. -/
def byteOk (n : Nat) : Bool := decide (n < 256)
/-- A 16-bit field. -/
def halfOk (n : Nat) : Bool := decide (n < 65536)
/-- A 32-bit field. -/
def wordOk (n : Nat) : Bool := decide (n < 4294967296)
/-- A 64-bit field. -/
def longOk (n : Nat) : Bool := decide (n < 18446744073709551616)
/-- An offset of BAR0 (R634). -/
def bar0Ok (n : Nat) : Bool := decide (n < 268435456)
/-- A PTP domain: 1 or 2 (R507). -/
def domainOk (n : Nat) : Bool := n = 1 || n = 2
/-- A pool code (R398). -/
def poolOk (n : Nat) : Bool := decide (n < 0x12) || decide (0x20 ≤ n ∧ n < 0x24)
/-- A submit ring, or the service port under one of its two keys (R638, R652). -/
def srcOk : MsgSrc → Bool
  | .ring r => decide (r < 16)
  | .svc k => decide (k < 2)
/-- A message header: its source and the widths of its fields (R644). -/
def Machine.Msg.wf (m : Msg) : Bool := srcOk m.src && wordOk m.seq && halfOk m.target && decide (m.flags < 256)
/-- An Ausil frame header: its tick is 64 bits wide (R518). -/
def Machine.AusHdr.wf (h : AusHdr) : Bool := longOk h.tick
/-- A capture: a 64-bit count and a phase in eighths (R491). -/
def Machine.Capture.wf (c : Capture) : Bool := longOk c.count && decide (c.phase < 8)
/-- A received frame: its port and a lane of it, its VID, and whole-number fields of their widths (R61, R67). -/
def Machine.FrameIn.wf (f : FrameIn) : Bool := portOk f.port && decide (f.lane < 4) && decide (f.vid < 4096) && halfOk f.ipLen

/-- Is a command within the device's ranges? -/
def Instr.wf : Instr → Bool
  | .powerOn _ _ => true
  | .resetPin _ => true
  | .warmResetPin => true
  | .hostBootStart value _ => wordOk value
  | .hostBootTimeout => true
  | .watchdogExpiry => true
  | .warmBudgetExpiry => true
  | .mgmtResume => true
  | .planeResetStart => true
  | .planeReady _ => true
  | .thermalTrip => true
  | .thermalTripEnd _ => true
  | .avsAlert _ => true
  | .tickBoundary _ => true
  | .snapshotLatch => true
  | .shedPoint => true
  | .spillDrain _ => true
  | .nodePush pool _ => poolOk pool
  | .take core _ => coreOk core
  | .doneStatus core task _ cause => coreOk core && halfOk task && byteOk cause
  | .doneResult core _ => coreOk core
  | .progressPost task _ => halfOk task
  | .unitHang pool _ => poolOk pool
  | .engineFence engine cause => engineOk engine && byteOk cause
  | .compositorFence compositor cause => compositorOk compositor && byteOk cause
  | .coreFence core cause => coreOk core && byteOk cause
  | .lacerLaneFence lane => laneOk lane
  | .cipherPipeFence pipe => pipeOk pipe
  | .assistFail cluster => clusterOk cluster
  | .taskEcc task => halfOk task
  | .venFenceCtrl engine value => engineOk engine && wordOk value
  | .cmpFenceCtrl compositor value => compositorOk compositor && wordOk value
  | .lacLaneFenceCtrl value => wordOk value
  | .mcaFenceCtrl cluster value => clusterOk cluster && wordOk value
  | .resetCtrlWarm key => halfOk key
  | .resetCtrlPlane key => halfOk key
  | .softReset value => wordOk value
  | .watchdogKick value => wordOk value
  | .twnCtrlRelease value => wordOk value
  | .bqFlush _ _ value => wordOk value
  | .dmcDrain channel => channelOk channel
  | .dmcRetrain channel => channelOk channel
  | .dmcRejoin channel => channelOk channel
  | .dmcFence channel => channelOk channel
  | .ringTailWrite ring value => ringOk ring && wordOk value
  | .ringHeadWrite ring value => ringOk ring && wordOk value
  | .ringEnable ring value => ringOk ring && wordOk value
  | .ringDisable ring value => ringOk ring && wordOk value
  | .ringDma ring => ringOk ring
  | .messageFetch ring typ seq _ => ringOk ring && halfOk typ && wordOk seq
  | .irqModeration ring _ _ _ => ringOk ring
  | .functionLevelReset => true
  | .registerWrite offset value enables _ => bar0Ok offset && wordOk value && nibbleOk enables
  | .registerRead64 offset _ => bar0Ok offset
  | .netPeLegSelect value => wordOk value
  | .cipKsSlotSelect value => wordOk value
  | .audFoldSelect value => wordOk value
  | .audLegSelect value => wordOk value
  | .venStreamSelect value => wordOk value
  | .venLcSelect value => wordOk value
  | .cmpOutputSelect value => wordOk value
  | .lacViewerSelect value => wordOk value
  | .lacFwdLegSelect value => wordOk value
  | .lacAdaptLegSelect value => wordOk value
  | .egsLegSelect value => wordOk value
  | .drvTaskSelect value => wordOk value
  | .dmcRemapSelect value => wordOk value
  | .bootInvSelect value => wordOk value
  | .serviceDatagram _ => true
  | .legArrive m _ _ _ _ => m.wf
  | .legUpdate m _ _ _ _ => m.wf
  | .legLeave m => m.wf
  | .legRelease m => m.wf
  | .foldSetup m _ _ => m.wf
  | .foldRetire m => m.wf
  | .lineClassCreate m _ _ => m.wf
  | .lineClassRetire m => m.wf
  | .layoutChoice m _ _ _ => m.wf
  | .audioControl m _ => m.wf
  | .caption m group _ => m.wf && halfOk group
  | .guardSet m _ => m.wf
  | .imageLoad m offset total length _ => m.wf && wordOk offset && wordOk total && wordOk length
  | .imageGroupCommit group => halfOk group
  | .keyLoad m _ => m.wf
  | .blobProcess => true
  | .keySlotDrainEnd slot => halfOk slot
  | .dtlsSend m length => m.wf && wordOk length
  | .packetSend m length => m.wf && wordOk length
  | .queryLeg m => m.wf
  | .queryFold m => m.wf
  | .timeSource m source => m.wf && byteOk source
  | .timeStepApprove m boundary => m.wf && longOk boundary
  | .setPoint m _ _ => m.wf
  | .switchover m boundary => m.wf && longOk boundary
  | .pairRelease m => m.wf
  | .warmReset m => m.wf
  | .planeReset m => m.wf
  | .maintenanceEntry m => m.wf
  | .maintenanceExit m => m.wf
  | .kekProvision m _ => m.wf
  | .kekRevoke m => m.wf
  | .mgmtKeyProvision m _ => m.wf
  | .mgmtKeyRevoke m => m.wf
  | .optionWrite m _ => m.wf
  | .serviceAddress m _ _ => m.wf
  | .telemetryConfig m _ _ _ => m.wf
  | .subscribe m _ port _ _ => m.wf && halfOk port
  | .tallyRead m typ first last _ => m.wf && halfOk typ && wordOk first && wordOk last
  | .updateHeader m _ => m.wf
  | .updateChunk m offset length _ _ => m.wf && wordOk offset && wordOk length
  | .sdUpdate m => m.wf
  | .stagingDone _ _ => true
  | .activate m second tick _ _ => m.wf && longOk second && longOk tick
  | .swapPrepare _ => true
  | .swapNotReady => true
  | .updateSwap => true
  | .updateAbort m => m.wf
  | .revert m => m.wf
  | .healthFail => true
  | .trialConfirm => true
  | .trialTimeout => true
  | .fallbackSwap _ => true
  | .frameReceive f => f.wf
  | .arpRequest => true
  | .neighbourSolicitation => true
  | .punt => true
  | .stunBindingRequest => true
  | .stunOther => true
  | .dtlsRecord => true
  | .srtpPacket _ => true
  | .rtcpSr => true
  | .rtcpRr => true
  | .rtcpBye => true
  | .rtcpNack _ => true
  | .rtcpPli => true
  | .rtcpFir => true
  | .rtcpTransportFeedback => true
  | .rtcpIgnored => true
  | .frameRelease entry _ => entryOk entry
  | .jitterWindowEval entry => entryOk entry
  | .nackRepeat entry => entryOk entry
  | .consentExpired leg => legOk leg
  | .admissionDecision => true
  | .admissionTimeout => true
  | .epochSwitch fold => foldOk fold
  | .legDrainComplete leg => legOk leg
  | .bellwetherTick fold => foldOk fold
  | .audioDecode leg _ => legOk leg
  | .audioMix fold => foldOk fold
  | .audioEncode fold config _ _ => foldOk fold && byteOk config
  | .loudnessUpdate leg => legOk leg
  | .lipsyncEval leg => legOk leg
  | .decodeBandDone entry _ _ => entryOk entry
  | .refreshRepeat entry => entryOk entry
  | .sourceStalled entry => entryOk entry
  | .composeBandDone _ _ => true
  | .heldPictureTimeout lineClass cell => lcOk lineClass && cellOk cell
  | .imageGroupRestore group _ _ => halfOk group
  | .encodeBandDone _ _ => true
  | .escalationReset lineClass => lcOk lineClass
  | .lagDrop lineClass => lcOk lineClass
  | .laceAssembly leg lane _ _ _ _ => legOk leg && laneOk lane
  | .forwardAssign leg => legOk leg
  | .fwdSwitchTimeout leg slot => legOk leg && fwdSlotOk slot
  | .fwdPliRepeat leg slot => legOk leg && fwdSlotOk slot
  | .adaptTick leg _ => legOk leg
  | .packetEnqueue => true
  | .frameSelect port subport _ _ => portOk port && subportOk subport
  | .refillPoint => true
  | .staleDrop => true
  | .portDown port subports => portOk port && maskOk subports
  | .portUp port subports => portOk port && maskOk subports
  | .portHomeReturn port => portOk port
  | .announceRepeat => true
  | .modulePresenceAssert cage => portOk cage
  | .moduleRead cage _ => portOk cage
  | .moduleReady cage => portOk cage
  | .modulePresenceDeassert cage => portOk cage
  | .sdCardDetect _ _ => true
  | .sdVselTimeout => true
  | .bqReserve queue endpoint _ _ => queueOk queue && byteOk endpoint
  | .bqWordWrite queue endpoint _ => queueOk queue && byteOk endpoint
  | .bqEndMark queue endpoint _ last => queueOk queue && byteOk endpoint && byteOk last
  | .bqRead queue endpoint _ => queueOk queue && byteOk endpoint
  | .bqMark queue endpoint => queueOk queue && byteOk endpoint
  | .bqRewind queue endpoint => queueOk queue && byteOk endpoint
  | .bqRelease queue endpoint => queueOk queue && byteOk endpoint
  | .bqSkip queue endpoint => queueOk queue && byteOk endpoint
  | .dramAccess _ => true
  | .dramCorrectableError channel rank => channelOk channel && rankOk rank
  | .dramUncorrectableError channel address _ => channelOk channel && longOk address
  | .dramCommandError channel rank _ _ => channelOk channel && rankOk rank
  | .channelLost channel => channelOk channel
  | .copierSliceDone => true
  | .rankMigrationDone channel => channelOk channel
  | .mirrorRebuildDone => true
  | .retrainDone channel _ _ => channelOk channel
  | .refreshDue channel rank _ _ => channelOk channel && rankOk rank
  | .dimmTempRead channel dimm _ _ => channelOk channel && dimmOk dimm
  | .dqsDriftComp => true
  | .zqLatch => true
  | .rowTableClear => true
  | .openRowTimeout channel rank _ => channelOk channel && rankOk rank
  | .setPointSwitch => true
  | .setPointGapEnd _ => true
  | .ptpSync _ => true
  | .ptpAnnounce _ => true
  | .ptpDelayResp _ => true
  | .ptpPdelayReq _ => true
  | .ptpDelayReqSend domain departure => domainOk domain && departure.wf
  | .ptpDomainLost domain => domainOk domain
  | .timebaseInitialSet _ => true
  | .ppsOutEdge _ => true
  | .timePpsInEdge cap => cap.wf
  | .timeTodInFrame _ _ => true
  | .bundleUp bundle => bundleOk bundle
  | .bundleDown bundle => bundleOk bundle
  | .ausilHeartbeat h _ => h.wf
  | .ausilIdentity h _ => h.wf
  | .pairPropose h _ tick => h.wf && longOk tick
  | .pairAnswer h _ _ tick => h.wf && longOk tick
  | .pairCommitted h _ _ tick => h.wf && longOk tick
  | .syncStart _ => true
  | .syncDone _ => true
  | .ausilTime h _ _ _ => h.wf
  | .timeSplit _ => true
  | .mirror h _ => h.wf
  | .snapshot h _ _ _ length => h.wf && wordOk length
  | .sealFrame h _ _ _ => h.wf
  | .digest h _ => h.wf
  | .digestAck h _ _ _ _ => h.wf
  | .event h _ _ => h.wf
  | .eventAck h seq => h.wf && wordOk seq
  | .retry h seq => h.wf && wordOk seq
  | .softResetDone _ => true
  | .servicePortFrame _ _ _ => true
  | .setPointRestore => true
  | .tallyCommitTimeout => true
  | .sourceSwitch => true
  | .holdover => true
  | .timeStep => true
  | .leapSecond => true
  | .todOutFrame => true
  | .extInputLost => true
  | .refclkLost => true
  | .ausHbInToggle => true
  | .ausFenceInRise => true
  | .pairAttemptTimeout => true
  | .identityRepeat => true
  | .timeDisagree => true
  | .sealTimeout => true
  | .convergenceAction => true
  | .partnerLoss => true
  | .takeover => true
  | .capLift => true
  | .switchoverExecute => true
  | .powerLoss => true
  | .ausFenceInFall => true
  | .sdCardRemoval => true

end Sys2Proof
end

