-- ==== Sys2Proof/Tests/Slice0.lean ====
section
/-!
SUPPORT. Tests: the well-formedness checks refuse an ill-formed term each, every statement's hypotheses are met by a concrete
state, and single steps give what the rules say.
-/

namespace Sys2Proof.Tests

set_option Elab.async false

open Sys2Proof Sys2Proof.Machine

/-- The state a command leaves; reset when it answers no next state. -/
def run (c : Instr) (s : State) : State :=
  match exec c s with
  | .next t => t
  | _ => State.reset

/-- A device that is up and sealed at tick 100,000, its grid valid, its Drover running, with no partner. -/
def dev : State :=
  (({ State.reset with
    boot := { State.reset.boot with inReset := false, planeStopped := false }
    tim := { State.reset.tim with valid := true, tick := 100000 } } : State).setF Reg.BOOT_STATUS 6 6 1).setF Reg.DRV_STATUS 31 31 0

/-- The device in maintenance mode. -/
def devMaint : State := { dev with boot := { dev.boot with maint := true } }

/-- A message of ring 0 for target `n`. -/
def msg (n : Nat) : Msg := { seq := 1, target := n }

/-- The flow of leg 5. -/
def flow : FlowAddr := { src := 2, dst := 1, srcPort := 7000, dstPort := 5004 }

/-- An ACTIVE leg 5 of fold 1 on port pair 0, with stream entries 40 (inbound) and 41 (outbound). -/
def leg5 : LegRt :=
  { state := .active
    desc := { hasAudio := true, fold := 1, portPair := 0, localAddr := 1, localPort := 5004, remoteAddr := 2, remotePort := 7000,
              streamBase := 40, streamCount := 2, policeBurst := 3000, egressMin := 100, egressMax := 2000 }
    police := 72000, stunTok := 3000, dtlsTok := 120000, srtcpTok := 6000 }

/-- The device with leg 5 in fold 1. -/
def devLeg : State :=
  { dev with
    legs := [(5, leg5)], folds := [(1, { state := .active })]
    streams := [(40, { leg := 5, live := true, desc := { ssrc := 900, inbound := true } }),
                (41, { leg := 5, live := true, desc := { ssrc := 901, outbound := true } })]
    net := { dev.net with addrs := [{ addr := 1 }] } }

/-! ### Requests, frames and packets -/

/-- What `UnservedRequestsAreAnswered` asks of a state can be met: not coming, malformed, not permitted, before the grid. -/
theorem witness_UnservedRequestsAreAnswered :
    asRequest (.queryLeg (msg 5)) = some (msg 5, 0x0111, .both) ∧ State.reset.comes (msg 5) 0x0111 = false ∧
    dev.comes { msg 5 with bad := true } 0x0111 = true ∧
    dev.comes (msg 5) 0x0305 = true ∧ Paths.bothMaint.allow (msg 5).src dev.boot.maint = false ∧
    (let s : State := { dev with tim := { dev.tim with valid := false } }
     s.comes (msg 5) 0x0101 = true ∧ Paths.both.allow (msg 5).src s.boot.maint = true ∧ needsGrid 0x0101 = true) := by decide +kernel

/-- An SRTP packet of leg 5 as its port receives it. -/
def srtpFrame : FrameIn :=
  { size := 200, ipLen := 182, addr := flow, b0 := 128, b1 := 96, body := .srtp 154 {} { ssrc := 900 } }

theorem witness_FramesPassTheChecks :
    State.reset.boot.inReset = true ∧ dev.boot.inReset = false ∧ ({ srtpFrame with fcsOk := false } : FrameIn).fcsOk = false ∧
    ({ dev with boot := { dev.boot with planeStopped := true } } : State).boot.planeStopped = true ∧ srtpFrame.isPtp = false ∧
    (let f := srtpFrame; let s := devLeg
     f.fcsOk = true ∧ s.boot.planeStopped = false ∧ s.tim.valid = true ∧ f.etype = .ipv4 ∧ f.etype ≠ .pause ∧ 64 ≤ f.size ∧ f.size ≤ 9238 ∧ s.dstOk f.port f.dst = true ∧
     f.qTags ≤ 1 ∧ f.sTag = false ∧ f.l3Ok = true ∧ f.fragment = false ∧ f.udp = true ∧ f.udpSumOk = true ∧ f.ipLen ≤ 9216 ∧
     (s.localEntry (f.port % 8) f.vid f.addr.dst).isSome = true ∧ s.lookupLeg (f.port % 8) f.vid f.addr = some 5 ∧
     (s.leg 5).state = .active ∧ demux f.b0 f.b1 = .srtp ∧ 24 * f.ipLen ≤ (s.leg 5).police) := by decide +kernel

theorem test_frame_policed : ((run (.frameReceive srtpFrame) devLeg).leg 5).police = 72000 - 24 * 182 := by decide +kernel
theorem test_frame_bad_fcs : (run (.frameReceive { srtpFrame with fcsOk := false }) devLeg).getR (Reg.NET_PE_DROP 0) = 1 := by decide +kernel

/-- The device with a packet that arrived in the tick before. -/
def withRx (b : Body) (l : Option Nat) : State :=
  { devLeg with net := { devLeg.net with inq := [{ tick := 99999, leg := l, ipLen := 100, addr := flow, body := b }] } }

/-- Leg 5 with an ICE record. -/
def iceOf : IceRec := { consentCheck := true, localUfrag := [1, 2], remoteUfrag := [3, 4], pwd := [9] }
/-- A binding request that leg 5 answers. -/
def bind : StunMsg := { userLocal := [1, 2], userRemote := [3, 4], integrityPwd := some [9] }

theorem witness_NonMediaTrafficIsAnswered :
    (let s := withRx (.arpRequest 1) none
     (s.takeRx (fun p => p.isArp && s.asksLocal p)).isSome = true) ∧
    (let s := withRx (.neighbourSolicitation 1) none
     (s.takeRx (fun p => p.isNs && s.asksLocal p)).isSome = true) ∧
    (let s := withRx .opaqueData none
     (s.takeRx (fun p => p.leg.isNone && p.stunMsg.isNone && !s.asksLocal p)).isSome = true) ∧
    (let s := withRx (.stun { bind with userLocal := [] }) none
     (s.takeRx (fun p => p.stunMsg.elim false (·.bindingRequest))).any (fun r => r.2.stunLeg r.1.addr { bind with userLocal := [] } = none) = true) ∧
    (let s := (withRx (.stun bind) (some 5)).onLeg 5 (fun g => { g with ice := some iceOf })
     (s.takeRx (fun p => p.stunMsg.elim false (·.bindingRequest))).any (fun r => r.2.stunLeg r.1.addr bind = some 5 && decide ((r.2.leg 5).ice = some iceOf)) = true ∧
     bind.integrityPwd = some iceOf.pwd ∧ bind.fingerprint ≠ some false) ∧
    (let s := withRx (.stun { bind with bindingRequest := false }) none
     (s.takeRx (fun p => p.stunMsg.elim false (fun m => !m.bindingRequest))).isSome = true) ∧
    (let s := withRx .dtls (some 5)
     (s.takeRx (fun p => p.leg.isSome && p.body = .dtls)).any (fun r => passes (r.2.leg 5).state .dtls && r.2.authority (r.2.leg 5).desc.fold) = true) ∧
    (let s := (withRx .dtls (some 5)).onLeg 5 (fun g => { g with state := .fenced })
     (s.takeRx (fun p => p.leg.isSome && p.body = .dtls)).any (fun r => !passes (r.2.leg 5).state .dtls) = true) ∧
    devLeg.serves (msg 5) 0x010F .both = true ∧ devLeg.authority (devLeg.leg 5).desc.fold = true ∧ (devLeg.leg 5).state ≠ .idle ∧
    (devLeg.leg 5).state ≠ .fenced := by decide +kernel

theorem test_dtls_tokens : ((run .dtlsRecord (withRx .dtls (some 5))).leg 5).dtlsTok = 119400 := by decide +kernel
theorem test_stun_dropped : (run .stunOther (withRx (.stun { bind with bindingRequest := false }) none)).getR (Reg.NET_PE_DROP 0x0A) = 1 := by decide +kernel
theorem test_punt_taken : ((run .punt (withRx .opaqueData none)).port 0).punt = 5999400 := by decide +kernel

/-- Leg 5 with a key in slot 20 (inbound SRTP). -/
def keyed (s : State) : State :=
  (s.onSlot 20 (fun _ => { valid := true, suite := 1, keyId := 77, maxIndex := 2 ^ 48, maxRtcp := 2 ^ 31, generation := 1 }))

/-- A protected packet under that key. -/
def goodTag (i : Nat) : AuthTag := { key := 77, suite := 1, index := i }

theorem witness_MediaPacketsReachTheirStreams :
    (let s := (withRx (.srtp 100 {} {}) (some 5)).onLeg 5 (fun g => { g with state := .fenced })
     (s.takeRx RxPkt.isMedia).any (fun r => !passes (r.2.leg 5).state .srtp) = true) ∧
    (let s := keyed (withRx (.srtp 100 (goodTag 7) { ssrc := 900, seq := 7 }) (some 5))
     (s.takeRx RxPkt.isMedia).any (fun r => passes (r.2.leg 5).state .srtp && (r.2.decryptRtp 5 100 (goodTag 7) { ssrc := 900, seq := 7 } 0).1) = true) ∧
    (let s := keyed (withRx (.srtcp 100 900 3 (goodTag 3) [.ignored]) (some 5))
     (s.takeRx RxPkt.isMedia).any (fun r => passes (r.2.leg 5).state .srtp && (r.2.decryptRtcp 5 100 3 (goodTag 3) 0).1) = true) ∧
    (let s := devLeg.onStream 40 (fun r => { r with jit := { r.jit with pkts := [{ ext := 70000, release := 100000 }], anchored := true, winMargin := some 50 } })
     (s.stream 40).jit.pkts.filter (fun p => decide (p.release ≤ s.now)) = [{ ext := 70000, release := 100000 }] ∧
     (s.stream 40).jit.winStart + 600 ≤ s.now ∧ (s.jitterDepth 40 : Int) + 3 ≤ 50) ∧
    (devLeg.stream 40).jit.pkts.filter (fun p => decide (p.release ≤ devLeg.now)) = [] ∧
    (devLeg.onStream 40 (fun r => { r with jit := { r.jit with winStart := 99999 } })).now < 99999 + 600 ∧
    (let s := devLeg.onLeg 5 (fun g => { g with ice := some iceOf })
     (s.leg 5).state = .active ∧ iceOf.consentCheck = true ∧ (s.leg 5).txStopped = false ∧ (s.leg 5).consentTick + 18000 ≤ s.now) := by decide +kernel

theorem test_jitter_window : ((run (.jitterWindowEval 40) (devLeg.onStream 40 (fun r => { r with jit := { r.jit with anchored := true, t0 := 9, winMargin := some 50 } }))).stream 40).jit.t0 = 8 := by decide +kernel
theorem test_consent_expired : ((run (.consentExpired 5) (devLeg.onLeg 5 (fun g => { g with ice := some iceOf }))).leg 5).txStopped = true := by decide +kernel

/-- The device with an RTCP part of leg 5 from the tick before. -/
def withRtcp (b : RtcpBody) : State := { devLeg with net := { devLeg.net with rtcpq := [{ leg := 5, tick := 99999, body := b }] } }

theorem witness_RtcpPartsAreServed :
    (let s := withRtcp (.sr 900 1 2 3 [])
     s.openRtcp.net.rtcpq = [{ leg := 5, tick := 99999, body := .sr 900 1 2 3 [] }] ∧ s.openRtcp.inboundEntry 5 900 = some 40) ∧
    (withRtcp (.rr 900 [])).openRtcp.net.rtcpq = [{ leg := 5, tick := 99999, body := .rr 900 [] }] ∧
    (withRtcp (.bye [900])).openRtcp.net.rtcpq = [{ leg := 5, tick := 99999, body := .bye [900] }] ∧
    (withRtcp (.nack 901 [4])).openRtcp.net.rtcpq = [{ leg := 5, tick := 99999, body := .nack 901 [4] }] ∧
    (withRtcp (.pli 901)).openRtcp.outboundEntry 5 901 = some 41 ∧
    (withRtcp (.fir 901 1)).openRtcp.net.rtcpq = [{ leg := 5, tick := 99999, body := .fir 901 1 }] ∧
    (withRtcp (.feedback [])).openRtcp.net.rtcpq = [{ leg := 5, tick := 99999, body := .feedback [] }] ∧
    (withRtcp .ignored).openRtcp.net.rtcpq = [{ leg := 5, tick := 99999, body := .ignored }] ∧ 99999 < (withRtcp .ignored).openRtcp.now := by decide +kernel

theorem test_sr_noted : ((run .rtcpSr (withRtcp (.sr 900 11 12 13 []))).stream 40).srMap = some (12, 13) := by decide +kernel
theorem test_bye_ends : ((run .rtcpBye (withRtcp (.bye [900]))).stream 40).ended = true := by decide +kernel
theorem test_nack_counted : tget 0 ((run (.rtcpNack []) (withRtcp (.nack 901 [4, 5]))).leg 5).rxCtr 8 = 2 := by decide +kernel
theorem test_feedback_noted : ((run .rtcpTransportFeedback (withRtcp (.feedback []))).leg 5).adapt.lastFeedback = 100000 := by decide +kernel
theorem test_ignored_counted : (run .rtcpIgnored (withRtcp .ignored)).net.rtcpIgnored = 1 := by decide +kernel

/-- Port 3 with its four sub-ports up in mode 3, and its gate open to every class. -/
def portsUp : State :=
  ((devLeg.setF (Reg.NET_PORT_MODE 3) 3 0 3).setF (Reg.NET_PORT_STATUS 3) 3 0 15).setR (Reg.EGS_WINDOW 3 0 0) (2 ^ 31 + 255 * 2 ^ 21)

theorem witness_PortsMoveAndAnnounce :
    portsUp.getF (Reg.NET_PORT_STATUS 3) 3 0 &&& 8 ≠ 0 ∧ devLeg.getF (Reg.NET_PORT_STATUS 3) 3 0 &&& 8 = 0 ∧
    (let s := devLeg.setF (Reg.NET_PORT_MODE 3) 3 0 3
     (15 &&& (2 ^ (modeSubports (s.portMode 3)).1 - 1)) - ((15 &&& (2 ^ (modeSubports (s.portMode 3)).1 - 1)) &&& s.getF (Reg.NET_PORT_STATUS 3) 3 0) ≠ 0) ∧
    (let s := devLeg.onPort 3 (fun p => { p with upSince := some 99400 })
     (s.port 3).upSince = some 99400 ∧ 99400 + 600 ≤ s.now) := by decide +kernel

theorem test_port_down : (run (.portDown 3 8) portsUp).getF (Reg.NET_PORT_STATUS 3) 3 0 = 7 := by decide +kernel
theorem test_port_up : (run (.portUp 3 3) (devLeg.setF (Reg.NET_PORT_MODE 3) 3 0 3)).getF (Reg.NET_PORT_STATUS 3) 3 0 = 3 := by decide +kernel

/-! ### Keys -/

/-- A blob for leg 5's slot 20 under KEK 1. -/
def blob5 : Blob := { kek := 1, wrapKey := 6, record := { slot := 20, leg := 5, generation := 3 } }
/-- The device with KEK 1 written. -/
def devKek : State := { devLeg with cip := { devLeg.cip with keks := [(1, { written := true, key := 6 })] } }
/-- The device with a blob in its queue. -/
def devBlob (b : Blob) : State := { devKek with cip := { devKek.cip with waiting := [{ blob := b, target := 5, reply := some {} }] } }

theorem witness_KeysLoadAndInstall :
    devLeg.serves (msg 5) 0x010E .both = true ∧ devLeg.authority (devLeg.leg 5).desc.fold = true ∧ devLeg.cip.waiting.length < 4096 ∧
    (devBlob blob5).boot.warmRun = false ∧ (devBlob blob5).cip.blobsTick < 512 ∧ (devBlob blob5).blobCheck blob5 5 = 0 ∧
    ((devBlob blob5).slot 20).draining = false ∧ (devBlob { blob5 with kek := 2 }).blobCheck { blob5 with kek := 2 } 5 ≠ 0 ∧
    ((devLeg.onSlot 20 (fun k => { k with draining := true })).slot 20).install = none ∧
    (let s := devLeg.onSlot 20 (fun k => { k with draining := true, install := some { generation := 3 } })
     (s.slot 20).draining = true ∧ (s.slot 20).promoteFrom = none) ∧
    devLeg.pipeFenced 15 = false := by decide +kernel

theorem test_blob_installs : ((run (.keySlotDrainEnd 20) (run .blobProcess (devBlob blob5))).slot 20).generation = 3 := by decide +kernel
theorem test_blob_refused : (run .blobProcess (devBlob { blob5 with intact := false })).getR (Reg.CIP_KS_RESULT 3) = 1 := by decide +kernel
theorem test_pipe_fenced : (run (.cipherPipeFence 15) devLeg).pipeFenced 15 = true := by decide +kernel

theorem witness_KeksAreWrittenOnce :
    (msg 3).target < 4 ∧ devMaint.serves (msg 3) 0x0305 .bothMaint = true ∧ (tget {} devMaint.cip.keks 3).written = false ∧
    devMaint.serves (msg 3) 0x0306 .bothMaint = true ∧
    (let s : State := { devMaint with cip := { devMaint.cip with keks := [(3, { written := true })] } }
     s.serves (msg 3) 0x0305 .bothMaint = true ∧ s.serves (msg 3) 0x0306 .bothMaint = true ∧ (tget {} s.cip.keks 3).written = true ∧ (tget {} s.cip.keks 3).revoked = false) := by decide +kernel

theorem test_kek_revoked : (tget {} (run (.kekRevoke (msg 3)) { devMaint with cip := { devMaint.cip with keks := [(3, { written := true })] } }).cip.keks 3).revoked = true := by
  decide +kernel
/-! ### Audio and video -/

/-- Leg 5 has a decoder and a block ready. -/
def devAud : State := devLeg.onLeg 5 (fun g => { g with aud := { g.aud with inDecodeSet := true, decoder := some 0, blocks := [[4, 5]] } })

theorem witness_AudioTickDecodesMixesEncodes :
    devAud.audioIn 5 = some 40 ∧ (devAud.leg 5).aud.inDecodeSet = true ∧ devAud.boot.warmRun = false ∧ (devAud.leg 5).aud.blocks = [[4, 5]] ∧
    (devAud.stream 40).jit.releasedTick ≠ devAud.now ∧ (devAud.leg 5).aud.removeBy = none ∧
    (let s : State := { devAud with tim := { devAud.tim with tick := 100001 } }
     (s.fold 1).frameEnds 0 s.now = false ∧ WorkEnd.shed ≠ .stateLost) ∧
    ((devAud.onLeg 5 (fun g => { g with aud := { g.aud with personal := some 9 } })).leg 5).aud.personal = some 9 ∧ (devAud.leg 5).aud.persOld = none ∧ WorkEnd.done ≠ .stateLost := by decide +kernel

theorem test_block_decoded : ((run (.audioDecode 5 .done) devAud).leg 5).aud.pcm = [4, 5] := by decide +kernel

theorem witness_AudioControlsMove :
    devLeg.serves (msg 5) 0x010A .both = true ∧ devLeg.authority (devLeg.leg 5).desc.fold = true ∧ (devLeg.leg 5).state = .active ∧
    devAud.candidateLeg 5 = true ∧ (devAud.leg 5).aud.decoder.isSome = true ∧ devLeg.drv.assistOff.contains 15 = false := by decide +kernel

theorem test_mute_next : ((run (.audioControl (msg 5) true) devLeg).leg 5).aud.muteNext = some true := by decide +kernel
theorem test_lipsync_falls : ((run (.lipsyncEval 5) (devLeg.onLeg 5 (fun g => { g with aud := { g.aud with delay := 7 } }))).leg 5).aud.delay = 6 := by decide +kernel
theorem test_assist_fails : (run (.assistFail 15) devLeg).getF Reg.AUD_STATUS 30 30 = 1 := by decide +kernel

theorem test_bellwether_empty : ((run (.bellwetherTick 1) devLeg).fold 1).draft.tick = 100000 := by decide +kernel

/-- Stream 40 waits for a key picture. -/
def devVid : State := devLeg.onStream 40 (fun r => { r with desc := { r.desc with kind := 1, decode := true }, src := { r.src with maxWidth := 1920, maxHeight := 1080 }, dec := { r.dec with state := .waitKey } })

theorem witness_DecodeBandsSettlePictures :
    (devVid.stream 40).dec.state ≠ .idle ∧ ({ stateLost := true } : DecBand).stateLost = true ∧
    (let b : DecBand := { total := 2 }
     b.stateLost = false ∧ b.how = .done ∧ b.present = true ∧ ((devVid.stream 40).dec.curBands.filter (fun x => x.band != b.band)).length + 1 < b.total) ∧
    (let b : DecBand := {}
     let p : PicFacts := { randomAccess := true, width := 64, height := 64 }
     p.unsupportedSequence = false ∧ b.total = 1 ∧ (devVid.stream 40).dec.curBands = [] ∧ (devVid.stream 40).dec.state = .waitKey ∧
     b.damagedTiles (devVid.stream 40).dec.damage = [] ∧ p.randomAccess = true ∧ discardPicture (devVid.stream 40) p devVid.now = false) := by decide +kernel

theorem test_key_picture_clean :
    ((run (.decodeBandDone 40 { randomAccess := true, width := 64, height := 64 } {}) devVid).stream 40).dec.state = .clean := by decide +kernel
theorem test_state_lost : ((run (.decodeBandDone 40 {} { stateLost := true }) devVid).stream 40).dec.state = .waitKey := by decide +kernel

theorem witness_RefreshRepeatsAndStallsTold :
    (let r := devVid.stream 40
     r.dec.state ≠ .idle ∧ r.dec.state ≠ .clean ∧ r.dec.lastReq = none ∧ r.dec.stalledTold = false ∧ r.dec.enterTick + 600 ≤ devVid.now) ∧
    (let s := devVid.onStream 40 (fun r => { r with dec := { r.dec with state := .clean, stalledTold := true } })
     (s.stream 40).dec.state = .clean ∧ (s.stream 40).dec.layerDown = false ∧ (s.stream 40).dec.stalledTold = true) := by decide +kernel

theorem test_refresh_repeated : ((run (.refreshRepeat 40) devVid).stream 40).dec.lastReq = some 100000 := by decide +kernel
theorem test_stall_told : ((run (.sourceStalled 40) devVid).stream 40).dec.stalledTold = true := by decide +kernel

/-- A pricking of one cell that shows the fold's bellwether, and a grid. -/
def prick : Pricking := { id := 7, cells := [{}] }
/-- A grid of one cell. -/
def grid : LaceGrid := { id := 3, width := 3840, height := 2160, kbps := [500] }
/-- Fold 1 has a line class 2 of pricking 7, and leg 5 is a laced viewer. -/
def devLc : State :=
  let s := devLeg.onLc 2 (fun _ => { live := true, desc := { fold := 1, pricking := 7, codec := 0x10, width := 3840, height := 2160, cadence := 0, targetRate := 4000 } })
  let s : State := { s with boot := { s.boot with image := { s.boot.image with prickings := [prick], grids := [grid] } } }
  let s := s.onFold 1 (fun r => { r with desc := { r.desc with pricking := 7, laceGrid := 3 } })
  s.onLeg 5 (fun g => { g with desc := { g.desc with videoMode := 2, viewerPricking := 0xFFFF } })

/-- A line class with two bands, one of them composed, and one of more than two. -/
def devBand : State :=
  (devLc.onLc 2 (fun x => { x with bands := [(0, .done)] })).onLc 3 (fun _ => { live := true, bands := [(0, .done)], desc := { fold := 1, pricking := 7, codec := 0x10, rung := 1, width := 7680, height := 4320, targetRate := 9000 } })

theorem witness_ComposeBandsSettlePictures :
    (devBand.lc 3).live = true ∧ (devBand.lc 2).live = true ∧ (devBand.lc 3).bands ≠ [] ∧ (devBand.lc 3).bands.length + 1 < (devBand.bandPixels 1 (devBand.lcGeo 3)).length ∧
    (devBand.lc 2).bands ≠ [] ∧ (devBand.bandPixels 1 (devBand.lcGeo 2)).length ≤ (devBand.lc 2).bands.length + 1 ∧
    devBand.pricking (devBand.lc 2).desc.pricking = some prick ∧ (devBand.lc 2).bands.all (fun e => e.2 == .done) = true ∧
    (let s := devLc
     let u := s.each (s.lacedPrickings 1) (fun s id => s.resolveArr 1 id)
     let k := (u.cellClasses 1).getD 0 {}
     0 < (u.cellClasses 1).length ∧ ((s.fold 1).render none k).bands.length + 1 < (u.bandPixels 1 (u.classGeo 1 k)).length) := by decide +kernel

/-- A picture of 64 × 64 with the manual's background and one guarded overlay of 2 × 2 at its corner. -/
def guardPic : PicRec :=
  { w := 64, h := 64, layers := [{ rect := { x1 := 64, y1 := 64 } }, { z := 1, rect := { x1 := 2, y1 := 2 }, overlay := some 0, src := .image 4100 { samples := [16, 50, 99, 235, 70, 180] } }] }

theorem test_guard_reproduces_crc : guardPic.guardSignature {} 0 = crc32c [16, 50, 99, 235, 70, 180] := by decide +kernel
theorem test_poison_changes_guard : ({ guardPic with clear := [4100] }).guardSignature {} 0 = crc32c [16, 16, 16, 16, 128, 128] := by decide +kernel
theorem test_blend : blend (blendAlpha 160 255) 235 16 = 153 := by decide +kernel
theorem test_crop_tall : (fitAxes 0 1280 720 638 358).2 = { m := 718, o := 0, n := 358, d := 0 } := by decide +kernel
theorem test_fit_bars : (fitAxes 1 1280 720 640 480).2 = { m := 720, o := 0, n := 360, d := 60 } := by decide +kernel
theorem test_upscale_limit : (fitAxes 2 64 64 640 64).1 = { m := 64, o := 0, n := 512, d := 64 } := by decide +kernel

theorem test_picture_composed : ((run (.composeBandDone (.lc 2) { band := 1 }) devBand).lc 2).inputTick = some 100000 := by decide +kernel
theorem test_band_lost : ((run (.composeBandDone (.lc 2) { band := 1, how := .shed }) devBand).lc 2).inputTick = none := by decide +kernel

/-- The device with a held cell, a group waiting to commit, and a poisoned group. -/
def devHeld : State :=
  let s := devLc.onLc 2 (fun x => { x with cells := [(1, { held := true, waitFrom := 99880 })] })
  { s with cmp := { s.cmp with groupAt := [(9, 100000)], groupNext := [(9, {})], groupPoison := [9] } }

theorem witness_ImageGroupsCommitAndRestore :
    (tget {} (devHeld.lc 2).cells 1).held = true ∧ (tget {} (devHeld.lc 2).cells 1).waitFrom + 120 ≤ devHeld.now ∧
    (let s := devLc.onLc 2 (fun x => { x with cells := [(1, { held := true, waitFrom := 99881 })] })
     s.now < (tget {} (s.lc 2).cells 1).waitFrom + 120) ∧
    tget 0 devHeld.cmp.groupAt 9 ≠ 0 ∧ tget 0 devHeld.cmp.groupAt 9 ≤ devHeld.now ∧ devHeld.cmp.groupPoison.contains 9 = true := by decide +kernel

theorem test_held_ends : (tget {} ((run (.heldPictureTimeout 2 1) devHeld).lc 2).cells 1).held = false := by decide +kernel
theorem test_group_commits : (run (.imageGroupCommit 9) devHeld).cmp.groupPoison = [] := by decide +kernel

theorem witness_EncodeBandsSettlePictures :
    (devLc.lc 2).rung.curBands.length + 1 < (devLc.lcPar 2).bands ∧ devLc.ladderOf 2 = [2] ∧
    (let s := devLc.onLc 2 (fun x => { x with rung := { x.rung with curBands := List.replicate 11 {} } })
     s.ladderOf 2 = [2] ∧ (s.lcPar 2).bands ≤ (s.lc 2).rung.curBands.length + 1) ∧
    (let k := (devLc.cellClasses 1).getD 0 {}
     ((devLc.fold 1).cellEnc none k 0).st.curBands.length + 1 < (devLc.cellPar 1 k 0).bands) ∧
    (devLc.lc 2).live = true ∧ (devLc.lc 2).rung.escTick + 600 ≤ devLc.now ∧
    (let s := devLc.onLc 2 (fun x => { x with rung := { x.rung with escTick := 99401 } })
     s.now < (s.lc 2).rung.escTick + 600) ∧
    (let s := devLc.onLc 2 (fun x => { x with rung := { x.rung with waitPics := [100000] } })
     (s.lc 2).rung.waitPics = [100000] ∧ 100000 + (s.lc 2).enc.lag ≤ s.now + (s.lc 2).enc.lag) ∧
    (let s := devLc.onLc 2 (fun x => { x with rung := { x.rung with waitPics := [90000] } })
     90000 + (s.lc 2).enc.lag ≤ s.now) := by decide +kernel

/-- The rung of the manual's rate-control example: 1,280 × 720 at 1,800 kb/s, one band of 45 rows (R302). -/
def rung2 : EncPar := { kbps := 1800, period := 20, w := 1280, h := 720, codec := 0x12, top := false }
/-- Its first picture: rows 1 to 30 reach 64,812 bits, every row at qp_max takes 1,200, its fallback 160 (R302). -/
def rung2Band : EncBand :=
  { header := 64, rows := List.replicate 29 { model := 2158, atMax := 1200, fallback := 160 } ++ [{ model := 2166, atMax := 1200, fallback := 160 }]
      ++ List.replicate 15 { model := 5000, atMax := 1200, fallback := 160 } }

theorem test_rows_coded :
    let r : RungSt := { ref := .run, full := 81000, lastSize := 90000 }
    let x := r.codeBand rung2 false rung2Band
    (r.target rung2, rung2.reserves false, x.bits, x.floored, x.fallback) = (64500, 7264, 80732, 13, 2) := by decide +kernel

theorem test_encode_band : ((run (.encodeBandDone (.lc 2) { band := 3 }) devLc).lc 2).rung.curBands.length = 1 := by decide +kernel
theorem test_lag_drop : ((run (.lagDrop 2) (devLc.onLc 2 (fun x => { x with rung := { x.rung with waitPics := [90000] } }))).lc 2).rung.waitPics = [] := by decide +kernel
theorem test_escalation : ((run (.escalationReset 2) (devLc.onLc 2 (fun x => { x with rung := { x.rung with esc := 3 } }))).lc 2).rung.esc = 0 := by decide +kernel

/-! ### Lacing, forwarding and adaptation -/

theorem witness_AssembliesSendKeysThenPictures :
    (devLc.leg 5).state = .active ∧ devLc.viewerLayout 5 = some (prick, grid) ∧ bit (devLc.getR Reg.LAC_STATUS) (12 + 1) = false ∧
    (devLc.leg 5).view.keyPending = true ∧ bit ((devLc.setF Reg.LAC_STATUS 13 13 1).getR Reg.LAC_STATUS) (12 + 1) = true ∧
    ((devLc.onLeg 5 (fun g => { g with view := { g.view with keyPending := false } })).leg 5).view.keyPending = false ∧
    (devLc.leg 6).state ≠ .active := by decide +kernel

theorem test_key_assembly : ((run (.laceAssembly 5 1 .done [] false none) devLc).leg 5).view.lastSynth = some 100000 := by decide +kernel
theorem test_fenced_assembly : ((run (.laceAssembly 5 1 .done [] false none) (devLc.setF Reg.LAC_STATUS 13 13 1)).leg 5).view.keyPending = true := by decide +kernel

/-- Leg 5 as a forwarding leg with one slot. -/
def devFwd (x : FwdSlot) : State := devLeg.onLeg 5 (fun g => { g with desc := { g.desc with videoMode := 1 }, fwd := [x] })

theorem witness_ForwarderSlotsFollowOrder :
    ((devFwd {}).leg 5).state = .active ∧ ((devFwd {}).leg 5).desc.videoMode = 1 ∧ (devLeg.leg 5).desc.videoMode ≠ 1 ∧
    (let x : FwdSlot := { waiting := true, waitFrom := 99939 }
     ((devFwd x).leg 5).fwd[0]? = some x ∧ x.waitUp = false ∧ x.paused = false ∧ x.waitFrom + 60 < (devFwd x).now) ∧
    (({} : FwdSlot).waiting = false) ∧
    (let x : FwdSlot := { tgt := some (40, 0, 0), waiting := true, waitUp := true, needKey := true, lastPli := 99400 }
     ((devFwd x).leg 5).fwd[0]? = some x ∧ x.lastPli + 600 ≤ (devFwd x).now) ∧
    (let x : FwdSlot := { lastPli := 99401 }
     (devFwd x).now < x.lastPli + 600) := by decide +kernel

theorem test_fwd_pauses : ((run (.fwdSwitchTimeout 5 0) (devFwd { waiting := true, waitFrom := 99939 })).leg 5).fwd = [{ waiting := true, waitFrom := 99939, paused := true }] := by decide +kernel
theorem test_fwd_pli : (((run (.fwdPliRepeat 5 0) (devFwd { tgt := some (40, 0, 0), waiting := true, waitUp := true, needKey := true, lastPli := 99400 })).leg 5).fwd.map (·.lastPli)) = [100000] := by decide +kernel

theorem witness_AdaptationKeepsEgressLimits : (devLeg.leg 5).state = .active ∧ (devLeg.leg 6).state ≠ .active := by decide +kernel

theorem test_adapt_lost : ((run (.adaptTick 5 .stateLost) devLeg).leg 5).adapt.estimate = 100 := by decide +kernel
theorem test_adapt_floor : ((run (.adaptTick 5 .done) devLeg).leg 5).adapt.estimate = 100 := by decide +kernel

/-! ### Egress -/

/-- The device with a packet waiting to be enqueued. -/
def devPkt (p : EgPkt) : State := { devLeg.onLeg 5 (fun g => { g with eg := { g.eg with subport := 13, burst := 9, rate := 100 } }) with egs := { devLeg.egs with packetised := [p] } }
/-- Its port 3 has a frame of class 7. -/
def devPort : State := { portsUp with egs := { portsUp.egs with portq := [(31, { pkts := [{ port := 3, cls := 7, len := 100 }] })] } }

/-- Leg 5 has a packet queued for sub-port 15. -/
def devPick : State :=
  let s := portsUp.onLeg 5 (fun g => { g with desc := { g.desc with portPair := 3 }, eg := { g.eg with subport := 16, level := 100000, burst := 9000, rate := 100, quantum := 2000, queues := [(6, { pkts := [{ leg := some 5, cls := 6, len := 100 }] })] } })
  { s with egs := { s.egs with subs := [(15, { rounds := [(6, [5])] })] } }

theorem witness_EgressQueuesSelectsRefills :
    (let p : EgPkt := { leg := some 5, cls := 6, kind := .rtp, len := 100 }
     let s := devPkt p
     s.egs.packetised.find? (fun p => decide (p.tick ≤ s.now)) = some p ∧ 2 ≤ p.cls ∧ p.cls ≤ 6 ∧ (s.leg 5).state = .active ∧ (s.leg 5).txStopped = false ∧
     p.rtxOf = none ∧ (s.legSub 5).isSome = true ∧ (s.leg 5).queued < 1024 ∧ s.overTwin 5 { p with tick := s.now } = false) ∧
    (let p : EgPkt := { port := 3, cls := 7 }
     let s := devPkt p
     s.egs.packetised.find? (fun p => decide (p.tick ≤ s.now)) = some p ∧ (tget ({} : PortQ) s.egs.portq (p.port * 8 + p.cls)).pkts.length < 4096) ∧
    devLeg.egs.packetised.find? (fun p => decide (p.tick ≤ devLeg.now)) = none ∧
    devLeg.serves (msg 15) 0x0110 .hostOnly = true ∧ (devLeg.upSubports 3).contains 0 = false ∧
    ((devPort.upSubports 3).contains 3 = true ∧ devPort.sub (3 * 4 + 3) = {}) ∧
    (devPick.upSubports 3).contains 3 = true ∧ (devPick.sub (3 * 4 + 3)).tau ≤ 200 * 1000 ∧
    (match (devPick.pickFrom (3 * 4 + 3) 200 (modeSubports (devPick.portMode 3)).2 [6, 5, 4, 3, 2]).1 with | .some l _ => l == 5 | _ => false) = true ∧
    (let s : State := { devPort with egs := { devPort.egs with subs := [(15, { tau := 1000000 })] } }
     (s.upSubports 3).contains 3 = true ∧ 200 * 1000 < (s.sub 15).tau ∧
     s.pickPort 15 200 (modeSubports (s.portMode 3)).2 = some { port := 3, cls := 7, len := 100 } ∧ s.pins.fenceIn = false ∧ s.twn.pair ≠ .fenced) ∧
    (let s : State := { devLeg with egs := { devLeg.egs with refill := 7 } }
     s.egs.refill ≠ 0 ∧ s.egs.refill < 8 ∧ s.liveLegs.Nodup ∧ 5 ∈ s.liveLegs ∧ (s.leg 5).state = .active) ∧
    ({ devLeg with egs := { devLeg.egs with refill := 8 } } : State).egs.refill = 8 ∧
    (let p : EgPkt := { leg := some 5, cls := 6, tick := 99998 }
     let s := devLeg.onLeg 5 (fun g => { g with eg := { g.eg with queues := [(6, { pkts := [p] })] } })
     s.liveLegs = [5] ∧ (s.leg 5).eg.queues = [(6, { pkts := [p] })] ∧ s.staleAfter 5 p < s.now) ∧
    (devLeg.leg 5).eg.queues = [] := by decide +kernel

theorem test_enqueued : (((run .packetEnqueue (devPkt { leg := some 5, cls := 6, kind := .rtp, len := 100 })).leg 5).queue 6).pkts.length = 1 := by decide +kernel
theorem test_port_frame_sent : (run (.frameSelect 3 3 200 0) { devPort with egs := { devPort.egs with subs := [(15, { tau := 1000000 })] } }).out.length = 1 := by decide +kernel
theorem test_leg_frame_scheduled : ((run (.frameSelect 3 3 200 0) devPick).leg 5).eg.level = 80800 := by decide +kernel
theorem test_refill : ((run .refillPoint { (devPkt {}) with egs := { devLeg.egs with refill := 7 } }).leg 5).eg.level = 500 := by decide +kernel

/-! ### The Drover and the bobbins -/

/-- Task 4 of pool 0 and node 5 of pool 0x20. -/
def devDrv : State :=
  { devLeg with
    drv := { devLeg.drv with
      tasks := [(4, { cfg := { enabled := true, pool := 0, prio := 2 }, st := .ready }), (5, { cfg := { enabled := true, pool := 0x20, classG := true }, st := .ready })]
      readyW := [{ task := 4, deadline := 100001 }], readyG := [{ task := 5, deadline := 100001 }] } }

/-- Core 3 runs task 4. -/
def devRun : State := { devDrv with drv := { devDrv.drv with running := [{ task := 4, pool := 0, unit := 3, grantTick := 99998 }] } }

theorem witness_DroverPortsHandOutAndSettle :
    (devDrv.setF (Reg.MCA_CORE_STATUS 0) 3 3 1).coreFenced 3 = true ∧ (devDrv.setF Reg.DRV_STATUS 31 31 1).getF Reg.DRV_STATUS 31 31 = 1 ∧
    devDrv.coreFenced 3 = false ∧ devDrv.getF Reg.DRV_STATUS 31 31 = 0 ∧ devDrv.drv.takers = [] ∧
    devDrv.bestEntry devDrv.drv.readyW (devDrv.coreTakes 3) = some { task := 4, deadline := 100001 } ∧
    devDrv.bestEntry devDrv.drv.readyW (devDrv.coreTakes 16) = none ∧
    devRun.drv.running.find? (fun i => i.unit = 3 && i.task = 4 && decide (i.pool ≤ 0x11)) = some { task := 4, pool := 0, unit := 3, grantTick := 99998 } ∧
    (let i : RunItem := { task := 4, pool := 0, unit := 3, outcome := some .completed }
     let s : State := { devDrv with drv := { devDrv.drv with running := [i] } }
     s.drv.running.find? (fun i => i.unit = 3 && decide (i.pool ≤ 0x11) && i.outcome.isSome) = some i) := by decide +kernel

theorem test_take : (run (.take 3 700) devDrv).drv.running.map (·.task) = [4] := by decide +kernel
theorem test_take_waits : (run (.take 16 0) devDrv).drv.takers.map (·.2) = [16] := by decide +kernel
theorem test_done : (run (.doneResult 3 5) (run (.doneStatus 3 4 false 0) devRun)).drv.running = [] := by decide +kernel

theorem witness_DroverNodesSpillsAndSheds :
    devDrv.bestEntry devDrv.drv.readyG (fun p => p = 0x20) = some { task := 5, deadline := 100001 } ∧ devDrv.leastUnit 0x20 = some 0 ∧
    devRun.drv.running.any (fun i => i.task = 4 && !i.aborted) = true ∧ devDrv.drv.takers = [] ∧
    (∀ p ∈ poolCodes, devLeg.demand p 1250000 ≤ devLeg.capacity p 1250000) := by decide +kernel

theorem test_node_pushed : ((run (.nodePush 0x20 0) devDrv).task 5).st = .running := by decide +kernel
theorem test_task_ecc : ((run (.taskEcc 4) devDrv).task 4).cfg.enabled = false := by decide +kernel

theorem witness_FencedUnitsShowTheirFence :
    devLeg.getF (Reg.VEN_FENCE_STATUS 63) 0 0 = 0 ∧ devLeg.getF (Reg.CMP_FENCE_STATUS 7) 0 0 = 0 ∧ devLeg.getF Reg.LAC_STATUS (12 + 1) (12 + 1) = 0 ∧
    devLeg.coreFenced 255 = false ∧ devLeg.drv.fencePend.any (fun p => p.1 = 255) = false ∧ devLeg.boot.warmRun = false ∧
    devRun.drv.running.any (fun i => i.pool = 0 && i.unit = 3 && decide (i.grantTick + 2 ≤ devRun.now)) = true ∧
    devRun.coreFenced 3 = false ∧ devRun.drv.fencePend.any (fun p => p.1 = 3) = false := by decide +kernel

theorem test_engine_fenced : (run (.engineFence 63 4) devLeg).getR (Reg.VEN_FENCE_STATUS 63) = 0x403 := by decide +kernel
theorem test_hang_fences : (run (.unitHang 0 3) devRun).drv.fencePend = [(3, 3)] := by decide +kernel

theorem witness_FenceControlsWaitForBoundary :
    devLeg.answers (Reg.VEN_FENCE_CTRL 63) = true ∧ devLeg.answers (Reg.CMP_FENCE_CTRL 7) = true ∧ devLeg.answers Reg.LAC_LANE_FENCE_CTRL = true ∧
    devLeg.answers (Reg.MCA_FENCE_CTRL 15) = true ∧ bit 0x8000 15 = true ∧ devLeg.coreFenced (15 * 16 + 15) = false ∧ State.reset.boot.inReset = true := by
  decide +kernel

theorem test_ven_fence_ctrl : (run (.venFenceCtrl 63 1) devLeg).ven.fencePend = [(63, 4)] := by decide +kernel
theorem test_mca_fence_ctrl : (run (.mcaFenceCtrl 15 0x8000) devLeg).drv.fencePend.map (·.1) = [255] := by decide +kernel

/-- Queue 6 enabled, producer 2, consumer 3, holding `b`. -/
def devBq (b : BqSt) : State := (devLeg.setR (Reg.BQ_CONFIG 6) (16 + 2 * 256 + 3 * 65536)).onBobbin 6 (fun _ => b)

theorem witness_BobbinQueuesObeyTheirOwners :
    (devBq {}).bqEnabled 6 = true ∧ ((devBq {}).bobbin 6).producing = false ∧ ceilDiv 1024 16 ≤ (devBq {}).bqFree 6 ∧ (devBq {}).bqFree 6 < ceilDiv 1025 16 ∧
    ((devBq {}).bobbin 6).left = 0 ∧ ((devBq { left := 2 }).bobbin 6).left ≠ 0 ∧ ((devBq { left := 2 }).bobbin 6).discard = false ∧
    (let b : BqSt := { words := [{ kind := .held }], write := 1, heldAt := some 0 }
     ((devBq b).bobbin 6).heldAt = some 0 ∧ ((devBq b).bobbin 6).discard = false ∧ ((devBq b).bobbin 6).waiting = false ∧
     ((devBq b).bobbin 6).unread = [{ kind := .held }]) ∧
    (let b : BqSt := { words := [{ kind := .end_ }], write := 1 }
     ((devBq b).bobbin 6).unread = [{ kind := .end_ }] ∧ ((devBq b).bobbin 6).unread.findIdx? (fun w => w.kind == .end_ || w.kind == .endPoison) = some 0) ∧
    ((devBq {}).bobbin 6).unread = [] ∧ devLeg.bqEnabled 6 = false ∧ 9 ≠ (devBq {}).bqProducer 6 ∧ 9 ≠ (devBq {}).bqConsumer 6 ∧
    devLeg.answers (Reg.BQ_FLUSH 0 0) = true ∧ bit (2 ^ 31) 31 = true := by decide +kernel

theorem test_bq_reserve : ((run (.bqReserve 6 2 1024 false) (devBq {})).bobbin 6).left = 64 := by decide +kernel
theorem test_bq_write : ((run (.bqWordWrite 6 2 { kind := .end_ }) (devBq { left := 2 })).bobbin 6).write = 1 := by decide +kernel
theorem test_bq_read : ((run (.bqRead 6 3 false) (devBq { words := [{ kind := .end_ }], write := 1 })).bobbin 6).read = 1 := by decide +kernel
theorem test_bq_stranger : (run (.bqRead 6 9 false) (devBq {})).faulted fltOwnerViolation (subjBobbin 6) = true := by decide +kernel
theorem test_bq_rewind : ((run (.bqRewind 6 3) (devBq { words := [{ kind := .end_ }], write := 1, read := 1 })).bobbin 6).read = 0 := by decide +kernel

/-- R183: with 12-tick frames of silence, those at 0 and at 240 ticks are sent. -/
theorem test_dtx_sends : dtxSkips 12 0 = false ∧ dtxSkips 12 12 = true ∧ dtxSkips 12 228 = true ∧ dtxSkips 12 240 = false := by decide +kernel
/-! ### DRAM -/

/-- Channel 0 and 1 in service; one mirrored stripe and one plain one. -/
def devMem : State :=
  let s := (devLeg.setF (Reg.DMC_CH_STATUS 0) 2 0 chActive).setF (Reg.DMC_CH_STATUS 1) 2 0 chActive
  let s := s.onChan 0 (fun x => { x with slices := 4, dimm := { dimms := [{ ranks := 2 }] } })
  { s with dmc := { s.dmc with stripes := 2, mirrored := 1, setPoints := [0, 1, 2] } }

/-- A line whose bytes are `v`, stored at channel 0's local address `a`. -/
def withLine (c a v : Nat) : State := { devMem with mem := memPutAll devMem.mem (cellAddr c a) (List.replicate 64 (BitVec.ofNat 8 v)) }

/-- The first address of the plain stripe: entry 12, channel 0. -/
def plainAddr : Nat := 100663296

theorem witness_DramReadsReturnStoredLines :
    (let r : MemReq := { addr := 301989888 }
     r.write = false ∧ r.kind ≠ .syntax_ ∧ devMem.usableSize < r.addr + r.len) ∧
    (let r : MemReq := { addr := plainAddr }
     r.addr + r.len ≤ devMem.usableSize ∧ devMem.dmc.gap = none ∧ (devMem.mapAddr r.addr).1 = [12] ∧ r.kind ≠ .picture ∧ devMem.cached r.addr = none) ∧
    (let s := devMem.cachePut plainAddr [7]
     s.cached plainAddr = some [7] ∧ CacheErr.none ≠ .uncorrectable) ∧
    (let s := withLine 0 0 9
     (s.mapAddr 0).1 = [0, 1] ∧ s.entryCopying 0 = false ∧ s.entryCopying 1 = false ∧ s.chanServes (s.entryPlace 0 0).1 = true ∧
     (memLine s.mem (cellAddr 0 0)).isSome = true) ∧
    (let s := withLine 1 0 9
     memLine s.mem (cellAddr 0 0) = none ∧ (memLine s.mem (cellAddr 1 0)).isSome = true ∧ s.chanServes 0 = true) ∧
    (memLine devMem.mem (cellAddr 0 0) = none ∧ memLine devMem.mem (cellAddr 1 0) = none ∧ devMem.boot.warmRun = false) ∧
    (let s : State := { devMem with dmc := { devMem.dmc with gap := some 0 } }
     s.dmc.gap.isSome = true ∧ s.heldFor { addr := plainAddr } = none) := by decide +kernel

theorem test_read_plain :
    (run (.dramAccess { addr := plainAddr + 3, len := 1 }) (withLine 0 sliceBytes 9)).dmc.lastRead = some { addr := plainAddr + 3, data := [9#8] } := by decide +kernel
theorem test_read_outside : (match exec (.dramAccess { addr := 301989888 }) devMem with | .fault f => f == .addressOutside | _ => false) = true := by decide +kernel

/-- A write of a whole line of `v`. -/
def lineWrite (a v : Nat) : MemReq := { addr := a, write := true, data := List.replicate 64 (BitVec.ofNat 8 v) }

theorem witness_DramWritesLandAtTheirPlaces :
    (lineWrite plainAddr 5).write = true ∧ (lineWrite plainAddr 5).kind ≠ .syntax_ ∧ plainAddr + 64 ≤ devMem.usableSize ∧ (lineWrite 0 5).guarded = false ∧
    (∀ k ∈ (devMem.mapAddr 0).1, devMem.chanServes (devMem.entryPlace k 0).1 = true) ∧ (lineWrite 0 5).data.length = 64 ∧
    (let s : State := { devMem with dmc := { devMem.dmc with gap := some 0 } }
     s.dmc.stalled = [] ∧ s.heldBytes + 64 ≤ 25165824) := by decide +kernel

theorem test_write_mirrored : memByte (run (.dramAccess (lineWrite 0 5)) devMem).mem (cellAddr 1 63) = some 5#8 := by decide +kernel

theorem witness_MemoryCommandsKeepCanonicalForm :
    memWf (withLine 0 0 9).mem = true ∧ memWf (run .zqLatch (withLine 0 0 9)).mem = true := by decide +kernel

/-- Channel 0 drains its last slice; its failed rank is being copied. -/
def devJob (j : CopyJob) : State := { devMem with dmc := { devMem.dmc with jobs := [j] } }

theorem witness_MemoryErrorsCountAndEscalate :
    devMem.boot.warmRun = false ∧ devMem.chanServes 0 = true ∧ devMem.rehome 0 = none ∧
    (let s : State := { devMem with dmc := { devMem.dmc with spareMode := true, chans := [(0, { slices := 4, dimm := { dimms := [{ ranks := 2 }] } })] } }
     s.spareOn (s.chan 0).dimm = true ∧ s.getF (Reg.DMC_CH_STATUS 0) 6 6 ≠ 1 ∧ (s.chan 0).migRank = none) ∧
    (devMem.setF (Reg.DMC_CH_STATUS 3) 2 0 chDrained).chState 3 = chDrained ∧ (devMem.setF (Reg.DMC_CH_STATUS 3) 2 0 chTraining).chState 3 = chTraining ∧
    (devMem.setF (Reg.DMC_CH_STATUS 3) 2 0 chFenced).chState 3 = chFenced := by decide +kernel

theorem test_ce_counted : (run (.dramCorrectableError 0 1) devMem).getR (Reg.DMC_CH_RANK_CE 0 1) = 1 := by decide +kernel
theorem test_ue_poisons : memLine (run (.dramUncorrectableError 0 5 false) (withLine 0 0 9)).mem (cellAddr 0 0) = none := by decide +kernel
theorem test_drained_lost : (run (.channelLost 3) (devMem.setF (Reg.DMC_CH_STATUS 3) 2 0 chDrained)).chState 3 = chFenced := by decide +kernel

theorem witness_CopierMovesSlicesAndRanks :
    devMem.answers (Reg.DMC_CH_CTRL 11) = true ∧ devMem.chState 0 ≠ chTraining ∧ devMem.dmc.jobs = [] ∧
    (devJob { kind := .fill, steps := [{}] }).dmc.jobs = [{ kind := .fill, steps := [{}] }] ∧
    (let s := devJob { kind := .drain, steps := [{ entry := some 12, chan := 1, slice := 2 }] }
     memWf s.mem = true ∧ (s.chan 0).autoDrain = false ∧
     cellAddr (s.remapOf 12).1 ((s.remapOf 12).2 * sliceBytes) ≠ cellAddr 1 (2 * sliceBytes)) ∧
    (devMem.chan 0).migRank = none ∧ ((devMem.onChan 0 (fun x => { x with migRank := some 1 })).chan 0).migRank = some 1 ∧
    (let s := devJob { kind := .rebuild, steps := [{ entry := some 1 }] }
     memWf s.mem = true ∧ cellAddr (s.remapOf (otherCopy 1)).1 ((s.remapOf (otherCopy 1)).2 * sliceBytes) ≠ cellAddr (s.remapOf 1).1 ((s.remapOf 1).2 * sliceBytes)) ∧
    (let s := devMem.setF (Reg.DMC_CH_STATUS 2) 2 0 chTraining
     s.chState 2 = chTraining ∧ s.popOk { dimms := [{}, {}, {}] } = false) := by decide +kernel

theorem test_drain_command : ((run (.dmcDrain 11) devMem).chan 11).cmdPend = 1 := by decide +kernel
theorem test_rank_spared : (run (.rankMigrationDone 0) (devMem.onChan 0 (fun x => { x with migRank := some 1 }))).getF (Reg.DMC_CH_STATUS 0) 13 12 = 1 := by decide +kernel

theorem witness_RefreshAndSetPointFollowTheirRules :
    devMem.chState 0 ≠ chAbsent ∧ devMem.chState 0 ≠ chFenced ∧ devMem.lowerSp = some 1 ∧ devMem.dmc.wantSp = none ∧
    (devMem.setF (Reg.DMC_CH_STATUS 0) 2 0 chAbsent).chState 0 = chAbsent ∧
    ({ devMem with tim := { devMem.tim with tick := 100000 } } : State).now % 19 ≠ 0 ∧ ({ devMem with tim := { devMem.tim with tick := 19 } } : State).now % 19 = 0 ∧
    (let s : State := { devMem with dmc := { devMem.dmc with wantSp := some 1 } }
     s.dmc.wantSp = some 1 ∧ s.dmc.jobs = [] ∧ s.dmc.gap = none ∧ ∀ k, k < 12 → s.chState k ≠ chTraining) ∧
    ({ devMem with dmc := { devMem.dmc with gap := some 0 } } : State).dmc.gap = some 0 ∧
    (let s : State := { devMem with dmc := { devMem.dmc with hotFrom := some 0, warmTick := 99401 } }
     s.dmc.hotFrom = some 0 ∧ s.now < s.dmc.warmTick + 600) ∧
    (let s : State := { devMem with dmc := { devMem.dmc with hotFrom := some 0, warmTick := 99400 } }
     s.dmc.hotFrom = some 0 ∧ s.dmc.warmTick + 600 ≤ s.now) := by decide +kernel

theorem test_refresh_owed : tget 0 (tget {} ((run (.refreshDue 0 1 2 0) devMem).chan 0).ranks 1).owed 2 = 1 := by decide +kernel
theorem test_dimm_hot : (run (.dimmTempRead 0 0 95 false) devMem).dmc.wantSp = some 1 := by decide +kernel
theorem test_set_point : (run .setPointSwitch { devMem with dmc := { devMem.dmc with wantSp := some 1 } }).dmc.setPoint = 1 := by decide +kernel
theorem test_restore : (run .setPointRestore { devMem with dmc := { devMem.dmc with hotFrom := some 0, warmTick := 99400 } }).dmc.wantSp = some 0 := by decide +kernel

/-! ### Resets -/

/-- The device held by a thermal trip. -/
def devHot : State := { dev with boot := { dev.boot with thermalHold := true, inReset := true } }
/-- The device with its cores down. -/
def devWarm : State := { dev with boot := { dev.boot with warmRun := true } }

theorem witness_PowerAndTripsHoldOrStart :
    devHot.boot.thermalHold = true ∧ dev.boot.thermalHold = false ∧ dev.boot.inReset = false ∧ dev.boot.halted = false ∧
    (let e : BootEnv := { strap := [0, 0, 0, 0, 0, 0, 0, 0] }
     sumN (e.strap.map (· % 64)) / 8 = 0) ∧ (let e : BootEnv := { strap := [63, 63, 63, 63, 63, 63, 63, 63] }
     sumN (e.strap.map (· % 64)) / 8 = 63) ∧ State.reset.boot.inReset = true := by decide +kernel

theorem test_strap_halts : (run (.resetPin { strap := [0, 0, 0, 0, 0, 0, 0, 0] }) dev).boot.halted = true := by decide +kernel
theorem test_trip : (run .thermalTrip devLeg).legs = [] := by decide +kernel

theorem witness_WarmResetsRestartTheCores :
    dev.up = true ∧ dev.sealed = true ∧ dev.boot.warmRun = false ∧ (dev.setF Reg.BOOT_STATUS 6 6 0).sealed = false ∧
    State.reset.up = false ∧ State.reset.boot.waitHost = false ∧ dev.serves (msg 0) 0x0301 .both = true ∧ dev.answers Reg.BOOT_RESET_CTRL = true ∧
    (dev.setF Reg.BOOT_WATCHDOG 16 16 1).getF Reg.BOOT_WATCHDOG 16 16 = 1 ∧ (dev.setF Reg.BOOT_WATCHDOG 16 16 0).getF Reg.BOOT_WATCHDOG 16 16 = 0 ∧
    dev.answers Reg.BOOT_WATCHDOG_KICK = true ∧ (devWarm.setR Reg.BOOT_WARM_REMAIN 0).getF Reg.BOOT_WARM_REMAIN 15 0 = 0 ∧
    (devWarm.setR Reg.BOOT_WARM_REMAIN 1).getF Reg.BOOT_WARM_REMAIN 15 0 ≠ 0 ∧ devWarm.boot.warmRun = true ∧ devWarm.upd.fallAt = none ∧
    devWarm.boot.sdState ≠ 1 := by decide +kernel

theorem test_warm_pin : (run .warmResetPin devLeg).getF (Reg.MGT_CORE_STATUS 3) 1 0 = 2 := by decide +kernel
theorem test_resume : (run .mgmtResume devWarm).boot.warmRun = false := by decide +kernel

theorem witness_PlaneAndBlockResetsRun :
    dev.serves (msg 0) 0x0302 .both = true ∧ dev.answers Reg.BOOT_RESET_CTRL = true ∧ 0x57A2 % 65536 = 0x57A2 ∧ 0 % 65536 ≠ 0x57A2 ∧
    dev.serves (msg 0) 0x0303 .both = true ∧ dev.serves (msg 0) 0x0304 .both = true ∧ dev.boot.planePend = none ∧
    (let s : State := { devLeg with boot := { devLeg.boot with planePend := some .command } }
     s.boot.planePend = some .command ∧ s.up = true ∧ s.sealed = true) ∧ dev.boot.planeRun = false ∧
    ({ dev with boot := { dev.boot with planeRun := true } } : State).boot.planeRun = true ∧ dev.answers Reg.BOOT_SOFT_RESET = true ∧ dev.boot.softRun = [] ∧
    ({ dev with boot := { dev.boot with softRun := [5] } } : State).boot.softRun = [5] ∧ dev.answers Reg.BOOT_HOST_BOOT = true ∧ dev.boot.waitHost = false ∧
    (let s : State := { dev with boot := { dev.boot with waitHost := true } }
     s.answers Reg.BOOT_HOST_BOOT = true ∧ s.boot.waitHost = true ∧ 0x57A20000 / 65536 % 65536 = 0x57A2) := by decide +kernel

theorem test_plane_start : (run .planeResetStart { devLeg with boot := { devLeg.boot with planePend := some .command } }).legs = [] := by decide +kernel
theorem test_soft_reset : (run (.softReset 0x57A21234) dev).boot.softPend = [0x1234] := by decide +kernel

/-! ### The host -/

/-- R18's figures for tick 1 and the first tick of second 2. -/
theorem test_tick_ns : tickNs 1 = 1666666 ∧ tickNs 1200 = 2000000000 ∧ tickLen 1 = 1666667 := by decide +kernel
theorem witness_TicksAndTimestampsFollowTheGrid :
    (599 < 600 ∧ tickNs 1 * 2 ^ 32 < tickNs 2 * 2 ^ 32 ∧ tickNs 2 * 2 ^ 32 ≤ tickNs (1 + 1) * 2 ^ 32) ∧ (0xC ≤ 0xFF) ∧ fractional 8 = true ∧ fractional 11 = true ∧ 4 < periodOf 8 := by
  decide +kernel

theorem witness_BoundariesAndSnapshots :
    State.reset.up = false ∧ dev.up = true ∧ dev.flt.queue.any (fun f => classOf f.code = 4) = false ∧
    (dev.queueFault { code := faultCode 1 4 1 }).flt.queue.any (fun f => classOf f.code = 4) = true ∧ dev.answers Reg.BOOT_INV_SELECT = true ∧
    ({ dev with selPend := [Reg.DRV_TASK_SELECT] } : State).selPend = [Reg.DRV_TASK_SELECT] := by decide +kernel

theorem test_select : (run (.drvTaskSelect 77) dev).selPend = [Reg.DRV_TASK_SELECT] := by decide +kernel
theorem test_latch : (run .snapshotLatch { dev with selPend := [Reg.DRV_TASK_SELECT] }).selPend = [] := by decide +kernel

/-- Submit ring 3 enabled with one message on it, and reply ring 19 enabled. -/
def devRing : State := ((dev.setF (Reg.DEV_RING_CONFIG 3) 9 9 1).setR (Reg.DEV_RING_TAIL 3) 1).setF (Reg.DEV_RING_CONFIG 19) 9 9 1

theorem witness_RingsMoveAndStop :
    dev.answers (Reg.DEV_RING_TAIL 34) = true ∧ dev.answers (Reg.DEV_RING_HEAD 15) = true ∧ dev.answers (Reg.DEV_RING_CONFIG 16) = true ∧
    dev.ringOn 34 = false ∧ devRing.ringOn 3 = true ∧ devRing.ringUsed 3 ≠ 0 ∧ dev.ringUsed 3 = 0 ∧ devRing.host.blocked.any (fun b => b.dst.src = .ring 3) = false ∧
    devRing.host.fetched < 4096 ∧ devRing.boot.warmRun = false ∧ devRing.up = true := by decide +kernel

theorem test_fetch : (run (.messageFetch 3 0x0111 8 5) devRing).host.arrived.map (·.seq) = [8] := by decide +kernel
theorem test_ring_dma : (run (.ringDma 3) devRing).getF (Reg.DEV_RING_CONFIG 3) 10 10 = 1 := by decide +kernel
theorem test_flr : (run .functionLevelReset devRing).ringOn 3 = false := by decide +kernel

theorem witness_VectorsFollowModeration :
    (let s : State := { devRing with host := { devRing.host with irqPend := [19] } }
     s.host.irqPend.contains 19 = true ∧ tget 0 s.host.irqLast 3 = 0) ∧
    (let s : State := { devRing with host := { devRing.host with msix := 8 } }
     s.host.irqPend.contains 19 = false ∧ s.host.msix &&& BitVec.ofNat 64 (2 ^ 3) ≠ 0) ∧
    devRing.host.msix &&& BitVec.ofNat 64 (2 ^ 3) = 0 := by decide +kernel

theorem test_vector : (run (.irqModeration 19 5 true false) { devRing with host := { devRing.host with irqPend := [19] } }).out = [.other 20 [3]] := by decide +kernel

/-- The service port on, with management key 0 written. -/
def devSvc : State :=
  let s := dev.setF Reg.DEV_SVC_STATUS 1 0 3
  { s with boot := { s.boot with mgmtKeys := [(0, { written := true })] } }

theorem witness_AccessesAndDatagramsAreChecked :
    dev.host.readLatch = none ∧ wideLow Reg.DEV_TICK_NUMBER = true ∧ Reg.DEV_TICK_NUMBER ≠ Reg.TIME_TB_NOW ∧ dev.decodes Reg.DEV_TICK_NUMBER = true ∧
    ({ dev with host := { dev.host with readLatch := some (65, [7]) } } : State).host.readLatch = some (65, [7]) ∧ dwordAt 260 = 65 ∧ dwordAt 264 ≠ 65 ∧
    (dev.setF Reg.BOOT_STATUS 6 6 0).decodes (dwordAt 0) = false ∧ (ownWrite (dwordAt 0x100) 0 dev).isNone = true ∧ (7 : Nat) ≠ 15 ∧
    devSvc.up = true ∧ devSvc.boot.warmRun = false ∧ devSvc.svcOn = true ∧
    (let d : SvcDatagram := { n := 1408, counter := 4 }
     d.addrOk = true ∧ d.n ≤ 1408 ∧ d.key < 2 ∧ (tget {} devSvc.boot.mgmtKeys d.key).written = true ∧ (tget {} devSvc.boot.mgmtKeys d.key).revoked = false ∧
     d.tagOk = true ∧ tget 0 devSvc.tly.svcAccepted d.key ≤ d.counter ∧ 600 ≤ devSvc.host.svcTokens ∧ devSvc.host.svcCache = []) ∧
    ({ devSvc with tly := { devSvc.tly with svcAccepted := [(0, 5)] } } : State).tly.svcAccepted = [(0, 5)] ∧
    ({ devSvc with host := { devSvc.host with svcTokens := 599 } } : State).host.svcTokens < 600 ∧ State.reset.boot.inReset = true := by decide +kernel

theorem test_datagram : (run (.serviceDatagram { n := 1408, counter := 4, typ := 0x0111, seq := 3 }) devSvc).host.svcTokens = 119400 := by decide +kernel
theorem test_partial_write : (run (.registerWrite (4 * Reg.DRV_TASK_SELECT) 1 7 0) dev).flt.queue.map (·.code) = [faultCode 15 0 1] := by decide +kernel
theorem test_wide_read_latches : (run (.registerRead64 256 0) dev).host.readLatch.isSome = true := by decide +kernel
/-! ### Time -/

/-- Domain 1 enabled for domain number 5 on port 0, taking messages of its master (1, 2); end to end, or peer to peer. -/
def ptpDev (peer : Nat) : State :=
  let s := (((dev.setF (Reg.TIME_DOM_CONFIG 0) 7 0 5).setF (Reg.TIME_DOM_CONFIG 0) 22 22 peer).setF (Reg.TIME_DOM_CONFIG 0) 23 23 1).setF (Reg.TIME_DOM_PORTS 0) 0 0 1
  s.onDom 1 (fun x => { x with
    master := some { ann := { hdr := { domain := 5, sender := (1, 2) } } }, syncPend := some { seq := 9 }
    reqSent := some { seq := 9, x := 100 }, lastSync := some (0, 40) })
/-- A header of a message of that master. -/
def ptpHdr : PtpHdr := { domain := 5, sender := (1, 2), seq := 9, cap := { count := 10 } }
/-- A good time-of-day frame body, and the frame with its check. -/
def todBody : List (BitVec 8) := [0x4E#8, 0x59#8, 1#8, 1#8, 0#8, 0#8, 0#8, 0#8, 0#8, 77#8, 0#8, 0#8, 0#8, 0#8]
/-- The frame with its check. -/
def todFrame : List (BitVec 8) := todBody ++ beBytes 2 (crc16 todBody).toNat

theorem witness_TimeInputsMeasure :
    (let s := ptpDev 0; let e := ptpDev 1; let h := ptpHdr
     s.ptpFor 1 h = true ∧ s.ptpFor 2 h = false ∧ s.ptpTakes 1 h = true ∧ s.fromMaster 1 h = true ∧ s.ptpTakes 1 { h with transport := 1 } = false ∧
     s.fromMaster 1 { h with sender := (3, 4) } = false ∧ ((s.dom 1).syncPend.map (·.seq)) = some h.seq ∧ ((s.dom 1).reqSent.map (·.seq)) = some h.seq ∧
     s.getF (Reg.TIME_DOM_CONFIG (1 - 1)) 22 22 ≠ 1 ∧ (s.dom 1).lastSync = some (0, 40) ∧ e.getF (Reg.TIME_DOM_CONFIG (1 - 1)) 22 22 = 1 ∧
     e.ptpTakes 1 h = true ∧ (s.dom 2).master = none ∧ (s.dom 1).master.isSome = true ∧ (s.setSrcState 1 2).srcState 1 = 2 ∧ s.srcState 1 ≠ 2 ∧ s.srcState 1 ≠ 3 ∧
     s.ptpFor 1 { h with domain := 6 } = false ∧ s.ptpFor 2 { h with domain := 6 } = false) ∧
    (todFrame.length = 16 ∧ todFrame.take 2 = [0x4E#8, 0x59#8] ∧ beNat (todFrame.drop 14) = (crc16 (todFrame.take 14)).toNat ∧ ([] : List (BitVec 8)).length ≠ 16) ∧
    (let f : TodFrame := { seconds := 77, count := 20, locked := true }
     let s : State := { dev with tim := { dev.tim with ext := { dev.tim.ext with frame := some f } } }
     s.tim.ext.frame = some f ∧ f.locked = true ∧ f.count ≤ 20 ∧ 20 ≤ f.count + 800000000) ∧ dev.tim.ext.frame = none := by decide +kernel

theorem test_sync_stamps : ((run (.ptpSync { hdr := ptpHdr, origin := 1000, corr := 65536 }) (ptpDev 0)).dom 1).lastSync = some (32032, 400) := by decide +kernel
theorem test_peer_delay : ((run (.ptpDelayResp { hdr := ptpHdr, turnaround := 2 }) (ptpDev 1)).dom 1).delay = 118 := by decide +kernel
theorem test_tod_frame : (run (.timeTodInFrame todFrame 5) dev).tim.ext.frame.map (·.seconds) = some 77 := by decide +kernel

/-- The device with the external input LOCKED and ranked first. -/
def extLocked : State := (dev.setSrcState 3 3).setF Reg.TIME_TB_CONFIG 1 0 3
/-- The device with a step pending of source 3. -/
def stepPend : State := (extLocked.setF Reg.TIME_TB_STATUS 1 0 3).setF Reg.TIME_TB_STATUS 3 3 1
/-- A step approved at tick `ta`. -/
def stepAt (ta : Nat) (s : State) : State := { s with tim := { s.tim with stepAt := some (ta, 3, {}) } }

theorem witness_TimeSelectsHoldsAndSteps :
    dev.serves (msg 0) 0x0201 .both = true ∧ extLocked.tim.valid = true ∧ extLocked.wantSource ≠ 0 ∧ extLocked.wantSource ≠ extLocked.selSource ∧
    extLocked.boot.warmRun = false ∧ dev.wantSource = 0 ∧ dev.getF Reg.TIME_TB_STATUS 2 2 = 0 ∧
    (let s : State := { extLocked with tim := { extLocked.tim with valid := false } }
     s.tim.startNext = false ∧ s.ranks.find? s.locked = some 3) ∧ stepPend.serves (msg 0) 0x0202 .both = true ∧
    stepPend.getF Reg.TIME_TB_STATUS 3 3 = 1 ∧ dev.getF Reg.TIME_TB_STATUS 3 3 = 0 ∧ 100001 < stepPend.now + 2 ∧ stepPend.now + 2 ≤ 100002 ∧
    (stepAt 100000 stepPend).tim.stepAt = some ((stepAt 100000 stepPend).now, 3, {}) ∧ stepPend.selSource = 3 ∧ stepPend.liveLegs = [] ∧
    (stepAt 100000 extLocked).getF Reg.TIME_TB_STATUS 3 3 ≠ 1 ∧
    (let s : State := { extLocked.setF Reg.TIME_TB_STATUS 1 0 3 with tim := { extLocked.tim with tick := 51840000, ext := { extLocked.tim.ext with leap61 := true } } }
     s.tim.valid = true ∧ s.now % 600 = 0 ∧ (((s.now / 600 : Nat) : Int) - s.utcNow) % 86400 = 0 ∧ s.srcLeap.1 = true ∧ s.tim.utcLeap = 0) := by decide +kernel

theorem test_switch_source : (run .sourceSwitch extLocked).selSource = 3 := by decide +kernel
theorem test_holdover : (run .holdover dev).getF Reg.TIME_TB_STATUS 2 2 = 1 := by decide +kernel
theorem test_step_keeps_tick : (run .timeStep (stepAt 100000 { stepPend with tim := { stepPend.tim with theta := 5000000 } })).tim.tick = 100003 := by decide +kernel
theorem test_pps : (run (.ppsOutEdge true) dev).pins.ppsOut = true := by decide +kernel

/-! ### Legs, folds and content -/

/-- A descriptor for a new leg of fold 1, with one inbound G.711 stream. -/
def desc6 : LegDesc := { fold := 1, localAddr := 1, localPort := 5006, remoteAddr := 2, remotePort := 7002, streamBase := 50 }
/-- Its stream entry. -/
def entry6 : StreamEntry := { ssrc := 7, inbound := true, codec := 2, clockRate := 8000 }
/-- A leg's arrival. -/
def arrive6 : Instr := .legArrive (msg 6) desc6 [entry6] none none
/-- The change it asks for. -/
def in6 : StageOp := .legIn 6 desc6 [entry6] none none [0, 0, 0, 0]
/-- The device with a change of fold 1 pending since tick `a`. -/
def pend (a : Nat) (op : StageOp) (s : State) : State := { s with adm := { s.adm with pend := [{ id := 9, arrival := a, fold := 1, change := op }] } }
/-- Leg 5 in another state. -/
def legIs (x : LegState) : State := devLeg.onLeg 5 (fun g => { g with state := x })
/-- No change of a fold waits or was staged in this tick. -/
def calm (s : State) (f : Nat) : Bool := (s.adm.pend.filter (fun p => p.fold = f && p.queued)) = [] && decide ((s.fold f).stagedTick ≠ s.now)
/-- The update of leg 5 that leaves it as it is. -/
def same5 : List StreamEntry := [{ entry6 with ssrc := 900 }, { entry6 with ssrc := 901 }]
/-- Leg 5's descriptor without audio. -/
def desc5 : LegDesc := { leg5.desc with hasAudio := false }

theorem witness_LegRequestsFollowTheirStates :
    (devLeg.serves (msg 6) 0x0101 .both = true ∧
     (let u := devLeg.taken (msg 6) 0x0101
      u.boot.maint = false ∧ (u.leg 6).state = .idle ∧ u.authority desc6.fold = true ∧ (u.fold desc6.fold).state = .active ∧
      u.legValid 6 desc6 [entry6] none none = true ∧ u.legValid 6 desc6 [] none none = false ∧ calm u 1 = true ∧ (u.leg 5).state ≠ .idle)) ∧
    (let p : State := { devLeg with twn := { devLeg.twn with paired := true, authSelf := false } }
     p.serves (msg 6) 0x0101 .both = true ∧ (p.taken (msg 6) 0x0101).authority 1 = false) ∧
    (let u := devLeg.taken (msg 5) 0x0102
     devLeg.serves (msg 5) 0x0102 .both = true ∧ (u.leg 5).state = .active ∧ u.leaving 5 = false ∧ u.authority (u.leg 5).desc.fold = true ∧
     desc5.fold = (u.leg 5).desc.fold ∧ u.legValid 5 desc5 same5 none none = true ∧ calm u 1 = true) ∧
    (let s : State := { devLeg with adm := { devLeg.adm with pend := List.replicate 64 { fold := 1, queued := true } } }
     64 ≤ ((s.taken (msg 5) 0x0102).adm.pend.filter (fun p => p.fold = 1 && p.queued)).length) ∧
    (let u := devLeg.taken (msg 5) 0x0103
     devLeg.serves (msg 5) 0x0103 .both = true ∧ (u.leg 5).state = .active ∧ u.leaving 5 = false ∧ u.mirroring = false ∧ calm u 1 = true ∧ (u.leg 7).state = .idle) ∧
    (let s := pend 99990 (.legIn 5 leg5.desc same5 none none [0, 0, 0, 0]) (legIs .admitting)
     let u := s.taken (msg 5) 0x0103
     s.serves (msg 5) 0x0103 .both = true ∧ (u.leg 5).state = .admitting ∧ u.leaving 5 = false ∧ u.authority (u.leg 5).desc.fold = true ∧
     ((u.adm.pend.find? (fun p => match p.change with | .legIn k .. => k = 5 | _ => false)).map (·.id)) = some 9) ∧
    (let s := legIs .fenced; let u := s.taken (msg 5) 0x0104
     s.serves (msg 5) 0x0104 .both = true ∧ (u.leg 5).state = .fenced ∧ u.authority (u.leg 5).desc.fold = true) ∧
    (let s : State := { legIs .fenced with twn := { devLeg.twn with paired := true, authSelf := false } }
     s.serves (msg 5) 0x0104 .both = true ∧ (s.taken (msg 5) 0x0104).authority 1 = false) ∧
    devLeg.serves (msg 5) 0x0111 .both = true ∧ devLeg.serves (msg 1) 0x0112 .both = true := by decide +kernel

theorem test_arrival_begins : ((run arrive6 devLeg).leg 6).state = .admitting ∧ ((run arrive6 devLeg).adm.pend.map (·.change)) = [in6] := by decide +kernel
theorem test_leave_staged : (run (.legLeave (msg 5)) devLeg).adm.staged.map (·.ops) = [[.legOut 5]] := by decide +kernel
theorem test_release : ((run (.legRelease (msg 5)) (legIs .fenced)).leg 5).state = .idle := by decide +kernel

/-- An audio record with one configuration. -/
def audio1 : AudioRec := { configs := [{ codec := 2, rate := 0 }] }
/-- A 1280 by 720 line class of fold 1. -/
def lc1 : LcDesc := { fold := 1, pricking := 3, codec := 0x10, width := 1280, height := 720, cadence := 5, targetRate := 1500 }
/-- Line class 8 of fold 1 live. -/
def devLcs : State := { devLeg with lcs := [(8, { live := true, desc := lc1 })] }
/-- The device with pricking 3 and the smallest group region in its image. -/
def devImg : State :=
  { devLeg with boot := { devLeg.boot with image := { devLeg.boot.image with prickings := [{ id := 3 }], device := some { groupRegionMib := 16 } } } }

theorem witness_FoldAndContentRequestsAreTaken :
    calm devLeg 2 = true ∧ calm (devLeg.taken (msg 2) 0x0105) 2 = true ∧ devLeg.serves (msg 2) 0x0105 .both = true ∧ devLeg.twn.paired = false ∧
    ((devLeg.taken (msg 2) 0x0105).fold 2).state ≠ .retiring ∧ (devLeg.taken (msg 2) 0x0105).foldValid {} audio1 = true ∧
    (devLeg.taken (msg 2) 0x0105).foldValid { owner := 2 } audio1 = false ∧
    (let u := devLeg.taken (msg 1) 0x0106
     devLeg.serves (msg 1) 0x0106 .both = true ∧ (u.fold 1).state = .active ∧ (u.fold 1).retireTold = false ∧ u.authority 1 = true ∧ calm u 1 = true) ∧
    (let u := devImg.taken (msg 8) 0x0107
     devImg.serves (msg 8) 0x0107 .both = true ∧ (u.lc 8).live = false ∧ u.adm.pend = [] ∧ u.adm.staged = [] ∧ u.authority 1 = true ∧ (u.fold 1).state = .active ∧
     u.lcValid lc1 {} = true ∧ u.lcValid { lc1 with rung := 6 } {} = false ∧ calm u 1 = true) ∧
    (let u := devLcs.taken (msg 8) 0x0108
     devLcs.serves (msg 8) 0x0108 .both = true ∧ (u.lc 8).live = true ∧ u.authority (u.lc 8).desc.fold = true ∧ calm u (u.lc 8).desc.fold = true) ∧
    (let u := devLeg.taken (msg 1) 0x0109
     devLeg.serves (msg 1) 0x0109 .both = true ∧ (u.fold 1).state = .active ∧ u.authority 1 = true ∧ calm u 1 = true ∧
     (List.replicate 32 0xFFFF).length = 32 ∧ ∀ l ∈ List.replicate 32 0xFFFF, l = 0xFFFF ∨ l ≤ 16383) ∧
    (let u := devLeg.taken (msg 5) 0x010B
     devLeg.serves (msg 5) 0x010B .both = true ∧ u.authority (u.leg 5).desc.fold = true ∧ (u.leg 5).state = .active) ∧
    ((legIs .fenced).leg 5).state = .fenced ∧
    (devLeg.serves (msg 7) 0x010C .both = true ∧ (devLeg.taken (msg 7) 0x010C).standbyOnly = false ∧ (List.replicate 16 0xFFFF).length = 16) ∧
    (let u := devImg.taken (msg 5000) 0x010D
     let g : ImgGroup := { variants := [{ cls := 2, width := 2, height := 2, crc := crc32c (List.replicate 6 0), samples := List.replicate 6 0 }] }
     devImg.serves (msg 5000) 0x010D .both = true ∧ u.standbyOnly = false ∧ reach ((tget {} u.cmp.loads 5000).add 0 100 50).parts 0 < 100 ∧
     g.bytes ≠ 0 ∧ g.ok = true ∧ g.bytes ≤ reach ((tget {} u.cmp.loads 5000).add 0 g.bytes g.bytes).parts 0 ∧ u.contentPlanned.groupBytes 5000 g ≤ u.groupRegion) := by
  decide +kernel

theorem test_fold_setup : (run (.foldSetup (msg 2) {} audio1) devLeg).adm.pend.map (·.fold) = [2] := by decide +kernel
theorem test_caption_waits : ((run (.caption (msg 5) 4100 0) devLeg).leg 5).captionNext = some 4100 := by decide +kernel
theorem test_locked_group : (run (.imageLoad (msg 5) 0 1 1 {}) devLeg).cmp.groupNext = [] := by decide +kernel

/-- A staged phase of fold 1 that takes leg 5 away. -/
def outPhase : StagedPhase := { id := 9, fold := 1, at_ := 100000, staged := true, mirrored := true, ops := [.legOut 5] }
/-- The device with that phase staged. -/
def devStaged (p : StagedPhase) : State := { devLeg with adm := { devLeg.adm with staged := [p] } }

theorem witness_ChangesAreDecidedAndSwitched :
    devLeg.boot.inReset = false ∧ devLeg.boot.warmRun = false ∧ devLeg.boot.halted = false ∧ devLeg.adm.pend.find? (fun p => !p.queued) = none ∧
    (let s := pend 99939 in6 devLeg
     ((s.adm.pend.find? (fun p => !p.queued)).map (·.arrival)) = some 99939 ∧ 99939 + 60 < s.now) ∧
    (let s := pend 99990 in6 devLeg
     s.now ≤ 99990 + 60 ∧ (s.fold 1).retireTold = false ∧ s.planned.stillValid in6 = true) ∧
    (devLeg.planned.stillValid (.legIn 6 desc6 [] none none [0, 0, 0, 0]) = false) ∧
    ((pend 99940 in6 devLeg).adm.pend.find? (fun p => decide (p.arrival + 60 ≤ devLeg.now))).isSome = true ∧
    (∀ p ∈ (pend 99941 in6 devLeg).adm.pend, devLeg.now < p.arrival + 60) ∧ (∀ p ∈ devLeg.adm.staged, p.fold = 1 → devLeg.now < p.at_) ∧
    ((devStaged outPhase).adm.staged = [outPhase] ∧ outPhase.fold = 1 ∧ outPhase.at_ ≤ (devStaged outPhase).now ∧ outPhase.staged = true ∧ outPhase.mirrored = true) ∧
    ({ outPhase with mirrored := false } : StagedPhase).mirrored = false ∧
    (let s := (legIs .retiring).onLeg 5 (fun g => { g with drainEnd := some 100000 })
     (s.leg 5).state = .retiring ∧ (s.leg 5).drainEnd = some 100000 ∧ 100000 ≤ s.now) ∧ (devLeg.leg 5).state ≠ .retiring := by decide +kernel

theorem test_admission_timeout : (run .admissionTimeout (pend 99940 in6 devLeg)).getR Reg.DEV_ADMIT_REFUSED = 1 := by decide +kernel
theorem test_epoch_switch : ((run (.epochSwitch 1) (devStaged outPhase)).fold 1).epoch = 1 ∧ ((run (.epochSwitch 1) (devStaged outPhase)).leg 5).state = .retiring := by decide +kernel
theorem test_phase_deferred : (run (.epochSwitch 1) (devStaged { outPhase with mirrored := false })).adm.staged.map (·.at_) = [100001] := by decide +kernel

/-! ### Updates, modules, management -/

/-- A container header that every check passes, with a firmware section of 1,000 bytes. -/
def contOk : ContHdr := { fwLen := 1000, signer := 5 }
/-- The device that trusts signer 5. -/
def devUpd : State := { dev with boot := { dev.boot with opt := { dev.boot.opt with signer0 := 5 } } }
/-- The device in an update. -/
def upd (u : UpdSt) : State := { devUpd with upd := u }
/-- The device on trial since tick 60,000. -/
def devTrial : State := { upd { trialFrom := 60000 } with tly := { devUpd.tly with boot := { devUpd.tly.boot with trial := 2 } } }
/-- A staged update, and one scheduled at tick `T`. -/
def staged : UpdSt := { hdr := some contOk, got := 1000, staged := 2 }
/-- A mounted and used SD card that holds the container. -/
def devCard (h : ContHdr) : State :=
  { devUpd with
    boot := { devUpd.boot with sdState := 2, env := { devUpd.boot.env with card := some {}, cardCont := { hdr := h } } }
    tly := { devUpd.tly with inv := [(512, { kind := 2, state := invMatch })] } }

theorem witness_UpdatesStageActivateAndFallBack :
    devUpd.serves (msg 0) 0x0401 .both = true ∧ (devUpd.taken (msg 0) 0x0401).headerReason contOk = 0 ∧
    (devUpd.taken (msg 0) 0x0401).headerReason { contOk with signer := 6 } ≠ 0 ∧ devUpd.serves (msg 0) 0x0402 .both = true ∧
    (devUpd.taken (msg 0) 0x0402).upd.hdr = none ∧
    (let u := (upd { hdr := some contOk, got := 600 }).taken (msg 0) 0x0402
     u.upd.hdr = some contOk ∧ u.upd.staging = false ∧ u.upd.staged = 0 ∧ 600 = u.upd.got ∧ u.upd.got + 399 < contOk.payload ∧ u.upd.got + 400 = contOk.payload) ∧
    (let s := devCard contOk; let u := s.taken (msg 0) 0x0403
     s.serves (msg 0) 0x0403 .both = true ∧ u.boot.sdState = 2 ∧ u.itemUsed 2 0 = true ∧ u.boot.env.cardCont.readOk = true ∧ u.headerReason u.boot.env.cardCont.hdr = 0) ∧
    ((devCard { contOk with part := 0 }).taken (msg 0) 0x0403).headerReason { contOk with part := 0 } ≠ 0 ∧ (devUpd.taken (msg 0) 0x0403).boot.sdState ≠ 2 ∧
    devUpd.upd.staging = false ∧ (upd { staging := true }).upd.staging = true ∧ devUpd.boot.flash.a.capacityOk = true ∧
    (let s := upd staged; let u := s.taken (msg 0) 0x0404
     s.serves (msg 0) 0x0404 .both = true ∧ u.upd.staged ≠ 0 ∧ u.upd.at_ = 0 ∧ u.tim.valid = true ∧ (s.arrival (msg 0) 0x0404).1 + 120 ≤ 200 * 600 + 0 ∧
     200 * 600 + 0 ≤ (s.arrival (msg 0) 0x0404).1 + 51840000 ∧ 100 * 600 + 0 < (s.arrival (msg 0) 0x0404).1 + 120 ∧ u.activationReason true = 0) ∧
    (let s := upd { staged with at_ := 100060 }
     s.boot.warmRun = false ∧ s.upd.at_ ≠ 0 ∧ s.upd.prepared = false ∧ s.upd.at_ ≤ s.now + 60) ∧
    (upd { staged with at_ := 100060, cold := true }).activationReason true = 0 ∧ (upd { staged with at_ := 100061 }).now + 60 < 100061 ∧
    (upd { staged with at_ := 100001 }).upd.at_ ≤ devUpd.now + 1 ∧ (upd { staged with at_ := 100001 }).swapReady = false ∧
    (upd { staged with at_ := 100000, prepared := true }).swapReady = true ∧ devUpd.serves (msg 0) 0x0405 .both = true ∧
    ((upd staged).taken (msg 0) 0x0405).upd.hdr.isSome = true ∧ devTrial.serves (msg 0) 0x0406 .both = true ∧ devTrial.onTrial = true ∧
    devTrial.boot.warmRun = false ∧ devTrial.upd.trialFrom + 36000 ≤ devTrial.now ∧ devUpd.onTrial = false ∧
    6000 ≤ ({ devTrial with upd := { devTrial.upd with clean := 6000 } } : State).upd.clean ∧ devUpd.upd.fallAt = none ∧
    (upd { fallAt := some 100000 }).upd.fallAt = some 100000 ∧ 100000 ≤ devUpd.now := by decide +kernel

theorem test_header_taken : (run (.updateHeader (msg 0) contOk) devUpd).upd.hdr = some contOk := by decide +kernel
theorem test_health : (run .healthFail devTrial).upd.fallAt = some 100002 := by decide +kernel
theorem test_confirm : (run .trialConfirm { devTrial with upd := { devTrial.upd with clean := 6000 } }).tly.boot.trial = 3 := by decide +kernel
theorem test_stage_partial : (run (.stagingDone true false) (upd { hdr := some contOk, staging := true })).upd.staged = 1 := by decide +kernel

theorem witness_ModulesAndCardsComeAndGo :
    dev.up = true ∧ (dev.boot.warmRun = false ∧ ∀ r ∈ dev.boot.reads, r.1 = 3 → dev.now < r.2) ∧
    (let s : State := { dev with boot := { dev.boot with reads := [(3, 100000)] } }
     s.up = true ∧ s.boot.warmRun = false ∧ ∃ r ∈ s.boot.reads, r.1 = 3 ∧ r.2 ≤ s.now) ∧
    (let s : State := { dev with tly := { dev.tly with inv := [(259, { kind := 1, index := 3, state := invMatch })] } }
     s.up = true ∧ s.itemUsed 1 3 = true) ∧ dev.itemUsed 1 3 = false ∧ dev.pins.sdVsel = false ∧
    (let s : State := { dev with pins := { dev.pins with sdVsel := true } }
     s.up = true ∧ s.pins.sdVsel = true) := by decide +kernel

theorem test_presence : (run (.modulePresenceAssert 3) dev).boot.reads = [(3, 101200)] := by decide +kernel
theorem test_sd_removed : (run .sdCardRemoval (devCard contOk)).boot.sdState = 0 := by decide +kernel

/-- The device with DRAM at a fast and a stopped set point, and leg 5 receiving 8 Mb/s. -/
def devSp : State :=
  let s : State := { devMem with boot := { devMem.boot with image := { devMem.boot.image with device := some { rates := [48, 0, 56, 0] } } } }
  s.onLeg 5 (fun g => { g with desc := { g.desc with policeRate := 8000000 } })

theorem witness_ManagementRequestsActAndAnswer :
    dev.serves (msg 0) 0x0308 .hostMaint = false ∧ devMaint.serves (msg 1) 0x0307 .hostMaint = true ∧ devMaint.serves (msg 1) 0x0308 .hostMaint = true ∧
    devMaint.serves (msg 1) 0x0309 .bothMaint = true ∧ dev.serves (msg 0) 0x030A .both = true ∧ ({} : SvcAddr).prefix4 ≤ 32 ∧ ({} : SvcAddr).prefix6 ≤ 128 ∧
    dev.serves (msg 0) 0x030B .both = true ∧ dev.serves (msg 0) 0x030C .both = true ∧ dev.serves (msg 0) 0x030D .both = true ∧
    (let u := devSp.taken (msg 0) 0x0203
     devSp.serves (msg 0) 0x0203 .both = true ∧ 3 ∉ u.dmc.setPoints ∧ 1 ∈ u.dmc.setPoints ∧ 2 ∈ u.dmc.setPoints ∧ u.spRate 1 < u.spRate u.dmc.setPoint ∧
     Nat.min (u.less (u.peakAt 1)) (8 * u.peakAt 1 / 10) < u.loadNow 2 ∧ u.spRate u.dmc.setPoint ≤ u.spRate 2) := by decide +kernel

theorem test_option_write : (run (.optionWrite (msg 3) { generation := 9 }) devMaint).boot.flash.b.opt1.generation = 9 := by decide +kernel
theorem test_telemetry : (run (.telemetryConfig (msg 0) 600 3 0) dev).getR Reg.DEV_TELE_CONFIG = 600 + 3 * 1024 + 146 * 4096 := by decide +kernel
theorem test_set_point_refused : (run (.setPoint (msg 0) 1 0) devSp).dmc.wantSp = none := by decide +kernel
theorem test_set_point_wanted : (run (.setPoint (msg 0) 2 0) devSp).dmc.wantSp = some 2 := by decide +kernel

/-! ### The pair -/

/-- The device of role A with a partner, in pair state `p`, with both bundles up, as authority or standby. -/
def pair (p : PairState) (auth : Bool) : State :=
  let s : State := { devLeg with twn := { devLeg.twn with pair := p, paired := true, authSelf := auth } }
  ((s.setF (Reg.TWN_BUNDLE_STATUS 0) 0 0 1).setF (Reg.TWN_BUNDLE_STATUS 1) 0 0 1)
/-- The pair with a field changed. -/
def pairWith (p : PairState) (auth : Bool) (f : TwnSt → TwnSt) : State := let s := pair p auth; { s with twn := f s.twn }
/-- A frame of bundle A sent in tick 99,999. -/
def aus : AusHdr := { tick := 99999, seq := 8 }
/-- A partner that fits. -/
def identB : Identity := { roleB := true }
/-- An attempt of role A, asked 10 ticks ago. -/
def att : PairAttempt := { epoch := 1, tick := 100000, asked := 99990 }

theorem witness_UnheardFramesOnlyCount :
    asFrame (.retry aus 3) = some aus ∧ dev.receives aus = false ∧ (pair .paired true).receives aus = true ∧ ({ aus with good := false } : AusHdr).good = false ∧
    (let s : State := { pair .paired true with tly := { devLeg.tly with epoch := 4 } }
     s.receives aus = true ∧ s.stale aus = true) ∧
    tget 0 (pair .paired true).twn.rxSeq (b2n aus.bundleB) = 0 ∧
    (let s := pairWith .paired true (fun w => { w with rxSeq := [(0, 9)] })
     tget 0 s.twn.rxSeq (b2n aus.bundleB) = aus.seq.toNat + 1) := by decide +kernel

theorem test_bad_frame_counted : (run (.retry { aus with good := false } 3) (pair .paired true)).getR (Reg.TWN_BUNDLE_CRC_ERRORS 0) = 1 := by decide +kernel

theorem witness_PairingFollowsItsSteps :
    (pair .linking true).hears aus = true ∧ bit 1 0 = true ∧ ({ aus with tick := 100000 } : AusHdr).tick = (pair .linking true).now ∧
    (pair .linking true).identCheck identB true = 0 ∧ (pair .linking true).identCheck { identB with roleB := false } true = 1 ∧
    (pair .linking true).identCheck identB false = 5 ∧ (pair .syncing true).mirroring = true ∧ identB.digest = (pair .syncing true).boot.image.digest ∧
    identB.format = (pair .syncing true).boot.fwWrite ∧ ({ identB with digest := 1 } : Identity).digest ≠ (pair .syncing true).boot.image.digest ∧
    (let s := pairWith .linking true (fun w => { w with roleB := true, identOk := true })
     s.hears aus = true ∧ s.twn.pair = .linking ∧ s.twn.roleB = true ∧ s.twn.identOk = true ∧ 1 = (s.heard aus).outcome.2.1 ∧ s.tly.epoch.toNat < 1) ∧
    (let s := pairWith .linking true (fun w => { w with attempt := some att })
     s.hears aus = true ∧ s.twn.attempt = some att ∧ s.twn.pair = .linking ∧ s.twn.roleB = false ∧ att.answered = false ∧ att.asked + 60 ≤ 100050 ∧
     att.tick ≤ s.now ∧ (att.mine && att.theirs) = false) ∧
    (pair .syncing true).twn.attempt = none ∧ tget 0 (pair .paired true).twn.timeSent (b2n aus.bundleB) = 0 ∧
    (let s := pairWith .paired true (fun w => { w with timeSent := [(0, 71)], slowTicks := [(0, 59)] })
     s.hears aus = true ∧ tget 0 s.twn.timeSent (b2n aus.bundleB) = 70 + 1 ∧ s.boot.warmRun = false) ∧
    (let a := { att with mine := true, theirs := true }
     let s := pairWith .linking true (fun w => { w with attempt := some a })
     s.twn.attempt = some a ∧ a.tick ≤ s.now ∧ a.both = false ∧ s.twn.cross = false ∧ a.auth = b2n s.twn.roleB) ∧
    (pair .syncing false).shadows = true ∧ (pair .syncing false).twn.unsynced = [] ∧ (pair .syncing false).twn.split = false ∧
    (pairWith .refused true (fun w => { w with identTick := 99400 })).twn.identTick + 600 ≤ dev.now ∧ (pair .refused true).twn.pair = .refused := by decide +kernel

theorem test_identity_refused : (run (.ausilIdentity aus {}) (pair .linking true)).twn.pair = .refused := by decide +kernel
theorem test_propose_fails : (run (.pairPropose aus 7 100100) (pairWith .linking true (fun w => { w with roleB := true, identOk := true }))).twn.fails = 1 := by decide +kernel
theorem test_sync_start : (run (.syncStart none) (pairWith .linking true (fun w => { w with attempt := some { att with mine := true, theirs := true } }))).twn.pair = .syncing := by
  decide +kernel
theorem test_latency : (run (.ausilTime aus 200 100 371) (pairWith .paired true (fun w => { w with timeSent := [(0, 71)] }))).getR (Reg.TWN_BUNDLE_LATENCY 0) = 100 := by decide +kernel

/-- A standby that holds the digest of its own tick. -/
def standby : State := pairWith .paired false (fun w => { w with digests := [(99999, [{ leg := 5, sent := true }])] })

theorem witness_ShadowRunningFollowsTheAuthority :
    standby.hears aus = true ∧ standby.mirroring = true ∧ standby.shadows = true ∧ (pair .solo false).mirroring = false ∧ (pair .solo false).hears aus = true ∧
    (∀ k, standby.twn.sealed = some k → k < aus.tick) ∧ (standby.twn.mirrorRx.filter (fun e => e.1 = aus.tick)).length = 0 ∧
    standby.twn.split = false ∧ (aus.tick, [({ leg := 5, sent := true } : DigestEnt)]) ∈ standby.twn.digests ∧
    (∀ o ∈ standby.legObjects 5, tfind o standby.twn.unsynced = none) ∧ ({ leg := 5, sent := true } : DigestEnt).differs { leg := 5 } = true ∧
    (let s := pairWith .paired true (fun w => { w with digests := [(99999, [])] })
     s.hears aus = true ∧ s.mirroring = true ∧ s.holds_ = true ∧ s.twn.digests.find? (fun e => e.1 = aus.tick) = some (99999, [])) ∧
    standby.twn.events.find? (fun x => x.id = 6) = none ∧
    (let s := pairWith .paired true (fun w => { w with events := [{ id := 6 }] })
     s.twn.events.find? (fun x => x.id = 6) = some { id := 6 }) ∧
    (let s := pairWith .paired true (fun w => { w with retain := [(0, [{ seq := 3, typ := 5 }])] })
     s.hears aus = true ∧ (tget [] (s.heard aus).twn.retain (b2n aus.bundleB)).find? (fun x => x.seq = 3 && decide (x.again < 2)) = some { seq := 3, typ := 5 }) ∧
    (∀ k, standby.twn.sealed = some k → k < standby.now - 1) ∧
    (let s := pairWith .paired false (fun w => { w with sealed := some 99999, disagTicks := 600, splitTicks := 6, converge := [(100000, [objLeg 5])] })
     s.twn.sealed = some 99999 ∧ s.now - 1 ≤ 99999 ∧ 600 ≤ s.twn.disagTicks ∧ 6 ≤ s.twn.splitTicks ∧ s.boot.warmRun = false ∧
     ∃ x ∈ s.twn.converge, x.1 ≤ s.now) ∧ standby.twn.splitTicks < 6 ∧ standby.twn.sealHeld = none ∧
    (let s := pairWith .paired false (fun w => { w with split := true })
     s.mirroring = true ∧ s.twn.split = true) := by decide +kernel

theorem test_event_staged : (run (.event aus (.stage 1 [.legOut 5]) 100003) standby).adm.staged.map (·.at_) = [100003] := by decide +kernel
theorem test_digest_differs : (tfind (objLeg 5) (run (.digest aus [{ leg := 5 }]) standby).twn.unsynced).isSome = true := by decide +kernel
theorem test_seal_gap : (run .sealTimeout (pairWith .paired false (fun w => { w with heardNow := [2] }))).getR Reg.TWN_MIRROR_GAPS = 1 := by decide +kernel
/-- R531: records are in record order whatever the bundle brought first, and a resent record counts once. -/
theorem test_mirror_order : ((run (.mirror aus [{ record := 1 }, { record := 0 }, { record := 1 }]) standby).twn.mirrorRx.map (·.2.record)) = [0, 1] := by decide +kernel
/-- R532: a SEAL that comes before its records matches once they are there. -/
theorem test_seal_waits : (run (.mirror { aus with seq := aus.seq + 1 } [{}]) (run (.sealFrame aus 1 16 true) standby)).twn.sealed = some aus.tick := by decide +kernel
theorem test_split : (run (.timeSplit true) standby).twn.pair = .syncing := by decide +kernel

/-- Three silent boundaries have passed. -/
def silent (auth : Bool) (f : TwnSt → TwnSt) : State := (pairWith .paired auth f).setF Reg.TWN_PAIR_STATUS 13 12 3

theorem witness_FencesLossAndSwitchoverFollowTheirRules :
    devLeg.sealed = true ∧ devLeg.bundleUp 0 = false ∧ (pair .paired true).sealed = true ∧ (pair .paired true).bundleUp 0 = true ∧ (pair .paired true).bundleUp 1 = true ∧
    (let s := (pair .paired true).setF (Reg.TWN_BUNDLE_STATUS 1) 0 0 0
     s.bundleUp 0 = true ∧ s.bundleUp 1 = false ∧ s.mirroring = true) ∧
    (let s : State := { pair .paired true with pins := { dev.pins with fenceIn := true } }
     s.pins.fenceIn = true) ∧ dev.pins.fenceIn = false ∧ (dev.setF Reg.BOOT_STATUS 6 6 0).sealed = false ∧
    (let s := silent false id
     s.mirroring = true ∧ s.twn.takeAt = none ∧ s.getF Reg.TWN_PAIR_STATUS 13 12 = 3 ∧ s.twn.lossAt = none ∧ s.pins.fenceIn = false) ∧
    (let s := silent true (fun w => { w with lossAt := some 99998, cross := true })
     s.mirroring = true ∧ s.twn.lossAt = some 99998 ∧ s.twn.cross = true ∧ s.twn.roleB = false ∧ 99998 + 2 ≤ s.now ∧ s.pins.fenceIn = false) ∧
    (let s := pairWith .paired true (fun w => { w with lossAt := some 99998, takeAt := some 100000 })
     s.twn.takeAt = some 100000 ∧ 100000 ≤ s.now ∧ s.mirroring = true ∧ s.twn.cross = false ∧ s.twn.authSelf = true ∧ 99998 + 2 ≤ s.now) ∧
    (pair .paired true).serves (msg 0) 0x0204 .both = true ∧ 100001 < (pair .paired true).now + 2 ∧ (pair .paired true).now + 2 ≤ 100002 ∧
    (pair .solo true).mirroring = false ∧ (pair .paired false).holds_ = false ∧ (pair .paired true).holds_ = true ∧ (pair .paired true).twn.handover = none ∧
    (let s := pairWith .paired true (fun w => { w with handover := some (100000, true, {}) })
     s.twn.handover = some (100000, true, {}) ∧ s.twn.switchIn = none ∧ 100000 ≤ s.now) ∧
    (let s := pairWith .paired false (fun w => { w with switchIn := some (99999, true) })
     s.twn.handover = none ∧ s.twn.switchIn = some (99999, true) ∧ 99999 < s.now) ∧
    dev.serves (msg 0) 0x0205 .bothMaint = false ∧ devMaint.serves (msg 0) 0x0205 .bothMaint = true ∧ dev.answers Reg.TWN_CTRL = true ∧
    (dev.setF Reg.BOOT_STATUS 6 6 0).answers Reg.TWN_CTRL = false := by decide +kernel

theorem test_fence_in : (run .ausFenceInRise (pair .paired true)).tly.fencedLatched = true := by decide +kernel
theorem test_loss : (run .partnerLoss (silent false id)).twn.takeAt = some 100001 ∧ (run .partnerLoss (silent false id)).pins.fenceOut = true := by decide +kernel
theorem test_takeover : (run .takeover (pairWith .paired false (fun w => { w with takeAt := some 100000 }))).twn.pair = .solo := by decide +kernel
theorem test_switchover : (run (.switchover (msg 0) 100002) (pair .paired true)).twn.handover.map (·.1) = some 100002 := by decide +kernel

/-! ### Frames, and every command's end -/

theorem witness_WaitingControlsKeepEverythingElse : exec (.softReset 0) dev = .next (run (.softReset 0) dev) := rfl
theorem witness_MemoryUpkeepKeepsContents : exec .zqLatch devLeg = .next (run .zqLatch devLeg) := rfl
theorem witness_QueriesAndSettingsKeepMedia : exec (.queryLeg (msg 5)) devLeg = .next (run (.queryLeg (msg 5)) devLeg) := rfl

theorem witness_CommandsAnswerShownStates : (∀ r, Instr.zqLatch ≠ .dramAccess r) := by intro r h; cases h
/-- Reset with a command in front. -/
def resetWith (c : Instr) : State := { State.reset with pending := [c] }

theorem witness_StepKeepsShown : (resetWith .zqLatch).Shown ∧ step (resetWith .zqLatch) = .next (run .zqLatch State.reset) :=
  ⟨by constructor <;> decide +kernel, rfl⟩
/-! ### The well-formedness checks refuse -/

/-- One command outside the ranges for each check of `Instr.wf` (R1, R35, R37, R83, R398, R425, R442, R634, R638, R644). -/
def illFormed : List Instr :=
  [.consentExpired 16384, .bellwetherTick 4096, .lagDrop 8192, .frameRelease 65536 [], .cipherPipeFence 16, .assistFail 16,
    .engineFence 64 1, .engineFence 3 256, .compositorFence 8 1, .heldPictureTimeout 0 32, .portHomeReturn 16, .portDown 3 16,
    .frameSelect 3 4 0 0, .ringDma 35, .coreFence 256 1]
  ++ [.bqMark 4096 0, .bqMark 0 256, .channelLost 12, .dramCorrectableError 0 4, .dimmTempRead 0 2 40 false, .bundleUp 2,
    .lacerLaneFence 2, .fwdPliRepeat 5 16, .registerWrite 0 0 16 0, .registerWrite 268435456 0 0 0, .softReset 4294967296,
    .taskEcc 65536, .dramUncorrectableError 0 18446744073709551616 false, .ptpDomainLost 3, .nodePush 0x12 0]
  ++ [.queryLeg { seq := 1, src := .ring 16 }, .queryLeg { seq := 1, src := .svc 2 }, .queryLeg { seq := 4294967296 },
    .queryLeg { target := 65536 }, .queryLeg { flags := 256 }, .retry { tick := 18446744073709551616 } 0,
    .timePpsInEdge { phase := 8 }, .frameReceive { srtpFrame with port := 16 }, .frameReceive { srtpFrame with vid := 4096 },
    .subscribe (msg 0) 0 65536 0 0]

theorem smoke_ill_formed_refused : illFormed.all (fun c => !c.wf) = true := by decide +kernel
theorem smoke_well_formed_taken :
    [Instr.consentExpired 16383, .engineFence 63 255, .portDown 15 15, .ringDma 34, .channelLost 11, .nodePush 0x23 1666666, .ptpDomainLost 2,
      .registerWrite 268435452 4294967295 15 0, .subscribe (msg 3) 0 65535 7 0, .queryLeg (msg 16383), .frameReceive srtpFrame].all Instr.wf = true := by decide +kernel

/-! ### The queue -/

theorem test_step_takes_front : step (resetWith .snapshotLatch) = exec .snapshotLatch State.reset := rfl
theorem test_no_word_spells_a_command : decodeTableWord 32 0 = none := rfl
theorem test_fetch_word_keeps : State.withFetchWord dev 32 0 = dev := rfl

end Sys2Proof.Tests
end

section
/-!
PROOFS. The statements of the scope chapter: what a step runs, what reset leaves, and the frame of the control writes whose
effect waits for the boundary.
-/

namespace Sys2Proof.Machine

/-! ### A step and the queue -/

theorem step_cons (c : Instr) (rest : List Instr) (s : State) :
    step { s with pending := c :: rest } = exec c { s with pending := rest } := rfl

theorem step_nil (s : State) : step { s with pending := [] } = .next { s with pending := [] } := rfl

/-! ### The registers of reset -/

theorem reset_getR (d : Nat) : State.reset.getR d = coldOf d % 2 ^ 32 := by
  have hcold : State.reset.dword d = BitVec.ofNat 32 (coldOf d) := rfl
  rw [State.getR, hcold, BitVec.toNat_ofNat]

/-! ### Writing what a register shows already -/

/-- A field written with the value it holds leaves the number. -/
theorem putBits_bits (v hi lo : Nat) (h : lo ≤ hi) : putBits v hi lo (bits v hi lo) = v := by
  rw [putBits_eq v hi lo _ h, Nat.mod_eq_of_lt (bits_lt v hi lo), ← bits_cut v hi lo h]

section Refresh

variable {s u : State} (hu : ∀ e, u.getR e = s.getR e)
include hu

theorem setR_shown {d v : Nat} (hv : s.getR d = v % 2 ^ 32) (e : Nat) : (u.setR d v).getR e = s.getR e := by
  by_cases he : e = d
  · rw [he, getR_setR_self, hv]
  · rw [getR_setR_ne he, hu]

theorem setF_shown {d hi lo v : Nat} (h : lo ≤ hi) (hv : s.getF d hi lo = v) (e : Nat) : (u.setF d hi lo v).getR e = s.getR e := by
  refine setR_shown hu ?_ e
  rw [hu, ← hv, State.getF, putBits_bits _ _ _ h, Nat.mod_eq_of_lt (getR_lt s d)]

theorem setR64_shown {d v : Nat} (hv : s.getR64 d = v % 2 ^ 64) (e : Nat) : (u.setR64 d v).getR e = s.getR e := by
  have hlow := getR_lt s d
  have hhigh := getR_lt s (d + 1)
  unfold State.getR64 at hv
  exact setR_shown (setR_shown hu (by omega)) (by omega) e

end Refresh

/-- Where the status registers show what the device holds, bringing them up to date changes no register. -/
theorem showStatus_getR_of_shown {s : State} (h : s.Shown) (d : Nat) : s.showStatus.getR d = s.getR d := by
  have hepoch : s.getR Reg.TWN_EPOCH = s.tly.epoch.toNat % 2 ^ 32 := by
    rw [h.epoch, Nat.mod_eq_of_lt (h.epoch ▸ getR_lt s Reg.TWN_EPOCH)]
  have htick := setR64_shown (fun _ => rfl) h.tick
  have hgrid := setF_shown (setF_shown (setF_shown htick (by decide) h.second) (by decide) h.grid) (by decide) h.gridTime
  have hpins := setF_shown (setF_shown (setF_shown hgrid (by decide) h.pair) (by decide) h.fenceOut) (by decide) h.fenceIn
  exact setR_shown (setR_shown (setF_shown hpins (by decide) h.latch) hepoch) h.record d

/-! ### What a control write keeps -/

/-- `t` holds the media, cipher, timebase, pair, update, tally store and pins of `s`, and every register but the count of the
faults that did not fit the hardware queue. -/
structure State.KeepsFrame (s t : State) : Prop where
  media : s.KeepsMedia t
  rest : s.KeepsRest t
  regs : ∀ d, d ≠ Reg.BOOT_FAULT_OVERFLOW → t.getR d = s.getR d

namespace State.KeepsFrame

variable {s t u : State}

theorem refl (s : State) : s.KeepsFrame s :=
  ⟨⟨rfl, rfl, rfl, rfl, rfl⟩, ⟨rfl, rfl, rfl, rfl, rfl, rfl⟩, fun _ _ => rfl⟩

theorem trans (h : s.KeepsFrame t) (h' : t.KeepsFrame u) : s.KeepsFrame u where
  media := ⟨h'.media.mem.trans h.media.mem, h'.media.legs.trans h.media.legs, h'.media.folds.trans h.media.folds,
    h'.media.streams.trans h.media.streams, h'.media.lcs.trans h.media.lcs⟩
  rest := ⟨h'.rest.cip.trans h.rest.cip, h'.rest.tim.trans h.rest.tim, h'.rest.twn.trans h.rest.twn,
    h'.rest.upd.trans h.rest.upd, h'.rest.tly.trans h.rest.tly, h'.rest.pins.trans h.rest.pins⟩
  regs d hd := (h'.regs d hd).trans (h.regs d hd)

/-- Video engines, compositors, lacers, the Drover, memory channels, boot, host and fault queue lie outside the frame. -/
theorem outside (s : State) {ven : VenSt} {cmp : CmpSt} {lac : LacSt} {drv : DrvSt} {dmc : DmcSt} {boot : BootSt} {host : HostSt}
    {flt : FaultSt} :
    s.KeepsFrame { s with ven := ven, cmp := cmp, lac := lac, drv := drv, dmc := dmc, boot := boot, host := host, flt := flt } :=
  ⟨⟨rfl, rfl, rfl, rfl, rfl⟩, ⟨rfl, rfl, rfl, rfl, rfl, rfl⟩, fun _ _ => rfl⟩

theorem overflowed (s : State) : s.KeepsFrame (s.incR Reg.BOOT_FAULT_OVERFLOW) :=
  ⟨⟨rfl, rfl, rfl, rfl, rfl⟩, ⟨rfl, rfl, rfl, rfl, rfl, rfl⟩, fun _ hd => getR_setR_ne hd s _⟩

theorem ite {c : Prop} [Decidable c] (ht : s.KeepsFrame t) (hu : s.KeepsFrame u) : s.KeepsFrame (if c then t else u) := by
  split
  · exact ht
  · exact hu

theorem each {α : Type} (xs : List α) {f : State → α → State} (h : ∀ (s : State) x, s.KeepsFrame (f s x)) (s : State) :
    s.KeepsFrame (s.each xs f) := by
  unfold State.each
  induction xs generalizing s with
  | nil => exact refl s
  | cons x xs ih => exact (h s x).trans (ih (f s x))

theorem queueFault (s : State) (f : RaisedFault) : s.KeepsFrame (s.queueFault f) := ite (outside s) (outside s)

theorem raise (s : State) (code subject : Nat) (detail : List (Nat × Nat)) : s.KeepsFrame (s.raise code subject detail) :=
  ite (ite (outside s) ((overflowed s).trans (queueFault _ _))) (queueFault s _)

theorem accessIgnored (s : State) (d v : Nat) : s.KeepsFrame (s.accessIgnored d v) := raise s _ _ _

/-- A control write keeps the frame when its effect does (R13, R15). -/
theorem ctrlWrite (s : State) (d v free : Nat) {k : State → State} (hk : ∀ u : State, u.KeepsFrame (k u)) :
    s.KeepsFrame (s.ctrlWrite d v free k) :=
  ite (refl s) ((outside s).trans ((ite (accessIgnored _ d v) (refl _)).trans (hk _)))

theorem coreFence (s : State) (c cause : Nat) : s.KeepsFrame (coreFence c cause s) := ite (refl s) (outside s)

theorem chCommand (s : State) (c cmd : Nat) : s.KeepsFrame (chCommand c cmd s) := ctrlWrite s _ _ _ fun u => outside u

/-- The registers of a kept state show what it holds when those of the state before did. -/
theorem shown (h : s.KeepsFrame t) (hs : s.Shown) : t.Shown := by
  have hR : ∀ d, d ≠ Reg.BOOT_FAULT_OVERFLOW → t.getR d = s.getR d := h.regs
  have hF : ∀ d hi lo, d ≠ Reg.BOOT_FAULT_OVERFLOW → t.getF d hi lo = s.getF d hi lo := fun d hi lo hd => by
    rw [State.getF, hR d hd, State.getF]
  have htick : t.shownTick = s.shownTick := by rw [State.shownTick, State.now, h.rest.tim]; rfl
  obtain ⟨-, htim, htwn, -, htly, hpins⟩ := h.rest
  constructor
  · rw [State.getR64, hR _ (by decide), hR _ (by decide), htick]; exact hs.tick
  · rw [hF _ _ _ (by decide), htick, hs.second]
  · rw [hF _ _ _ (by decide), htim, hs.grid]
  · rw [hF _ _ _ (by decide), htim, hs.gridTime]
  · rw [hF _ _ _ (by decide), htwn, hs.pair]
  · rw [hF _ _ _ (by decide), hpins, hs.fenceOut]
  · rw [hF _ _ _ (by decide), hpins, hs.fenceIn]
  · rw [hF _ _ _ (by decide), htly, hs.latch]
  · rw [hR _ (by decide), htly, hs.epoch]
  · rw [hR _ (by decide), htly, hs.record]

/-! The end of a command keeps what its effect kept. -/

theorem after_media (h : s.KeepsFrame t) : s.KeepsMedia (s.after t) := by
  obtain ⟨hmem, hlegs, hfolds, hstreams, hlcs⟩ := h.media
  constructor <;> simpa [State.after]

theorem after_rest (h : s.KeepsFrame t) : s.KeepsRest (s.after t) := by
  obtain ⟨hcip, htim, htwn, hupd, htly, hpins⟩ := h.rest
  constructor <;> simpa [State.after]

theorem after_getR (h : s.KeepsFrame t) (hs : s.Shown) {d : Nat} (hd : d ≠ Reg.BOOT_FAULT_OVERFLOW) :
    (s.after t).getR d = s.getR d := by
  rw [State.after, getR_pending, showStatus_getR_of_shown (h.shown hs), h.regs d hd]

end State.KeepsFrame

/-! ### The controls whose effect waits for the boundary -/

theorem execVenFenceCtrl_keepsFrame (e v : Nat) (s : State) : ∃ u, execVenFenceCtrl e v s = .next (s.after u) ∧ s.KeepsFrame u :=
  ⟨_, rfl, .ctrlWrite s _ _ _ fun u => .ite (.outside u) (.refl u)⟩

theorem execCmpFenceCtrl_keepsFrame (c v : Nat) (s : State) : ∃ u, execCmpFenceCtrl c v s = .next (s.after u) ∧ s.KeepsFrame u :=
  ⟨_, rfl, .ctrlWrite s _ _ _ fun u => .ite (.outside u) (.refl u)⟩

theorem execLacLaneFenceCtrl_keepsFrame (v : Nat) (s : State) : ∃ u, execLacLaneFenceCtrl v s = .next (s.after u) ∧ s.KeepsFrame u :=
  ⟨_, rfl, .ctrlWrite s _ _ _ fun u => .outside u⟩

theorem execMcaFenceCtrl_keepsFrame (k v : Nat) (s : State) : ∃ u, execMcaFenceCtrl k v s = .next (s.after u) ∧ s.KeepsFrame u :=
  ⟨_, rfl, .ctrlWrite s _ _ _ fun u => .each _ (fun w _ => .coreFence w _ _) u⟩

theorem execSoftReset_keepsFrame (v : Nat) (s : State) : ∃ u, execSoftReset v s = .next (s.after u) ∧ s.KeepsFrame u :=
  ⟨_, rfl, .ctrlWrite s _ _ _ fun u => .ite (.accessIgnored u _ _) (.outside u)⟩

end Sys2Proof.Machine

open Sys2Proof Sys2Proof.Machine

/-- Settles O1: both halves are the two branches of the queue's match. -/
theorem stepRunsFrontCommand : Obligations.StepRunsFrontCommand :=
  fun c rest s => ⟨step_cons c rest s, step_nil s⟩

/-- Settles O37: an unwritten register reads its Cold value, and every table of `State.reset` is its default. -/
theorem resetLeavesColdValues : Obligations.ResetLeavesColdValues :=
  ⟨reset_getR, rfl, rfl, rfl, rfl, rfl, rfl, rfl, rfl, rfl, rfl, rfl⟩

/-- Settles O58: each of the nine controls ends on a state that keeps the frame, since all it does at once is to note what it
asks for and to report a write of ignored bits. -/
theorem waitingControlsKeepEverythingElse : Obligations.WaitingControlsKeepEverythingElse := by
  intro c s t hexec hc
  have hkept : ∃ u, exec c s = .next (s.after u) ∧ s.KeepsFrame u := by
    obtain ⟨e, v, rfl⟩ | ⟨e, v, rfl⟩ | ⟨v, rfl⟩ | ⟨k, v, rfl⟩ | ⟨n, rfl | rfl | rfl | rfl⟩ | ⟨v, rfl⟩ := hc
    · exact execVenFenceCtrl_keepsFrame e v s
    · exact execCmpFenceCtrl_keepsFrame e v s
    · exact execLacLaneFenceCtrl_keepsFrame v s
    · exact execMcaFenceCtrl_keepsFrame k v s
    · exact ⟨_, rfl, .chCommand s n 1⟩
    · exact ⟨_, rfl, .chCommand s n 2⟩
    · exact ⟨_, rfl, .chCommand s n 3⟩
    · exact ⟨_, rfl, .chCommand s n 4⟩
    · exact execSoftReset_keepsFrame v s
  obtain ⟨u, hend, hu⟩ := hkept
  obtain rfl : s.after u = t := Host.Outcome.next.inj (hend.symm.trans hexec)
  exact ⟨hu.after_media, hu.after_rest, fun hs d hd => hu.after_getR hs (report_ne hd reportReg_overflow)⟩
end

section
/-!
PROOFS. The status registers at the end of a command: every command but a DRAM access past the memory ends, and what ends is shown.
-/

namespace Sys2Proof.Machine

/-! ### The end of every command shows the status registers -/

@[simp] theorem showStatus_shownTick (s : State) : s.showStatus.shownTick = s.shownTick := by
  simp only [State.shownTick, State.now, showStatus_tim]

theorem b2n_lt_two (b : Bool) : b2n b < 2 := by cases b <;> decide

theorem pairState_code_lt (p : PairState) : p.code < 8 := by cases p <;> decide

theorem getR64_setR_ne {d e : Nat} (h : e ≠ d) (h' : e + 1 ≠ d) (s : State) (v : Nat) : (s.setR d v).getR64 e = s.getR64 e := by
  rw [State.getR64, State.getR64, getR_setR_ne h, getR_setR_ne h']

theorem getR64_setF_ne {d e : Nat} (h : e ≠ d) (h' : e + 1 ≠ d) (s : State) (hi lo v : Nat) : (s.setF d hi lo v).getR64 e = s.getR64 e :=
  getR64_setR_ne h h' s _

/-- A status register, once brought up to date, is not touched by the updates after it. -/
theorem showStatus_shown (s : State) : s.showStatus.Shown := by
  have hbit (b : Bool) : b2n b % 2 = b2n b := Nat.mod_eq_of_lt (b2n_lt_two b)
  constructor
  case tick =>
    rw [showStatus_shownTick]
    simp (disch := decide) only [State.showStatus, getR64_setR_ne, getR64_setF_ne, getR64_setR64_self]
  case second =>
    rw [showStatus_shownTick]
    simp (disch := decide) only [State.showStatus, getF_setR_ne, getF_setF_ne, getF_setF_below, getF_setF_self]
    exact Nat.mod_eq_of_lt (by omega)
  case grid =>
    rw [showStatus_tim]
    simp (disch := decide) only [State.showStatus, getF_setR_ne, getF_setF_ne, getF_setF_self]
    exact hbit _
  case gridTime =>
    rw [showStatus_tim]
    simp (disch := decide) only [State.showStatus, getF_setR_ne, getF_setF_ne, getF_setF_self]
    exact hbit _
  case pair =>
    rw [showStatus_twn]
    simp (disch := decide) only [State.showStatus, getF_setR_ne, getF_setF_below, getF_setF_self]
    exact Nat.mod_eq_of_lt (pairState_code_lt _)
  case fenceOut =>
    rw [showStatus_pins]
    simp (disch := decide) only [State.showStatus, getF_setR_ne, getF_setF_below, getF_setF_self]
    exact hbit _
  case fenceIn =>
    rw [showStatus_pins]
    simp (disch := decide) only [State.showStatus, getF_setR_ne, getF_setF_below, getF_setF_self]
    exact hbit _
  case latch =>
    rw [showStatus_tly]
    simp (disch := decide) only [State.showStatus, getF_setR_ne, getF_setF_self]
    exact hbit _
  case epoch =>
    rw [showStatus_tly]
    simp (disch := decide) only [State.showStatus, getR_setR_ne, getR_setR_self]
    exact Nat.mod_eq_of_lt s.tly.epoch.isLt
  case record =>
    rw [showStatus_tly, State.showStatus, getR_setR_self]

/-- The queue is no part of what the status registers show. -/
theorem State.Shown.withPending {s : State} (h : s.Shown) (q : List Instr) : ({ s with pending := q } : State).Shown :=
  ⟨h.tick, h.second, h.grid, h.gridTime, h.pair, h.fenceOut, h.fenceIn, h.latch, h.epoch, h.record⟩

theorem after_shown (s t : State) : (s.after t).Shown := (showStatus_shown t).withPending s.pending

theorem after_pending (s t : State) : (s.after t).pending = s.pending := rfl

/-! ### What a command answers -/

/-- Every command but DRAM_ACCESS ends on some effect. -/
theorem exec_ends (c : Instr) (s : State) (h : ∀ r, c ≠ .dramAccess r) : ∃ t, exec c s = .next (s.after t) := by
  cases c
  case dramAccess r => exact absurd rfl (h r)
  all_goals exact ⟨_, rfl⟩

/-- DRAM_ACCESS past the usable size faults, and ends on its effect elsewhere (notes/assumptions 10). -/
theorem exec_dramAccess (r : MemReq) (s : State) :
    exec (.dramAccess r) s = .fault .addressOutside ∨ exec (.dramAccess r) s = .next (s.after (dramAccess r s)) := by
  simp only [exec, execDramAccess]
  split
  · exact .inl rfl
  · exact .inr rfl

/-- A next state that a command answers is the end of some effect. -/
theorem exec_next {c : Instr} {s t : State} (h : exec c s = .next t) : ∃ u, t = s.after u := by
  by_cases hc : ∃ r, c = .dramAccess r
  · obtain ⟨r, rfl⟩ := hc
    obtain hf | hn := exec_dramAccess r s
    · simp [hf] at h
    · exact ⟨_, Host.Outcome.next.inj (h.symm.trans hn)⟩
  · obtain ⟨u, hu⟩ := exec_ends c s fun r hr => hc ⟨r, hr⟩
    exact ⟨u, Host.Outcome.next.inj (h.symm.trans hu)⟩

end Sys2Proof.Machine

open Sys2Proof Sys2Proof.Machine

/-- Settles O2: a command ends with the status registers brought up to date and the queue put back. -/
theorem commandsAnswerShownStates : Obligations.CommandsAnswerShownStates := by
  refine ⟨fun c s hc => ?_, fun r s => ?_⟩
  · obtain ⟨u, hu⟩ := exec_ends c s hc
    exact ⟨_, hu, after_pending s u, after_shown s u⟩
  · exact (exec_dramAccess r s).symm.imp_left fun hn => ⟨_, hn, after_pending s _, after_shown s _⟩

/-- Settles O3: an idle step leaves the state, and any other step is the end of a command. -/
theorem stepKeepsShown : Obligations.StepKeepsShown := by
  intro s t hs hstep
  unfold step at hstep
  split at hstep
  · exact Host.Outcome.next.inj hstep ▸ hs
  · obtain ⟨u, rfl⟩ := exec_next hstep
    exact after_shown _ u

/-- Settles O4: every status register reads its Cold value 0, as an unpaired device before its first tick shows. -/
theorem resetIsShown : Obligations.ResetIsShown := by
  unfold Obligations.ResetIsShown
  constructor <;> simp only [State.getR64, State.getF, reset_getR] <;> decide

end

section
/-!
PROOFS. The frame of the queries and settings: a request that is no session event keeps the media, the pair and the update, served
or turned away.
-/

namespace Sys2Proof.Machine

/-! ### Reports leave the pair alone -/

theorem queueFault_twn (s : State) (f : RaisedFault) : (s.queueFault f).twn = s.twn := by
  unfold State.queueFault
  dsimp only
  split <;> rfl

theorem raise_twn (s : State) (code subject : Nat) (detail : List (Nat × Nat)) : (s.raise code subject detail).twn = s.twn := by
  unfold State.raise
  dsimp only
  split
  · split
    · rfl
    · rw [queueFault_twn, incR_twn]
  · exact queueFault_twn s _

theorem raiseOnce_twn (s : State) (code subject period : Nat) (detail : List (Nat × Nat)) :
    (s.raiseOnce code subject period detail).twn = s.twn := by
  unfold State.raiseOnce
  simp only [apply_ite State.twn, raise_twn, ite_self]

theorem ringPut_twn (s : State) (r bytes : Nat) (it : RingItem) : (s.ringPut r bytes it).twn = s.twn := by
  unfold State.ringPut
  split
  · rfl
  · exact incR_twn s (Reg.DEV_RING_TAIL r) (s.ringSlots r bytes)

theorem ringDrop_twn (s : State) (r : Nat) : (s.ringDrop r).twn = s.twn := by
  unfold State.ringDrop
  split
  · rfl
  · rw [raiseOnce_twn, incR_twn]

theorem svcSend_twn (s : State) (key : Nat) (slot : Option Nat) (body : SvcBody) : (s.svcSend key slot body).twn = s.twn := by
  unfold State.svcSend
  dsimp only
  split <;> rfl

theorem sendReplyNow_twn (s : State) (r : Reply) : (s.sendReplyNow r).twn = s.twn := by
  unfold State.sendReplyNow
  split
  · split
    · rfl
    · dsimp only
      split
      · exact ringPut_twn s _ _ _
      · split
        · exact ringDrop_twn s _
        · rfl
  · exact svcSend_twn _ _ _ _

/-- The reply to a request that is no session event goes out at once, and no EVENT frame with it (R533). -/
theorem reply_twn {dst : ReplyTo} (h : plainEvent dst.typ = false) (s : State) (status : Nat) (pay : RPay) :
    (s.reply dst status pay).twn = s.twn := by
  unfold State.reply State.sendReply
  rw [if_neg (by simp [h])]
  exact sendReplyNow_twn s _

/-! ### What a query or a setting keeps -/

/-- `t` holds the media state, the pair and the update of `s`. -/
structure State.KeepsSession (s t : State) : Prop where
  media : s.KeepsMedia t
  twn : t.twn = s.twn
  upd : t.upd = s.upd

namespace State.KeepsSession

variable {s t u : State}

theorem refl (s : State) : s.KeepsSession s := ⟨⟨rfl, rfl, rfl, rfl, rfl⟩, rfl, rfl⟩

theorem trans (h : s.KeepsSession t) (h' : t.KeepsSession u) : s.KeepsSession u where
  media := ⟨h'.media.mem.trans h.media.mem, h'.media.legs.trans h.media.legs, h'.media.folds.trans h.media.folds,
    h'.media.streams.trans h.media.streams, h'.media.lcs.trans h.media.lcs⟩
  twn := h'.twn.trans h.twn
  upd := h'.upd.trans h.upd

/-- The registers, the cipher's keys, the timebase, the memory channels, boot, host and tally store lie outside the frame. -/
theorem outside (s : State) {regs : Tbl (BitVec 32)} {cip : CipSt} {tim : TimSt} {dmc : DmcSt} {boot : BootSt} {host : HostSt}
    {tly : TallySt} : s.KeepsSession { s with regs := regs, cip := cip, tim := tim, dmc := dmc, boot := boot, host := host, tly := tly } :=
  ⟨⟨rfl, rfl, rfl, rfl, rfl⟩, rfl, rfl⟩

theorem ite {c : Prop} [Decidable c] (ht : s.KeepsSession t) (hu : s.KeepsSession u) : s.KeepsSession (if c then t else u) := by
  split
  · exact ht
  · exact hu

theorem of_media (h : t.media = s.media) (htwn : t.twn = s.twn) : s.KeepsSession t where
  media := ⟨congrArg Media.mem h, congrArg Media.legs h, congrArg Media.folds h, congrArg Media.streams h, congrArg Media.lcs h⟩
  twn := htwn
  upd := congrArg Media.upd h

theorem reply (s : State) {dst : ReplyTo} (h : plainEvent dst.typ = false) (status : Nat) (pay : RPay) :
    s.KeepsSession (s.reply dst status pay) := of_media (reply_media s _ _ _) (reply_twn h s _ _)

theorem tallyCommit (s : State) (typ key bytes : Nat) (payload : List (Nat × Nat)) (live : Bool) :
    s.KeepsSession (s.tallyCommit typ key bytes payload live) := of_media (tallyCommit_media s _ _ _ _ _) rfl

theorem each {α : Type} (xs : List α) {f : State → α → State} (h : ∀ (s : State) x, s.KeepsSession (f s x)) (s : State) :
    s.KeepsSession (s.each xs f) := by
  unfold State.each
  induction xs generalizing s with
  | nil => exact refl s
  | cons x xs ih => exact (h s x).trans (ih (f s x))

theorem setR (s : State) (d v : Nat) : s.KeepsSession (s.setR d v) := outside s

theorem setF (s : State) (d hi lo v : Nat) : s.KeepsSession (s.setF d hi lo v) := outside s

theorem showKeys (s : State) : s.KeepsSession s.showKeys :=
  (each _ (fun s _ => setR s _ _) s).trans (each _ (fun s _ => ((setR s _ _).trans (setF _ _ _ _ _)).trans (setF _ _ _ _ _)) _)

theorem setMgmtKey (s : State) (n : Nat) (k : KekPos) : s.KeepsSession (s.setMgmtKey n k) := (outside s).trans (showKeys _)

theorem showSvc (s : State) : s.KeepsSession s.showSvc :=
  ((((setF s _ _ _ _).trans (setF _ _ _ _ _)).trans (setF _ _ _ _ _)).trans (setF _ _ _ _ _)).trans (setF _ _ _ _ _)

theorem arrival (s : State) (m : Msg) (typ : Nat) : s.KeepsSession (s.arrival m typ).2.2 := by
  unfold State.arrival
  split
  · exact outside s
  · exact refl s

/-- A request keeps the frame, served or turned away, when what serves it does (R645, R649, R723). -/
theorem request (s : State) (m : Msg) {typ : Nat} (p : Paths) {k : State → Nat → ReplyTo → State} (htyp : plainEvent typ = false)
    (hk : ∀ (u : State) (a : Nat) (rto : ReplyTo), plainEvent rto.typ = false → u.KeepsSession (k u a rto)) :
    s.KeepsSession (s.request m typ p k) :=
  have htaken := arrival s m typ
  ite (refl s) (ite (refl s) (ite (htaken.trans (reply _ htyp _ _)) (ite (htaken.trans (reply _ htyp _ _))
    (ite (htaken.trans (reply _ htyp _ _)) (htaken.trans (hk _ _ _ htyp))))))

/-- The end of a command keeps what its effect kept. -/
theorem after (h : s.KeepsSession t) : s.KeepsSession (s.after t) := by
  obtain ⟨⟨hmem, hlegs, hfolds, hstreams, hlcs⟩, htwn, hupd⟩ := h
  refine ⟨⟨?_, ?_, ?_, ?_, ?_⟩, ?_, ?_⟩ <;> simpa [State.after]

end State.KeepsSession

/-! ### The queries and the settings -/

section Queries

variable (m : Msg) (s : State)

theorem execQueryLeg_keepsSession : ∃ u, execQueryLeg m s = .next (s.after u) ∧ s.KeepsSession u :=
  ⟨_, rfl, .request s m _ rfl fun u _ _ h => .ite (.reply u h _ _) (.reply u h _ _)⟩

theorem execQueryFold_keepsSession : ∃ u, execQueryFold m s = .next (s.after u) ∧ s.KeepsSession u :=
  ⟨_, rfl, .request s m _ rfl fun u _ _ h => .ite (.reply u h _ _) (.reply u h _ _)⟩

theorem execTallyRead_keepsSession (typ first last reserved : Nat) :
    ∃ u, execTallyRead m typ first last reserved s = .next (s.after u) ∧ s.KeepsSession u :=
  ⟨_, rfl, .request s m _ rfl fun u _ _ h => .ite (.reply u h _ _) (.reply u h _ _)⟩

theorem execKekProvision_keepsSession (key : BitVec 256) : ∃ u, execKekProvision m key s = .next (s.after u) ∧ s.KeepsSession u :=
  ⟨_, rfl, .request s m _ rfl fun u _ _ h =>
    .ite (.reply u h _ _) (.ite (.reply u h _ _) (.trans (.outside u) (.reply _ h _ _)))⟩

theorem execKekRevoke_keepsSession : ∃ u, execKekRevoke m s = .next (s.after u) ∧ s.KeepsSession u :=
  ⟨_, rfl, .request s m _ rfl fun u _ _ h =>
    .ite (.reply u h _ _) (.ite (.reply u h _ _) (.trans (.outside u) (.reply _ h _ _)))⟩

theorem execMgmtKeyProvision_keepsSession (key : BitVec 256) : ∃ u, execMgmtKeyProvision m key s = .next (s.after u) ∧ s.KeepsSession u :=
  ⟨_, rfl, .request s m _ rfl fun u _ _ h =>
    .ite (.reply u h _ _) (.ite (.reply u h _ _) (.trans (.setMgmtKey u _ _) (.reply _ h _ _)))⟩

theorem execMgmtKeyRevoke_keepsSession : ∃ u, execMgmtKeyRevoke m s = .next (s.after u) ∧ s.KeepsSession u :=
  ⟨_, rfl, .request s m _ rfl fun u _ _ h =>
    .ite (.reply u h _ _) (.ite (.reply u h _ _) (.trans (.setMgmtKey u _ _) (.reply _ h _ _)))⟩

theorem execOptionWrite_keepsSession (o : OptionBlock) : ∃ u, execOptionWrite m o s = .next (s.after u) ∧ s.KeepsSession u :=
  ⟨_, rfl, .request s m _ rfl fun u _ _ h => .ite (.reply u h _ _) (.trans (.outside u) (.reply _ h _ _))⟩

theorem execServiceAddress_keepsSession (a : SvcAddr) (reserved : Nat) :
    ∃ u, execServiceAddress m a reserved s = .next (s.after u) ∧ s.KeepsSession u :=
  ⟨_, rfl, .request s m _ rfl fun u _ _ h =>
    .ite (.reply u h _ _) (.trans (.reply u h stOK .none) (.trans (.outside _) (.trans (.tallyCommit _ _ _ _ _ _) (.showSvc _))))⟩

theorem execTelemetryConfig_keepsSession (period flags budget : Nat) :
    ∃ u, execTelemetryConfig m period flags budget s = .next (s.after u) ∧ s.KeepsSession u :=
  ⟨_, rfl, .request s m _ rfl fun u _ _ h => .ite (.reply u h _ _) (.trans (.outside u) (.reply _ h _ _))⟩

theorem execSubscribe_keepsSession (addr : BitVec 128) (port flags reserved : Nat) :
    ∃ u, execSubscribe m addr port flags reserved s = .next (s.after u) ∧ s.KeepsSession u :=
  ⟨_, rfl, .request s m _ rfl fun u _ _ h => .ite (.reply u h _ _) (.trans (.outside u) (.reply _ h _ _))⟩

theorem execTimeSource_keepsSession (k : Nat) : ∃ u, execTimeSource m k s = .next (s.after u) ∧ s.KeepsSession u :=
  ⟨_, rfl, .request s m _ rfl fun u _ _ h => .ite (.reply u h _ _) (.trans (.outside u) (.reply _ h _ _))⟩

theorem execSetPoint_keepsSession (point reserved : Nat) : ∃ u, execSetPoint m point reserved s = .next (s.after u) ∧ s.KeepsSession u :=
  ⟨_, rfl, .request s m _ rfl fun u _ _ h =>
    .ite (.reply u h _ _) (.ite (.reply u h _ _) (.ite (.reply u h _ _) (.trans (.outside u) (.reply _ h _ _))))⟩

end Queries

end Sys2Proof.Machine

open Sys2Proof Sys2Proof.Machine

/-- Settles O60: each of the thirteen is a request that is no session event, so its reply holds nothing back for the partner, and
what serves it writes only keys, options, addresses, the timebase's source or the set point. -/
theorem queriesAndSettingsKeepMedia : Obligations.QueriesAndSettingsKeepMedia := by
  intro c m s t hexec hc
  have hkept : ∃ u, exec c s = .next (s.after u) ∧ s.KeepsSession u := by
    obtain rfl | rfl | ⟨typ, first, last, reserved, rfl⟩ | ⟨key, rfl⟩ | rfl | ⟨key, rfl⟩ | rfl | ⟨o, rfl⟩ | ⟨a, reserved, rfl⟩ |
      ⟨period, flags, budget, rfl⟩ | ⟨addr, port, flags, reserved, rfl⟩ | ⟨k, rfl⟩ | ⟨point, reserved, rfl⟩ := hc
    · exact execQueryLeg_keepsSession m s
    · exact execQueryFold_keepsSession m s
    · exact execTallyRead_keepsSession m s typ first last reserved
    · exact execKekProvision_keepsSession m s key
    · exact execKekRevoke_keepsSession m s
    · exact execMgmtKeyProvision_keepsSession m s key
    · exact execMgmtKeyRevoke_keepsSession m s
    · exact execOptionWrite_keepsSession m s o
    · exact execServiceAddress_keepsSession m s a reserved
    · exact execTelemetryConfig_keepsSession m s period flags budget
    · exact execSubscribe_keepsSession m s addr port flags reserved
    · exact execTimeSource_keepsSession m s k
    · exact execSetPoint_keepsSession m s point reserved
  obtain ⟨u, hend, hu⟩ := hkept
  obtain rfl : s.after u = t := Host.Outcome.next.inj (hend.symm.trans hexec)
  exact ⟨hu.after.media, hu.after.twn, hu.after.upd⟩
end

section
/-!
PROOFS. The tick grid, the cadence codes, the timestamps of fractional rates and the ticks in which their pictures are due.
-/

namespace Sys2Proof.Machine

/-! ### The tick grid (R18) -/

/-- The boundaries are 5,000,000 / 3 ns apart, rounded down. -/
theorem tickNs_eq (t : Nat) : tickNs t = t * 5000000 / 3 := by
  have ht : t * 5000000 = 3 * (t / 600 * 1000000000) + t % 600 * 5000000 := by omega
  rw [tickNs, boundaryNs, ht, Nat.mul_add_div (by decide)]

/-- Each three ticks take 5,000,000 ns. -/
theorem tickNs_threes (q r : Nat) : tickNs (q * 3 + r) = q * 5000000 + r * 5000000 / 3 := by
  have h : (q * 3 + r) * 5000000 = 3 * (q * 5000000) + r * 5000000 := by ring
  rw [tickNs_eq, h, Nat.mul_add_div (by decide)]

theorem tickNs_of_second (S k : Nat) : tickNs (S * 600 + k) = S * 1000000000 + k * 5000000 / 3 := by
  rw [show S * 600 + k = S * 200 * 3 + k by ring, tickNs_threes]
  ring

theorem tickLen_eq (t : Nat) : tickLen t = tickNs (t + 1) - tickNs t := by
  have hlen : tickLen t = if t % 3 = 0 then 1666666 else 1666667 := by
    rw [tickLen, Nat.mod_mod_of_dvd _ (by decide)]
  have hr : t % 3 < 3 := Nat.mod_lt t (by decide)
  rw [hlen, ← Nat.div_add_mod' t 3, add_assoc, tickNs_threes, tickNs_threes, Nat.add_sub_add_left, Nat.mul_add_mod', Nat.mod_mod]
  generalize t % 3 = r at hr
  interval_cases r <;> rfl

/-- The division by which a tick is found from an instant. -/
theorem tick_of_ns (ns : Nat) : ns / 1000000000 * 600 + ns % 1000000000 * 3 / 5000000 = ns * 3 / 5000000 := by
  have h : ns * 3 = 5000000 * (ns / 1000000000 * 600) + ns % 1000000000 * 3 := by omega
  rw [h, Nat.mul_add_div (by decide)]

/-- An instant past boundary `t` and up to the next lies in tick `t` or on its end. -/
theorem tickAfter_eq {t v : Nat} (h : tickNs t * 2 ^ 32 < v) (h' : v ≤ tickNs (t + 1) * 2 ^ 32) : tickAfter v = t + 1 := by
  have hlo : tickNs t < ceilDiv v (2 ^ 32) := by unfold ceilDiv; omega
  have hhi : ceilDiv v (2 ^ 32) ≤ tickNs (t + 1) := by unfold ceilDiv; omega
  simp only [tickAfter, tick_of_ns]
  generalize ceilDiv v (2 ^ 32) = ns at *
  have hnear : ns * 3 / 5000000 = t ∨ ns * 3 / 5000000 = t + 1 := by
    rw [tickNs_eq, Nat.div_lt_iff_lt_mul (by decide)] at hlo
    rw [tickNs_eq, Nat.le_div_iff_mul_le (by decide)] at hhi
    omega
  obtain ht | ht := hnear <;> rw [ht]
  · exact if_neg (by omega)
  · exact if_pos hhi

/-! ### Cadences (R36) -/

theorem cadenceP_reserved {c : Nat} (h : 0xC ≤ c) : cadenceP c = none := by
  obtain ⟨k, rfl⟩ := Nat.exists_eq_add_of_le' h
  rfl

theorem periodOf_pos (c : Nat) : 1 ≤ periodOf c := by
  unfold periodOf cadenceP
  split <;> decide

/-! ### Timestamps of fractional rates (R24) -/

theorem pictureTs_fractional {c : Nat} (h : fractional c = true) (m : Nat) :
    pictureTs c m = m * 90000 * 1001 / (1000 * nominalFps c) := if_pos h

theorem pictureTs_30 (m : Nat) : pictureTs 0xA m = m * 3003 := by
  rw [pictureTs_fractional rfl, show nominalFps 0xA = 30 from rfl]
  omega

theorem pictureTs_60 (m : Nat) : pictureTs 0x9 m = m * 3003 / 2 := by
  rw [pictureTs_fractional rfl, show nominalFps 0x9 = 60 from rfl]
  omega

/-! ### Due ticks of fractional rates (R23) -/

/-- The last of the thousand pictures of a cycle of `len` ticks that is due at or before tick `x` of the cycle; picture `n` is due
at floor(n x len / 1,000). -/
def lastPicture (len x : Nat) : Nat :=
  let n := (x * 1000 + 999) / len
  if n * len / 1000 ≤ x ∧ n < 1000 then n else n - 1

theorem lastPicture_lt {len x : Nat} (h : x < len) : lastPicture len x < 1000 := by
  have hn : (x * 1000 + 999) / len < 1000 := Nat.div_lt_of_lt_mul (by omega)
  unfold lastPicture
  dsimp only
  split <;> omega

/-- In the tick in which a picture is due, the last one due is that picture. -/
theorem lastPicture_of_due {len n : Nat} (hlen : 1000 ≤ len) (hn : n < 1000) : lastPicture len (n * len / 1000) = n := by
  have hround : (n * len / 1000 * 1000 + 999) / len = n :=
    Nat.div_eq_of_lt_le (by omega) (by rw [Nat.add_one_mul]; omega)
  rw [lastPicture, hround]
  exact if_pos ⟨le_rfl, hn⟩

/-- The last due tick of a fractional job lies in the cycle of the tick, at its last picture. -/
theorem pictureDue_fractional {c φ t : Nat} (h : fractional c = true) (ht : φ ≤ t) :
    pictureDue c φ t = some ((t - φ) / (1001 * periodOf c) * (1001 * periodOf c) +
      lastPicture (1001 * periodOf c) ((t - φ) % (1001 * periodOf c)) * (1001 * periodOf c) / 1000 + φ) := by
  have hrest : t - φ - (t - φ) / (1001 * periodOf c) * (1001 * periodOf c) = (t - φ) % (1001 * periodOf c) := by
    rw [Nat.mul_comm, Nat.mod_eq_sub_mul_div]
  have hle : ∀ a, (t - φ) / (1001 * periodOf c) * (1001 * periodOf c) + a ≤ t - φ ↔ a ≤ (t - φ) % (1001 * periodOf c) := by
    intro a
    have := Nat.div_add_mod' (t - φ) (1001 * periodOf c)
    omega
  simp only [pictureDue, h, if_true, if_neg (Nat.not_lt.mpr ht), hrest, lastPicture, mul_assoc, hle]

theorem isDue_fractional {c φ t : Nat} (h : fractional c = true) :
    isDue c φ t = true ↔ ∃ K n, n < 1000 ∧ t = K * (1001 * periodOf c) + n * 1001 * periodOf c / 1000 + φ := by
  have hlen : 1000 ≤ 1001 * periodOf c := by have := periodOf_pos c; omega
  have hpos : 0 < 1001 * periodOf c := by omega
  rw [isDue, beq_iff_eq]
  constructor
  · intro hdue
    have ht : φ ≤ t := by
      by_contra hlt
      simp [pictureDue, h, Nat.lt_of_not_le hlt] at hdue
    rw [pictureDue_fractional h ht, Option.some.injEq] at hdue
    refine ⟨(t - φ) / (1001 * periodOf c), _, lastPicture_lt (Nat.mod_lt (t - φ) hpos), ?_⟩
    rw [mul_assoc _ 1001, hdue]
  · rintro ⟨K, n, hn, rfl⟩
    have hx : n * (1001 * periodOf c) / 1000 < 1001 * periodOf c := Nat.div_lt_of_lt_mul (Nat.mul_lt_mul_of_pos_right hn hpos)
    rw [pictureDue_fractional h (Nat.le_add_left _ _), mul_assoc n, Nat.add_sub_cancel, Nat.mul_add_mod', Nat.mod_eq_of_lt hx,
      lastPicture_of_due hlen hn, Nat.mul_comm K, Nat.mul_add_div hpos, Nat.div_eq_of_lt hx, Nat.add_zero, Nat.mul_comm K]

end Sys2Proof.Machine

open Sys2Proof Sys2Proof.Machine

/-- Settles O41: boundary t lies at floor(t x 5,000,000 / 3) ns, and within a cycle of 1,001 periods the last picture of the tick
in which picture n is due is n. -/
theorem ticksAndTimestampsFollowTheGrid : Obligations.TicksAndTimestampsFollowTheGrid := by
  refine ⟨fun S k _ => tickNs_of_second S k, fun S => ?_, tickLen_eq, fun t v => tickAfter_eq, by decide,
    fun c hc _ => cadenceP_reserved hc, fun c m base h => ?_, fun m => ?_, fun m => ⟨?_, ?_⟩, fun c φ t h _ => isDue_fractional h⟩
  · rw [tickNs_of_second]
    omega
  · rw [pictureTs_fractional h]
  · rw [pictureTs_30, pictureTs_30]
    omega
  · rw [pictureTs_60, pictureTs_60]
    omega
  · rw [pictureTs_60, pictureTs_60]
    omega
end

section
/-!
PROOFS. A device with fenced_latched set is the authority for no fold, with a partner or without one: FOLD_SETUP is turned away there.
-/

namespace Sys2Proof.Machine

/-- A running device of no pair whose fenced_latched is set: out of reset, its grid valid, in tick 1, with no fold set up. -/
def latchedAlone : State :=
  { State.reset with
    boot := { State.reset.boot with inReset := false }
    tim := { State.reset.tim with valid := true, tick := 1 }
    tly := { State.reset.tly with fencedLatched := true } }

/-- A FOLD_SETUP message for fold 1. -/
def setupOfFold1 : Msg := { target := 1 }

/-- An audio record with one configuration, which R159 allows. -/
def oneConfigAudio : AudioRec := { configs := [{ codec := 2, rate := 0 }] }

theorem authority_latched {s : State} (h : s.tly.fencedLatched = true) (f : Nat) : s.authority f = false := if_pos h

theorem taken_tly (s : State) (m : Msg) (typ : Nat) : (s.taken m typ).tly = s.tly := by
  unfold State.taken State.arrival
  split <;> rfl

theorem taken_twn (s : State) (m : Msg) (typ : Nat) : (s.taken m typ).twn = s.twn := by
  unfold State.taken State.arrival
  split <;> rfl

theorem after_adm (s t : State) : (s.after t).adm = t.adm := by simp only [State.after, showStatus_adm]

/-- A device with fenced_latched set and no partner turns every FOLD_SETUP away with NOT_AUTHORITY (R521, R540). -/
theorem execFoldSetup_latched {m : Msg} {s : State} (hserves : s.serves m 0x0105 .both = true) (hm : m.target ≤ 4095)
    (hstate : ((s.taken m 0x0105).fold m.target).state ≠ .retiring) (halone : s.twn.paired = false)
    (hlatch : s.tly.fencedLatched = true) (d : FoldDesc) (a : AudioRec) :
    exec (.foldSetup m d a) s = .next (s.after ((s.taken m 0x0105).reply (s.replyTo m 0x0105) stNotAuthority)) := by
  have hauth : (s.taken m 0x0105).authority m.target = false := authority_latched (by rw [taken_tly, hlatch]) _
  have hpaired : (s.taken m 0x0105).twn.paired = false := by rw [taken_twn, halone]
  simp only [exec, execFoldSetup, finish_after, request_served hserves, hpaired, hauth, hstate, Nat.not_lt.mpr hm, Bool.false_and,
    Bool.false_eq_true, if_false, Bool.not_false, if_true]

end Sys2Proof.Machine

open Sys2Proof Sys2Proof.Machine

/-- Refutes O49: the clause of FOLD_SETUP asks only that the device is in no pair, yet with fenced_latched set it is the authority
for no fold, so a valid descriptor begins no admission. -/
theorem not_foldAndContentRequestsAreTaken : ¬ Obligations.FoldAndContentRequestsAreTaken := by
  unfold Obligations.FoldAndContentRequestsAreTaken
  intro h
  have hserves : latchedAlone.serves setupOfFold1 0x0105 .both = true := by decide
  have hstate : ((latchedAlone.taken setupOfFold1 0x0105).fold setupOfFold1.target).state ≠ .retiring := by decide
  have hvalid : (latchedAlone.taken setupOfFold1 0x0105).foldValid {} oneConfigAudio = true := by decide
  obtain ⟨hsetup, -⟩ := h setupOfFold1 latchedAlone
  obtain ⟨t, hexec, hbegun⟩ := (hsetup {} oneConfigAudio hserves (by decide) hstate rfl).1 hvalid ⟨rfl, fun _ => by decide⟩
  rw [execFoldSetup_latched hserves (by decide) hstate rfl rfl] at hexec
  obtain rfl := Host.Outcome.next.inj hexec
  rw [after_adm, reply_adm] at hbegun
  simp at hbegun
end

section
/-!
PROOFS. The traffic that is not media: what each command does with the packet that it takes.
-/

namespace Sys2Proof.Machine

/-! ### The packets with no leg: ARP, Neighbour Solicitation, punt (R69) -/

section Ingress

variable {s u : State} {p : RxPkt}

theorem execArpRequest_taken (h : s.takeRx (fun p => p.isArp && s.asksLocal p) = some (p, u)) :
    execArpRequest s = .next (s.after (u.packetisePort p.port 7 1 28)) := by
  simp only [execArpRequest, h, finish_after]

theorem execNeighbourSolicitation_taken (h : s.takeRx (fun p => p.isNs && s.asksLocal p) = some (p, u)) :
    execNeighbourSolicitation s = .next (s.after (u.packetisePort p.port 7 2 72)) := by
  simp only [execNeighbourSolicitation, h, finish_after]

theorem execPunt_taken (h : s.takeRx (fun p => p.leg.isNone && p.stunMsg.isNone && !s.asksLocal p) = some (p, u)) :
    execPunt s = .next (s.after (if 600 ≤ (u.port p.port).punt then
      (u.onPort p.port (fun x => { x with punt := x.punt - 600 })).puntItem { length := p.ipLen, addr := p.addr }
      else u.incR (Reg.NET_PE_DROP 0x10))) := by
  simp only [execPunt, h, finish_after, State.dropNet]

/-! ### STUN (R74 to R76) -/

variable {m : StunMsg}

theorem execStunBindingRequest_taken (h : s.takeRx (fun p => p.stunMsg.elim false (·.bindingRequest)) = some (p, u))
    (hmsg : p.stunMsg = some m) : execStunBindingRequest s = .next (s.after (u.bindingRequest p m)) := by
  simp only [execStunBindingRequest, h, hmsg, finish_after]

/-- A request that names no leg, from the address of none, is dropped as STUN_AUTH. -/
theorem bindingRequest_unnamed (hnone : u.stunLeg p.addr m = none) (hleg : p.leg = none) :
    u.bindingRequest p m = u.incR (Reg.NET_PE_DROP 9) := by
  simp only [State.bindingRequest, hnone, hleg, State.dropNet]

/-- A request valid under the password of the leg that it names is counted and answered, then renews consent or is reported. -/
theorem bindingRequest_valid {l : Nat} {r : IceRec} (hnamed : u.stunLeg p.addr m = some l) (hice : (u.leg l).ice = some r)
    (hpwd : m.integrityPwd = some r.pwd) (hprint : m.fingerprint ≠ some false) :
    u.bindingRequest p m =
      if (u.leg l).ownRemote p.addr then
        ((u.rxCount l 11).packetisePort p.port 7 (if m.controlled then 4 else 3) (stunLen m.controlled (u.leg l).desc.ip6) (some l)).consent l
      else ((u.rxCount l 11).packetisePort p.port 7 (if m.controlled then 4 else 3)
        (stunLen m.controlled (u.leg l).desc.ip6) (some l)).candidate l p.addr m.useCandidate := by
  have hvalid : (m.integrityPwd.isSome && m.integrityPwd == (u.leg l).ice.map (·.pwd) && m.fingerprint != some false) = true := by
    simp [hice, hpwd, hprint]
  simp only [State.bindingRequest, hnamed, hvalid, Bool.not_true, Bool.false_eq_true, if_false]

theorem execStunOther_taken (h : s.takeRx (fun p => p.stunMsg.elim false (fun m => !m.bindingRequest)) = some (p, u)) :
    execStunOther s = .next (s.after (u.incR (Reg.NET_PE_DROP 0x0A))) := by
  simp only [execStunOther, h, finish_after, State.dropNet]

/-! ### DTLS (R77, R362) -/

variable {l : Nat}

theorem execDtlsRecord_taken (h : s.takeRx (fun p => p.leg.isSome && p.body = .dtls) = some (p, u)) (hleg : p.leg = some l) :
    execDtlsRecord s = .next (s.after (u.dtlsRecord p l)) := by
  simp only [execDtlsRecord, h, hleg, finish_after]

/-- A record that the leg's state does not pass is dropped as LEG_STATE. -/
theorem dtlsRecord_barred (hpass : passes (u.leg l).state .dtls = false) :
    u.dtlsRecord p l = u.incR (Reg.NET_PE_DROP 0x0B) := by
  simp only [State.dtlsRecord, hpass, Bool.not_false, if_true, State.dropNet]

/-- A record that the leg's state passes goes to the punt ring under the leg's bucket, at the authority. -/
theorem dtlsRecord_passed (hpass : passes (u.leg l).state .dtls = true) (hauth : u.authority (u.leg l).desc.fold = true) :
    u.dtlsRecord p l = if (u.leg l).dtlsTok < 600 then u.incR (Reg.NET_PE_DROP 0x10) else
      (u.onLeg l (fun g => { g with dtlsTok := g.dtlsTok - 600 })).puntItem { leg := some l, length := p.ipLen, addr := p.addr } := by
  simp only [State.dtlsRecord, hpass, hauth, Bool.not_true, Bool.false_eq_true, if_false, State.dropNet]

end Ingress

/-- Taking a request's arrival away leaves every leg as it was. -/
theorem taken_leg (s : State) (m : Msg) (typ l : Nat) : (s.taken m typ).leg l = s.leg l := by
  unfold State.taken State.arrival
  split <;> rfl

theorem taken_authority (s : State) (m : Msg) (typ f : Nat) : (s.taken m typ).authority f = s.authority f := by
  unfold State.taken State.arrival
  split <;> rfl

theorem execDtlsSend_served {s : State} {m : Msg} {n : Nat} (hserves : s.serves m 0x010F .both = true)
    (hauth : s.authority (s.leg m.target).desc.fold = true) (hidle : (s.leg m.target).state ≠ .idle)
    (hfenced : (s.leg m.target).state ≠ .fenced) :
    execDtlsSend m n s = .next (s.after (((s.taken m 0x010F).packetisePort (s.legPort m.target) 1 6
      (n + if (s.leg m.target).desc.ip6 then 48 else 28) (some m.target)).reply (s.replyTo m 0x010F) stOK)) := by
  simp only [execDtlsSend, finish_after, request_served hserves, State.legPort, taken_leg, taken_authority, hauth, hidle, hfenced,
    Bool.not_true, Bool.false_eq_true, decide_false, Bool.or_self, if_false]

end Sys2Proof.Machine

open Sys2Proof Sys2Proof.Machine

/-- Settles O7: each command takes the first packet of its kind, and each branch of its service is one clause; a valid request that
carries ICE-CONTROLLED is answered with error 487 (R74, notes/assumptions 32). -/
theorem nonMediaTrafficIsAnswered : Obligations.NonMediaTrafficIsAnswered := by
  intro s
  refine ⟨fun p u h => execArpRequest_taken h, fun p u h => execNeighbourSolicitation_taken h, fun p u h => execPunt_taken h,
    fun p u m h hmsg => ⟨fun hnone hleg => ?_, fun l r hnamed hice hpwd hprint => ?_⟩, fun p u h => execStunOther_taken h,
    fun p u l h hleg => ⟨fun hpass => ?_, fun hpass hauth => ?_⟩,
    fun m n hserves hauth hidle hfenced => execDtlsSend_served hserves hauth hidle hfenced⟩
  · exact (execStunBindingRequest_taken h hmsg).trans (by rw [bindingRequest_unnamed hnone hleg])
  · exact (execStunBindingRequest_taken h hmsg).trans (by rw [bindingRequest_valid hnamed hice hpwd hprint])
  · exact (execDtlsRecord_taken h hleg).trans (by rw [dtlsRecord_barred hpass])
  · exact (execDtlsRecord_taken h hleg).trans (by rw [dtlsRecord_passed hpass hauth])
end

section
/-!
PROOFS. RTCP: what each command does with the part that it takes, once the SRTCP packets in line are open.
-/

namespace Sys2Proof.Machine

/-! ### What the end of a command and a run over a list keep -/

theorem after_legs (s t : State) : (s.after t).legs = t.legs := by simp only [State.after, showStatus_legs]

theorem after_streams (s t : State) : (s.after t).streams = t.streams := by simp only [State.after, showStatus_streams]

theorem after_net (s t : State) : (s.after t).net = t.net := by simp only [State.after, showStatus_net]

/-- A run over a list keeps what each of its steps keeps. -/
theorem each_keeps {α β : Type} (g : State → β) {f : State → α → State} (h : ∀ w x, g (f w x) = g w) (xs : List α) (s : State) :
    g (s.each xs f) = g s := by
  unfold State.each
  induction xs generalizing s with
  | nil => rfl
  | cons x xs ih => rw [List.foldl_cons, ih, h]

/-! ### The kinds of RTCP parts and the part that a command takes (R93) -/

def RtcpBody.isSr : RtcpBody → Bool
  | .sr .. => true
  | _ => false

def RtcpBody.isRr : RtcpBody → Bool
  | .rr .. => true
  | _ => false

def RtcpBody.isBye : RtcpBody → Bool
  | .bye _ => true
  | _ => false

def RtcpBody.isNack : RtcpBody → Bool
  | .nack .. => true
  | _ => false

def RtcpBody.isPli : RtcpBody → Bool
  | .pli _ => true
  | _ => false

def RtcpBody.isFir : RtcpBody → Bool
  | .fir .. => true
  | _ => false

def RtcpBody.isFeedback : RtcpBody → Bool
  | .feedback _ => true
  | _ => false

def RtcpBody.isIgnored (b : RtcpBody) : Bool := b = .ignored

/-- With the packets in line open, part `i` is the first of kind `c` from an earlier tick, and `v` is the state without it. -/
structure State.TakesPart (s : State) (c : RtcpBody → Bool) (i : RtcpItem) (v : State) : Prop where
  found : s.openRtcp.net.rtcpq.find? (fun j => decide (j.tick < s.openRtcp.now) && c j.body) = some i
  rest : v = { s.openRtcp with net := { s.openRtcp.net with rtcpq := s.openRtcp.net.rtcpq.erase i } }

theorem takeRtcp_taken {s v : State} {c : RtcpBody → Bool} {i : RtcpItem} (h : s.TakesPart c i v) (k : State → RtcpItem → State) :
    s.takeRtcp c k = k v i := by
  obtain ⟨hfound, rfl⟩ := h
  simp only [State.takeRtcp, hfound]

section Parts

variable {s v : State} {i : RtcpItem}

/-! ### Sender and receiver reports, PLI and FIR (R93, R95) -/

theorem rtcpSr_taken {ssrc lsr ts wall e : Nat} {reports : List Report} (h : s.TakesPart RtcpBody.isSr i v)
    (hbody : i.body = .sr ssrc lsr ts wall reports) (hentry : v.inboundEntry i.leg ssrc = some e) :
    rtcpSr s = (v.onStream e (fun r => { r with srLsr := lsr, srMap := some (ts, wall) })).each reports (fun w r => w.reportBlock i r) := by
  refine (takeRtcp_taken h _).trans ?_
  simp only [hbody, hentry]

theorem rtcpRr_taken {ssrc : Nat} {reports : List Report} (h : s.TakesPart RtcpBody.isRr i v) (hbody : i.body = .rr ssrc reports) :
    rtcpRr s = v.each reports (fun w r => w.reportBlock i r) := by
  refine (takeRtcp_taken h _).trans ?_
  simp only [hbody]

theorem rtcpPli_taken {ssrc e : Nat} (h : s.TakesPart RtcpBody.isPli i v) (hbody : i.body = .pli ssrc)
    (hentry : v.outboundEntry i.leg ssrc = some e) : rtcpPli s = v.refreshAsked i.leg e false := by
  refine (takeRtcp_taken h _).trans ?_
  simp only [hbody, hentry]

theorem rtcpFir_taken {ssrc n e : Nat} (h : s.TakesPart RtcpBody.isFir i v) (hbody : i.body = .fir ssrc n)
    (hentry : v.outboundEntry i.leg ssrc = some e) :
    rtcpFir s = if (v.stream e).tx.firSeq = some n then v else
      (v.onStream e (fun r => { r with tx := { r.tx with firSeq := some n } })).refreshAsked i.leg e true := by
  refine (takeRtcp_taken h _).trans ?_
  simp only [hbody, hentry]

theorem rtcpIgnored_taken (h : s.TakesPart RtcpBody.isIgnored i v) :
    rtcpIgnored s = { v with net := { v.net with rtcpIgnored := v.net.rtcpIgnored + 1 } } := takeRtcp_taken h _

/-! ### BYE (R93) -/

/-- The stream that leg `l` sends under SSRC `x` is ended and the host is told, as RTCP_BYE does for each SSRC that it names. -/
def State.endStream (l : Nat) (w : State) (x : Nat) : State :=
  match w.inboundEntry l x with
  | some e => (w.onStream e (fun r => { r with ended := true })).notify 0x8005 0 (subjLeg l) [(4, x)]
  | none => w

theorem rtcpBye_taken {ssrcs : List Nat} (h : s.TakesPart RtcpBody.isBye i v) (hbody : i.body = .bye ssrcs) :
    rtcpBye s = v.each ssrcs (State.endStream i.leg) := by
  refine (takeRtcp_taken h _).trans ?_
  simp only [hbody]
  rfl

theorem endStream_legs (w : State) (l x : Nat) : (w.endStream l x).legs = w.legs := by
  unfold State.endStream
  split
  · rw [notify_legs, onStream_legs]
  · rfl

/-- What ending a stream leaves of each entry: the flag of one is set, and nothing else changes. -/
theorem endStream_stream (w : State) (l x e : Nat) :
    (w.endStream l x).stream e =
      if w.inboundEntry l x = some e then { w.stream e with ended := true } else w.stream e := by
  unfold State.endStream
  cases hentry : w.inboundEntry l x with
  | none => simp
  | some e' =>
    rw [State.stream, notify_streams]
    by_cases he : e = e'
    · subst he
      rw [if_pos rfl]
      exact onStream_self w e _
    · rw [if_neg (by simpa using Ne.symm he)]
      exact onStream_ne w e' _ e he

theorem endStream_inboundEntry (w : State) (l x k y : Nat) : (w.endStream l x).inboundEntry k y = w.inboundEntry k y := by
  have hdesc : ∀ e, ((w.endStream l x).stream e).desc = (w.stream e).desc := by
    intro e
    rw [endStream_stream]
    split <;> rfl
  simp only [State.inboundEntry, State.leg, endStream_legs, hdesc]

theorem endStream_keeps_ended {w : State} {e : Nat} (h : (w.stream e).ended = true) (l x : Nat) :
    ((w.endStream l x).stream e).ended = true := by
  rw [endStream_stream]
  split
  · rfl
  · exact h

theorem each_endStream_keeps_ended {l e : Nat} (xs : List Nat) {w : State} (h : (w.stream e).ended = true) :
    ((w.each xs (State.endStream l)).stream e).ended = true := by
  unfold State.each
  induction xs generalizing w with
  | nil => exact h
  | cons x xs ih => exact ih (endStream_keeps_ended h l x)

theorem each_endStream_ended {l e x : Nat} {xs : List Nat} (hx : x ∈ xs) {w : State} (hentry : w.inboundEntry l x = some e) :
    ((w.each xs (State.endStream l)).stream e).ended = true := by
  induction xs generalizing w with
  | nil => cases hx
  | cons y ys ih =>
    rcases List.mem_cons.mp hx with rfl | hx
    · refine each_endStream_keeps_ended ys ?_
      rw [endStream_stream, if_pos hentry]
    · exact ih hx (by rw [endStream_inboundEntry, hentry])

/-! ### NACK (R98, R110) -/

/-- Receive counter `n` of leg `l` (R110). -/
def State.rxCtrOf (s : State) (l n : Nat) : Nat := tget 0 (s.leg l).rxCtr n

theorem rxCtrOf_of_legs {s t : State} (h : t.legs = s.legs) (l n : Nat) : t.rxCtrOf l n = s.rxCtrOf l n := by
  simp only [State.rxCtrOf, State.leg, h]

theorem rxCount_rxCtrOf_self (s : State) (l n k : Nat) : (s.rxCount l n k).rxCtrOf l n = (s.rxCtrOf l n + k) % 2 ^ 32 := by
  rw [State.rxCtrOf, State.rxCount, onLeg_self, tget_tmod_self, State.rxCtrOf]

theorem rxCount_rxCtrOf_ne {n m : Nat} (h : m ≠ n) (s : State) (l k : Nat) : (s.rxCount l n k).rxCtrOf l m = s.rxCtrOf l m := by
  rw [State.rxCtrOf, State.rxCount, onLeg_self, tget_tmod_ne _ h, State.rxCtrOf]

theorem nackCandidate_legs (s : State) (l : Nat) (seqs : List Nat) : (s.nackCandidate l seqs).legs = s.legs := onLc_legs s _ _

theorem requestIntra_legs (s : State) (f : Nat) (o : Option Nat) (k : ClassKey) (rung : Nat) :
    (s.requestIntra f o k rung).legs = s.legs := by
  simp only [State.requestIntra]
  split
  · exact incR_legs s _ _
  · exact onFold_legs s _ _

theorem viewerMiss_legs (s : State) (l : Nat) (seqs : List Nat) : (s.viewerMiss l seqs).legs = s.legs :=
  each_keeps State.legs (fun w _ => requestIntra_legs w _ _ _ _) _ s

/-- Looking up one NACK item counts it as a request or a miss, and leaves the count of items asked for. -/
theorem nackOne_asked (s : State) (l e x tick : Nat) (poisoned acc : List Nat) (q : Nat) :
    (s.nackOne l e x tick poisoned acc q).1.rxCtrOf l 8 = s.rxCtrOf l 8 := by
  simp only [State.nackOne]
  split
  · rfl
  · split
    · exact rxCount_rxCtrOf_ne (by decide) s l 1
    · exact (rxCount_rxCtrOf_ne (by decide) _ l 1).trans (rxCtrOf_of_legs (onStream_legs s _ _) l 8)

/-- The items of a NACK for entry `e` looked up in turn: the state, and the items missed (R98). -/
def State.nackItems (s : State) (l e tick : Nat) (poisoned seqs : List Nat) : State × List Nat :=
  match s.rtxEntry l e with
  | some x => seqs.foldl (fun (acc : State × List Nat) q => acc.1.nackOne l e x tick poisoned acc.2 q) (s, [])
  | none => (s.rxCount l 9 seqs.length, seqs)

theorem foldl_nackOne_asked (l e x tick : Nat) (poisoned seqs : List Nat) (acc : State × List Nat) :
    (seqs.foldl (fun (acc : State × List Nat) q => acc.1.nackOne l e x tick poisoned acc.2 q) acc).1.rxCtrOf l 8 =
      acc.1.rxCtrOf l 8 := by
  induction seqs generalizing acc with
  | nil => rfl
  | cons q seqs ih => rw [List.foldl_cons, ih, nackOne_asked]

theorem nackItems_asked (s : State) (l e tick : Nat) (poisoned seqs : List Nat) :
    (s.nackItems l e tick poisoned seqs).1.rxCtrOf l 8 = s.rxCtrOf l 8 := by
  unfold State.nackItems
  split
  · exact foldl_nackOne_asked l e _ tick poisoned seqs (s, [])
  · exact rxCount_rxCtrOf_ne (by decide) s l _

/-- What RTCP_NACK does once the items asked for are counted (R98, R338). -/
def State.answerNack (s : State) (l ssrc tick : Nat) (poisoned seqs : List Nat) : State :=
  match s.outboundEntry l ssrc with
  | none => s.rxCount l 9 seqs.length
  | some e =>
    let found := s.nackItems l e tick poisoned seqs
    if (found.1.leg l).desc.videoMode = 2 then found.1.viewerMiss l found.2 else found.1

theorem rtcpNack_taken {ssrc : Nat} {seqs : List Nat} (h : s.TakesPart RtcpBody.isNack i v) (hbody : i.body = .nack ssrc seqs)
    (poisoned : List Nat) :
    rtcpNack poisoned s =
      ((v.rxCount i.leg 8 seqs.length).nackCandidate i.leg seqs).answerNack i.leg ssrc i.tick poisoned seqs := by
  refine (takeRtcp_taken h _).trans ?_
  simp only [hbody]
  rfl

theorem answerNack_asked (s : State) (l ssrc tick : Nat) (poisoned seqs : List Nat) :
    (s.answerNack l ssrc tick poisoned seqs).rxCtrOf l 8 = s.rxCtrOf l 8 := by
  simp only [State.answerNack]
  split
  · exact rxCount_rxCtrOf_ne (by decide) s l _
  · rename_i e _
    have hitems := nackItems_asked s l e tick poisoned seqs
    split
    · exact (rxCtrOf_of_legs (viewerMiss_legs _ _ _) l 8).trans hitems
    · exact hitems

/-- RTCP_NACK counts the items asked for, whatever the history holds (R98, R110). -/
theorem rtcpNack_asked {ssrc : Nat} {seqs : List Nat} (h : s.TakesPart RtcpBody.isNack i v) (hbody : i.body = .nack ssrc seqs)
    (poisoned : List Nat) : (rtcpNack poisoned s).rxCtrOf i.leg 8 = (v.rxCtrOf i.leg 8 + seqs.length) % 2 ^ 32 := by
  rw [rtcpNack_taken h hbody, answerNack_asked, rxCtrOf_of_legs (nackCandidate_legs _ _ _), rxCount_rxCtrOf_self]

/-! ### Transport feedback (R347) -/

theorem feedback_lastFeedback (s : State) (l : Nat) (items : List FbItem) :
    ((s.feedback l items).leg l).adapt.lastFeedback = s.now := by
  unfold State.feedback
  rw [onLeg_self]

theorem ackCandidate_legs (s : State) (l q : Nat) : (s.ackCandidate l q).legs = s.legs := onLc_legs s _ _

theorem rtcpTransportFeedback_lastFeedback {items : List FbItem} (h : s.TakesPart RtcpBody.isFeedback i v)
    (hbody : i.body = .feedback items) : ((rtcpTransportFeedback s).leg i.leg).adapt.lastFeedback = v.now := by
  rw [rtcpTransportFeedback, takeRtcp_taken (by exact h)]
  simp only [hbody]
  rw [State.leg, each_keeps State.legs (fun w q => ackCandidate_legs w _ q)]
  exact feedback_lastFeedback v i.leg items

end Parts

end Sys2Proof.Machine

open Sys2Proof Sys2Proof.Machine

/-- Settles O9: each command opens the SRTCP packets in line (notes/assumptions 16) and serves the first part of its kind; what
comes after a BYE's mark, a NACK's count or a feedback's tick leaves it alone. -/
theorem rtcpPartsAreServed : Obligations.RtcpPartsAreServed := by
  intro s u v i hu hv
  subst hu
  refine ⟨fun ssrc lsr ts wall reports e hfound hbody hentry => ?_, fun ssrc reports hfound hbody => ?_, fun ssrcs hfound hbody => ?_,
    fun bad ssrc seqs hfound hbody => ?_, fun ssrc e hfound hbody hentry => ?_, fun ssrc n e hfound hbody hentry => ?_,
    fun items hfound hbody => ?_, fun hfound => ?_⟩
  · exact congrArg (finish s) (rtcpSr_taken ⟨hfound, hv⟩ hbody hentry)
  · exact congrArg (finish s) (rtcpRr_taken ⟨hfound, hv⟩ hbody)
  · refine ⟨_, finish_after s _, fun x hx e hentry => ?_⟩
    rw [State.stream, after_streams, rtcpBye_taken ⟨hfound, hv⟩ hbody]
    exact each_endStream_ended hx hentry
  · refine ⟨_, finish_after s _, ?_⟩
    rw [State.leg, after_legs]
    exact rtcpNack_asked ⟨hfound, hv⟩ hbody bad
  · exact congrArg (finish s) (rtcpPli_taken ⟨hfound, hv⟩ hbody hentry)
  · exact congrArg (finish s) (rtcpFir_taken ⟨hfound, hv⟩ hbody hentry)
  · refine ⟨_, finish_after s _, ?_⟩
    rw [State.leg, after_legs]
    exact rtcpTransportFeedback_lastFeedback ⟨hfound, hv⟩ hbody
  · refine ⟨_, finish_after s _, ?_⟩
    rw [after_net, rtcpIgnored_taken ⟨hfound, hv⟩, hv]
    exact ⟨rfl, rfl⟩
end

section
/-!
PROOFS. SRTP keys: the way of a blob from its load to its slot, the key-encryption keys, and a pipeline that is fenced.
-/

namespace Sys2Proof.Machine

/-! ### What the end of a command and a request's arrival keep -/

theorem after_cip (s t : State) : (s.after t).cip = t.cip := by simp only [State.after, showStatus_cip]

theorem after_tly (s t : State) : (s.after t).tly = t.tly := by simp only [State.after, showStatus_tly]

theorem after_slot (s t : State) (n : Nat) : (s.after t).slot n = t.slot n := by rw [State.slot, after_cip, State.slot]

theorem after_storedGen (s t : State) (n : Nat) : (s.after t).storedGen n = t.storedGen n := by
  rw [State.storedGen, after_tly, State.storedGen]

theorem taken_cip (s : State) (m : Msg) (typ : Nat) : (s.taken m typ).cip = s.cip := by
  unfold State.taken State.arrival
  split <;> rfl

/-- The registers that the end of every command brings up to date (notes/assumptions 9). -/
def statusRegs : List Nat :=
  [Reg.DEV_TICK_NUMBER, Reg.DEV_TICK_NUMBER + 1, Reg.DEV_TICK_STATUS, Reg.TIME_TB_STATUS, Reg.TWN_PAIR_STATUS, Reg.TWN_EPOCH,
    Reg.MGT_TALLY_SEQ]

theorem after_getR_ne {d : Nat} (h : d ∉ statusRegs) (s t : State) : (s.after t).getR d = t.getR d := by
  simp only [statusRegs, List.mem_cons, List.not_mem_nil, or_false, not_or] at h
  obtain ⟨htick, htick', hsecond, hgrid, hpair, hepoch, hrecord⟩ := h
  simp only [State.after, getR_pending, State.showStatus, getR_setR_ne hrecord, getR_setR_ne hepoch, getR_setF_ne hpair,
    getR_setF_ne hgrid, getR_setF_ne hsecond, getR_setR64_ne htick htick']

/-! ### Replies leave the stored generations alone (R124) -/

theorem raiseOnce_tly (s : State) (code subject period : Nat) (detail : List (Nat × Nat)) :
    (s.raiseOnce code subject period detail).tly = s.tly := by
  unfold State.raiseOnce
  simp only [apply_ite State.tly, (State.KeepsFrame.raise _ _ _ _).rest.tly, ite_self]

theorem ringPut_tly (s : State) (r bytes : Nat) (it : RingItem) : (s.ringPut r bytes it).tly = s.tly := by
  unfold State.ringPut
  split
  · rfl
  · exact incR_tly s (Reg.DEV_RING_TAIL r) (s.ringSlots r bytes)

theorem ringDrop_tly (s : State) (r : Nat) : (s.ringDrop r).tly = s.tly := by
  unfold State.ringDrop
  split
  · rfl
  · rw [raiseOnce_tly, incR_tly]

theorem tallyCommit_gens (s : State) (typ key bytes : Nat) (payload : List (Nat × Nat)) (live : Bool) :
    (s.tallyCommit typ key bytes payload live).tly.gens = s.tly.gens := by
  simp only [State.tallyCommit, setF_tly, setR64_tly, setR_tly]

theorem svcSend_gens (s : State) (key : Nat) (slot : Option Nat) (body : SvcBody) :
    (s.svcSend key slot body).tly.gens = s.tly.gens := by
  simp only [State.svcSend, incR_tly, apply_ite State.tly, apply_ite TallySt.gens, tallyCommit_gens, ite_self]

theorem sendReplyNow_gens (s : State) (r : Reply) : (s.sendReplyNow r).tly.gens = s.tly.gens := by
  unfold State.sendReplyNow
  split
  · simp only [apply_ite State.tly, ringPut_tly, ringDrop_tly, ite_self]
  · exact svcSend_gens _ _ _ _

theorem sendAusOn_tly (s : State) (b typ tick len : Nat) (body : List Nat) : (s.sendAusOn b typ tick len body).tly = s.tly := by
  simp only [State.sendAusOn, apply_ite State.tly, incR64_tly, ite_self]

theorem sendAus_tly (s : State) (typ tick len : Nat) (body : List Nat) : (s.sendAus typ tick len body).tly = s.tly := by
  unfold State.sendAus
  split
  · rfl
  · simp only [apply_ite State.tly, sendAusOn_tly, ite_self]

theorem reply_gens (s : State) (dst : ReplyTo) (status : Nat) (pay : RPay) : (s.reply dst status pay).tly.gens = s.tly.gens := by
  unfold State.reply State.sendReply
  split
  · exact congrArg TallySt.gens (sendAus_tly _ _ _ _ _)
  · exact sendReplyNow_gens s _

/-! ### Key blobs (R123 to R126) -/

/-- The key that a blob which passes its checks installs. -/
def Blob.slotKey (b : Blob) : SlotKey :=
  { suite := b.record.suite, kek := b.kek, keyId := keyName b.record, activate := b.record.activate
    activateRtcp := b.record.activateRtcp, maxIndex := b.record.maxIndex, maxRtcp := b.record.maxRtcp
    expire := b.record.expire, generation := b.record.generation }

/-- The oldest blob is taken off those waiting, which leaves `rest`, and counts among those processed in the tick (R125). -/
def State.nextBlob (s : State) (rest : List BlobWait) : State :=
  { s with cip := { s.cip with waiting := rest, blobsTick := s.cip.blobsTick + 1 } }

/-- A key load is answered where it asks for a reply. -/
def State.answerLoad (s : State) (dst : Option ReplyTo) (status : Nat) (pay : RPay := .none) : State :=
  match dst with
  | some rto => s.reply rto status pay
  | none => s

theorem answerLoad_cip (s : State) (dst : Option ReplyTo) (status : Nat) (pay : RPay) : (s.answerLoad dst status pay).cip = s.cip := by
  cases dst with
  | none => rfl
  | some rto => exact reply_cip s rto status pay

theorem answerLoad_gens (s : State) (dst : Option ReplyTo) (status : Nat) (pay : RPay) :
    (s.answerLoad dst status pay).tly.gens = s.tly.gens := by
  cases dst with
  | none => rfl
  | some rto => exact reply_gens s rto status pay

theorem execKeyLoad_served {s : State} {m : Msg} {b : Blob} (hserves : s.serves m 0x010E .both = true)
    (hauth : s.authority (s.leg m.target).desc.fold = true) (hroom : s.cip.waiting.length < 4096) :
    execKeyLoad m b s = .next (s.after { s.taken m 0x010E with cip := { s.cip with
      waiting := s.cip.waiting ++ [{ blob := b, target := m.target, reply := some (s.replyTo m 0x010E) }] } }) := by
  simp only [execKeyLoad, finish_after, request_served hserves, taken_leg, taken_authority, taken_cip, hauth,
    Nat.not_le.mpr hroom, Bool.not_true, Bool.false_eq_true, if_false]

section Blobs

variable {s : State} {w : BlobWait} {rest : List BlobWait} (hup : s.boot.warmRun = false) (hroom : s.cip.blobsTick < 512)
  (hwait : s.cip.waiting = w :: rest)
include hup hroom hwait

/-- A blob that passes every check starts the drain of its slot, unless the slot drains already (R123, R138). -/
theorem blobProcess_passed (hcheck : s.blobCheck w.blob w.target = 0) (hdrain : (s.slot w.blob.record.slot).draining = false) :
    blobProcess s = (s.nextBlob rest).drainSlot w.blob.record.slot (some w.blob.slotKey) w.reply := by
  simp only [blobProcess, hup, hwait, hcheck, hdrain, Nat.not_le.mpr hroom, decide_false, Bool.or_self, Bool.and_false,
    Bool.false_eq_true, if_false, if_true]
  rfl

/-- A blob that fails a check is counted under it, and its load answered REFUSED (R123, R126). -/
theorem blobProcess_failed (hcheck : s.blobCheck w.blob w.target ≠ 0) :
    blobProcess s = ((s.nextBlob rest).incR (Reg.CIP_KS_RESULT (s.blobCheck w.blob w.target))).answerLoad w.reply stRefused
      (.reason (s.blobCheck w.blob w.target)) := by
  simp only [blobProcess, hup, hwait, hcheck, Nat.not_le.mpr hroom, decide_false, Bool.or_self, Bool.false_and,
    Bool.false_eq_true, if_false]
  rfl

end Blobs

theorem drainSlot_slot (s : State) (n : Nat) (key : Option SlotKey) (dst : Option ReplyTo) (nx : Option Nat) :
    (s.drainSlot n key dst nx).slot n = { s.slot n with draining := true, install := key, reply := dst, promoteFrom := nx } :=
  onSlot_self s n _

/-! ### The end of a drain (R124, R138) -/

/-- A slot in which key `x` is installed, not yet used. -/
def SlotKey.installed (x : SlotKey) : KeySlot :=
  { valid := true, suite := x.suite, kek := x.kek, keyId := x.keyId, activate := x.activate, activateRtcp := x.activateRtcp
    maxIndex := x.maxIndex, maxRtcp := x.maxRtcp, expire := x.expire, generation := x.generation }

theorem storeGen_cip (s : State) (n g : Nat) : (s.storeGen n g).cip = s.cip := by
  simp only [State.storeGen, tallyCommit_cip]

theorem storeGen_gens (s : State) (n g : Nat) : (s.storeGen n g).tly.gens = tset 0 s.tly.gens n g := by
  simp only [State.storeGen, tallyCommit_gens]

section Drain

variable {s : State} {n : Nat} (hdrain : (s.slot n).draining = true)
include hdrain

/-- The end of an erase zeroises the slot. -/
theorem endDrain_erase (hinstall : (s.slot n).install = none) : s.endDrain n = s.onSlot n (fun _ => {}) := by
  simp only [State.endDrain, hdrain, hinstall, Bool.not_true, Bool.false_eq_true, if_false]

variable {x : SlotKey} (hinstall : (s.slot n).install = some x) (hload : (s.slot n).promoteFrom = none)
include hinstall hload

/-- The end of a rewrite by a load installs the key, stores its generation and answers the load. -/
theorem endDrain_load : s.endDrain n =
    (((s.onSlot n (fun _ => x.installed)).storeGen n x.generation).incR (Reg.CIP_KS_RESULT 0)).answerLoad (s.slot n).reply stOK := by
  simp only [State.endDrain, hdrain, hinstall, hload, Bool.not_true, Bool.false_eq_true, if_false]
  rfl

theorem endDrain_load_slot : (s.endDrain n).slot n = x.installed := by
  rw [endDrain_load hdrain hinstall hload, State.slot, answerLoad_cip, incR_cip, storeGen_cip]
  exact onSlot_self s n _

theorem endDrain_load_storedGen : (s.endDrain n).storedGen n = x.generation := by
  rw [endDrain_load hdrain hinstall hload, State.storedGen, answerLoad_gens, incR_tly, storeGen_gens, tget_tset_self]

end Drain

/-! ### A pipeline fenced (R143, R144) -/

/-- Pipeline `p` shown fenced and empty, with a recount asked of the accountant. -/
def State.pipeOut (s : State) (p : Nat) : State :=
  let s := s.setF (Reg.CIP_PIPE_STATUS p) 0 0 1
  { s with cip := { s.cip with pipeBlocks := tdel p s.cip.pipeBlocks }, adm := { s.adm with recount := true } }

theorem pipeFence_inService {s : State} {p : Nat} (hp : p < 16) (hin : s.pipeFenced p = false) :
    pipeFence p s = (s.pipeOut p).raise fltKatFail (subjInst 4 p) := by
  simp only [pipeFence, hin, Nat.not_le.mpr hp, decide_false, Bool.or_self, Bool.false_eq_true, if_false]
  rfl

theorem pipeOut_pipeFenced (s : State) (p : Nat) : (s.pipeOut p).pipeFenced p = true :=
  decide_eq_true (getF_setF_self s _ 0 0 1 le_rfl (by decide))

/-- Neither a report nor the end of a command writes a pipeline's status. -/
theorem pipeStatus_plain : ∀ p < 16, reportReg (Reg.CIP_PIPE_STATUS p) = false ∧ Reg.CIP_PIPE_STATUS p ∉ statusRegs := by decide

theorem after_raise_pipeFenced {p : Nat} (hp : p < 16) (s t : State) (code subject : Nat) (detail : List (Nat × Nat)) :
    (s.after (t.raise code subject detail)).pipeFenced p = t.pipeFenced p := by
  obtain ⟨hreport, hstatus⟩ := pipeStatus_plain p hp
  rw [State.pipeFenced, State.getF, after_getR_ne hstatus, raise_getR hreport]
  rfl

/-! ### The key-encryption keys (R128 to R130, R151) -/

section Keks

variable {s : State} {m : Msg} (hpos : m.target < 4)
include hpos

section Provision

variable (hserves : s.serves m 0x0305 .bothMaint = true) (key : BitVec 256)
include hserves

theorem execKekProvision_unwritten (hkek : (tget {} s.cip.keks m.target).written = false) :
    execKekProvision m key s = .next (s.after
      (((({ s.taken m 0x0305 with cip := { s.cip with keks := tset {} s.cip.keks m.target { written := true, key := key } } } :
        State).setF (Reg.CIP_KEK_STATUS m.target) 0 0 1).setF (Reg.CIP_KEK_STATUS m.target) 31 8 (Config.keyCheck key).toNat).reply
          (s.replyTo m 0x0305) stOK)) := by
  simp only [execKekProvision, finish_after, request_served hserves, taken_cip, Nat.not_le.mpr hpos, hkek, Bool.false_eq_true, if_false]

theorem execKekProvision_written (hkek : (tget {} s.cip.keks m.target).written = true) :
    execKekProvision m key s = .next (s.after ((s.taken m 0x0305).reply (s.replyTo m 0x0305) stInvalid)) := by
  simp only [execKekProvision, finish_after, request_served hserves, taken_cip, Nat.not_le.mpr hpos, hkek, if_false, if_true]

end Provision

section Revoke

variable (hserves : s.serves m 0x0306 .bothMaint = true)
include hserves

theorem execKekRevoke_standing {k : KekPos} (hk : k = tget {} s.cip.keks m.target) (hwritten : k.written = true)
    (hrevoked : k.revoked = false) :
    execKekRevoke m s = .next (s.after
      ((({ s.taken m 0x0306 with cip := { s.cip with keks := tset {} s.cip.keks m.target { k with revoked := true } } } :
        State).setF (Reg.CIP_KEK_STATUS m.target) 1 1 1).reply (s.replyTo m 0x0306) stOK)) := by
  subst hk
  simp only [execKekRevoke, finish_after, request_served hserves, taken_cip, Nat.not_le.mpr hpos, hwritten, hrevoked, Bool.not_true,
    Bool.or_self, Bool.false_eq_true, if_false]

theorem execKekRevoke_refused (hkek : (tget {} s.cip.keks m.target).written = false ∨ (tget {} s.cip.keks m.target).revoked = true) :
    execKekRevoke m s = .next (s.after ((s.taken m 0x0306).reply (s.replyTo m 0x0306) stInvalid)) := by
  have hno : (!(tget {} s.cip.keks m.target).written || (tget {} s.cip.keks m.target).revoked) = true := by
    rw [Bool.or_eq_true, Bool.not_eq_true']
    exact hkek
  simp only [execKekRevoke, finish_after, request_served hserves, taken_cip, Nat.not_le.mpr hpos, hno, if_false, if_true]

end Revoke

end Keks

end Sys2Proof.Machine

open Sys2Proof Sys2Proof.Machine

/-- Settles O11: a load's blob waits, its check (notes/assumptions 33) picks a drain or a refusal, the drain's end installs or zeroises, and
no reply or report after that writes a slot, a stored generation or a pipeline's status. -/
theorem keysLoadAndInstall : Obligations.KeysLoadAndInstall := by
  intro s
  refine ⟨fun m b hserves hauth hroom => ⟨_, execKeyLoad_served hserves hauth hroom, ?_⟩,
    fun w rest hup hroom hwait => ⟨fun hcheck hdrain => ⟨_, finish_after s _, ?_⟩, fun to_ hcheck hreply => ?_⟩,
    fun n hdrain hinstall => congrArg (finish s) (endDrain_erase hdrain hinstall),
    fun n x hdrain hinstall hload => ⟨_, finish_after s _, ?_⟩, fun p hp hin => ⟨_, finish_after s _, ?_⟩⟩
  · rw [after_cip]
  · rw [after_slot, after_cip, blobProcess_passed hup hroom hwait hcheck hdrain, drainSlot_slot]
    exact ⟨rfl, rfl, rfl, rfl⟩
  · refine (congrArg (finish s) (blobProcess_failed hup hroom hwait hcheck)).trans ?_
    rw [hreply]
    rfl
  · rw [after_slot, after_storedGen, endDrain_load_slot hdrain hinstall hload, endDrain_load_storedGen hdrain hinstall hload]
    exact ⟨rfl, rfl, rfl, rfl, rfl⟩
  · rw [pipeFence_inService hp hin, after_raise_pipeFenced hp, after_cip, after_adm, raise_cip, raise_adm]
    exact ⟨pipeOut_pipeFenced s p, tfind_tdel_self p _, rfl⟩

/-- Settles O12: each command asks first whether the position is written, and KEK_REVOKE whether it is revoked already. -/
theorem keksAreWrittenOnce : Obligations.KeksAreWrittenOnce := by
  intro m key s hpos
  exact ⟨fun hserves => ⟨execKekProvision_unwritten hpos hserves key, execKekProvision_written hpos hserves key⟩,
    fun hserves => ⟨fun k => execKekRevoke_standing hpos hserves, execKekRevoke_refused hpos hserves⟩⟩
end

section
/-!
PROOFS. BELLWETHER_TICK: whatever its scores decide, a revision leaves the members that stay, and perhaps one candidate more.
-/

namespace Sys2Proof.Machine

theorem after_fold (s t : State) (f : Nat) : (s.after t).fold f = t.fold f := by
  simp only [State.fold, State.after, showStatus_folds]

/-! ### What a revision of the list keeps: all that candidacy rests on (R162) -/

/-- State, descriptor and mute flag of a leg. -/
def LegRt.standing (g : LegRt) : LegState × LegDesc × Bool := (g.state, g.desc, g.aud.muted)

/-- The folds, the streams, the time, and what each leg's candidacy rests on. -/
structure Standing where
  folds : Tbl FoldRt
  streams : Tbl StreamRt
  tim : TimSt
  leg : Nat → LegState × LegDesc × Bool

/-- The standing of a state. -/
def State.standing (s : State) : Standing :=
  { folds := s.folds, streams := s.streams, tim := s.tim, leg := fun l => (s.leg l).standing }

section Standing

variable {s t : State}

theorem fold_of_standing (h : t.standing = s.standing) (f : Nat) : t.fold f = s.fold f := by
  rw [State.fold, show t.folds = s.folds from congrArg Standing.folds h, State.fold]

theorem now_of_standing (h : t.standing = s.standing) : t.now = s.now := by
  rw [State.now, show t.tim = s.tim from congrArg Standing.tim h, State.now]

theorem candidateLeg_of_standing (h : t.standing = s.standing) : t.candidateLeg = s.candidateLeg := by
  funext l
  have hstreams : t.streams = s.streams := congrArg Standing.streams h
  have hleg : (t.leg l).standing = (s.leg l).standing := congrFun (congrArg Standing.leg h) l
  simp only [LegRt.standing, Prod.mk.injEq] at hleg
  obtain ⟨hstate, hdesc, hmuted⟩ := hleg
  simp only [State.candidateLeg, State.audioIn, State.entries, State.stream, hstreams, hstate, hdesc, hmuted]
  rfl

end Standing

/-- A change of a leg that keeps its own standing keeps that of the state. -/
theorem onLeg_standing {f : LegRt → LegRt} (hf : ∀ g, (f g).standing = g.standing) (s : State) (l : Nat) :
    (s.onLeg l f).standing = s.standing := by
  have hleg : ∀ j, ((s.onLeg l f).leg j).standing = (s.leg j).standing := by
    intro j
    by_cases hj : j = l
    · rw [hj, onLeg_self, hf]
    · rw [onLeg_ne s l f j hj]
  simp only [State.standing, onLeg_folds, onLeg_streams, onLeg_tim, hleg]

theorem onLeg_ite_standing {c : Prop} [Decidable c] {f g : LegRt → LegRt} (hf : ∀ x, (f x).standing = x.standing)
    (hg : ∀ x, (g x).standing = x.standing) (s : State) (l : Nat) :
    (if c then s.onLeg l f else s.onLeg l g).standing = s.standing := by
  split
  · exact onLeg_standing hf s l
  · exact onLeg_standing hg s l

theorem incR64_standing (s : State) (d n : Nat) : (s.incR64 d n).standing = s.standing := by
  simp only [State.standing, State.leg, incR64_folds, incR64_streams, incR64_tim, incR64_legs]

theorem updateScores_standing (s : State) (f : Nat) : (s.updateScores f).standing = s.standing :=
  each_keeps State.standing (fun w l => onLeg_ite_standing (fun _ => by rfl) (fun _ => by rfl) w l) _ s

theorem leaveList_standing (s : State) (l : Nat) : (s.leaveList l).standing = s.standing := onLeg_standing (fun _ => by rfl) s l

theorem joinList_standing (s : State) (f l : Nat) : (s.joinList f l).standing = s.standing :=
  (incR64_standing _ _ _).trans (onLeg_standing (fun _ => by rfl) s l)

theorem chooseLead_standing (s : State) (f : Nat) (ms : List Nat) : (s.chooseLead f ms).1.standing = s.standing := by
  unfold State.chooseLead
  dsimp only
  split
  · split
    · split
      · exact (each_keeps State.standing (fun w l => onLeg_standing (fun _ => by rfl) w l) ms _).trans
          (each_keeps State.standing (fun w l => onLeg_ite_standing (fun _ => by rfl) (fun _ => by rfl) w l) ms s)
      · exact each_keeps State.standing (fun w l => onLeg_ite_standing (fun _ => by rfl) (fun _ => by rfl) w l) ms s
    · rfl
  · rfl

/-! ### Ranking (R166) -/

theorem mem_rankIns {s : State} {l x : Nat} {ls : List Nat} : x ∈ s.rankIns l ls ↔ x = l ∨ x ∈ ls := by
  induction ls with
  | nil => simp only [State.rankIns, List.mem_cons, List.not_mem_nil, or_false]
  | cons y ys ih =>
    unfold State.rankIns
    split
    · exact List.mem_cons
    · rw [List.mem_cons, ih, List.mem_cons, or_left_comm]

theorem mem_rankSort {s : State} {x : Nat} {ls : List Nat} : x ∈ s.rankSort ls ↔ x ∈ ls := by
  have hacc : ∀ (ls acc : List Nat), x ∈ ls.foldl (fun acc l => s.rankIns l acc) acc ↔ x ∈ ls ∨ x ∈ acc := by
    intro ls
    induction ls with
    | nil => intro acc; simp only [List.foldl_nil, List.not_mem_nil, false_or]
    | cons l ls ih => intro acc; rw [List.foldl_cons, ih, mem_rankIns, List.mem_cons, or_left_comm, or_assoc]
  rw [State.rankSort, hacc, or_iff_left List.not_mem_nil]

theorem weakest_of_ne_nil {s : State} {ms : List Nat} (h : ms ≠ []) : ∃ w, s.weakest ms = some w ∧ w ∈ ms := by
  obtain ⟨x, hx⟩ := List.exists_mem_of_ne_nil ms h
  have hne : s.rankSort ms ≠ [] := List.ne_nil_of_mem (mem_rankSort.mpr hx)
  exact ⟨_, List.getLast?_eq_some_getLast hne, mem_rankSort.mp (List.getLast_mem hne)⟩

theorem candidateLeg_of_mem_ranking {s : State} {f l : Nat} (h : l ∈ s.ranking f) : s.candidateLeg l = true :=
  (List.mem_filter.mp (mem_rankSort.mp h)).2

/-- The lead is a member (R169). -/
theorem chooseLead_mem {s : State} {f x : Nat} {ms : List Nat} (h : (s.chooseLead f ms).2 = some x) : x ∈ ms := by
  unfold State.chooseLead at h
  dsimp only at h
  split at h
  · split at h
    · rename_i hmem
      split at h
      · rename_i hfind
        cases h
        exact mem_rankSort.mp (List.mem_of_find?_eq_some hfind)
      · cases h
        exact List.contains_iff_mem.mp hmem
    · exact mem_rankSort.mp (List.mem_of_mem_head? h)
  · exact mem_rankSort.mp (List.mem_of_mem_head? h)

/-! ### What BELLWETHER_TICK makes of the list (R166 to R168) -/

/-- The members that stay: those among the strongest K of the members that are candidates yet (R168). -/
def State.stayers (s : State) (f : Nat) : List Nat :=
  (s.fold f).list.filter (fun l =>
    (s.trimList (s.fold f).desc.k ((s.fold f).list.filter s.candidateLeg)).contains l)

theorem candidateLeg_of_mem_stayers {s : State} {f l : Nat} (h : l ∈ s.stayers f) : s.candidateLeg l = true := by
  have hkept := List.contains_iff_mem.mp (List.mem_filter.mp h).2
  exact (List.mem_filter.mp (mem_rankSort.mp (List.mem_of_mem_take hkept))).2

theorem stayers_length {s : State} {f : Nat} (h : (s.fold f).list.Nodup) : (s.stayers f).length ≤ (s.fold f).desc.k :=
  ((h.filter _).subperm fun _ hl => List.contains_iff_mem.mp (List.mem_filter.mp hl).2).length_le.trans (List.length_take_le _ _)

theorem FoldDesc.k_pos (d : FoldDesc) : 0 < d.k := by
  unfold FoldDesc.k
  split <;> omega

/-- The lists that a revision can leave once scores are brought up to date: the members that stay alone, with a candidate on a free
place, or with a candidate in the place of a member (R167). -/
inductive State.Revises (s : State) (f : Nat) : List Nat → Prop
  | stay : Revises s f (s.stayers f)
  | join {c : Nat} (hc : s.candidateLeg c = true) (hfree : (s.stayers f).length < (s.fold f).desc.k) : Revises s f (s.stayers f ++ [c])
  | swap {c w : Nat} (hc : s.candidateLeg c = true) (hw : w ∈ s.stayers f) :
      Revises s f ((s.stayers f).filter (fun l => some l != some w) ++ [c])

section Revises

variable {s : State} {f : Nat} {ms : List Nat}

theorem State.Revises.candidates (h : s.Revises f ms) {l : Nat} (hl : l ∈ ms) : s.candidateLeg l = true := by
  cases h with
  | stay => exact candidateLeg_of_mem_stayers hl
  | join hc _ =>
    rcases List.mem_append.mp hl with hl | hl
    · exact candidateLeg_of_mem_stayers hl
    · exact List.mem_singleton.mp hl ▸ hc
  | swap hc _ =>
    rcases List.mem_append.mp hl with hl | hl
    · exact candidateLeg_of_mem_stayers (List.mem_filter.mp hl).1
    · exact List.mem_singleton.mp hl ▸ hc

theorem State.Revises.length_le (h : s.Revises f ms) (hnodup : (s.fold f).list.Nodup) : ms.length ≤ (s.fold f).desc.k := by
  have hstay := stayers_length hnodup
  cases h with
  | stay => exact hstay
  | join _ hfree =>
    rw [List.length_append, List.length_singleton]
    exact hfree
  | @swap _ w _ hw =>
    have hout : ((s.stayers f).filter (fun l => some l != some w)).length < (s.stayers f).length :=
      List.length_filter_lt_length_iff_exists.mpr ⟨_, hw, by simp⟩
    rw [List.length_append, List.length_singleton]
    omega

end Revises

/-- A revision leaves one of these lists, and drafts the record of its tick with the lead chosen from it (R169, R170). -/
theorem bellwetherTick_revises (f : Nat) (s : State) : ∃ (u : State) (r : FoldRt), (bellwetherTick f s).fold f = r ∧
    (s.updateScores f).Revises f r.list ∧ r.lead = (u.chooseLead f r.list).2 ∧ r.draft.tick = s.now ∧ r.draft.lead = r.lead := by
  generalize ht : bellwetherTick f s = t
  unfold bellwetherTick at ht
  extract_lets s1 r a k eligible kept s2 ms ranking full w wScore others s3 joins at ht
  have hs2 : s2.standing = s1.standing := each_keeps State.standing leaveList_standing _ s1
  have hs3 : s3.standing = s.standing :=
    (each_keeps State.standing (fun w l => onLeg_standing (fun _ => by rfl) w l) others s2).trans
      (hs2.trans (updateScores_standing s f))
  have hjoins : ∀ c, joins = some c → s1.candidateLeg c = true := fun c hc => by
    rw [← candidateLeg_of_standing hs2]
    exact candidateLeg_of_mem_ranking (List.mem_filter.mp (List.mem_of_find?_eq_some hc)).1
  have hfull : full = true → ∃ x, w = some x ∧ x ∈ ms := fun hfull =>
    weakest_of_ne_nil (List.ne_nil_of_length_pos ((FoldDesc.k_pos _).trans_le (of_decide_eq_true hfull)))
  have hfree : full = false → ms.length < k := fun hfull => Nat.lt_of_not_le (of_decide_eq_false hfull)
  clear_value joins full
  split at ht
  rename_i ms' u hseat
  obtain ⟨hrev, hu⟩ : s1.Revises f ms' ∧ u.standing = s.standing := by
    cases joins with
    | none =>
      cases hseat
      exact ⟨.stay, hs3⟩
    | some c =>
      have hc := hjoins c rfl
      cases full with
      | false =>
        cases hseat
        exact ⟨.join hc (hfree rfl), (joinList_standing s3 f c).trans hs3⟩
      | true =>
        obtain ⟨x, hx, hmem⟩ := hfull rfl
        simp only [hx, if_true, Option.elim_some] at hseat
        cases hseat
        exact ⟨.swap hc hmem, (joinList_standing _ f c).trans ((leaveList_standing s3 x).trans hs3)⟩
  have hmade : (u.chooseLead f ms').1.now = s.now := now_of_standing ((chooseLead_standing u f ms').trans hu)
  refine ⟨u, _, rfl, ?_⟩
  rw [← ht, onFold_self]
  exact ⟨hrev, rfl, hmade, rfl⟩

end Sys2Proof.Machine

open Sys2Proof Sys2Proof.Machine

/-- Settles O13: the list is one that a revision can leave (`State.Revises`), the lead is chosen among its members, and nothing in
the command changes what candidacy rests on. -/
theorem bellwetherListHoldsCandidates : Obligations.BellwetherListHoldsCandidates := by
  intro f s
  obtain ⟨u, _, rfl, hrev, hlead, htick, hdraft⟩ := bellwetherTick_revises f s
  have hscores := updateScores_standing s f
  have hfold := fold_of_standing hscores f
  refine ⟨_, finish_after s _, ?_⟩
  rw [after_fold]
  refine ⟨fun l hl => ?_, fun hnodup => ?_, fun x hx => ?_, htick, hdraft⟩
  · rw [← candidateLeg_of_standing hscores]
    exact hrev.candidates hl
  · rw [← hfold]
    exact hrev.length_le (hfold ▸ hnodup)
  · exact chooseLead_mem (hlead ▸ hx)
end

section
/-!
PROOFS. A tick of audio: AUDIO_DECODE, AUDIO_MIX, and the encoders away from the end of a frame.
-/

namespace Sys2Proof.Machine

/-! ### A fault raised is waiting (R676 to R680) -/

theorem faulted_congr {s t : State} (hflt : t.flt = s.flt) (hboot : t.boot = s.boot) (code subject : Nat) :
    t.faulted code subject = s.faulted code subject := by
  simp only [State.faulted, hflt, hboot]

theorem queueFault_faulted (s : State) (f : RaisedFault) : (s.queueFault f).faulted f.code f.subject = true := by
  refine Bool.or_eq_true_iff.mpr (.inl ?_)
  unfold State.queueFault
  dsimp only
  split
  · rename_i hany
    obtain ⟨g, hg, hsame⟩ := List.any_eq_true.mp hany
    rw [List.any_map, List.any_eq_true]
    refine ⟨g, hg, ?_⟩
    rw [Function.comp_apply, if_pos hsame]
    exact (Bool.and_eq_true_iff.mp hsame).1
  · simp only [List.any_append, List.any_cons, decide_true, Bool.and_self, Bool.true_or, Bool.or_true]

/-- A fault raised while the management cores are up waits in the queue of its tick (R557, R680). -/
theorem raise_faulted {s : State} (hup : s.boot.warmRun = false) (code subject : Nat) (detail : List (Nat × Nat)) :
    (s.raise code subject detail).faulted code subject = true := by
  simp only [State.raise, hup, Bool.false_and, Bool.false_eq_true, if_false]
  exact queueFault_faulted s _

theorem after_faulted (s t : State) (code subject : Nat) : (s.after t).faulted code subject = t.faulted code subject :=
  faulted_congr (by simp only [State.after, showStatus_flt]) (by simp only [State.after, showStatus_boot]) code subject

theorem after_aud (s t : State) : (s.after t).aud = t.aud := by simp only [State.after, showStatus_aud]

theorem after_egs (s t : State) : (s.after t).egs = t.egs := by simp only [State.after, showStatus_egs]

theorem after_leg (s t : State) (l : Nat) : (s.after t).leg l = t.leg l := by rw [State.leg, after_legs, State.leg]

theorem leg_of_media {s t : State} (h : t.media = s.media) (l : Nat) : t.leg l = s.leg l := by
  rw [State.leg, show t.legs = s.legs from congrArg Media.legs h, State.leg]

theorem now_of_media {s t : State} (h : t.media = s.media) : t.now = s.now := congrArg TimSt.tick (congrArg Media.tim h)

/-- The state after the reports of a decode: a decoder's state lost, and a decode shed at most once a second (R189, R190). -/
def State.decodeReports (s : State) (l : Nat) (how : WorkEnd) : State :=
  let u := if how = .stateLost then s.raise fltDecoderLost (subjLeg l) else s
  if how = .shed then u.raiseOnce fltAudioShed (subjFold (s.leg l).desc.fold) 600 else u

theorem decodeReports_media (s : State) (l : Nat) (how : WorkEnd) : (s.decodeReports l how).media = s.media := by
  simp only [State.decodeReports, apply_ite State.media, raise_media, raiseOnce_media, ite_self]

/-- What a decode leaves, apart from its reports: one decode more, and the block that waited first, when no frame is released in this
tick and none is to be removed (R171, R174, R175). -/
theorem audioDecode_leaves {s : State} {l e : Nat} (how : WorkEnd) (he : s.audioIn l = some e)
    (hset : (s.leg l).aud.inDecodeSet = true) : ∃ t, audioDecode l how s = t ∧
      t.flt = (s.decodeReports l how).flt ∧ t.boot = (s.decodeReports l how).boot ∧ t.aud.decN = s.aud.decN + 1 ∧
      (t.leg l).aud.decTicks = (s.leg l).aud.decTicks + 1 ∧
      (∀ b rest, (s.leg l).aud.blocks = b :: rest → (s.stream e).jit.releasedTick ≠ s.now → (s.leg l).aud.removeBy = none →
        how ≠ .stateLost → (t.leg l).aud.pcm = b ∧ (t.leg l).aud.blocks = rest) := by
  obtain ⟨t, ht⟩ : ∃ t, audioDecode l how s = t := ⟨_, rfl⟩
  refine ⟨t, ht, ?_⟩
  unfold audioDecode at ht
  rw [he] at ht
  dsimp -zeta only at ht
  extract_lets g r a mix ch lost s1 s2 start d0 released frame n good conc decoded fresh fade d1 begun queue conceals block hidden rest
    quiet atLimit cut block' rest' s3 active s4 s5 at ht
  rw [if_neg (by simp only [g, hset, Bool.not_true, Bool.false_eq_true, not_false_iff])] at ht
  have hs2 : s2.media = s.media := decodeReports_media s l how
  have hs5 : s5.legs = s4.legs ∧ s5.aud = s4.aud ∧ s5.flt = s4.flt ∧ s5.boot = s4.boot := by
    simp only [s5, apply_ite State.legs, apply_ite State.aud, apply_ite State.flt, apply_ite State.boot, incR64_legs, incR64_aud,
      incR64_flt, incR64_boot, ite_self, and_self]
  obtain ⟨hlegs, haud, hflt, hboot⟩ := hs5
  have hleg : (t.leg l).aud = (s4.leg l).aud := by rw [State.leg, ← ht, hlegs, State.leg]
  have hleg2 : s2.leg l = s.leg l := leg_of_media hs2 l
  subst ht
  rw [hleg, onLeg_self, onLeg_self, hleg2]
  refine ⟨hflt, hboot, ?_, ?_, fun b tail hblocks hnot hkeep hhow => ?_⟩
  · exact congrArg (fun a : AudSt => a.decN + 1) (haud.trans (congrArg Media.aud hs2))
  · rfl
  · have hgood : good = false := by
      have hnow : s2.now = s.now := now_of_media hs2
      simp only [good, released, hnow, r, hnot, decide_false, Bool.false_and]
    have hdecoded : decoded = [] := by
      simp only [decoded, hgood, Bool.false_eq_true, if_false]
      generalize frame = o
      cases o <;> rfl
    have hqueue : queue = b :: tail := by
      simp only [queue, fresh, hdecoded, g, hblocks, List.append_nil]
    have hconceals : conceals = false := by
      simp only [conceals, hqueue, lost, hhow, decide_false, List.isEmpty_cons, Bool.false_and, Bool.or_self]
    have hcut : cut = false := by
      simp only [cut, g, hkeep, Option.isSome_none, Bool.false_and]
    simp only [block', rest', block, rest, hcut, hconceals, hqueue]
    exact ⟨rfl, rfl⟩

/-! ### Mixing (R177) -/

theorem audioMix_mix (f : Nat) (s : State) : ((audioMix f s).fold f).mix =
    (s.fold f).list.foldl (fun m l => addBlocks m (contribution (Config.gainLinear (s.leg l).aud.gainQ)
      ((s.leg l).aud.aligned (s.fold f).audio.act s.now).1)) [] :=
  (congrArg FoldRt.mix (onFold_self _ f _)).trans List.foldl_map

/-! ### Encoding (R182, R189, R190) -/

theorem audioPacket_aud (s : State) (l content bytes ticks : Nat) (send : Bool) :
    (s.audioPacket l content bytes ticks send).aud = s.aud := by
  unfold State.audioPacket
  split
  · rfl
  · dsimp only
    split <;> rfl

theorem encodeShared_encN (f c : Nat) (how : WorkEnd) (s : State) : (encodeShared f c how s).aud.encN = s.aud.encN + 1 := by
  have hsent : ∀ (ls : List Nat) (content bytes ticks : Nat) (send : Bool) (u : State),
      (u.each ls (fun s l => s.audioPacket l content bytes ticks send)).aud = u.aud := fun ls content bytes ticks send u =>
    each_keeps State.aud (fun w l => audioPacket_aud w l content bytes ticks send) ls u
  simp only [encodeShared, apply_ite State.aud, hsent, onFold_aud, raiseOnce_aud, raise_aud, incR64_aud, ite_self]

theorem encodeShared_mid {f c : Nat} {how : WorkEnd} {s : State} (hmid : (s.fold f).frameEnds c s.now = false) (hhow : how ≠ .stateLost) :
    encodeShared f c how s = ({ s with aud := { s.aud with encN := s.aud.encN + 1 } } : State).onFold f (fun r => { r with
      outs := tset {} r.outs c { tget {} (s.fold f).outs c with
        enc := encStep ((s.fold f).audio.config c) (tget {} (s.fold f).outs c).enc (tget {} (s.fold f).outs c).block
        ticks := (tget {} (s.fold f).outs c).ticks + 1 } }) := by
  have hnow : ∀ a : AudSt, ({ s with aud := a } : State).now = s.now := fun _ => rfl
  simp only [encodeShared, hhow, hnow, hmid, if_false, Bool.false_and, Bool.false_eq_true]

theorem encodePersonal_encN {f l st : Nat} {s : State} (how : WorkEnd) (hst : (s.leg l).aud.personal = some st) :
    (encodePersonal f l how s).aud.encN = s.aud.encN + 1 := by
  simp only [encodePersonal, hst, apply_ite State.aud, audioPacket_aud, onLeg_aud, raiseOnce_aud, raise_aud, incR64_aud, ite_self]

theorem encodePersonal_mid {f l st : Nat} {how : WorkEnd} {s : State} (hst : (s.leg l).aud.personal = some st)
    (hmid : (s.fold f).frameEnds (s.leg l).desc.audioConfig s.now = false) (hhow : how ≠ .stateLost) :
    encodePersonal f l how s = ({ s with aud := { s.aud with encN := s.aud.encN + 1 } } : State).onLeg l (fun g => { g with
      aud := { g.aud with
        personal := some ((s.fold f).persStep (s.leg l).desc.audioConfig st (s.leg l).aud.out), outTicks := g.aud.outTicks + 1 } }) := by
  have hnow : ∀ a : AudSt, ({ s with aud := a } : State).now = s.now := fun _ => rfl
  simp only [encodePersonal, hst, hhow, hnow, hmid, if_false, Bool.false_and, Bool.false_eq_true]

theorem execAudioEncode_personal {l : Nat} {s : State} (hold : (s.leg l).aud.persOld = none) (f c : Nat) (how : WorkEnd) :
    execAudioEncode f c (some l) how s = .next (s.after (encodePersonal f l how s)) := by
  simp only [execAudioEncode, hold, finish_after]

end Sys2Proof.Machine

open Sys2Proof Sys2Proof.Machine

/-- Settles O14: what a decode reports touches no leg, the mix is written last, and away from a frame's end an encoder takes the block
and sends nothing. -/
theorem audioTickDecodesMixesEncodes : Obligations.AudioTickDecodesMixesEncodes := by
  intro s
  refine ⟨fun l e how he hset => ?_, fun f => ⟨_, finish_after s _, ?_⟩, fun f c how => ⟨_, finish_after s _, ?_⟩,
    fun f c l how st hst hold => ⟨_, execAudioEncode_personal hold f c how, ?_⟩⟩
  · obtain ⟨t, rfl, hflt, hboot, hcount, hticks, hblock⟩ := audioDecode_leaves how he hset
    refine ⟨_, finish_after s _, ?_⟩
    rw [after_aud, after_leg, after_faulted]
    refine ⟨hcount, hticks, fun hhow hup => ?_, hblock⟩
    rw [faulted_congr hflt hboot, hhow]
    exact raise_faulted hup _ _ _
  · rw [after_fold, audioMix_mix]
  · rw [after_aud, after_fold, after_egs]
    refine ⟨encodeShared_encN f c how s, fun hmid hhow => ?_⟩
    rw [encodeShared_mid hmid hhow, onFold_self, tget_tset_self, onFold_egs]
    exact ⟨rfl, rfl, rfl⟩
  · rw [after_aud, after_leg, after_egs]
    refine ⟨encodePersonal_encN how hst, fun hmid hhow => ?_⟩
    rw [encodePersonal_mid hst hmid hhow, onLeg_self, onLeg_egs]
    exact ⟨rfl, rfl, rfl⟩
end

section
/-!
PROOFS. Audio controls: the mute flag, a leg's gain and alignment delay, and a cluster lost.
-/

namespace Sys2Proof.Machine

/-! ### Mute (R162) -/

theorem execAudioControl_served {s : State} {m : Msg} (mute : Bool) (hserves : s.serves m 0x010A .both = true)
    (hauth : s.authority (s.leg m.target).desc.fold = true)
    (hstate : (s.leg m.target).state = .active ∨ (s.leg m.target).state = .admitting) :
    execAudioControl m mute s = .next (s.after (((s.taken m 0x010A).onLeg m.target
      (fun g => { g with aud := { g.aud with muteNext := some mute } })).reply (s.replyTo m 0x010A) stOK)) := by
  have hstate' : ((s.leg m.target).state = .active || (s.leg m.target).state = .admitting) = true := by simpa using hstate
  simp only [execAudioControl, finish_after, request_served hserves, taken_leg, taken_authority, hauth, hstate', Bool.not_true,
    Bool.false_eq_true, if_false, if_true]

/-! ### Gain (R184, R185) -/

theorem loudnessUpdate_gainQ {s : State} {l : Nat} (hcand : s.candidateLeg l = true) (hdec : (s.leg l).aud.decoder.isSome = true) :
    ((loudnessUpdate l s).leg l).aud.gainQ =
      (Config.loudness ((s.leg l).aud.loudWin.filter (fun b => !b.isEmpty))).elim (s.leg l).aud.gainQ (fun x =>
        clampI (-48) 72 ((s.leg l).aud.gainQ + clampI (-2) 2
          (roundDivI (((s.fold (s.leg l).desc.fold).desc.target - x) * 2) 5 - (s.leg l).aud.gainQ))) := by
  simp only [loudnessUpdate, hcand, hdec, Bool.and_self, if_true]
  cases Config.loudness ((s.leg l).aud.loudWin.filter (fun b => !b.isEmpty)) with
  | none => rfl
  | some x => simp only [onLeg_self, Option.elim_some]

/-! ### Alignment (R186) -/

/-- The alignment delay that a leg moves towards (R186). -/
def State.delayTarget (s : State) (l : Nat) : Int :=
  if (s.fold (s.leg l).desc.fold).audio.lipsync && (s.leg l).desc.hasVideo && s.foldComposes (s.leg l).desc.fold then
    clampI 0 30 (4 + (s.leg l).desc.jitterVideo - (2 + (s.leg l).desc.jitterAudio) + s.captureOffset l)
  else 0

/-- A delay one tick nearer to its target. -/
def delayStep (d : Nat) (want : Int) : Nat := if (d : Int) < want then d + 1 else if want < (d : Int) then d - 1 else d

theorem delayStep_eq_toNat (d : Nat) (want : Int) :
    delayStep d want = (if (d : Int) < want then (d : Int) + 1 else if want < (d : Int) then (d : Int) - 1 else d).toNat := by
  unfold delayStep
  split
  · rfl
  · split <;> omega

theorem lipsyncEval_delay (l : Nat) (s : State) :
    ((lipsyncEval l s).leg l).aud.delay = delayStep (s.leg l).aud.delay (s.delayTarget l) := by
  rw [delayStep_eq_toNat]
  unfold lipsyncEval
  extract_lets g r applies want d d' codec mix conc longer u
  have hu : (u.leg l).aud.delay = d'.toNat := congrArg (·.aud.delay) (onLeg_self s l _)
  split
  · exact hu
  · split
    · rw [State.leg, incR64_legs, ← State.leg, onLeg_self]
      exact hu
    · rw [onLeg_self]
      exact hu

/-! ### A lost assist (R191) -/

theorem contains_insertAsc (x : Nat) (xs : List Nat) : (insertAsc x xs).contains x = true := by
  induction xs with
  | nil => simp only [insertAsc, List.contains_cons, beq_self_eq_true, Bool.true_or]
  | cons y ys ih =>
    unfold insertAsc
    split
    · simp only [List.contains_cons, beq_self_eq_true, Bool.true_or]
    · split
      · rename_i hxy
        simp only [hxy, List.contains_cons, beq_self_eq_true, Bool.true_or]
      · rw [List.contains_cons, ih, Bool.or_true]

/-- The audio registers of which a lost assist is shown are counted in no report and brought up to date by no command's end. -/
theorem audioLimits_plain : reportReg Reg.AUD_LIMITS = false ∧ Reg.AUD_LIMITS ∉ statusRegs := by decide

theorem audioStatus_plain : reportReg Reg.AUD_STATUS = false ∧ Reg.AUD_STATUS ∉ statusRegs := by decide

/-- Cluster `c` out of service, both limits lowered, and the failure shown (R191, R195). -/
def State.assistOut (s : State) (c : Nat) : State :=
  let u : State := { s with drv := { s.drv with assistOff := insertAsc c s.drv.assistOff }, adm := { s.adm with recount := true } }
  let v := u.setF Reg.AUD_LIMITS 13 0 (u.getF Reg.AUD_LIMITS 13 0 - 512)
  (v.setF Reg.AUD_LIMITS 29 16 (v.getF Reg.AUD_LIMITS 29 16 - 512)).setF Reg.AUD_STATUS 30 30 1

theorem assistFail_inService {c : Nat} {s : State} (hc : c < 16) (hin : s.drv.assistOff.contains c = false) :
    assistFail c s = (s.assistOut c).raise fltAssistFail (subjInst 8 c) := by
  simp only [assistFail, hin, Nat.not_le.mpr hc, decide_false, Bool.or_self, Bool.false_eq_true, if_false]
  rfl

/-- A field lowered to what it holds less `k` reads so: it does not wrap. -/
theorem getF_setF_sub (s : State) (d hi lo k : Nat) (h : lo ≤ hi) (hn : hi < 32) :
    (s.setF d hi lo (s.getF d hi lo - k)).getF d hi lo = s.getF d hi lo - k := by
  rw [getF_setF_self s d hi lo _ h hn, Nat.mod_eq_of_lt]
  exact (Nat.sub_le _ _).trans_lt (bits_lt _ hi lo)

theorem assistOut_decodeLimit (s : State) (c : Nat) : (s.assistOut c).getF Reg.AUD_LIMITS 13 0 = s.getF Reg.AUD_LIMITS 13 0 - 512 := by
  unfold State.assistOut
  dsimp only
  rw [getF_setF_ne (by decide), getF_setF_below _ _ 29 16 _ 13 0 (by decide) (by decide) (by decide) (by decide),
    getF_setF_sub _ _ 13 0 512 (by decide) (by decide)]
  rfl

theorem assistOut_encodeLimit (s : State) (c : Nat) : (s.assistOut c).getF Reg.AUD_LIMITS 29 16 = s.getF Reg.AUD_LIMITS 29 16 - 512 := by
  unfold State.assistOut
  dsimp only
  rw [getF_setF_ne (by decide), getF_setF_sub _ _ 29 16 512 (by decide) (by decide),
    getF_setF_above _ _ 13 0 _ 29 16 (by decide) (by decide) (by decide)]
  rfl

theorem assistOut_failed (s : State) (c : Nat) : (s.assistOut c).getF Reg.AUD_STATUS 30 30 = 1 :=
  getF_setF_self _ _ 30 30 1 le_rfl (by decide)

/-- A fault raised and the end of the command leave a register alone that neither of them writes. -/
theorem after_raise_getF {d : Nat} (hplain : reportReg d = false ∧ d ∉ statusRegs) (s t : State) (code subject : Nat)
    (detail : List (Nat × Nat)) (hi lo : Nat) : (s.after (t.raise code subject detail)).getF d hi lo = t.getF d hi lo := by
  rw [State.getF, after_getR_ne hplain.2, raise_getR hplain.1, State.getF]

theorem after_drv (s t : State) : (s.after t).drv = t.drv := by simp only [State.after, showStatus_drv]

end Sys2Proof.Machine

open Sys2Proof Sys2Proof.Machine

/-- Settles O15: a delay is a number, so its step towards a target cannot pass below 0, and a limit lowered by 512 stays in its field. -/
theorem audioControlsMove : Obligations.AudioControlsMove := by
  intro s
  refine ⟨fun m mute hserves hauth hstate => execAudioControl_served mute hserves hauth hstate,
    fun l hcand hdec => ⟨_, finish_after s _, ?_⟩, fun l => ⟨_, finish_after s _, fun want hwant => ?_⟩,
    fun c hc hin => ⟨_, finish_after s _, ?_⟩⟩
  · rw [after_leg, loudnessUpdate_gainQ hcand hdec]
  · rw [after_leg, lipsyncEval_delay, show want = s.delayTarget l from hwant]
    rfl
  · rw [assistFail_inService hc hin, after_drv, after_adm, raise_drv, raise_adm, after_raise_getF audioLimits_plain,
      after_raise_getF audioLimits_plain, after_raise_getF audioStatus_plain]
    exact ⟨contains_insertAsc c _, rfl, assistOut_decodeLimit s c, assistOut_encodeLimit s c, assistOut_failed s c⟩
end

section
/-!
PROOFS. DECODE_BAND_DONE of a RASL picture leaves the decode state, whatever else is said of the picture.
-/

namespace Sys2Proof.Machine

theorem stream_of_streams {s t : State} (h : t.streams = s.streams) (e : Nat) : t.stream e = s.stream e := by
  rw [State.stream, h, State.stream]

/-! ### What a band's counts and reports leave of its stream (R218, R238, R239, R242) -/

theorem noteFetches_streams (s : State) (i e : Nat) (fs : List TileFetch) : (s.noteFetches i e fs).streams = s.streams := by
  simp only [State.noteFetches, apply_ite State.streams, raiseOnce_streams, raise_streams, incR_streams, ite_self]

theorem venCount_decState (s : State) (e n k : Nat) : ((s.venCount e n k).stream e).dec.state = (s.stream e).dec.state := by
  rw [State.venCount, onStream_self]

/-! ### RASL pictures (R225) -/

/-- A RASL picture is discarded: its bands go, and nothing else changes. -/
theorem settlePicture_rasl {p : PicFacts} (hrasl : p.rasl = true) (s : State) (e : Nat) (bands : List BandRec) :
    s.settlePicture e p bands = s.onStream e (fun r => { r with dec := { r.dec with curBands := [] } }) := by
  simp only [State.settlePicture, hrasl, if_true]

/-- While its decoder keeps its state and its sequence is supported, no band of a RASL picture moves the decode state. -/
theorem decodeBandDone_rasl_decState {e : Nat} {p : PicFacts} {b : DecBand} {s : State} (hdecoded : (s.stream e).dec.state ≠ .idle)
    (hkept : b.stateLost = false) (hseq : p.unsupportedSequence = false) (hrasl : p.rasl = true) :
    ((decodeBandDone e p b s).stream e).dec.state = (s.stream e).dec.state := by
  have hstart : s.startDecode e = s := if_neg hdecoded
  unfold decodeBandDone
  rw [hstart, hkept, hseq]
  extract_lets start r banded sampled counted ven used fetched corrupt noted stateLost unsupported lost rec' bands
  have hcounted : counted.streams = s.streams := by
    simp only [counted]
    cases b.how with
    | done => simp only [sampled, banded, start, apply_ite State.streams, incR64_streams, ite_self]
    | shed => exact incR_streams s _ _
    | aborted => exact incR_streams s _ _
  have hfetched : (fetched.stream e).dec.state = (s.stream e).dec.state := by
    rw [stream_of_streams ((noteFetches_streams used b.engine e b.fetches).trans hcounted)]
  have hnoted : (noted.stream e).dec.state = (s.stream e).dec.state := by
    simp only [noted]
    split
    · exact hfetched
    · rw [venCount_decState, hfetched]
  rw [if_neg Bool.false_ne_true, if_neg Bool.false_ne_true]
  split
  · rw [settlePicture_rasl hrasl, onStream_self]
    exact hnoted
  · rw [onStream_self]
    exact hnoted

/-- What is said of a picture that is marked both random-access and RASL. -/
def raslKeyPicture : PicFacts := { randomAccess := true, rasl := true }

/-- Stream 1 waits for a key picture, and its source may send one of 16 × 16. -/
def keyAwaited : State :=
  State.reset.onStream 1 (fun r => { r with src := { r.src with maxWidth := 16, maxHeight := 16 }, dec := { r.dec with state := .waitKey } })

end Sys2Proof.Machine

open Sys2Proof Sys2Proof.Machine

/-- Refutes O16: the clause of the clean key picture does not ask that the picture is no RASL picture, and one that is both is
discarded in WAIT_KEY (R225), so the stream does not become CLEAN. -/
theorem not_decodeBandsSettlePictures : ¬ Obligations.DecodeBandsSettlePictures := by
  unfold Obligations.DecodeBandsSettlePictures
  intro h
  have hwait : (keyAwaited.stream 1).dec.state = .waitKey := by decide
  have hdecoded : (keyAwaited.stream 1).dec.state ≠ .idle := by rw [hwait]; decide
  obtain ⟨-, -, hkey⟩ := h 1 raslKeyPicture {} keyAwaited hdecoded
  obtain ⟨t, hexec, hclean, -⟩ := hkey rfl rfl rfl rfl rfl (by decide) hwait (by decide) rfl (by decide)
  obtain rfl : keyAwaited.after ((decodeBandDone 1 raslKeyPicture {} keyAwaited).drvAt 0) = t := Host.Outcome.next.inj hexec
  rw [stream_of_streams (after_streams _ _)] at hclean
  have hstays : ((decodeBandDone 1 raslKeyPicture {} keyAwaited).stream 1).dec.state = .waitKey :=
    (decodeBandDone_rasl_decState hdecoded rfl rfl rfl).trans hwait
  exact absurd (hstays.symm.trans hclean) (by decide)
end

section
/-!
PROOFS. A fence of a unit sheds the nodes that its item's graph has ready, and counts each in the counter of its level: of a level that no
record can hold, that counter is another register.
-/

namespace Sys2Proof.Machine

/-- The level whose DRV_SHED counter would be the fence status of compositor 0. A record's field holds 0 to 7 (R389); the model's state
does not bound it. -/
def fenceLevel : Nat := Reg.CMP_FENCE_STATUS 0 - Reg.DRV_SHED 0

/-- Compositor 0 runs task 0 of an all_or_none graph, whose other node, task 1, is READY at `fenceLevel`. -/
def readyAtFenceLevel : State :=
  { State.reset with drv := { State.reset.drv with
      tasks := [(0, { cfg := { enabled := true, waitMask := 1, classG := true, pool := 0x21, graph := 0 }, st := .running }),
        (1, { cfg := { enabled := true, waitMask := 1, classG := true, pool := 0x21, graph := 0, prio := fenceLevel }, st := .ready })]
      graphs := [(0, { first := 0, count := 2, allOrNone := true })]
      readyG := [{ task := 1 }]
      running := [{ task := 0, pool := 0x21, unit := 0 }] } }

/-- Fencing compositor 0 for a failed self-test writes 0x101 to its status, and task 1, shed with the graph (R397), adds 1 to it. -/
theorem compositorFence_readyAtFenceLevel :
    (compositorFence 0 1 readyAtFenceLevel).getR (Reg.CMP_FENCE_STATUS 0) = 0x101 + 1 := by decide

end Sys2Proof.Machine

open Sys2Proof Sys2Proof.Machine

/-- Refutes O28: the statement bounds no task's level, and the shed of a node at level `fenceLevel` changes the fence status that
COMPOSITOR_FENCE has just written (`compositorFence_readyAtFenceLevel`). -/
theorem not_fencedUnitsShowTheirFence : ¬ Obligations.FencedUnitsShowTheirFence := by
  unfold Obligations.FencedUnitsShowTheirFence
  intro h
  obtain ⟨-, hcompositor, -⟩ := h readyAtFenceLevel
  obtain ⟨t, hexec, hstatus, -⟩ := hcompositor 0 1 (by decide) (by decide)
  obtain rfl : readyAtFenceLevel.after (compositorFence 0 1 readyAtFenceLevel) = t := Host.Outcome.next.inj hexec
  rw [after_getR_ne (by decide), compositorFence_readyAtFenceLevel] at hstatus
  exact absurd hstatus (by decide)
end

section
/-!
PROOFS. Held pictures, and the image groups of the compositors: a stored group taking effect, and a poisoned one read again.
-/

namespace Sys2Proof.Machine

theorem after_lc (s t : State) (c : Nat) : (s.after t).lc c = t.lc c := by
  simp only [State.lc, State.after, showStatus_lcs]

theorem after_cmp (s t : State) : (s.after t).cmp = t.cmp := by simp only [State.after, showStatus_cmp]

/-! ### Held pictures (R257) -/

/-- A cell at the end of its hold: no leg shown, nothing held (R257). -/
def CellSt.released (x : CellSt) : CellSt := { x with shown := none, held := false, pic := none }

/-- At the end of its hold a cell is released, and the line class changes in that cell alone. -/
theorem heldPictureTimeout_cells_of_due {s : State} {c i : Nat} (hheld : (tget {} (s.lc c).cells i).held = true)
    (hdue : (tget {} (s.lc c).cells i).waitFrom + 120 ≤ s.now) :
    ((heldPictureTimeout c i s).lc c).cells = tset {} (s.lc c).cells i (tget {} (s.lc c).cells i).released := by
  have hends : ((tget {} (s.lc c).cells i).held && decide ((tget {} (s.lc c).cells i).waitFrom + 120 ≤ s.now)) = true := by
    rw [hheld, decide_eq_true hdue, Bool.and_self]
  simp only [heldPictureTimeout, if_pos hends, onLc_self, CellSt.released]

/-- Before the 120 ticks are over nothing changes, whether the cell holds a picture or not. -/
theorem heldPictureTimeout_of_early {s : State} {c i : Nat} (hearly : s.now < (tget {} (s.lc c).cells i).waitFrom + 120) :
    heldPictureTimeout c i s = s := by
  simp only [heldPictureTimeout, decide_eq_false (Nat.not_le.mpr hearly), Bool.and_false, Bool.false_eq_true, if_false]

/-! ### Image groups (R252, R596) -/

/-- The compositors' groups once `g` has taken effect (R252). -/
def CmpSt.commitGroup (k : CmpSt) (g : Nat) : CmpSt :=
  { k with
    groups := tset {} k.groups g (tget {} k.groupNext g), groupNext := tdel g k.groupNext, groupAt := tdel g k.groupAt,
    groupLost := k.groupLost.filter (· ≠ g), groupPoison := k.groupPoison.filter (· ≠ g) }

theorem imageGroupCommit_cmp_of_due {s : State} {g : Nat} (hstored : tget 0 s.cmp.groupAt g ≠ 0) (hdue : tget 0 s.cmp.groupAt g ≤ s.now) :
    (imageGroupCommit g s).cmp = s.cmp.commitGroup g := by
  have hnow : ¬ s.now + 1 ≤ tget 0 s.cmp.groupAt g := by omega
  simp only [imageGroupCommit, CmpSt.commitGroup, decide_eq_false hstored, decide_eq_false hnow, Bool.or_self, Bool.false_eq_true, if_false]

theorem contains_filter_ne (g : Nat) (gs : List Nat) : (gs.filter (· ≠ g)).contains g = false := by
  simp only [List.contains_eq_mem, List.mem_filter, ne_eq, not_true, decide_false, Bool.false_eq_true, and_false]

/-- What the image in use holds for group `g` (R596). -/
def State.imageOf (s : State) (g : Nat) : ImgGroup := ((s.boot.image.groups.find? (fun e => e.1 = g)).map (·.2)).getD {}

theorem imageGroupRestore_of_readable {s : State} {g : Nat} {first other : Bool} (hpoison : s.cmp.groupPoison.contains g = true)
    (hreadable : (first || other) = true) : imageGroupRestore g first other s = s.storeGroup g (s.imageOf g) := by
  simp only [imageGroupRestore, hpoison, hreadable, Bool.not_true, Bool.false_eq_true, if_false, if_true, State.imageOf]

theorem storeGroup_groupAt (s : State) (g : Nat) (x : ImgGroup) : tget 0 (s.storeGroup g x).cmp.groupAt g = s.now + 1 :=
  tget_tset_self 0 s.cmp.groupAt g (s.now + 1)

theorem storeGroup_groupNext (s : State) (g : Nat) (x : ImgGroup) : tget {} (s.storeGroup g x).cmp.groupNext g = x :=
  tget_tset_self {} s.cmp.groupNext g x

end Sys2Proof.Machine

open Sys2Proof Sys2Proof.Machine

/-- Settles O19: each command writes one entry of a table, and reading that entry or another one back says what changed and what did not. -/
theorem imageGroupsCommitAndRestore : Obligations.ImageGroupsCommitAndRestore := by
  intro s
  refine ⟨fun c i hheld hdue => ⟨_, finish_after s _, ?_⟩, fun c i hearly => ?_, fun g hstored hdue => ⟨_, finish_after s _, ?_⟩,
    fun g first other hpoison hreadable => ⟨_, finish_after s _, ?_⟩⟩
  · rw [after_lc, heldPictureTimeout_cells_of_due hheld hdue, tget_tset_self]
    exact ⟨rfl, rfl, fun j hj => tget_tset_ne _ hj _ _⟩
  · exact (finish_after s _).trans (by rw [heldPictureTimeout_of_early hearly])
  · rw [after_cmp, imageGroupCommit_cmp_of_due hstored hdue]
    exact ⟨tget_tset_self _ _ g _, tfind_tdel_self g _, contains_filter_ne g _, contains_filter_ne g _⟩
  · rw [after_cmp, imageGroupRestore_of_readable hpoison hreadable]
    exact ⟨storeGroup_groupAt s g _, storeGroup_groupNext s g _⟩
end

section
/-!
PROOFS. Adaptation of a leg: every change of its forwarder slots leaves the rest of the leg, and what an estimate decides leaves the estimate.
-/

namespace Sys2Proof.Machine

/-! ### A leg after a change of its own -/

theorem leg_of_legs {s t : State} (h : t.legs = s.legs) (l : Nat) : t.leg l = s.leg l := by rw [State.leg, h, State.leg]

/-- A change of leg `l` keeps what it keeps of a leg. -/
theorem onLeg_keeps {β : Type} (π : LegRt → β) {f : LegRt → LegRt} (hf : ∀ g, π (f g) = π g) (s : State) (l : Nat) :
    π ((s.onLeg l f).leg l) = π (s.leg l) := by rw [onLeg_self, hf]

/-! ### Forwarder slots (R344, R345) -/

theorem upstreamRequest_legs (s : State) (e : Nat) (pli : Bool) : (s.upstreamRequest e pli).legs = s.legs := by
  unfold State.upstreamRequest
  extract_lets r recent u k
  split
  · rfl
  · rfl

/-- A leg with `y` in its slot `k`. -/
def LegRt.setSlot (g : LegRt) (k : Nat) (y : FwdSlot) : LegRt := { g with fwd := g.fwd.set k y }

theorem setSlot_of_getElem? {g : LegRt} {k : Nat} {x : FwdSlot} (hx : g.fwd[k]? = some x) : g.setSlot k x = g := by
  obtain ⟨hk, rfl⟩ := List.getElem?_eq_some_iff.mp hx
  rw [LegRt.setSlot, List.set_getElem_self]

theorem setSlot_of_none {g : LegRt} {k : Nat} (y : FwdSlot) (hk : g.fwd[k]? = none) : g.setSlot k y = g := by
  rw [LegRt.setSlot, List.set_eq_of_length_le (List.getElem?_eq_none_iff.mp hk)]

/-- A pause writes its slot and no other part of the leg. -/
theorem pauseSlot_leg (s : State) (l k : Nat) (x : FwdSlot) :
    (s.pauseSlot l k x).leg l = (s.leg l).setSlot k { x with paused := true } := by
  unfold State.pauseSlot
  split
  · rename_i hpaused
    rw [onLeg_self, LegRt.setSlot, ← hpaused]
  · rw [leg_of_legs (incR_legs _ _ _), onLeg_self, LegRt.setSlot]

/-- A new target writes its slot, which keeps its sender, and no other part of the leg. -/
theorem retarget_leg (s : State) (l k : Nat) (t : Nat × Nat × Nat) :
    ∃ y, (s.retarget l k t).leg l = (s.leg l).setSlot k y ∧ ∀ x, (s.leg l).fwd[k]? = some x → y.sender = x.sender := by
  unfold State.retarget
  split
  · rename_i hnone
    exact ⟨{}, (setSlot_of_none _ hnone).symm, fun x hx => absurd (hnone.symm.trans hx) (by simp)⟩
  · rename_i x hx
    have hsame : ∀ z, (s.leg l).fwd[k]? = some z → x = z := fun z hz => Option.some.inj (hx.symm.trans hz)
    split
    · exact ⟨x, (setSlot_of_getElem? hx).symm, fun z hz => congrArg FwdSlot.sender (hsame z hz)⟩
    · extract_lets same key up y u
      refine ⟨y, ?_, fun z hz => hsame z hz ▸ rfl⟩
      split
      · rw [leg_of_legs (upstreamRequest_legs _ _ _)]
        exact onLeg_self s l _
      · exact onLeg_self s l _

/-! ### What an estimate decides leaves the estimate (R349 to R351) -/

theorem adaptForwarded_adapt (s : State) (l V : Nat) : ((s.adaptForwarded l V).leg l).adapt = (s.leg l).adapt := by
  have hslot : ∀ (w : State) (k : Nat) (y : FwdSlot),
      ((w.onLeg l (fun g => { g with fwd := g.fwd.set k y })).leg l).adapt = (w.leg l).adapt := fun w _ _ =>
    onLeg_keeps LegRt.adapt (fun _ => by rfl) w l
  have htarget : ∀ (w : State) (k : Nat) (t : Nat × Nat × Nat), ((w.retarget l k t).leg l).adapt = (w.leg l).adapt := by
    intro w k t
    obtain ⟨y, hy, -⟩ := retarget_leg w l k t
    rw [hy, LegRt.setSlot]
  refine each_keeps (fun w => (w.leg l).adapt) (fun w e => ?_) _ s
  obtain ⟨k, pick⟩ := e
  dsimp only
  split
  · rfl
  · split
    · split
      · rw [pauseSlot_leg, LegRt.setSlot]
      · rfl
    · split
      · rw [htarget, hslot]
      · split
        · rw [hslot, hslot]
        · split
          · split
            · rw [htarget, hslot]
            · rw [hslot, hslot]
          · rw [htarget, hslot]

theorem adaptLaced_adapt (s : State) (l V : Nat) : ((s.adaptLaced l V).leg l).adapt = (s.leg l).adapt := by
  unfold State.adaptLaced
  split
  · rfl
  · dsimp -zeta only
    extract_lets order f rateOf picks u
    have hrungs : (u.leg l).adapt = (s.leg l).adapt :=
      each_keeps (fun w => (w.leg l).adapt) (fun w _ => onLeg_keeps LegRt.adapt (fun _ => by rfl) w l) picks s
    split
    · exact hrungs
    · split
      · exact hrungs
      · exact (onLeg_keeps LegRt.adapt (fun _ => by rfl) u l).trans hrungs

theorem refreshRung_legs (s : State) (c l : Nat) (fir move : Bool) : (s.refreshRung c l fir move).legs = s.legs := by
  unfold State.refreshRung
  extract_lets x r0 late r n p r1 r2
  split
  · rfl
  · split <;> exact onLc_legs s _ _

theorem updateCap_legs (s : State) (c : Nat) : (s.updateCap c).legs = s.legs := onLc_legs s _ _

theorem adaptComposed_estimate (s : State) (l V : Nat) :
    ((s.adaptComposed l V).leg l).adapt.estimate = (s.leg l).adapt.estimate := by
  unfold State.adaptComposed
  extract_lets g cur ms at_ low high rate nLow nHigh to_ u v
  have hv : v.legs = u.legs := by
    clear_value to_
    cases to_ with
    | none => rfl
    | some c => exact refreshRung_legs u c l false true
  rw [leg_of_legs (each_keeps State.legs (fun w c => updateCap_legs w c) _ v), leg_of_legs hv]
  exact onLeg_keeps (fun g => g.adapt.estimate) (fun _ => by rfl) s l

/-! ### The estimator (R347, R353) -/

theorem le_clampN {lo hi : Nat} (h : lo ≤ hi) (x : Nat) : lo ≤ clampN lo hi x := by
  unfold clampN
  split
  · exact le_rfl
  · split <;> omega

theorem clampN_le {lo hi : Nat} (h : lo ≤ hi) (x : Nat) : clampN lo hi x ≤ hi := by
  unfold clampN
  split
  · exact h
  · split <;> omega

theorem step_estimate_bounds (a : AdaptSt) (l t lo hi : Nat) :
    lo ≤ (a.step l t lo hi).estimate ∧ (a.step l t lo hi).estimate ≤ Nat.max lo hi :=
  ⟨le_clampN (Nat.le_max_left lo hi) _, clampN_le (Nat.le_max_left lo hi) _⟩

theorem adaptTick_inactive {s : State} {l : Nat} (hstate : (s.leg l).state ≠ .active) (how : WorkEnd) : adaptTick l how s = s :=
  if_pos hstate

section Active

variable {s : State} {l : Nat} (hactive : (s.leg l).state = .active)
include hactive

theorem adaptTick_shed : adaptTick l .shed s = s := if_neg (not_not_intro hactive)

theorem adaptTick_done_estimate : ((adaptTick l .done s).leg l).adapt.estimate =
    (({ (s.leg l).adapt with
      reserveBytes := (s.leg l).adapt.reserveBytes.filter (fun e => decide (s.now < e.1 + 60)) } : AdaptSt).step l s.now
        (s.leg l).desc.egressMin (s.leg l).desc.egressMax).estimate := by
  unfold adaptTick
  dsimp -zeta only
  extract_lets g old kept a hasFec egOld eg u V v
  rw [if_neg (not_not_intro hactive)]
  have hv : (v.leg l).adapt.estimate = a.estimate := by
    simp only [v, u, onLeg_self]
  split
  · rw [adaptForwarded_adapt, hv]
  · split
    · rw [adaptLaced_adapt, hv]
    · split
      · rw [adaptComposed_estimate, hv]
      · exact hv

/-- With its state lost a leg's rates restart (R353). -/
theorem adaptTick_stateLost_adapt : ((adaptTick l .stateLost s).leg l).adapt =
    { ({} : AdaptSt) with
      delayRate := (s.leg l).desc.egressMin, lossRate := (s.leg l).desc.egressMin, estimate := (s.leg l).desc.egressMin
      inForce := (s.leg l).adapt.inForce, serving := (s.leg l).adapt.serving, lastFeedback := s.now } := by
  unfold adaptTick
  dsimp only
  rw [if_neg (not_not_intro hactive), leg_of_legs (raise_legs _ _ _ _), onLeg_self]

end Active

end Sys2Proof.Machine

open Sys2Proof Sys2Proof.Machine

/-- Settles O23: the estimate is a clamped value, and what it decides for the leg's video leaves it as it is. -/
theorem adaptationKeepsEgressLimits : Obligations.AdaptationKeepsEgressLimits := by
  intro l s
  refine ⟨fun hactive => ⟨⟨_, finish_after s _, ?_⟩, ?_, ⟨_, finish_after s _, ?_⟩⟩, fun how hstate => ?_⟩
  · rw [after_leg, adaptTick_done_estimate hactive]
    exact ⟨rfl, step_estimate_bounds _ _ _ _ _⟩
  · exact (finish_after s _).trans (by rw [adaptTick_shed hactive])
  · rw [after_leg, adaptTick_stateLost_adapt hactive]
    exact ⟨rfl, rfl, rfl, rfl⟩
  · exact (finish_after s _).trans (by rw [adaptTick_inactive hstate])
end

section
/-!
PROOFS. Forwarder slots: a leg's slots take the senders of the fold's order, and what a pause or a repeated request writes.
-/

namespace Sys2Proof.Machine

/-! ### The senders of a leg's slots (R342) -/

def LegRt.senders (g : LegRt) : List (Option Nat) := g.fwd.map (·.sender)

theorem setSlot_senders (g : LegRt) (k : Nat) (y : FwdSlot) : (g.setSlot k y).senders = g.senders.set k y.sender := List.map_set

/-- A slot's own sender set again changes no sender. -/
theorem senders_set_self {g : LegRt} {k : Nat} {x : FwdSlot} (hx : g.fwd[k]? = some x) : g.senders.set k x.sender = g.senders := by
  rw [← setSlot_senders, setSlot_of_getElem? hx]

theorem senders_set_of_none {g : LegRt} {k : Nat} (hk : g.fwd[k]? = none) (o : Option Nat) : g.senders.set k o = g.senders :=
  List.set_eq_of_length_le ((List.length_map _).trans_le (List.getElem?_eq_none_iff.mp hk))

/-- A slot that is written with its own sender keeps the senders. -/
theorem setSlot_senders_of_same {g : LegRt} {k : Nat} {y : FwdSlot} (h : ∀ x, g.fwd[k]? = some x → y.sender = x.sender) :
    (g.setSlot k y).senders = g.senders := by
  cases hx : g.fwd[k]? with
  | none => rw [setSlot_of_none y hx]
  | some x => rw [setSlot_senders, h x hx, senders_set_self hx]

theorem retarget_senders (s : State) (l k : Nat) (t : Nat × Nat × Nat) : ((s.retarget l k t).leg l).senders = (s.leg l).senders := by
  obtain ⟨y, hleg, hsame⟩ := retarget_leg s l k t
  rw [hleg, setSlot_senders_of_same hsame]

theorem pauseSlot_senders {s : State} {l k : Nat} {x : FwdSlot} (hx : (s.leg l).fwd[k]? = some x) :
    ((s.pauseSlot l k x).leg l).senders = (s.leg l).senders := by
  rw [pauseSlot_leg]
  refine setSlot_senders_of_same fun z hz => ?_
  obtain rfl : x = z := Option.some.inj (hx.symm.trans hz)
  rfl

/-- Setting each of the first `n` places in turn leaves what was set there. -/
theorem foldl_set_range {α : Type} (f : Nat → α) (n : Nat) (L : List α) (hn : n ≤ L.length) :
    (List.range n).foldl (fun L k => L.set k (f k)) L = (List.range n).map f ++ L.drop n := by
  induction n with
  | zero => rfl
  | succ n ih =>
    rw [List.range_succ, List.foldl_append, ih (by omega), List.foldl_cons, List.foldl_nil, List.map_append,
      List.drop_eq_getElem_cons hn, List.set_append_right _ _ (by simp)]
    simp only [List.length_map, List.length_range, Nat.sub_self, List.set_cons_zero, List.map_cons, List.map_nil, List.append_assoc,
      List.singleton_append]

/-- A loop over the slots that gives each its sender gives all of them theirs. -/
theorem each_senders {l n : Nat} {c : Nat → Option Nat} {f : State → Nat → State} {s : State}
    (hf : ∀ w k, ((f w k).leg l).senders = (w.leg l).senders.set k (c k)) (hn : (s.leg l).fwd.length = n) :
    ((s.each (upTo n) f).leg l).senders = (upTo n).map c := by
  have hloop : ∀ (ks : List Nat) (w : State),
      ((w.each ks f).leg l).senders = ks.foldl (fun L k => L.set k (c k)) (w.leg l).senders := by
    intro ks
    unfold State.each
    induction ks with
    | nil => exact fun _ => rfl
    | cons k ks ih => exact fun w => (ih (f w k)).trans (by rw [hf, List.foldl_cons])
  have hlen : (s.leg l).senders.length = n := (List.length_map _).trans hn
  rw [hloop, upTo, foldl_set_range c n _ hlen.ge, List.drop_eq_nil_of_le hlen.le, List.append_nil]

/-! ### FORWARD_ASSIGN (R342, R345) -/

/-- The fold's order depends on no leg's slots. -/
theorem forwardCandidates_of_standing {s t : State} (h : t.standing = s.standing) : t.forwardCandidates = s.forwardCandidates := by
  funext l
  have hleg : ∀ c, (t.leg c).state = (s.leg c).state ∧ (t.leg c).desc = (s.leg c).desc := fun c => by
    have hc := congrFun (congrArg Standing.leg h) c
    exact ⟨congrArg (·.1) hc, congrArg (·.2.1) hc⟩
  simp only [State.forwardCandidates, fold_of_standing h, hleg]

theorem length_indexed {α : Type} (xs : List α) : (indexed xs).length = xs.length := by
  rw [indexed, upTo, List.length_zip, List.length_range, min_self]

theorem forwardAssign_idle {s : State} {l : Nat} (h : (s.leg l).state ≠ .active ∨ (s.leg l).desc.videoMode ≠ 1) :
    forwardAssign l s = s := by
  refine if_pos ?_
  simpa using h

theorem forwardAssign_senders {s : State} {l : Nat} (hactive : (s.leg l).state = .active) (hmode : (s.leg l).desc.videoMode = 1) :
    ((forwardAssign l s).leg l).senders =
      (upTo ((s.entries l).filter (fun e => (s.stream e).desc.kind = 1 && (s.stream e).desc.outbound)).length).map
        (fun k => (s.forwardCandidates l)[k]?) := by
  unfold forwardAssign
  extract_lets g outs slots u cs
  have hcs : cs = s.forwardCandidates l := congrFun (forwardCandidates_of_standing (onLeg_standing (fun _ => by rfl) s l)) l
  rw [if_neg (by simp [g, hactive, hmode]), ← hcs]
  refine each_senders (fun w k => ?_) ?_
  · split
    · rename_i hnone
      exact (senders_set_of_none hnone _).symm
    · rename_i x hx
      extract_lets v to_ v2
      have hv : (v.leg l).senders = (w.leg l).senders := by
        simp only [v]
        split
        · split
          · rfl
          · exact pauseSlot_senders hx
        · rfl
      have hv2 : (v2.leg l).senders = (w.leg l).senders.set k to_ := by
        rw [← hv, ← setSlot_senders _ k { ((v.leg l).fwd[k]?.getD {}) with sender := to_ }]
        exact congrArg LegRt.senders (onLeg_self v l _)
      change _ = (w.leg l).senders.set k to_
      clear_value v v2 to_
      split
      · rename_i hkept
        rw [hv, hkept, senders_set_self hx]
      · cases to_ with
        | none =>
          dsimp only
          rw [onLeg_self, ← hv2]
          exact setSlot_senders_of_same fun z hz => by rw [hz]; rfl
        | some c =>
          dsimp only
          split
          · rw [retarget_senders, hv2]
          · exact hv2
  · rw [onLeg_self]
    exact (List.length_map _).trans (length_indexed outs)

/-! ### FWD_SWITCH_TIMEOUT and FWD_PLI_REPEAT (R345) -/

section Slot

variable {s : State} {l k : Nat} {x : FwdSlot} (hx : (s.leg l).fwd[k]? = some x)
include hx

theorem fwdSwitchTimeout_slot : fwdSwitchTimeout l k s =
    if x.waiting && !x.waitUp && !x.paused && decide (x.waitFrom + 60 < s.now) then
      (s.pauseSlot l k x).raiseOnce fltFwdPaused (subjStream x.stream) 600
    else s := by
  simp only [fwdSwitchTimeout, hx]

theorem fwdSwitchTimeout_fwd_of_late (hwaiting : x.waiting = true) (hdown : x.waitUp = false) (hgoes : x.paused = false)
    (hlate : x.waitFrom + 60 < s.now) :
    ((fwdSwitchTimeout l k s).leg l).fwd = (s.leg l).fwd.set k { x with paused := true } := by
  rw [fwdSwitchTimeout_slot hx, if_pos (by simp [hwaiting, hdown, hgoes, hlate]), leg_of_legs (raiseOnce_legs _ _ _ _ _),
    pauseSlot_leg, LegRt.setSlot]

theorem fwdSwitchTimeout_of_settled (hsettled : x.waiting = false) : fwdSwitchTimeout l k s = s := by
  rw [fwdSwitchTimeout_slot hx, if_neg (by simp [hsettled])]

theorem fwdPliRepeat_fwd_of_due {y : Nat × Nat × Nat} (htgt : x.tgt = some y) (hwaiting : x.waiting = true) (hup : x.waitUp = true)
    (hkey : x.needKey = true) (hdue : x.lastPli + 600 ≤ s.now) :
    ((fwdPliRepeat l k s).leg l).fwd = (s.leg l).fwd.set k { x with lastPli := s.now } := by
  simp only [fwdPliRepeat, hx, htgt, hwaiting, hup, hkey, hdue, decide_true, Bool.and_self, if_true]
  rw [leg_of_legs (upstreamRequest_legs _ _ _), onLeg_self]

theorem fwdPliRepeat_of_early (hearly : s.now < x.lastPli + 600) : fwdPliRepeat l k s = s := by
  simp only [fwdPliRepeat, hx, decide_eq_false (Nat.not_le.mpr hearly), Bool.and_false, Bool.false_eq_true, if_false]
  split <;> rfl

end Slot

end Sys2Proof.Machine

open Sys2Proof Sys2Proof.Machine

/-- Settles O22: each step of FORWARD_ASSIGN gives one slot its sender and keeps those of the others, and the other two commands write
one slot of the leg. -/
theorem forwarderSlotsFollowOrder : Obligations.ForwarderSlotsFollowOrder := by
  intro l k s
  refine ⟨fun hactive hmode => ⟨_, finish_after s _, ?_⟩, fun hidle => ?_,
    fun x hx hwaiting hdown hgoes hlate => ⟨_, finish_after s _, ?_⟩, fun x hx hsettled => ?_,
    fun x y hx htgt hwaiting hup hkey hdue => ⟨_, finish_after s _, ?_⟩, fun x hx hearly => ?_⟩
  · rw [after_leg]
    exact forwardAssign_senders hactive hmode
  · exact (finish_after s _).trans (by rw [forwardAssign_idle hidle])
  · rw [after_leg]
    exact fwdSwitchTimeout_fwd_of_late hx hwaiting hdown hgoes hlate
  · exact (finish_after s _).trans (by rw [fwdSwitchTimeout_of_settled hx hsettled])
  · rw [after_leg]
    exact fwdPliRepeat_fwd_of_due hx htgt hwaiting hup hkey hdue
  · exact (finish_after s _).trans (by rw [fwdPliRepeat_of_early hx hearly])
end

section
/-!
PROOFS. The Drover beside the rest: ending a node changes the Drover's own state and what reports change, and nothing else.
-/

namespace Sys2Proof.Machine

/-- What neither a report nor an operation of the Drover changes. -/
def State.besideDrv (s : State) : Media := { s.media with drv := {} }

theorem besideDrv_of_media {s t : State} (h : t.media = s.media) : t.besideDrv = s.besideDrv := by
  rw [State.besideDrv, h, State.besideDrv]

/-! Each operation is rewritten to what it works on. -/

@[simp] theorem besideDrv_drv (s : State) (d : DrvSt) : ({ s with drv := d } : State).besideDrv = s.besideDrv := rfl

@[simp] theorem onTask_besideDrv (s : State) (t : Nat) (f : Task → Task) : (s.onTask t f).besideDrv = s.besideDrv := besideDrv_drv s _

@[simp] theorem onCore_besideDrv (s : State) (c : Nat) (f : CorePort → CorePort) : (s.onCore c f).besideDrv = s.besideDrv :=
  besideDrv_drv s _

@[simp] theorem incR_besideDrv (s : State) (d n : Nat) : (s.incR d n).besideDrv = s.besideDrv := besideDrv_of_media (incR_media s d n)

@[simp] theorem raiseOnce_besideDrv (s : State) (code subject period : Nat) (detail : List (Nat × Nat)) :
    (s.raiseOnce code subject period detail).besideDrv = s.besideDrv := besideDrv_of_media (raiseOnce_media s code subject period detail)

/-! ### Readiness (R390, R391, R400) -/

@[simp] theorem taskCount_besideDrv (s : State) (t n k : Nat) : (s.taskCount t n k).besideDrv = s.besideDrv := onTask_besideDrv s t _

theorem orFlag_besideDrv (s : State) (t flag : Nat) (missing : Bool) : (s.orFlag t flag missing).besideDrv = s.besideDrv :=
  onTask_besideDrv s t _

theorem placeReady_besideDrv (s : State) (t : Nat) : (s.placeReady t).besideDrv = s.besideDrv := by
  simp only [State.placeReady, apply_ite State.besideDrv, incR_besideDrv, onTask_besideDrv, besideDrv_drv, ite_self]

theorem testReady_besideDrv (s : State) (t : Nat) : (s.testReady t).besideDrv = s.besideDrv := by
  simp only [State.testReady, apply_ite State.besideDrv, placeReady_besideDrv, onTask_besideDrv, ite_self]

theorem testTogether_besideDrv (s : State) (ts : List Nat) : (s.testTogether ts).besideDrv = s.besideDrv :=
  each_keeps State.besideDrv testReady_besideDrv _ s

/-! ### The end of an item (R392, R393, R397, R409) -/

theorem tellSuccessors_besideDrv (s : State) (es : List Succ) (missing test : Bool) (also : List Nat) :
    (s.tellSuccessors es missing test also).besideDrv = s.besideDrv := by
  have htold := each_keeps State.besideDrv (fun w (e : Succ) => orFlag_besideDrv w e.target e.flag missing) es s
  simp only [State.tellSuccessors, apply_ite State.besideDrv, testTogether_besideDrv, htold, ite_self]

@[simp] theorem closeItem_besideDrv (s : State) (t : Nat) (o : Outcome4) (shed test : Bool) :
    (s.closeItem t o shed test).besideDrv = s.besideDrv := by
  simp only [State.closeItem, tellSuccessors_besideDrv, besideDrv_drv, apply_ite State.besideDrv, taskCount_besideDrv,
    onTask_besideDrv, ite_self]

theorem shedItem_besideDrv (s : State) (t : Nat) (test : Bool) : (s.shedItem t test).besideDrv = s.besideDrv := by
  simp only [State.shedItem, raiseOnce_besideDrv, closeItem_besideDrv, besideDrv_drv, incR_besideDrv]

theorem shedTask_besideDrv (s : State) (t : Nat) (test : Bool) : (s.shedTask t test).besideDrv = s.besideDrv := by
  simp only [State.shedTask, State.unready, apply_ite State.besideDrv, shedItem_besideDrv, besideDrv_drv, ite_self]

theorem shedNode_besideDrv (s : State) (n : Nat) (test : Bool) : (s.shedNode n test).besideDrv = s.besideDrv := by
  simp only [State.shedNode, apply_ite State.besideDrv, shedTask_besideDrv, shedItem_besideDrv, besideDrv_drv, ite_self]

theorem graphLoss_besideDrv (s : State) (t : Nat) (test : Bool) : (s.graphLoss t test).besideDrv = s.besideDrv := by
  have hshed (ns : List Nat) (w : State) : (w.each ns (fun w n => w.shedNode n test)).besideDrv = w.besideDrv :=
    each_keeps State.besideDrv (fun w n => shedNode_besideDrv w n test) ns w
  have hclosed (is : List RunItem) (w : State) : (w.each is (fun w i => w.closeItem i.task .aborted false test)).besideDrv = w.besideDrv :=
    each_keeps State.besideDrv (fun w (i : RunItem) => closeItem_besideDrv w i.task .aborted false test) is w
  simp only [State.graphLoss, apply_ite State.besideDrv, hclosed, besideDrv_drv, hshed, ite_self]

/-! ### Units (R403, R413) -/

theorem endItem_besideDrv (s : State) (i : RunItem) (o : Outcome4) (ns : Nat) : (s.endItem i o ns).besideDrv = s.besideDrv := by
  simp only [State.endItem, apply_ite State.besideDrv, graphLoss_besideDrv, closeItem_besideDrv, onTask_besideDrv, besideDrv_drv, ite_self]

theorem handItem_besideDrv (s : State) (c : Nat) (e : ReadyEnt) : (s.handItem c e).besideDrv = s.besideDrv := by
  simp only [State.handItem, State.unready, onCore_besideDrv, taskCount_besideDrv, onTask_besideDrv, besideDrv_drv]

theorem serveTakers_besideDrv (s : State) : s.serveTakers.besideDrv = s.besideDrv := by
  unfold State.serveTakers
  refine each_keeps State.besideDrv (fun w e => ?_) _ s
  dsimp only
  split
  · rfl
  · rw [handItem_besideDrv, besideDrv_drv]

/-- A node's end changes nothing beside the Drover but what reports change. -/
theorem endNode_besideDrv (s : State) (node : Option Nat) (ns : Nat) (good : Bool) :
    (s.endNode node ns good).besideDrv = s.besideDrv := by
  unfold State.endNode State.drvAt
  dsimp only
  split
  · exact besideDrv_drv s _
  · split
    · exact besideDrv_drv s _
    · rw [serveTakers_besideDrv, endItem_besideDrv, besideDrv_drv]

theorem endNode_legs (s : State) (node : Option Nat) (ns : Nat) (good : Bool) : (s.endNode node ns good).legs = s.legs :=
  congrArg Media.legs (endNode_besideDrv s node ns good)

theorem endNode_lac (s : State) (node : Option Nat) (ns : Nat) (good : Bool) : (s.endNode node ns good).lac = s.lac :=
  congrArg Media.lac (endNode_besideDrv s node ns good)

theorem endNode_tim (s : State) (node : Option Nat) (ns : Nat) (good : Bool) : (s.endNode node ns good).tim = s.tim :=
  congrArg Media.tim (endNode_besideDrv s node ns good)

end Sys2Proof.Machine
end

section
/-!
PROOFS. Assemblies of laced viewers: what each step of an assembly keeps of the viewer, and what its three outcomes write.
-/

namespace Sys2Proof.Machine

/-! ### What the steps of an assembly keep -/

/-- What the outcomes of an assembly write: whether a viewer's synthetic key picture is pending, when its last one was sent and its
pictures since (R336, R337), and the lacer's counts. -/
structure Lacing where
  keyPending : Bool
  lastSynth : Option Nat
  pictures : Nat
  lac : LacSt
  tim : TimSt

/-- An assembly lost (R352). -/
def Lacing.lost (x : Lacing) : Lacing := { x with keyPending := true }

/-- A synthetic key picture sent (R336). -/
def Lacing.keySent (x : Lacing) : Lacing := { x with keyPending := false, lastSynth := some x.tim.tick, pictures := 0 }

/-- Another picture sent (R333, R337). -/
def Lacing.pictureSent (x : Lacing) : Lacing :=
  { x with pictures := Nat.min 65535 (x.pictures + 1), lac := { x.lac with asmTick := x.lac.asmTick + 1 } }

def Viewer.lacing (v : Viewer) (lac : LacSt) (tim : TimSt) : Lacing := ⟨v.keyPending, v.lastSynth, v.pictures, lac, tim⟩

/-- The lacing of viewer `l`. -/
def State.lacing (s : State) (l : Nat) : Lacing := (s.leg l).view.lacing s.lac s.tim

theorem lacing_keyPending (s : State) (l : Nat) : (s.lacing l).keyPending = (s.leg l).view.keyPending := rfl

theorem lacing_lastSynth (s : State) (l : Nat) : (s.lacing l).lastSynth = (s.leg l).view.lastSynth := rfl

theorem lacing_pictures (s : State) (l : Nat) : (s.lacing l).pictures = (s.leg l).view.pictures := rfl

theorem lacing_lac (s : State) (l : Nat) : (s.lacing l).lac = s.lac := rfl

theorem lacing_congr {s t : State} (hlegs : t.legs = s.legs) (hlac : t.lac = s.lac) (htim : t.tim = s.tim) (l : Nat) :
    t.lacing l = s.lacing l := by
  rw [State.lacing, leg_of_legs hlegs, hlac, htim, State.lacing]

theorem onLeg_lacing_eq (s : State) (l : Nat) (f : LegRt → LegRt) : (s.onLeg l f).lacing l = (f (s.leg l)).view.lacing s.lac s.tim := by
  rw [State.lacing, onLeg_self, onLeg_lac, onLeg_tim]

theorem onLeg_lacing {f : LegRt → LegRt} (hf : ∀ g, (f g).view.lacing = g.view.lacing) (s : State) (l : Nat) :
    (s.onLeg l f).lacing l = s.lacing l := by
  rw [onLeg_lacing_eq, hf, State.lacing]

theorem onFold_lacing (s : State) (f : Nat) (h : FoldRt → FoldRt) (l : Nat) : (s.onFold f h).lacing l = s.lacing l :=
  lacing_congr (onFold_legs s f h) (onFold_lac s f h) (onFold_tim s f h) l

theorem onStream_lacing (s : State) (e : Nat) (f : StreamRt → StreamRt) (l : Nat) : (s.onStream e f).lacing l = s.lacing l :=
  lacing_congr (onStream_legs s e f) (onStream_lac s e f) (onStream_tim s e f) l

theorem packetiseAt_lacing (s : State) (t : Nat) (p : EgPkt) (l : Nat) : (s.packetiseAt t p).lacing l = s.lacing l :=
  lacing_congr rfl rfl rfl l

theorem incR_lacing (s : State) (d n l : Nat) : (s.incR d n).lacing l = s.lacing l :=
  lacing_congr (incR_legs s d n) (incR_lac s d n) (incR_tim s d n) l

theorem incR64_lacing (s : State) (d n l : Nat) : (s.incR64 d n).lacing l = s.lacing l :=
  lacing_congr (incR64_legs s d n) (incR64_lac s d n) (incR64_tim s d n) l

theorem requestIntra_lacing (s : State) (f : Nat) (o : Option Nat) (k : ClassKey) (rung l : Nat) :
    (s.requestIntra f o k rung).lacing l = s.lacing l := by
  simp only [State.requestIntra, State.setCellEnc, apply_ite (State.lacing · l), incR_lacing, onFold_lacing, ite_self]

theorem requestAll_lacing (s : State) (j l : Nat) : (s.requestAll j).lacing l = s.lacing l :=
  each_keeps (State.lacing · l) (fun w _ => requestIntra_lacing w _ _ _ _ l) _ s

theorem sendPicture_lacing (s : State) (j e cls ts pic content : Nat) (lens : List Nat) (l : Nat) :
    (s.sendPicture j e cls ts pic content lens).1.lacing l = s.lacing l := by
  unfold State.sendPicture
  refine each_keeps (State.lacing · l) (fun w (x : Nat × Nat) => ?_) _ s
  exact (packetiseAt_lacing _ _ _ l).trans (onStream_lacing w e _ l)

theorem sendLaced_lacing (s : State) (l : Nat) (p : Pricking) (g : LaceGrid) (pkts : List LacePacket) :
    (s.sendLaced l p g pkts).lacing l = s.lacing l := by
  unfold State.sendLaced
  split
  · rfl
  · exact (onLeg_lacing (fun _ => by rfl) _ l).trans (sendPicture_lacing s _ _ _ _ _ _ _ l)

theorem touchEnc_lacing (s : State) (f : Nat) (e : Option Nat × ClassKey × Nat) (l : Nat) : (s.touchEnc f e).lacing l = s.lacing l :=
  onFold_lacing s f _ l

theorem laceCell_lacing (s : State) (l i : Nat) (p : Pricking) (g : LaceGrid) : (s.laceCell l i p g).lacing l = s.lacing l := by
  unfold State.laceCell
  extract_lets f
  split
  split
  rename_i w c hmove
  have hmoved := congrArg (fun m : State × ViewCell => m.1.lacing l) hmove
  simp only [apply_ite (fun m : State × ViewCell => m.1.lacing l), requestIntra_lacing, ite_self] at hmoved
  extract_lets c' e x u v y
  have hu : u.lacing l = w.lacing l := by simp only [u, apply_ite (State.lacing · l), incR_lacing, ite_self]
  have hy : y.lacing l = v.lacing l := by
    simp only [y]
    split
    · exact touchEnc_lacing v f _ l
    · rfl
  rw [onLeg_lacing (fun _ => by rfl), hy, touchEnc_lacing, hu, hmoved]

theorem settleOwed_lacing (s : State) (l : Nat) : (s.settleOwed l).lacing l = s.lacing l := by
  unfold State.settleOwed
  extract_lets g waits
  split
  · exact onLeg_lacing (fun _ => by rfl) s l
  · rfl

/-! ### A tile map lost (R338) -/

/-- The state in which an assembly begins: a tile map lost is reported, and the viewer refreshed. -/
def State.mapChecked (s : State) (l : Nat) (mapLost : Bool) : State :=
  if mapLost then
    ((s.raise fltTileMap (subjLeg l)).onLeg l (fun v => { v with view := { v.view with tileMap := [] } })).viewerRefresh l false
  else s

theorem viewerRefresh_lacing (s : State) (l : Nat) : (s.viewerRefresh l false).lacing l = s.lacing l := by
  unfold State.viewerRefresh
  extract_lets v key idle
  have hkey : key = false := Bool.false_and _
  rw [hkey, if_neg Bool.false_ne_true]
  split
  · exact incR_lacing s _ _ l
  · exact (onLeg_lacing (fun _ => by rfl) _ l).trans (requestAll_lacing s l l)

theorem mapChecked_lacing (s : State) (l : Nat) (mapLost : Bool) : (s.mapChecked l mapLost).lacing l = s.lacing l := by
  unfold State.mapChecked
  split
  · rw [viewerRefresh_lacing, onLeg_lacing (fun _ => by rfl)]
    exact lacing_congr (raise_legs _ _ _ _) (raise_lac _ _ _ _) (raise_tim _ _ _ _) l
  · rfl

/-- The lacer's status is no count of reports or of merged requests. -/
theorem mapChecked_lacStatus (s : State) (l : Nat) (mapLost : Bool) :
    (s.mapChecked l mapLost).getR Reg.LAC_STATUS = s.getR Reg.LAC_STATUS := by
  have hmerge : ∀ w : State, (w.incR Reg.LAC_INTRA_MERGED).getR Reg.LAC_STATUS = w.getR Reg.LAC_STATUS := fun w =>
    getR_setR_ne (by decide) w _
  have hintra : ∀ (w : State) (f : Nat) (o : Option Nat) (k : ClassKey) (rung : Nat),
      (w.requestIntra f o k rung).getR Reg.LAC_STATUS = w.getR Reg.LAC_STATUS := fun w f o k rung => by
    simp only [State.requestIntra, State.setCellEnc, getR_ite, hmerge, onFold_getR, ite_self]
  have hall : ∀ w : State, (w.requestAll l).getR Reg.LAC_STATUS = w.getR Reg.LAC_STATUS := fun w =>
    each_getR _ _ _ (fun u _ => hintra u _ _ _ _) w
  simp only [State.mapChecked, State.viewerRefresh, getR_ite, onLeg_getR, hmerge, hall,
    raise_getR (by decide : reportReg Reg.LAC_STATUS = false), ite_self]

/-! ### The outcomes of an assembly (R333, R336, R337, R352) -/

theorem laceAssembly_inactive {s : State} {l : Nat} (hstate : (s.leg l).state ≠ .active) (lane : Nat) (how : BandEnd)
    (pkts : List LacePacket) (mapLost : Bool) : laceAssembly l lane how pkts mapLost s = s := if_pos hstate

/-- An assembly that is lost: the viewer begins with a synthetic key picture (R352). -/
def State.loseAssembly (s : State) (l : Nat) : State :=
  ((s.incR Reg.LAC_ASSEMBLIES_LOST).onLeg l (fun v => { v with view := { v.view with keyPending := true } })).raiseOnce
    fltAssemblyLost (subjLeg l) 600

/-- An assembly of the viewer's cells: one picture more (R333, R337). -/
def State.lacePicture (s : State) (l : Nat) (p : Pricking) (g : LaceGrid) (pkts : List LacePacket) : State :=
  let s := s.each (upTo p.cells.length) (fun s i => s.laceCell l i p g)
  let s := (s.incR64 Reg.LAC_ASSEMBLIES).sendLaced l p g pkts
  let s := { s with lac := { s.lac with asmTick := s.lac.asmTick + 1 } }
  (s.onLeg l (fun v => { v with view := { v.view with pictures := Nat.min 65535 (v.view.pictures + 1) } })).settleOwed l

theorem loseAssembly_lacing (s : State) (l : Nat) : (s.loseAssembly l).lacing l = (s.lacing l).lost := by
  rw [State.loseAssembly, lacing_congr (raiseOnce_legs _ _ _ _ _) (raiseOnce_lac _ _ _ _ _) (raiseOnce_tim _ _ _ _ _), onLeg_lacing_eq,
    ← incR_lacing s Reg.LAC_ASSEMBLIES_LOST 1 l]
  rfl

theorem synthKey_lacing (s : State) (l : Nat) (p : Pricking) (g : LaceGrid) (pkts : List LacePacket) :
    (s.synthKey l p g pkts).lacing l = (s.lacing l).keySent := by
  unfold State.synthKey
  extract_lets cell n u
  rw [sendLaced_lacing, requestAll_lacing, incR64_lacing]
  refine (each_keeps (State.lacing · l) (fun w _ => onLeg_lacing (fun _ => by rfl) w l) (upTo n) _).trans ?_
  rw [onLeg_lacing_eq]
  rfl

theorem lacePicture_lacing (s : State) (l : Nat) (p : Pricking) (g : LaceGrid) (pkts : List LacePacket) :
    (s.lacePicture l p g pkts).lacing l = (s.lacing l).pictureSent := by
  unfold State.lacePicture
  extract_lets cells sent old counted
  have hsent : sent.lacing l = s.lacing l := by
    rw [sendLaced_lacing, incR64_lacing]
    exact each_keeps (State.lacing · l) (fun w i => laceCell_lacing w l i p g) _ s
  rw [settleOwed_lacing, onLeg_lacing_eq, ← hsent]
  rfl

section Active

variable {s : State} {l : Nat} {p : Pricking} {g : LaceGrid} (hactive : (s.leg l).state = .active) (hlayout : s.viewerLayout l = some (p, g))
include hactive hlayout

theorem laceAssembly_active (lane : Nat) (how : BandEnd) (pkts : List LacePacket) (mapLost : Bool) :
    laceAssembly l lane how pkts mapLost s =
      if how != .done || bit (s.getR Reg.LAC_STATUS) (12 + lane) then (s.mapChecked l mapLost).loseAssembly l
      else if (s.leg l).view.keyPending then (s.mapChecked l mapLost).synthKey l p g pkts
      else (s.mapChecked l mapLost).lacePicture l p g pkts := by
  have hkeys : ((s.mapChecked l mapLost).leg l).view.keyPending = (s.leg l).view.keyPending :=
    congrArg Lacing.keyPending (mapChecked_lacing s l mapLost)
  rw [← hkeys, ← mapChecked_lacStatus s l mapLost, laceAssembly, if_neg (not_not_intro hactive), hlayout]
  rfl

theorem laceAssembly_lacing_of_lost {lane : Nat} {how : BandEnd} (hlost : how ≠ .done ∨ bit (s.getR Reg.LAC_STATUS) (12 + lane) = true)
    (pkts : List LacePacket) (mapLost : Bool) : (laceAssembly l lane how pkts mapLost s).lacing l = (s.lacing l).lost := by
  rw [laceAssembly_active hactive hlayout, if_pos (by simpa using hlost), loseAssembly_lacing, mapChecked_lacing]

theorem laceAssembly_lacing_of_key {lane : Nat} (hlane : bit (s.getR Reg.LAC_STATUS) (12 + lane) = false)
    (hkey : (s.leg l).view.keyPending = true) (pkts : List LacePacket) (mapLost : Bool) :
    (laceAssembly l lane .done pkts mapLost s).lacing l = (s.lacing l).keySent := by
  rw [laceAssembly_active hactive hlayout, if_neg (by simp [hlane]), if_pos hkey, synthKey_lacing, mapChecked_lacing]

theorem laceAssembly_lacing_of_picture {lane : Nat} (hlane : bit (s.getR Reg.LAC_STATUS) (12 + lane) = false)
    (hkey : (s.leg l).view.keyPending = false) (pkts : List LacePacket) (mapLost : Bool) :
    (laceAssembly l lane .done pkts mapLost s).lacing l = (s.lacing l).pictureSent := by
  rw [laceAssembly_active hactive hlayout, if_neg (by simp [hlane]), if_neg (by simp [hkey]), lacePicture_lacing, mapChecked_lacing]

end Active

/-! ### The end of the command -/

theorem after_lac (s t : State) : (s.after t).lac = t.lac := by simp only [State.after, showStatus_lac]

theorem after_tim (s t : State) : (s.after t).tim = t.tim := by simp only [State.after, showStatus_tim]

/-- The end of an assembly's node and of its command keep what the assembly left. -/
theorem after_endNode_lacing (s t : State) (node : Option Nat) (ns : Nat) (good : Bool) (l : Nat) :
    (s.after (t.endNode node ns good)).lacing l = t.lacing l :=
  (lacing_congr (after_legs _ _) (after_lac _ _) (after_tim _ _) l).trans
    (lacing_congr (endNode_legs _ _ _ _) (endNode_lac _ _ _ _) (endNode_tim _ _ _ _) l)

end Sys2Proof.Machine

open Sys2Proof Sys2Proof.Machine

/-- Settles O21: a lost tile map, the node's end and the command's end keep the viewer's keys, so each of the three outcomes is read off
what it writes last (notes/assumptions 13 for the fenced lane). -/
theorem assembliesSendKeysThenPictures : Obligations.AssembliesSendKeysThenPictures := by
  intro l lane how pkts mapLost node s p g
  have hend := after_endNode_lacing s (laceAssembly l lane how pkts mapLost s) node s.drv.clock (how == .done) l
  refine ⟨fun hactive hlayout => ⟨fun hlost => ⟨_, finish_after s _, ?_⟩, fun hdone hlane hkey => ⟨_, finish_after s _, ?_⟩,
    fun hdone hlane hkey => ⟨_, finish_after s _, ?_⟩⟩, fun hstate => ?_⟩
  · rw [← lacing_keyPending, hend, laceAssembly_lacing_of_lost hactive hlayout hlost, Lacing.lost]
  · subst hdone
    rw [← lacing_keyPending, ← lacing_lastSynth, hend, laceAssembly_lacing_of_key hactive hlayout hlane hkey]
    exact ⟨rfl, rfl⟩
  · subst hdone
    rw [← lacing_pictures, ← lacing_lac _ l, hend, laceAssembly_lacing_of_picture hactive hlayout hlane hkey]
    exact ⟨rfl, rfl⟩
  · exact (finish_after s _).trans (by rw [laceAssembly_inactive hstate])
end

section
/-!
PROOFS. The take and done ports of the cores: what handing out an item writes, the cores that wait, and the three commands of the ports.
-/

namespace Sys2Proof.Machine

/-! ### A core's port page -/

theorem onCore_self (s : State) (c : Nat) (f : CorePort → CorePort) :
    tget {} (s.onCore c f).drv.cores c = f (tget {} s.drv.cores c) := tget_tmod_self _ _ _ _

theorem onCore_ne {c k : Nat} (h : k ≠ c) (s : State) (f : CorePort → CorePort) :
    tget {} (s.onCore c f).drv.cores k = tget {} s.drv.cores k := tget_tmod_ne _ h _ _

theorem onCore_task (s : State) (c : Nat) (f : CorePort → CorePort) (t : Nat) : (s.onCore c f).task t = s.task t := rfl

theorem onCore_regs (s : State) (c : Nat) (f : CorePort → CorePort) : (s.onCore c f).regs = s.regs := rfl

/-! ### An item handed out (R403, R404) -/

/-- The item that core `c` runs once the ready entry `e` is handed to it. -/
def State.itemOf (s : State) (c : Nat) (e : ReadyEnt) : RunItem :=
  { task := e.task, pool := (s.task e.task).cfg.pool, unit := c, deadline := e.deadline, grantTick := s.now, grantNs := s.drv.clock }

/-- The Drover with the item of `e` dispatched to core `c`, whose port does not show it yet. -/
def State.dispatched (s : State) (c : Nat) (e : ReadyEnt) : State :=
  let w := s.unready e.task
  let w := { w with drv := { w.drv with running := w.drv.running ++ [s.itemOf c e], dispN := w.drv.dispN + 1 } }
  (w.onTask e.task (fun y => { y with st := .running })).taskCount e.task 0

theorem handItem_dispatched (s : State) (c : Nat) (e : ReadyEnt) :
    s.handItem c e = (s.dispatched c e).onCore c (fun p =>
      { p with
        take := takeWord e.task (s.task e.task) e.deadline
        context := (s.task e.task).cfg.context
        flags := (s.task e.task).consumed }) :=
  rfl

theorem dispatched_cores (s : State) (c : Nat) (e : ReadyEnt) : (s.dispatched c e).drv.cores = s.drv.cores := rfl

theorem dispatched_taskState (s : State) (c : Nat) (e : ReadyEnt) : ((s.dispatched c e).task e.task).st = .running := by
  rw [State.dispatched, State.taskCount, onTask_self, onTask_self]

theorem dispatched_regs (s : State) (c : Nat) (e : ReadyEnt) : (s.dispatched c e).regs = s.regs := by
  simp only [State.dispatched, State.taskCount, onTask_regs, State.unready]

theorem handItem_running (s : State) (c : Nat) (e : ReadyEnt) : (s.handItem c e).drv.running = s.drv.running ++ [s.itemOf c e] := rfl

theorem handItem_taskState (s : State) (c : Nat) (e : ReadyEnt) : ((s.handItem c e).task e.task).st = .running := by
  rw [handItem_dispatched, onCore_task, dispatched_taskState]

theorem handItem_take (s : State) (c : Nat) (e : ReadyEnt) :
    (tget {} (s.handItem c e).drv.cores c).take = takeWord e.task (s.task e.task) e.deadline := by
  rw [handItem_dispatched, onCore_self]

theorem handItem_cores_ne {c k : Nat} (h : k ≠ c) (s : State) (e : ReadyEnt) :
    tget {} (s.handItem c e).drv.cores k = tget {} s.drv.cores k := by
  rw [handItem_dispatched, onCore_ne h, dispatched_cores]

theorem handItem_regs (s : State) (c : Nat) (e : ReadyEnt) : (s.handItem c e).regs = s.regs := by
  rw [handItem_dispatched, onCore_regs, dispatched_regs]

/-! ### The cores that wait (R403) -/

/-- The state in which core `c` alone waits for an item. -/
def State.awaitedBy (s : State) (c : Nat) : State :=
  { s with drv := { s.drv with takers := [(tickNs s.now + s.drv.clock, c)] } }

theorem awaitedBy_takers (s : State) (c : Nat) : (s.awaitedBy c).drv.takers = [(tickNs s.now + s.drv.clock, c)] := rfl

/-- Readiness does not look at the cores that wait. -/
theorem awaitedBy_bestEntry (s : State) (c : Nat) :
    (s.awaitedBy c).bestEntry (s.awaitedBy c).drv.readyW ((s.awaitedBy c).coreTakes c) = s.bestEntry s.drv.readyW (s.coreTakes c) := rfl

/-- The round of the cores that wait asks once, for core `c`. -/
theorem serveTakers_awaitedBy_none {s : State} {c : Nat} (hnone : s.bestEntry s.drv.readyW (s.coreTakes c) = none) :
    (s.awaitedBy c).serveTakers = s.awaitedBy c := by
  rw [← awaitedBy_bestEntry] at hnone
  simp only [State.serveTakers, State.each, awaitedBy_takers, List.foldl_cons, List.foldl_nil, hnone]

theorem serveTakers_awaitedBy_some {s : State} {c : Nat} {e : ReadyEnt}
    (hready : s.bestEntry s.drv.readyW (s.coreTakes c) = some e) (halone : s.drv.takers = []) :
    (s.awaitedBy c).serveTakers = s.handItem c e := by
  have hleft : [(tickNs s.now + s.drv.clock, c)].filter (·.2 ≠ c) = s.drv.takers := by simp [halone]
  rw [← awaitedBy_bestEntry] at hready
  simp only [State.serveTakers, State.each, awaitedBy_takers, List.foldl_cons, List.foldl_nil, hready, hleft]
  rfl

/-! ### The commands of the ports -/

theorem drvAt_takers (s : State) (ns : Nat) : (s.drvAt ns).drv.takers = s.drv.takers := rfl

/-- Readiness does not look at the Drover's time. -/
theorem drvAt_bestEntry (s : State) (ns c : Nat) :
    (s.drvAt ns).bestEntry (s.drvAt ns).drv.readyW ((s.drvAt ns).coreTakes c) = s.bestEntry s.drv.readyW (s.coreTakes c) := rfl

theorem drvAt_coreFenced (s : State) (ns c : Nat) : (s.drvAt ns).coreFenced c = s.coreFenced c := rfl

theorem drvAt_getF (s : State) (ns d hi lo : Nat) : (s.drvAt ns).getF d hi lo = s.getF d hi lo := rfl

/-- A core that is fenced, or a Drover that is stopped, reads none (R403, R423). -/
theorem takePort_none {s : State} {c : Nat} (hshut : s.coreFenced c = true ∨ s.getF Reg.DRV_STATUS 31 31 = 1) (ns : Nat) :
    takePort c ns s = (s.drvAt ns).onCore c (fun p => { p with take := takeNone, context := 0, flags := 0 }) :=
  if_pos (by rwa [Bool.or_eq_true, decide_eq_true_eq])

section Alone

variable {s : State} {c : Nat} (hcore : s.coreFenced c = false) (hruns : s.getF Reg.DRV_STATUS 31 31 = 0) (halone : s.drv.takers = [])
include hcore hruns halone

theorem takePort_awaitedBy (ns : Nat) : takePort c ns s = ((s.drvAt ns).awaitedBy c).serveTakers := by
  have hopen : ¬ ((s.drvAt ns).coreFenced c || decide ((s.drvAt ns).getF Reg.DRV_STATUS 31 31 = 1)) = true := by
    simp [drvAt_coreFenced, drvAt_getF, hcore, hruns]
  have hnew : ¬ (s.drvAt ns).drv.takers.any (fun e => e.2 = c) = true := by simp [drvAt_takers, halone]
  rw [takePort, if_neg hopen, if_neg hnew, drvAt_takers, halone]
  rfl

theorem takePort_handed {e : ReadyEnt} (hready : s.bestEntry s.drv.readyW (s.coreTakes c) = some e) (ns : Nat) :
    takePort c ns s = (s.drvAt ns).handItem c e := by
  rw [← drvAt_bestEntry s ns c] at hready
  rw [takePort_awaitedBy hcore hruns halone, serveTakers_awaitedBy_some hready halone]

theorem takePort_waits (hnone : s.bestEntry s.drv.readyW (s.coreTakes c) = none) (ns : Nat) :
    takePort c ns s = (s.drvAt ns).awaitedBy c := by
  rw [← drvAt_bestEntry s ns c] at hnone
  rw [takePort_awaitedBy hcore hruns halone, serveTakers_awaitedBy_none hnone]

end Alone

/-- An item that the core holds takes the outcome reported while it has none, and ABORTED once its abort has come (R405). -/
theorem doneStatus_held {s : State} {c k : Nat} {i : RunItem}
    (hheld : s.drv.running.find? (fun i => i.unit = c && i.task = k && decide (i.pool ≤ 0x11)) = some i)
    (hopen : i.outcome = none ∨ i.aborted = true) (failed : Bool) :
    doneStatus c k failed s = { s with drv := { s.drv with running := s.drv.running.map (fun j => if j = i then
      { i with outcome := some (if i.aborted then .aborted else if failed then .failed else .completed) } else j) } } := by
  have hunsettled : ¬ (i.outcome.isSome && !i.aborted) = true := by
    rcases hopen with hopen | hopen <;> simp [hopen]
  simp only [doneStatus, hheld, if_neg hunsettled]

theorem doneResult_settled {s : State} {c : Nat} {i : RunItem} {o : Outcome4}
    (hheld : s.drv.running.find? (fun i => i.unit = c && decide (i.pool ≤ 0x11) && i.outcome.isSome) = some i)
    (hsettled : i.outcome = some o) (ns : Nat) :
    doneResult c ns s = (((s.drvAt ns).onCore c (fun p => { p with result := o.code })).endItem i o ns).serveTakers := by
  simp only [doneResult, hheld, hsettled, Option.getD_some]

end Sys2Proof.Machine

open Sys2Proof Sys2Proof.Machine

/-- Settles O25: TAKE, with no other core waiting, lets the core wait and serves it at once where an item is ready; the done ports
act on the item that the core holds. -/
theorem droverPortsHandOutAndSettle : Obligations.DroverPortsHandOutAndSettle := by
  intro s
  refine ⟨fun c ns hshut => ?_, fun c ns hcore hruns halone => ⟨fun e hready => ?_, fun hnone => ?_⟩,
    fun c k failed cause i hheld hopen => ?_, fun c ns i o hheld hsettled => ?_⟩
  · exact (finish_after s _).trans (by rw [takePort_none hshut])
  · exact (finish_after s _).trans (by rw [takePort_handed hcore hruns halone hready])
  · exact (finish_after s _).trans (by rw [takePort_waits hcore hruns halone hnone]; rfl)
  · exact (finish_after s _).trans (by rw [doneStatus_held hheld hopen])
  · exact (finish_after s _).trans (by rw [doneResult_settled hheld hsettled])

/-- Settles O26: beside the Drover nothing moves, and in it only the core's port, the task and the items that run. -/
theorem handedItemRunsAtCore : Obligations.HandedItemRunsAtCore := by
  intro s c e
  have hbeside := handItem_besideDrv s c e
  exact ⟨handItem_running s c e, handItem_taskState s c e, handItem_take s c e, fun k hk => handItem_cores_ne hk s e,
    congrArg Media.legs hbeside, congrArg Media.folds hbeside, congrArg Media.mem hbeside, handItem_regs s c e,
    congrArg Media.tim hbeside⟩
end

section
/-!
PROOFS. The bobbin queues: an access by the unit that the image names and by another, what each operation leaves in its queue and on the
consumer's port, and the queues that wait for a flush.
-/

namespace Sys2Proof.Machine

/-! ### What reports and the end of a command keep -/

theorem bobbin_of_bq {s t : State} (h : t.bq = s.bq) (q : Nat) : t.bobbin q = s.bobbin q := by rw [State.bobbin, h, State.bobbin]

theorem after_bq (s t : State) : (s.after t).bq = t.bq := by simp only [State.after, showStatus_bq]

theorem after_bobbin (s t : State) (q : Nat) : (s.after t).bobbin q = t.bobbin q := bobbin_of_bq (after_bq s t) q

/-! ### The unit that the image names, and any other (R425) -/

section Access

variable {s : State} {q : Nat}

theorem bqBy_owner (hon : s.bqEnabled q = true) (owner : Nat) (k : State → State) : s.bqBy q owner owner k = k s :=
  if_pos (by simp [hon])

theorem bqBy_stranger {unit owner : Nat} (h : s.bqEnabled q = false ∨ unit ≠ owner) (k : State → State) :
    s.bqBy q unit owner k = s.raise fltOwnerViolation (subjBobbin q) :=
  if_neg (by rcases h with h | h <;> simp [h])

/-- The command of a stranger leaves the fault and nothing else. -/
theorem finish_bqBy_stranger {unit owner : Nat} (h : s.bqEnabled q = false ∨ unit ≠ owner) (k : State → State) :
    finish s (s.bqBy q unit owner k) = .next (s.after (s.raise fltOwnerViolation (subjBobbin q))) := by
  rw [finish_after, bqBy_stranger h]

end Access

/-! ### The producer (R426, R427, R429) -/

/-- The word as the queue stores it: an END of a packet with an uncorrectable error becomes END_POISON, and only an end mark carries
a cause and a last length (R426, R433). -/
def BqWord.stored (w : BqWord) (ecc : Bool) : BqWord :=
  if w.kind = .end_ then endMark w none ecc w.last else if w.kind = .endPoison then w else { w with cause := 0, last := 0 }

/-- The queue with `w` appended at write to the packet in production (R426, R427). -/
def BqSt.append (b : BqSt) (w : BqWord) : BqSt :=
  { b with
    words := b.words ++ [w.stored b.eccHeld]
    write := b.write + 1
    left := if w.kind = .more then b.left - 1 else 0
    heldAt := if w.kind = .held then some b.write else none
    eccHeld := b.eccHeld && !(w.kind == .end_ || w.kind == .endPoison) }

/-- The queue once the word at `p` has its final end mark (R427). -/
def BqSt.marked (b : BqSt) (p : BitVec 32) (poison : Option Nat) (last : Nat) : BqSt :=
  { b with
    words := b.words.set (ptrDist b.head p) (endMark (b.words.getD (ptrDist b.head p) {}) poison (b.eccHeld || b.waitEcc) last)
    heldAt := none
    eccHeld := false }

theorem bqCount_bq (s : State) (q : Nat) (w : BqWord) : (s.bqCount q w).bq = s.bq := by
  unfold State.bqCount
  split
  · exact incR_bq s _ _
  · exact incR_bq s _ _
  · rfl

/-- The peak register of a queue is outside the queue (R440). -/
theorem iff_setR_bq (s : State) (c : Bool) (d v : Nat) : (s.iff c (fun s => s.setR d v)).bq = s.bq := by
  cases c
  · rfl
  · exact setR_bq s d v

section Producer

variable {s : State} {q : Nat} (hon : s.bqEnabled q = true)
include hon

theorem bqReserve_room {n : Nat} (hidle : (s.bobbin q).producing = false) (hroom : ceilDiv n 16 ≤ s.bqFree q) :
    bqReserve q (s.bqProducer q) n false s = s.onBobbin q (fun b => { b with left := ceilDiv n 16, eccHeld := false }) := by
  simp only [bqReserve, bqBy_owner hon, hidle, Nat.not_lt.mpr hroom, Bool.false_eq_true, if_false]

theorem bqReserve_full {n : Nat} (hidle : (s.bobbin q).producing = false) (hfull : s.bqFree q < ceilDiv n 16) :
    bqReserve q (s.bqProducer q) n false s = (s.incR (Reg.BQ_FULL_DROPS q)).raiseOnce fltQueueFull (subjBobbin q) 600 := by
  simp only [bqReserve, bqBy_owner hon, hidle, hfull, Bool.false_eq_true, if_false, if_true]

/-- A producer that has reserved nothing writes nothing (notes/assumptions 34). -/
theorem bqWordWrite_unreserved (hnone : (s.bobbin q).left = 0) (w : BqWord) : bqWordWrite q (s.bqProducer q) w s = s := by
  rw [bqWordWrite, bqBy_owner hon, if_pos hnone]

theorem bqWordWrite_bobbin (hleft : (s.bobbin q).left ≠ 0) (hkept : (s.bobbin q).discard = false) (w : BqWord) :
    (bqWordWrite q (s.bqProducer q) w s).bobbin q = (s.bobbin q).append w := by
  rw [bqWordWrite, bqBy_owner hon, if_neg hleft, if_neg (by simp [hkept]),
    bobbin_of_bq ((bqCount_bq _ _ _).trans (iff_setR_bq _ _ _ _)), onBobbin_self, BqSt.append, BqWord.stored]
  obtain ⟨data, kind, last, cause⟩ := w
  cases kind with
  | more => rfl
  | held => rfl
  | end_ => cases (s.bobbin q).eccHeld <;> rfl
  | endPoison => rfl

theorem bqEndMark_bobbin {p : BitVec 32} (hheld : (s.bobbin q).heldAt = some p) (hkept : (s.bobbin q).discard = false)
    (hread : (s.bobbin q).waiting = false) (poison : Option Nat) (last : Nat) :
    (bqEndMark q (s.bqProducer q) poison last s).bobbin q = (s.bobbin q).marked p poison last := by
  simp only [bqEndMark, bqBy_owner hon, hheld, hkept, hread, Bool.false_eq_true, if_false]
  rw [bobbin_of_bq (bqCount_bq _ _ _), onBobbin_self, BqSt.marked]

end Producer

/-! ### The consumer (R430) -/

theorem bqReturn_bobbin (s : State) (q : Nat) (e : BqPortEvent) (j : Nat) : (s.bqReturn q e).bobbin j = s.bobbin j := rfl

theorem bqReturn_port (s : State) (q : Nat) (e : BqPortEvent) : tget {} (s.bqReturn q e).bq.port q = e := tget_tset_self _ _ _ _

theorem bqTake_empty {s : State} {q : Nat} (hempty : (s.bobbin q).unread = []) (ecc : Bool) :
    s.bqTake q ecc = s.bqReturn q { empty := true } := by
  rw [State.bqTake, hempty]

/-- A word taken moves read on by one, and the port returns it; the report of an error found in it is outside the queues (R430, R433). -/
theorem bqTake_word {s : State} {q : Nat} {w : BqWord} {rest : List BqWord} (hnext : (s.bobbin q).unread = w :: rest) (ecc : Bool) :
    ((s.bqTake q ecc).bobbin q).read = (s.bobbin q).read + 1 ∧ tget {} (s.bqTake q ecc).bq.port q = { word := w, ecc := ecc } := by
  simp only [State.bqTake, hnext]
  cases ecc with
  | false =>
    rw [if_neg Bool.false_ne_true, bqReturn_bobbin, onBobbin_self]
    exact ⟨rfl, bqReturn_port _ _ _⟩
  | true =>
    rw [if_pos rfl, bobbin_of_bq (raiseOnce_bq _ _ _ _ _), raiseOnce_bq, bqReturn_bobbin, onBobbin_self]
    exact ⟨rfl, bqReturn_port _ _ _⟩

section Consumer

variable {s : State} {q : Nat} (hon : s.bqEnabled q = true)
include hon

theorem bqRead_empty (hempty : (s.bobbin q).unread = []) (ecc : Bool) :
    bqRead q (s.bqConsumer q) ecc s = s.bqReturn q { empty := true } := by
  simp only [bqRead, bqBy_owner hon, hempty, bqTake_empty hempty]

theorem bqRead_final {w : BqWord} {rest : List BqWord} (hnext : (s.bobbin q).unread = w :: rest) (hfinal : w.kind ≠ .held) (ecc : Bool) :
    bqRead q (s.bqConsumer q) ecc s = s.bqTake q ecc := by
  simp only [bqRead, bqBy_owner hon, hnext, beq_iff_eq, hfinal, if_false]

theorem bqRead_held {w : BqWord} {rest : List BqWord} (hnext : (s.bobbin q).unread = w :: rest) (hheld : w.kind = .held) (ecc : Bool) :
    bqRead q (s.bqConsumer q) ecc s = s.onBobbin q (fun b => { b with waiting := true, waitEcc := ecc }) := by
  simp only [bqRead, bqBy_owner hon, hnext, beq_iff_eq, hheld, if_true]

theorem bqRelease_bobbin : (bqRelease q (s.bqConsumer q) s).bobbin q =
    { s.bobbin q with
      words := (s.bobbin q).words.drop (ptrDist (s.bobbin q).head (s.bobbin q).mark)
      lastHead := (s.bobbin q).head
      head := (s.bobbin q).mark } := by
  rw [bqRelease, bqBy_owner hon, onBobbin_self]

theorem bqSkip_past {i : Nat} (hend : (s.bobbin q).unread.findIdx? (fun w => w.kind == .end_ || w.kind == .endPoison) = some i) :
    bqSkip q (s.bqConsumer q) s = (s.onBobbin q (fun b => { b with read := b.read + BitVec.ofNat 32 (i + 1) })).bqReturn q {} := by
  simp only [bqSkip, bqBy_owner hon, hend]

theorem bqSkip_notDone (hnone : (s.bobbin q).unread.findIdx? (fun w => w.kind == .end_ || w.kind == .endPoison) = none) :
    bqSkip q (s.bqConsumer q) s = (s.onBobbin q (fun b => { b with read := b.write })).bqReturn q { notDone := true } := by
  simp only [bqSkip, bqBy_owner hon, hnone]

end Consumer

/-! ### The queues that wait for a flush (R434) -/

theorem mem_insertAsc_of_mem {y : Nat} {xs : List Nat} (h : y ∈ xs) (x : Nat) : y ∈ insertAsc x xs := by
  induction xs with
  | nil => cases h
  | cons z zs ih =>
    unfold insertAsc
    split
    · exact List.mem_cons_of_mem x h
    · split
      · exact h
      · rcases List.mem_cons.mp h with rfl | hzs
        · exact List.mem_cons_self
        · exact List.mem_cons_of_mem z (ih hzs)

theorem mem_foldl_insertAsc {y : Nat} {qs xs : List Nat} (h : y ∈ qs ∨ y ∈ xs) : y ∈ qs.foldl (fun l q => insertAsc q l) xs := by
  induction qs generalizing xs with
  | nil => exact h.resolve_left List.not_mem_nil
  | cons q qs ih =>
    refine ih ?_
    rcases h with h | h
    · rcases List.mem_cons.mp h with rfl | hqs
      · exact .inr (List.contains_iff_mem.mp (contains_insertAsc y xs))
      · exact .inl hqs
    · exact .inr (mem_insertAsc_of_mem h q)

theorem bqFlush_flush {inst n v i : Nat} {s : State} (hi : i < 32) (hbit : bit v i = true) (hans : s.answers (Reg.BQ_FLUSH inst n) = true) :
    inst * 256 + n * 32 + i ∈ (bqFlush inst n v s).bq.flush := by
  rw [bqFlush, ctrlWrite_answered hans]
  have hset : i ∈ (upTo 32).filter (fun i => bit v i) := List.mem_filter.mpr ⟨List.mem_range.mpr hi, hbit⟩
  exact mem_foldl_insertAsc (.inl (List.mem_map_of_mem hset))

end Sys2Proof.Machine

open Sys2Proof Sys2Proof.Machine

/-- Settles O30: an enabled queue runs the operation of the unit that the image names, whose effect is read off the queue and the port; any
other access is turned away before the queue is looked at. That a word with nothing reserved is not written is notes/assumptions 34. -/
theorem bobbinQueuesObeyTheirOwners : Obligations.BobbinQueuesObeyTheirOwners := by
  refine ⟨fun q s hon => ⟨fun n hidle => ⟨fun hroom => ?reserve, fun hfull => ?full⟩, fun w hnone => ?unreserved,
    fun w hleft hkept => ⟨_, finish_after s _, ?word⟩, fun p poison last hheld hkept hread => ⟨_, finish_after s _, ?endMark⟩,
    fun w rest ecc hnext hfinal => ⟨_, finish_after s _, ?read⟩, fun w rest ecc hnext hheld => ?wait, fun ecc hempty => ?empty,
    ?mark, ?rewind, ⟨_, finish_after s _, ?release⟩, fun i hend => ⟨_, finish_after s _, ?skip⟩,
    fun hnone => ⟨_, finish_after s _, ?notDone⟩⟩, fun q unit s => ⟨fun h => ?producer, fun h => ?consumer,
    fun inst n v i hi hbit hans => ⟨_, finish_after s _, ?flush⟩⟩⟩
  case reserve => exact (finish_after s _).trans (by rw [bqReserve_room hon hidle hroom])
  case full => exact (finish_after s _).trans (by rw [bqReserve_full hon hidle hfull])
  case unreserved => exact (finish_after s _).trans (by rw [bqWordWrite_unreserved hon hnone])
  case word =>
    rw [after_bobbin, bqWordWrite_bobbin hon hleft hkept]
    exact ⟨rfl, rfl, rfl, rfl⟩
  case endMark =>
    rw [after_bobbin, bqEndMark_bobbin hon hheld hkept hread]
    exact ⟨rfl, rfl⟩
  case read =>
    rw [after_bobbin, after_bq, bqRead_final hon hnext hfinal]
    exact bqTake_word hnext ecc
  case wait => exact (finish_after s _).trans (by rw [bqRead_held hon hnext hheld])
  case empty => exact (finish_after s _).trans (by rw [bqRead_empty hon hempty])
  case mark => exact (finish_after s _).trans (by rw [bqMark, bqBy_owner hon])
  case rewind => exact (finish_after s _).trans (by rw [bqRewind, bqBy_owner hon])
  case release =>
    rw [after_bobbin, bqRelease_bobbin hon]
    exact ⟨rfl, rfl⟩
  case skip => rw [after_bobbin, bqSkip_past hon hend, bqReturn_bobbin, onBobbin_self]
  case notDone =>
    rw [after_bobbin, after_bq, bqSkip_notDone hon hnone, bqReturn_bobbin, onBobbin_self, bqReturn_port]
    exact ⟨rfl, rfl⟩
  case producer =>
    exact ⟨fun _ _ => finish_bqBy_stranger h _, fun _ => finish_bqBy_stranger h _, fun _ _ => finish_bqBy_stranger h _⟩
  case consumer =>
    refine ⟨fun _ => finish_bqBy_stranger h _, ?_⟩
    rintro _ (rfl | rfl | rfl | rfl) <;> exact finish_bqBy_stranger h _
  case flush =>
    rw [after_bq]
    exact bqFlush_flush hi hbit hans
end

section
/-!
PROOFS. DRAM contents byte by byte (R456, R469): what an address holds after bytes are stored, lost or copied, and when a line is good.
-/

namespace Sys2Proof.Machine

/-! ### Bytes stored and lost -/

/-- A table cut down to some keys holds at those what it held. -/
theorem tfind_filter {α : Type} (p : Nat → Bool) (k : Nat) (t : Tbl α) :
    tfind k (t.filter (fun e => p e.1)) = if p k then tfind k t else none := by
  induction t with
  | nil => simp
  | cons e t ih =>
    obtain ⟨k', v⟩ := e
    by_cases hk : k' = k
    · subst hk
      by_cases hp : p k' <;> simp [hp, tfind, ih]
    · by_cases hp : p k' <;> simp [hp, tfind, hk, ih]

theorem memByte_memErase_outside {lo hi x : Nat} (h : x < lo ∨ hi ≤ x) (m : List Host.Cell) :
    memByte (memErase m lo hi) x = memByte m x :=
  (tfind_filter (fun a => decide (a < lo) || decide (hi ≤ a)) x m).trans (if_pos (by simpa using h))

theorem memByte_memErase_inside {lo hi x : Nat} (hlo : lo ≤ x) (hhi : x < hi) (m : List Host.Cell) :
    memByte (memErase m lo hi) x = none :=
  (tfind_filter (fun a => decide (a < lo) || decide (hi ≤ a)) x m).trans (if_neg (by simpa using ⟨hlo, hhi⟩))

theorem memByte_memPutAll_outside {bs : List (BitVec 8)} {a x : Nat} (h : x < a ∨ a + bs.length ≤ x) (m : List Host.Cell) :
    memByte (memPutAll m a bs) x = memByte m x := by
  induction bs generalizing a m with
  | nil => rfl
  | cons b bs ih =>
    rw [List.length_cons] at h
    rw [memPutAll, ih (by omega), memByte_memPut_ne (by omega)]

theorem memByte_memPutAll_inside {bs : List (BitVec 8)} {i : Nat} (h : i < bs.length) (a : Nat) (m : List Host.Cell) :
    memByte (memPutAll m a bs) (a + i) = bs[i]? := by
  induction bs generalizing a i m with
  | nil => exact absurd h (Nat.not_lt_zero i)
  | cons b bs ih =>
    cases i with
    | zero => rw [memPutAll, memByte_memPutAll_outside (.inl (by omega)), Nat.add_zero, memByte_memPut_self, List.getElem?_cons_zero]
    | succ i => rw [memPutAll, show a + (i + 1) = a + 1 + i by omega, ih (Nat.lt_of_succ_lt_succ h), List.getElem?_cons_succ]

/-- Storing bytes takes no address its value. -/
theorem memByte_memPutAll_isSome {m : List Host.Cell} {x : Nat} (h : (memByte m x).isSome = true) (a : Nat) (bs : List (BitVec 8)) :
    (memByte (memPutAll m a bs) x).isSome = true := by
  by_cases hx : x < a ∨ a + bs.length ≤ x
  · rwa [memByte_memPutAll_outside hx]
  · obtain ⟨i, rfl⟩ := Nat.exists_eq_add_of_le (Nat.le_of_not_lt fun hlt => hx (.inl hlt))
    have hi : i < bs.length := by omega
    rw [memByte_memPutAll_inside hi, List.getElem?_eq_getElem hi, Option.isSome_some]

/-! ### Lines -/

theorem memLine_length {m : List Host.Cell} {base : Nat} {bs : List (BitVec 8)} (h : memLine m base = some bs) : bs.length = 64 := by
  unfold memLine at h
  dsimp only at h
  split at h
  · rename_i hlen
    exact Option.some.inj h ▸ hlen
  · cases h

/-- A line is good when each of its bytes has a value. -/
theorem memLine_isSome_iff (m : List Host.Cell) (base : Nat) :
    (memLine m base).isSome = true ↔ ∀ i < 64, (memByte m (base + i)).isSome = true := by
  have hall := List.filterMap_length_eq_length (f := fun i => memByte m (base + i)) (l := List.range 64)
  simp only [List.length_range, List.mem_range] at hall
  rw [← hall]
  exact Option.isSome_ite

theorem memLine_of_bytes {m : List Host.Cell} {base : Nat} {bs : List (BitVec 8)} (hlen : bs.length = 64)
    (hbs : ∀ i < 64, memByte m (base + i) = bs[i]?) : memLine m base = some bs := by
  have hline : (upTo 64).filterMap (fun i => memByte m (base + i)) = bs := by
    have hmap : (upTo 64).filterMap (fun i => memByte m (base + i)) = (List.range 64).map (fun i => bs.getD i 0) := by
      refine List.filterMap_eq_map_iff_forall_eq_some.mpr fun i hi => ?_
      have hi' : i < bs.length := hlen ▸ List.mem_range.mp hi
      rw [hbs i (List.mem_range.mp hi), List.getD_eq_getElem _ _ hi', List.getElem?_eq_getElem hi']
    rw [hmap]
    exact List.ext_getElem (by simp [hlen]) fun i _ hi => by rw [List.getElem_map, List.getElem_range, List.getD_eq_getElem _ _ hi]
  rw [memLine, hline, if_pos hlen]

theorem memLine_memErase (m : List Host.Cell) (base : Nat) : memLine (memErase m base (base + 64)) base = none := by
  refine Option.not_isSome_iff_eq_none.mp fun hgood => ?_
  have hfirst := (memLine_isSome_iff _ _).mp hgood 0 (by decide)
  rw [memByte_memErase_inside (by omega) (by omega)] at hfirst
  cases hfirst

theorem memLine_memPutAll_self {bs : List (BitVec 8)} (hlen : bs.length = 64) (m : List Host.Cell) (base : Nat) :
    memLine (memPutAll m base bs) base = some bs :=
  memLine_of_bytes hlen fun _ hi => memByte_memPutAll_inside (hlen ▸ hi) base m

theorem memLine_memPutAll_isSome {m : List Host.Cell} {base : Nat} (h : (memLine m base).isSome = true) (a : Nat) (bs : List (BitVec 8)) :
    (memLine (memPutAll m a bs) base).isSome = true :=
  (memLine_isSome_iff _ _).mpr fun i hi => memByte_memPutAll_isSome ((memLine_isSome_iff _ _).mp h i hi) a bs

/-! ### Bytes copied (R469) -/

/-- The fold of a copy puts each byte of `p` at its new address. -/
theorem memByte_foldl_memPut {src dst i : Nat} {p : List Host.Cell} (hrise : p.Pairwise (fun a b => a.1 < b.1))
    (hsrc : ∀ e ∈ p, src ≤ e.1) (m : List Host.Cell) :
    memByte (p.foldl (fun m e => memPut m (e.1 - src + dst) e.2) m) (dst + i) = (memByte p (src + i)).or (memByte m (dst + i)) := by
  induction p generalizing m with
  | nil => rfl
  | cons e p ih =>
    obtain ⟨hlater, hrise⟩ := List.pairwise_cons.mp hrise
    have he : src ≤ e.1 := hsrc e List.mem_cons_self
    rw [List.foldl_cons, ih hrise fun x hx => hsrc x (List.mem_cons_of_mem e hx)]
    obtain ⟨a, b⟩ := e
    by_cases hhere : a = src + i
    · have hnone : memByte p (src + i) = none := by
        have hcut := tfind_filter (fun k => decide (a < k)) (src + i) p
        rwa [List.filter_eq_self.mpr fun x hx => decide_eq_true (hlater x hx), if_neg (by simp [hhere])] at hcut
      rw [hnone, show a - src + dst = dst + i by omega, memByte_memPut_self, memByte, tfind, if_pos hhere]
      rfl
    · have hstep : memByte ((a, b) :: p) (src + i) = memByte p (src + i) := if_neg hhere
      rw [hstep, memByte_memPut_ne (by change src ≤ a at he; change dst + i ≠ a - src + dst; omega)]

/-- A byte copied is the source's, with its poison. -/
theorem memByte_memCopy_self {m : List Host.Cell} (hm : memWf m = true) {len i : Nat} (hi : i < len) (src dst : Nat) :
    memByte (memCopy m src dst len) (dst + i) = memByte m (src + i) := by
  have hpart : memByte (m.filter (fun e => decide (src ≤ e.1) && decide (e.1 < src + len))) (src + i) = memByte m (src + i) :=
    (tfind_filter (fun a => decide (src ≤ a) && decide (a < src + len)) _ _).trans (if_pos (by simpa using hi))
  rw [memCopy, memByte_foldl_memPut (((memWf_iff_pairwise m).mp hm).filter _) (by simp +contextual), hpart,
    memByte_memErase_inside (by omega) (by omega), Option.or_none]

end Sys2Proof.Machine
end

section
/-!
PROOFS. A request served: what an access to a bank, a line and the reference cache leaves alone, and what a read or a write of a line
does (R447, R451, R455, R456, R468).
-/

namespace Sys2Proof.Machine

theorem after_dmc (s t : State) : (s.after t).dmc = t.dmc := by simp only [State.after, showStatus_dmc]

theorem after_mem (s t : State) : (s.after t).mem = t.mem := by simp only [State.after, showStatus_mem]

theorem after_folds (s t : State) : (s.after t).folds = t.folds := by simp only [State.after, showStatus_folds]

theorem getR_incR_ne {d e : Nat} (h : e ≠ d) (s : State) (n : Nat) : (s.incR d n).getR e = s.getR e := getR_setR_ne h s _

theorem getR_incR64_ne {d e : Nat} (h : e ≠ d) (h' : e ≠ d + 1) (s : State) (n : Nat) : (s.incR64 d n).getR e = s.getR e :=
  getR_setR64_ne h h' s _

/-- The registers of the memory plane are neither counts of reports nor status registers. -/
theorem memReg_plain {d : Nat} (h : d / 4194304 = 13) : reportReg d = false ∧ d ∉ statusRegs := by
  have hsub : subOf d = 13 := by unfold subOf; omega
  constructor
  · have hne : d ≠ Reg.DEV_SVC_CTR 5 ∧ d ≠ Reg.BOOT_FAULT_OVERFLOW := by
      constructor <;> (rintro rfl; revert h; decide)
    simp [reportReg, hsub, hne]
  · intro hd
    have hstatus : ∀ e ∈ statusRegs, e / 4194304 ≠ 13 := by decide
    exact hstatus d hd h

/-- A fault under a limit notes its time, and is raised or counted as suppressed (R679). -/
theorem raiseOnce_eq (s : State) (code subject period : Nat) (detail : List (Nat × Nat)) :
    (∃ x, s.raiseOnce code subject period detail = { s with flt := x }) ∨
      ∃ x, s.raiseOnce code subject period detail = ({ s with flt := x } : State).raise code subject detail :=
  (ite_eq_or_eq _ _ _).imp (fun h => ⟨_, h⟩) (fun h => ⟨_, h⟩)

/-! ### Where lines lie, and whether their channels serve -/

/-- What serving a request leaves of the memory plane: all but the banks, the reference cache with its counts, and the last answer. -/
def DmcSt.fixed (d : DmcSt) : DmcSt := { d with chans := [], cache := [], hitsTick := 0, accTick := 0, lastRead := none }

/-- `t` has each line where `s` has it, on a channel that serves as it does in `s`. -/
structure State.SamePlaces (s t : State) : Prop where
  fixed : t.dmc.fixed = s.dmc.fixed
  serves : ∀ c, t.chanServes c = s.chanServes c

/-- No other register of the memory plane lies at the status of a channel: 16,384 dwords lie between two of them. -/
theorem chanServes_of_getR {s t : State} {c : Nat} (h : t.getR (Reg.DMC_CH_STATUS c) = s.getR (Reg.DMC_CH_STATUS c)) :
    t.chanServes c = s.chanServes c := by
  unfold State.chanServes State.chState State.getF
  rw [h]

namespace State.SamePlaces

variable {s t u : State}

theorem refl (s : State) : s.SamePlaces s := ⟨rfl, fun _ => rfl⟩

theorem trans (h : s.SamePlaces t) (h' : t.SamePlaces u) : s.SamePlaces u :=
  ⟨h'.fixed.trans h.fixed, fun c => (h'.serves c).trans (h.serves c)⟩

theorem of_regs (hfixed : t.dmc.fixed = s.dmc.fixed) (hregs : t.regs = s.regs) : s.SamePlaces t :=
  ⟨hfixed, fun _ => chanServes_of_getR (getR_of_regs hregs _)⟩

theorem remapOf (h : s.SamePlaces t) (k : Nat) : t.remapOf k = s.remapOf k := by
  have hremap : t.dmc.remap = s.dmc.remap := (congrArg DmcSt.remap h.fixed :)
  rw [State.remapOf, hremap]
  rfl

theorem entryPlace (h : s.SamePlaces t) (k off : Nat) : t.entryPlace k off = s.entryPlace k off := by
  simp only [State.entryPlace, h.remapOf]

theorem entryCopying (h : s.SamePlaces t) (k : Nat) : t.entryCopying k = s.entryCopying k := by
  have hlost : t.dmc.lostCopies = s.dmc.lostCopies := (congrArg DmcSt.lostCopies h.fixed :)
  have hjobs : t.dmc.jobs = s.dmc.jobs := (congrArg DmcSt.jobs h.fixed :)
  rw [State.entryCopying, hlost, hjobs]
  rfl

theorem incR {d : Nat} (hd : ∀ c < 12, Reg.DMC_CH_STATUS c ≠ d) (s : State) (n : Nat) : s.SamePlaces (s.incR d n) := by
  refine ⟨congrArg DmcSt.fixed (incR_dmc s d n), fun c => ?_⟩
  by_cases hc : c < 12
  · exact chanServes_of_getR (getR_incR_ne (hd c hc) s n)
  · simp [State.chanServes, hc]

theorem incR64 {d : Nat} (hd : ∀ c < 12, Reg.DMC_CH_STATUS c ≠ d ∧ Reg.DMC_CH_STATUS c ≠ d + 1) (s : State) (n : Nat) :
    s.SamePlaces (s.incR64 d n) := by
  refine ⟨congrArg DmcSt.fixed (incR64_dmc s d n), fun c => ?_⟩
  by_cases hc : c < 12
  · exact chanServes_of_getR (getR_incR64_ne (hd c hc).1 (hd c hc).2 s n)
  · simp [State.chanServes, hc]

theorem raise (s : State) (code subject : Nat) (detail : List (Nat × Nat)) : s.SamePlaces (s.raise code subject detail) := by
  refine ⟨congrArg DmcSt.fixed (raise_dmc s code subject detail), fun c => ?_⟩
  by_cases hc : c < 12
  · exact chanServes_of_getR (raise_getR (memReg_plain (by unfold Reg.DMC_CH_STATUS; omega)).1 s code subject detail)
  · simp [State.chanServes, hc]

theorem raiseOnce (s : State) (code subject period : Nat) (detail : List (Nat × Nat)) :
    s.SamePlaces (s.raiseOnce code subject period detail) := by
  obtain ⟨x, h⟩ | ⟨x, h⟩ := raiseOnce_eq s code subject period detail
  · rw [h]
    exact .of_regs rfl rfl
  · rw [h]
    exact trans (t := { s with flt := x }) (.of_regs rfl rfl) (raise _ code subject detail)

end State.SamePlaces

/-! ### Banks (R464, R466) -/

/-- The registers that count an access to a bank. -/
def bankCount (c : Nat) (hit : Bool) : Nat := if hit then Reg.DMC_CH_PAGE_HITS c else Reg.DMC_CH_PAGE_MISSES c

/-- An access changes one rank of its channel and counts a hit or a miss, and perhaps a directed refresh. -/
theorem bankAccess_eq (s : State) (c a : Nat) (otherRow : Bool) :
    ∃ r f hit due, s.bankAccess c a otherRow =
      if due = true then ((s.onRank c r f).incR64 (bankCount c hit)).incR (Reg.DMC_CH_DRFM c)
      else (s.onRank c r f).incR64 (bankCount c hit) := by
  by_cases hit : (tget {} (tget {} (s.chan c).ranks (s.dramPlace c a).1).banks (s.dramPlace c a).2.1).openRow = some (s.dramPlace c a).2.2
  · simp only [State.bankAccess, if_pos hit]
    exact ⟨_, _, true, _, rfl⟩
  · simp only [State.bankAccess, if_neg hit]
    exact ⟨_, _, false, _, rfl⟩

/-- What an access to a line leaves alone. -/
def State.besideAccess (s : State) : State := { s with regs := [], dmc := {}, mem := [] }

theorem setR_besideAccess (s : State) (d v : Nat) : (s.setR d v).besideAccess = s.besideAccess := rfl

theorem incR_besideAccess (s : State) (d n : Nat) : (s.incR d n).besideAccess = s.besideAccess := setR_besideAccess s _ _

theorem incR64_besideAccess (s : State) (d n : Nat) : (s.incR64 d n).besideAccess = s.besideAccess :=
  (setR_besideAccess (s.setR d _) _ _).trans (setR_besideAccess s _ _)

theorem onRank_besideAccess (s : State) (c r : Nat) (f : RankSt → RankSt) : (s.onRank c r f).besideAccess = s.besideAccess := rfl

theorem onRank_mem (s : State) (c r : Nat) (f : RankSt → RankSt) : (s.onRank c r f).mem = s.mem := rfl

theorem bankAccess_samePlaces (s : State) (c a : Nat) (otherRow : Bool) : s.SamePlaces (s.bankAccess c a otherRow) := by
  obtain ⟨r, f, hit, due, heq⟩ := bankAccess_eq s c a otherRow
  have hrank : s.SamePlaces (s.onRank c r f) := .of_regs rfl rfl
  have hcount : s.SamePlaces ((s.onRank c r f).incR64 (bankCount c hit)) := hrank.trans (.incR64 (fun k _ => by
    unfold bankCount Reg.DMC_CH_PAGE_HITS Reg.DMC_CH_PAGE_MISSES Reg.DMC_CH_STATUS
    split <;> omega) _ _)
  rw [heq]
  split
  · exact hcount.trans (.incR (fun k _ => by unfold Reg.DMC_CH_STATUS Reg.DMC_CH_DRFM; omega) _ _)
  · exact hcount

theorem bankAccess_besideAccess (s : State) (c a : Nat) (otherRow : Bool) :
    (s.bankAccess c a otherRow).besideAccess = s.besideAccess := by
  obtain ⟨r, f, hit, due, heq⟩ := bankAccess_eq s c a otherRow
  rw [heq]
  split
  · rw [incR_besideAccess, incR64_besideAccess, onRank_besideAccess]
  · rw [incR64_besideAccess, onRank_besideAccess]

theorem bankAccess_mem (s : State) (c a : Nat) (otherRow : Bool) : (s.bankAccess c a otherRow).mem = s.mem := by
  obtain ⟨r, f, hit, due, heq⟩ := bankAccess_eq s c a otherRow
  rw [heq]
  split
  · rw [incR_mem, incR64_mem, onRank_mem]
  · rw [incR64_mem, onRank_mem]

/-! ### A line read (R456, R472) -/

/-- What a read of the line that holds channel-local address `a` finds: nothing good where the channel does not serve. -/
def State.storedLine (s : State) (c a : Nat) : Option (List (BitVec 8)) :=
  if s.chanServes c then memLine s.mem (cellAddr c (a / 64 * 64)) else none

theorem storedLine_congr {s t : State} {c : Nat} (hserves : t.chanServes c = s.chanServes c) (hmem : t.mem = s.mem) (a : Nat) :
    t.storedLine c a = s.storedLine c a := by
  rw [State.storedLine, hserves, hmem, State.storedLine]

/-- A read of a line on a channel that serves counts, and returns what is stored. -/
theorem lineRead_served {s : State} {c : Nat} (h : s.chanServes c = true) (a : Nat) (otherRow : Bool) :
    s.lineRead c a otherRow = (s.storedLine c a,
      let t := (s.bankAccess c a otherRow).incR64 (Reg.DMC_CH_READ_BYTES c) 64
      if (s.storedLine c a).isNone then t.incR (Reg.DMC_CH_POISON_READS c) else t) := by
  have hmem : ((s.bankAccess c a otherRow).incR64 (Reg.DMC_CH_READ_BYTES c) 64).mem = s.mem :=
    (incR64_mem _ _ _).trans (bankAccess_mem s c a otherRow)
  simp only [State.lineRead, State.storedLine, h, hmem, Bool.not_true, Bool.false_eq_true, if_false, if_true]

theorem lineRead_unserved {s : State} {c : Nat} (h : s.chanServes c = false) (a : Nat) (otherRow : Bool) :
    s.lineRead c a otherRow = (none, s) := by
  rw [State.lineRead, h]
  rfl

theorem lineRead_fst (s : State) (c a : Nat) (otherRow : Bool) : (s.lineRead c a otherRow).1 = s.storedLine c a := by
  cases h : s.chanServes c
  · rw [lineRead_unserved h, State.storedLine, h]
    rfl
  · rw [lineRead_served h]

theorem lineRead_mem (s : State) (c a : Nat) (otherRow : Bool) : (s.lineRead c a otherRow).2.mem = s.mem := by
  cases h : s.chanServes c
  · rw [lineRead_unserved h]
  · rw [lineRead_served h]
    dsimp only
    split
    · rw [incR_mem, incR64_mem, bankAccess_mem]
    · rw [incR64_mem, bankAccess_mem]

theorem lineRead_samePlaces (s : State) (c a : Nat) (otherRow : Bool) : s.SamePlaces (s.lineRead c a otherRow).2 := by
  cases h : s.chanServes c
  · rw [lineRead_unserved h]
    exact .refl s
  · rw [lineRead_served h]
    have hread := (bankAccess_samePlaces s c a otherRow).trans
      (.incR64 (d := Reg.DMC_CH_READ_BYTES c) (fun k _ => by unfold Reg.DMC_CH_STATUS Reg.DMC_CH_READ_BYTES; omega) _ 64)
    dsimp only
    split
    · exact hread.trans (.incR (fun k _ => by unfold Reg.DMC_CH_STATUS Reg.DMC_CH_POISON_READS; omega) _ _)
    · exact hread

theorem lineRead_besideAccess (s : State) (c a : Nat) (otherRow : Bool) : (s.lineRead c a otherRow).2.besideAccess = s.besideAccess := by
  cases h : s.chanServes c
  · rw [lineRead_unserved h]
  · rw [lineRead_served h]
    dsimp only
    split
    · rw [incR_besideAccess, incR64_besideAccess, bankAccess_besideAccess]
    · rw [incR64_besideAccess, bankAccess_besideAccess]

/-! ### A line written (R456, R472) -/

/-- Does a write of `data` at channel-local address `a` take: the channel serves, and the line is written whole or is good? -/
def State.writeTakes (s : State) (c a : Nat) (data : List (BitVec 8)) : Bool :=
  s.chanServes c && (data.length = 64 || (memLine s.mem (cellAddr c (a / 64 * 64))).isSome)

theorem lineWrite_unserved {s : State} {c : Nat} (h : s.chanServes c = false) (a : Nat) (data : List (BitVec 8)) (otherRow : Bool) :
    s.lineWrite c a data otherRow = s := by
  simp only [State.lineWrite, h, Bool.not_false, if_true]

/-- A write on a channel that serves counts, and leaves the bytes where it takes. -/
theorem lineWrite_served {s : State} {c : Nat} (h : s.chanServes c = true) (a : Nat) (data : List (BitVec 8)) (otherRow : Bool) :
    s.lineWrite c a data otherRow =
      let t := (s.bankAccess c a otherRow).incR64 (Reg.DMC_CH_WRITE_BYTES c) data.length
      if s.writeTakes c a data then { t with mem := memPutAll s.mem (cellAddr c a) data } else t := by
  have hmem : ((s.bankAccess c a otherRow).incR64 (Reg.DMC_CH_WRITE_BYTES c) data.length).mem = s.mem :=
    (incR64_mem _ _ _).trans (bankAccess_mem s c a otherRow)
  simp only [State.lineWrite, State.writeTakes, h, hmem, Bool.not_true, Bool.false_eq_true, if_false, Bool.true_and]

theorem writeTakes_unserved {s : State} {c : Nat} (h : s.chanServes c = false) (a : Nat) (data : List (BitVec 8)) :
    s.writeTakes c a data = false := by
  rw [State.writeTakes, h, Bool.false_and]

theorem lineWrite_mem (s : State) (c a : Nat) (data : List (BitVec 8)) (otherRow : Bool) :
    (s.lineWrite c a data otherRow).mem = if s.writeTakes c a data then memPutAll s.mem (cellAddr c a) data else s.mem := by
  cases h : s.chanServes c
  · rw [lineWrite_unserved h, writeTakes_unserved h, if_neg Bool.false_ne_true]
  · rw [lineWrite_served h]
    dsimp only
    split
    · rfl
    · rw [incR64_mem, bankAccess_mem]

theorem lineWrite_samePlaces (s : State) (c a : Nat) (data : List (BitVec 8)) (otherRow : Bool) :
    s.SamePlaces (s.lineWrite c a data otherRow) := by
  cases h : s.chanServes c
  · rw [lineWrite_unserved h]
    exact .refl s
  · rw [lineWrite_served h]
    have hcount := (bankAccess_samePlaces s c a otherRow).trans
      (.incR64 (d := Reg.DMC_CH_WRITE_BYTES c) (fun k _ => by unfold Reg.DMC_CH_STATUS Reg.DMC_CH_WRITE_BYTES; omega) _ data.length)
    dsimp only
    split
    · exact hcount.trans (.of_regs rfl rfl)
    · exact hcount

theorem withMem_besideAccess (s : State) (m : List Host.Cell) : ({ s with mem := m } : State).besideAccess = s.besideAccess := rfl

theorem lineWrite_besideAccess (s : State) (c a : Nat) (data : List (BitVec 8)) (otherRow : Bool) :
    (s.lineWrite c a data otherRow).besideAccess = s.besideAccess := by
  cases h : s.chanServes c
  · rw [lineWrite_unserved h]
  · rw [lineWrite_served h]
    dsimp only
    split
    · rw [withMem_besideAccess, incR64_besideAccess, bankAccess_besideAccess]
    · rw [incR64_besideAccess, bankAccess_besideAccess]

end Sys2Proof.Machine
end

section
/-!
PROOFS. Reads of DRAM: through the reference cache, of the two copies of a mirrored line, and of the lines pinned in the cache.
-/

namespace Sys2Proof.Machine

/-! ### The reference cache (R455) -/

theorem cached_of_dmc {s t : State} (h : t.dmc.cache = s.dmc.cache) (a : Nat) : t.cached a = s.cached a := by
  rw [State.cached, h, State.cached]

theorem cachePut_cached (s : State) (a : Nat) (v : List (BitVec 8)) : (s.cachePut a v).cached a = some v := by
  rw [State.cached, State.cachePut, tget_tmod_self, List.take_succ_cons, List.find?_cons_of_pos (by simp)]
  rfl

theorem cacheDrop_cached (s : State) (a : Nat) : (s.cacheDrop a).cached a = none := by
  rw [State.cached, State.cacheDrop, tget_tmod_self, List.find?_eq_none.mpr (by simp)]
  rfl

theorem cachePut_mem (s : State) (a : Nat) (v : List (BitVec 8)) : (s.cachePut a v).mem = s.mem := rfl

theorem cacheDrop_mem (s : State) (a : Nat) : (s.cacheDrop a).mem = s.mem := rfl

theorem cacheEcc_mem (s : State) : s.cacheEcc.mem = s.mem := (raiseOnce_mem _ _ _ _ _).trans (incR_mem _ _ _)

theorem bankAccess_cache (s : State) (c a : Nat) (otherRow : Bool) : (s.bankAccess c a otherRow).dmc.cache = s.dmc.cache := by
  obtain ⟨r, f, hit, due, heq⟩ := bankAccess_eq s c a otherRow
  rw [heq]
  split
  · rw [incR_dmc, incR64_dmc]
    rfl
  · rw [incR64_dmc]
    rfl

theorem lineRead_cached (s : State) (c a : Nat) (otherRow : Bool) (x : Nat) : (s.lineRead c a otherRow).2.cached x = s.cached x := by
  refine cached_of_dmc ?_ x
  cases h : s.chanServes c
  · rw [lineRead_unserved h]
  · rw [lineRead_served h]
    dsimp only
    split
    · rw [incR_dmc, incR64_dmc, bankAccess_cache]
    · rw [incR64_dmc, bankAccess_cache]

/-! ### Answers (R456) -/

/-- What a read reports: poison, or the bytes asked for. -/
def MemReq.answer (r : MemReq) (v : Option (List (BitVec 8))) : LineRead :=
  v.elim { addr := r.addr, poison := true } (fun bs => { addr := r.addr, data := (bs.drop (r.addr % 64)).take r.len })

theorem answerRead_lastRead (s : State) (r : MemReq) (v : Option (List (BitVec 8))) :
    (s.answerRead r v).dmc.lastRead = some (r.answer v) := by
  cases v <;> rfl

theorem answerRead_mem (s : State) (r : MemReq) (v : Option (List (BitVec 8))) : (s.answerRead r v).mem = s.mem := rfl

theorem answerRead_cached (s : State) (r : MemReq) (v : Option (List (BitVec 8))) (a : Nat) : (s.answerRead r v).cached a = s.cached a := rfl

/-! ### A read of the non-mirrored region -/

/-- A line that a miss found put in the cache; poison is not cached (R455). -/
def State.cacheFill (s : State) (a : Nat) : Option (List (BitVec 8)) → State
  | some bs => s.cachePut a bs
  | none => s

theorem cacheFill_mem (s : State) (a : Nat) (v : Option (List (BitVec 8))) : (s.cacheFill a v).mem = s.mem := by cases v <;> rfl

theorem cacheFill_cached {s : State} {a : Nat} (h : s.cached a = none) (v : Option (List (BitVec 8))) : (s.cacheFill a v).cached a = v := by
  cases v with
  | none => exact h
  | some bs => exact cachePut_cached s a bs

/-- An access to the cache counted for the tick (R484). -/
def State.accessCounted (s : State) : State := { s with dmc := { s.dmc with accTick := s.dmc.accTick + 1 } }

/-- What the cache's own check makes of the copy it holds of `a`: a corrected copy counts, an uncorrectable one is dropped (R455). -/
def State.cacheChecked (s : State) (a : Nat) (e : CacheErr) : State :=
  if (s.cached a).isSome && e == .uncorrectable then s.cacheEcc.cacheDrop a
  else if (s.cached a).isSome && e == .corrected then s.incR Reg.DMC_CACHE_CORRECTED else s

/-- A copy found is counted and moves to the front of its set. -/
def State.cacheHit (s : State) (a : Nat) (v : List (BitVec 8)) : State :=
  (({ s with dmc := { s.dmc with hitsTick := s.dmc.hitsTick + 1 } } : State).incR64 Reg.DMC_CACHE_HITS).cachePut a v

/-- A picture read once the cache has checked its copy: from the cache, or from the channel at `p` into the cache. -/
def State.lookUp (s : State) (p : Nat × Nat) (r : MemReq) : State :=
  match s.cached r.addr with
  | some v => (s.cacheHit r.addr v).answerRead r (some v)
  | none =>
    let w := (s.incR64 Reg.DMC_CACHE_MISSES).lineRead p.1 p.2 r.otherRow
    (w.2.cacheFill r.addr w.1).answerRead r w.1

section Plain

variable {s : State} {k off : Nat} {r : MemReq}

theorem plainRead_uncached (hkind : r.kind ≠ .picture) :
    s.plainRead k off r = (s.lineRead (s.entryPlace k off).1 (s.entryPlace k off).2 r.otherRow).2.answerRead r
      (s.storedLine (s.entryPlace k off).1 (s.entryPlace k off).2) := by
  rw [State.plainRead, if_pos (by simpa using hkind), ← lineRead_fst]

theorem plainRead_picture (hkind : r.kind = .picture) :
    s.plainRead k off r = (s.accessCounted.cacheChecked r.addr r.cacheErr).lookUp (s.entryPlace k off) r := by
  rw [State.plainRead, if_neg (by simp [hkind])]
  delta State.lookUp
  rfl

end Plain

theorem cacheCount_status (d : Nat) (h : d % 16384 ≠ 0 ∧ (d + 1) % 16384 ≠ 0) (c : Nat) :
    Reg.DMC_CH_STATUS c ≠ d ∧ Reg.DMC_CH_STATUS c ≠ d + 1 := by
  unfold Reg.DMC_CH_STATUS
  omega

theorem accessCounted_samePlaces (s : State) : s.SamePlaces s.accessCounted := .of_regs rfl rfl

theorem accessCounted_mem (s : State) : s.accessCounted.mem = s.mem := rfl

theorem accessCounted_cached (s : State) (a : Nat) : s.accessCounted.cached a = s.cached a := rfl

theorem cacheEcc_samePlaces (s : State) : s.SamePlaces s.cacheEcc :=
  (State.SamePlaces.incR (fun c _ => (cacheCount_status Reg.DMC_CACHE_UNCORRECTED (by decide) c).1) s 1).trans (.raiseOnce _ _ _ _ _)

theorem cacheChecked_samePlaces (s : State) (a : Nat) (e : CacheErr) : s.SamePlaces (s.cacheChecked a e) := by
  unfold State.cacheChecked
  split
  · exact (cacheEcc_samePlaces s).trans (.of_regs rfl rfl)
  · split
    · exact .incR (fun c _ => (cacheCount_status Reg.DMC_CACHE_CORRECTED (by decide) c).1) s 1
    · exact .refl s

theorem cacheChecked_mem (s : State) (a : Nat) (e : CacheErr) : (s.cacheChecked a e).mem = s.mem := by
  unfold State.cacheChecked
  split
  · rw [cacheDrop_mem, cacheEcc_mem]
  · split
    · rw [incR_mem]
    · rfl

/-- Where the cache holds no copy there is nothing to check. -/
theorem cacheChecked_uncached {s : State} {a : Nat} (h : s.cached a = none) (e : CacheErr) : s.cacheChecked a e = s := by
  rw [State.cacheChecked, h]
  rfl

theorem cacheChecked_dropped {s : State} {a : Nat} (h : (s.cached a).isSome = true) :
    (s.cacheChecked a .uncorrectable).cached a = none := by
  rw [State.cacheChecked, h, Bool.true_and, if_pos (by decide), cacheDrop_cached]

theorem cacheChecked_kept (s : State) (a : Nat) {e : CacheErr} (he : e ≠ .uncorrectable) :
    (s.cacheChecked a e).cached a = s.cached a := by
  rw [State.cacheChecked, if_neg (by simp [he])]
  split
  · exact cached_of_dmc (by rw [incR_dmc]) a
  · rfl

section LookUp

variable {s : State} {r : MemReq}

theorem lookUp_hit {v : List (BitVec 8)} (h : s.cached r.addr = some v) (p : Nat × Nat) :
    s.lookUp p r = (s.cacheHit r.addr v).answerRead r (some v) := by
  rw [State.lookUp, h]

theorem lookUp_miss (h : s.cached r.addr = none) (p : Nat × Nat) :
    s.lookUp p r = (((s.incR64 Reg.DMC_CACHE_MISSES).lineRead p.1 p.2 r.otherRow).2.cacheFill r.addr (s.storedLine p.1 p.2)).answerRead r
      (s.storedLine p.1 p.2) := by
  have hstored : (s.incR64 Reg.DMC_CACHE_MISSES).storedLine p.1 p.2 = s.storedLine p.1 p.2 :=
    storedLine_congr ((State.SamePlaces.incR64 (fun c _ => cacheCount_status Reg.DMC_CACHE_MISSES (by decide) c) s 1).serves p.1)
      (incR64_mem _ _ _) p.2
  rw [State.lookUp, h]
  dsimp only
  rw [lineRead_fst, hstored]

theorem cacheHit_mem (s : State) (a : Nat) (v : List (BitVec 8)) : (s.cacheHit a v).mem = s.mem :=
  (cachePut_mem _ a v).trans (incR64_mem _ _ _)

theorem lookUp_mem (s : State) (p : Nat × Nat) (r : MemReq) : (s.lookUp p r).mem = s.mem := by
  cases h : s.cached r.addr with
  | some v => rw [lookUp_hit h, answerRead_mem, cacheHit_mem]
  | none => rw [lookUp_miss h, answerRead_mem, cacheFill_mem, lineRead_mem, incR64_mem]

theorem lookUp_miss_cached (h : s.cached r.addr = none) (p : Nat × Nat) : (s.lookUp p r).cached r.addr = s.storedLine p.1 p.2 := by
  rw [lookUp_miss h, answerRead_cached, cacheFill_cached]
  rw [lineRead_cached, cached_of_dmc (congrArg DmcSt.cache (incR64_dmc s _ _)), h]

end LookUp

theorem plainRead_mem (s : State) (k off : Nat) (r : MemReq) : (s.plainRead k off r).mem = s.mem := by
  by_cases hkind : r.kind = .picture
  · rw [plainRead_picture hkind, lookUp_mem, cacheChecked_mem, accessCounted_mem]
  · rw [plainRead_uncached hkind, answerRead_mem, lineRead_mem]

theorem cacheChecked_storedLine (s : State) (a : Nat) (e : CacheErr) (c x : Nat) :
    (s.accessCounted.cacheChecked a e).storedLine c x = s.storedLine c x :=
  storedLine_congr (((accessCounted_samePlaces s).trans (cacheChecked_samePlaces _ a e)).serves c) (cacheChecked_mem _ a e) x

/-! ### A read of the mirrored region (R451, R452) -/

/-- The copy that entry `k` holds, read at `p` unless the copier is at work on it. -/
def State.copyRead (s : State) (k : Nat) (p : Nat × Nat) (otherRow : Bool) : Option (List (BitVec 8)) × State :=
  if s.entryCopying k then (none, s) else s.lineRead p.1 p.2 otherRow

theorem copyRead_free {s : State} {k : Nat} (h : s.entryCopying k = false) (p : Nat × Nat) (otherRow : Bool) :
    s.copyRead k p otherRow = s.lineRead p.1 p.2 otherRow := by
  rw [State.copyRead, h, if_neg Bool.false_ne_true]

theorem copyRead_none {s : State} {p : Nat × Nat} (h : s.storedLine p.1 p.2 = none) (k : Nat) (otherRow : Bool) :
    (s.copyRead k p otherRow).1 = none := by
  unfold State.copyRead
  split
  · rfl
  · rw [lineRead_fst, h]

theorem copyRead_mem (s : State) (k : Nat) (p : Nat × Nat) (otherRow : Bool) : (s.copyRead k p otherRow).2.mem = s.mem := by
  unfold State.copyRead
  split
  · rfl
  · rw [lineRead_mem]

theorem copyRead_samePlaces (s : State) (k : Nat) (p : Nat × Nat) (otherRow : Bool) : s.SamePlaces (s.copyRead k p otherRow).2 := by
  unfold State.copyRead
  split
  · exact .refl s
  · exact lineRead_samePlaces s _ _ _

theorem copyRead_besideAccess (s : State) (k : Nat) (p : Nat × Nat) (otherRow : Bool) :
    (s.copyRead k p otherRow).2.besideAccess = s.besideAccess := by
  unfold State.copyRead
  split
  · rfl
  · rw [lineRead_besideAccess]

theorem copyRead_storedLine (s : State) (k : Nat) (p : Nat × Nat) (otherRow : Bool) (c a : Nat) :
    (s.copyRead k p otherRow).2.storedLine c a = s.storedLine c a :=
  storedLine_congr ((copyRead_samePlaces s k p otherRow).serves c) (copyRead_mem s k p otherRow) a

section Mirror

variable {s : State} {k0 k1 off : Nat} {r : MemReq}

/-- The first copy, when it is good, is the answer. -/
theorem mirrorRead_first {v : List (BitVec 8)} {t : State} (h : s.copyRead k0 (s.entryPlace k0 off) r.otherRow = (some v, t)) :
    s.mirrorRead k0 k1 off r = (some v, t) := by
  unfold State.copyRead at h
  unfold State.mirrorRead
  dsimp only
  rw [h]

/-- The second copy, when the first is not good and it is, is the answer, and is written back to the first (R451). -/
theorem mirrorRead_second {v : List (BitVec 8)} {t u : State} (h0 : s.copyRead k0 (s.entryPlace k0 off) r.otherRow = (none, t))
    (h1 : t.copyRead k1 (s.entryPlace k1 off) r.otherRow = (some v, u)) :
    s.mirrorRead k0 k1 off r = (some v,
      if t.entryCopying k0 then u
      else u.lineWrite (s.entryPlace k0 off).1 ((s.entryPlace k0 off).2 / 64 * 64) v false) := by
  unfold State.copyRead at h0 h1
  unfold State.mirrorRead
  dsimp only
  rw [h0]
  dsimp only
  rw [h1]

/-- With neither copy good the owner of the line learns of the loss (R452). -/
theorem mirrorRead_lost {t u : State} (h0 : s.copyRead k0 (s.entryPlace k0 off) r.otherRow = (none, t))
    (h1 : t.copyRead k1 (s.entryPlace k1 off) r.otherRow = (none, u)) :
    s.mirrorRead k0 k1 off r = (none, u.mirrorOwner r.owner) := by
  unfold State.copyRead at h0 h1
  unfold State.mirrorRead
  dsimp only
  rw [h0]
  dsimp only
  rw [h1]

end Mirror

end Sys2Proof.Machine
end

section
/-!
PROOFS. DRAM_ACCESS: which requests fault, wait or are served, and what the reads answer (R446, R447, R451, R455, R456, R468).
-/

namespace Sys2Proof.Machine

theorem after_cached (s t : State) (a : Nat) : (s.after t).cached a = t.cached a := cached_of_dmc (congrArg DmcSt.cache (after_dmc s t)) a

/-! ### The command -/

section Access

variable {s : State} {r : MemReq}

theorem exec_dramAccess_outside (hkind : r.kind ≠ .syntax_) (hout : s.usableSize < r.addr + r.len) :
    exec (.dramAccess r) s = .fault .addressOutside :=
  if_pos (by simp [hkind, hout])

theorem exec_dramAccess_within (hin : r.kind = .syntax_ ∨ r.addr + r.len ≤ s.usableSize) :
    exec (.dramAccess r) s = .next (s.after (dramAccess r s)) :=
  if_neg (by
    rcases hin with hin | hin
    · simp [hin]
    · simp [Nat.not_lt.mpr hin])

theorem dramAccess_syntax (hkind : r.kind = .syntax_) : dramAccess r s = s.syntaxAccess r := if_pos (by simp [hkind])

theorem dramAccess_guarded (hkind : r.kind ≠ .syntax_) (hwrite : r.write = true) (hguard : r.guarded = true) :
    dramAccess r s = s.raise (faultCode 15 0 1) (subjOffset r.addr) := by
  rw [dramAccess, if_neg (by simp [hkind]), if_pos (by simp [hwrite, hguard])]

theorem dramAccess_gap (hkind : r.kind ≠ .syntax_) (hopen : r.write = false ∨ r.guarded = false) (hgap : s.dmc.gap.isSome = true) :
    dramAccess r s = s.gapReq r := by
  rw [dramAccess, if_neg (by simp [hkind]), if_neg (by rcases hopen with h | h <;> simp [h]), if_pos hgap]

theorem dramAccess_serve (hkind : r.kind ≠ .syntax_) (hopen : r.write = false ∨ r.guarded = false) (hgap : s.dmc.gap = none) :
    dramAccess r s = s.serveReq r := by
  rw [dramAccess, if_neg (by simp [hkind]), if_neg (by rcases hopen with h | h <;> simp [h]), if_neg (by simp [hgap])]

/-- Outside a gap a request that no seal turns away is served. -/
theorem exec_dramAccess_serve (hkind : r.kind ≠ .syntax_) (hopen : r.write = false ∨ r.guarded = false)
    (hin : r.addr + r.len ≤ s.usableSize) (hgap : s.dmc.gap = none) :
    exec (.dramAccess r) s = .next (s.after (s.serveReq r)) := by
  rw [exec_dramAccess_within (.inr hin), dramAccess_serve hkind hopen hgap]

/-! ### A request served by its region (R447) -/

/-- A request served at the entries `ks` that hold its address, at `off` in their slices. -/
def State.serveAt (s : State) (ks : List Nat) (off : Nat) (r : MemReq) : State :=
  let data := r.data.take (64 - r.addr % 64)
  match ks with
  | [k0, k1] =>
    if r.write then
      (s.lineWrite (s.entryPlace k0 off).1 (s.entryPlace k0 off).2 data r.otherRow).lineWrite (s.entryPlace k1 off).1
        (s.entryPlace k1 off).2 data r.otherRow
    else (s.mirrorRead k0 k1 off r).2.answerRead r (s.mirrorRead k0 k1 off r).1
  | k :: _ =>
    if r.write then
      (s.lineWrite (s.entryPlace k off).1 (s.entryPlace k off).2 data r.otherRow).cacheUpdate r.addr data
    else s.plainRead k off r
  | [] => s

/-- The equation between the functions is unfolded, not one between their values: the kernel would work out a match on `mapAddr`,
whose region bounds are products with large numbers. -/
theorem serveReq_eq (s : State) (r : MemReq) : s.serveReq r = s.serveAt (s.mapAddr r.addr).1 (s.mapAddr r.addr).2 r := by
  have hfun : @State.serveReq = @State.serveReq := rfl
  conv at hfun =>
    rhs
    delta State.serveReq
  rw [congrFun (congrFun hfun s) r]
  generalize s.mapAddr r.addr = place
  obtain ⟨ks, off⟩ := place
  rcases ks with _ | ⟨k0, _ | ⟨k1, _ | _⟩⟩
  case cons.cons.nil => simp only [State.serveAt]
  all_goals rfl

theorem serveReq_plainRead {k : Nat} (hmap : (s.mapAddr r.addr).1 = [k]) (hread : r.write = false) :
    s.serveReq r = s.plainRead k (s.mapAddr r.addr).2 r := by
  rw [serveReq_eq, hmap]
  exact if_neg (by simp [hread])

theorem serveReq_mirrorRead {k0 k1 : Nat} (hmap : (s.mapAddr r.addr).1 = [k0, k1]) (hread : r.write = false) :
    s.serveReq r = (s.mirrorRead k0 k1 (s.mapAddr r.addr).2 r).2.answerRead r (s.mirrorRead k0 k1 (s.mapAddr r.addr).2 r).1 := by
  rw [serveReq_eq, hmap]
  exact if_neg (by simp [hread])

theorem serveReq_plainWrite {k : Nat} (hmap : (s.mapAddr r.addr).1 = [k]) (hwrite : r.write = true) :
    s.serveReq r = (s.lineWrite (s.entryPlace k (s.mapAddr r.addr).2).1 (s.entryPlace k (s.mapAddr r.addr).2).2
      (r.data.take (64 - r.addr % 64)) r.otherRow).cacheUpdate r.addr (r.data.take (64 - r.addr % 64)) := by
  rw [serveReq_eq, hmap]
  exact if_pos hwrite

theorem serveReq_mirrorWrite {k0 k1 : Nat} (hmap : (s.mapAddr r.addr).1 = [k0, k1]) (hwrite : r.write = true) :
    s.serveReq r = (s.lineWrite (s.entryPlace k0 (s.mapAddr r.addr).2).1 (s.entryPlace k0 (s.mapAddr r.addr).2).2
      (r.data.take (64 - r.addr % 64)) r.otherRow).lineWrite (s.entryPlace k1 (s.mapAddr r.addr).2).1
      (s.entryPlace k1 (s.mapAddr r.addr).2).2 (r.data.take (64 - r.addr % 64)) r.otherRow := by
  rw [serveReq_eq, hmap]
  exact if_pos hwrite

/-! ### The reads of a mirrored line (R451, R452) -/

section Copies

variable {k0 k1 off : Nat}

/-- A copy that nothing is being done to answers with its line. -/
theorem copyRead_stored {k : Nat} {v : Option (List (BitVec 8))} (hfree : s.entryCopying k = false) {p : Nat × Nat}
    (hstored : s.storedLine p.1 p.2 = v) (otherRow : Bool) :
    s.copyRead k p otherRow = (v, (s.copyRead k p otherRow).2) :=
  Prod.ext (by rw [copyRead_free hfree, lineRead_fst, hstored]) rfl

theorem copyRead_poison {k : Nat} {p : Nat × Nat} (hstored : s.storedLine p.1 p.2 = none) (otherRow : Bool) :
    s.copyRead k p otherRow = (none, (s.copyRead k p otherRow).2) :=
  Prod.ext (copyRead_none hstored k otherRow) rfl

theorem mirrorRead_good_first {v : List (BitVec 8)} (hfree : s.entryCopying k0 = false)
    (hgood : s.storedLine (s.entryPlace k0 off).1 (s.entryPlace k0 off).2 = some v) :
    (s.mirrorRead k0 k1 off r).1 = some v ∧ (s.mirrorRead k0 k1 off r).2.mem = s.mem := by
  rw [mirrorRead_first (copyRead_stored hfree hgood r.otherRow)]
  exact ⟨rfl, copyRead_mem s _ _ _⟩

theorem mirrorRead_good_second {v : List (BitVec 8)} (hfree0 : s.entryCopying k0 = false) (hfree1 : s.entryCopying k1 = false)
    (hbad : s.storedLine (s.entryPlace k0 off).1 (s.entryPlace k0 off).2 = none)
    (hgood : s.storedLine (s.entryPlace k1 off).1 (s.entryPlace k1 off).2 = some v)
    (hserves : s.chanServes (s.entryPlace k0 off).1 = true) :
    (s.mirrorRead k0 k1 off r).1 = some v ∧
      memLine (s.mirrorRead k0 k1 off r).2.mem (cellAddr (s.entryPlace k0 off).1 ((s.entryPlace k0 off).2 / 64 * 64)) = some v := by
  have hlen : v.length = 64 := by
    unfold State.storedLine at hgood
    split at hgood
    · exact memLine_length hgood
    · cases hgood
  have h0 := copyRead_stored hfree0 hbad r.otherRow
  generalize (s.copyRead k0 (s.entryPlace k0 off) r.otherRow).2 = t at h0
  obtain rfl : (s.copyRead k0 (s.entryPlace k0 off) r.otherRow).2 = t := congrArg Prod.snd h0
  have hplaces := copyRead_samePlaces s k0 (s.entryPlace k0 off) r.otherRow
  have h1 := copyRead_stored ((hplaces.entryCopying k1).trans hfree1) ((copyRead_storedLine s k0 _ _ _ _).trans hgood) r.otherRow
  have hplaces' := hplaces.trans (copyRead_samePlaces _ k1 (s.entryPlace k1 off) r.otherRow)
  rw [mirrorRead_second h0 h1, if_neg (by rw [hplaces.entryCopying, hfree0]; exact Bool.false_ne_true)]
  refine ⟨rfl, ?_⟩
  rw [lineWrite_mem, State.writeTakes, hplaces'.serves, hserves, decide_eq_true hlen, Bool.true_or, Bool.true_and, if_pos rfl,
    memLine_memPutAll_self hlen]

theorem mirrorRead_both_lost (hbad0 : s.storedLine (s.entryPlace k0 off).1 (s.entryPlace k0 off).2 = none)
    (hbad1 : s.storedLine (s.entryPlace k1 off).1 (s.entryPlace k1 off).2 = none) :
    ∃ u : State, u.besideAccess = s.besideAccess ∧ s.mirrorRead k0 k1 off r = (none, u.mirrorOwner r.owner) :=
  ⟨_, (copyRead_besideAccess _ _ _ _).trans (copyRead_besideAccess s _ _ _),
    mirrorRead_lost (copyRead_poison hbad0 r.otherRow) (copyRead_poison ((copyRead_storedLine s k0 _ _ _ _).trans hbad1) r.otherRow)⟩

end Copies

/-! ### Pinned lines (R455) and the gap (R468) -/

theorem syntaxAccess_read (hread : r.write = false) (hcheck : r.cacheErr ≠ .uncorrectable) :
    (s.syntaxAccess r).mem = s.mem ∧ (s.syntaxAccess r).dmc.lastRead =
      some (r.answer ((s.dmc.syntaxLines.find? (fun e => e.line = r.addr / 64)).map (·.data))) := by
  simp only [State.syntaxAccess, hread, hcheck, beq_iff_eq, Bool.false_eq_true, if_false]
  refine ⟨?_, answerRead_lastRead _ _ _⟩
  rw [answerRead_mem, apply_ite State.mem, apply_ite State.mem, incR_mem, ite_self, ite_self]

theorem gapReq_waits (hread : r.write = false) (hkind : r.kind ≠ .picture) (hheld : s.heldFor r = none) :
    s.gapReq r = { s with dmc := { s.dmc with stalled := s.dmc.stalled ++ [r] } } := by
  simp only [State.gapReq, hread, hheld, hkind, beq_iff_eq, Bool.and_eq_true, Bool.false_eq_true, false_and, and_false,
    if_false]

end Access

end Sys2Proof.Machine

open Sys2Proof Sys2Proof.Machine

/-- Settles O31: a read of one copy goes to the channel or the cache, a read of two takes the first good one (the address past the
usable size is notes/assumptions 10, the line never written notes/assumptions 4). -/
theorem dramReadsReturnStoredLines : Obligations.DramReadsReturnStoredLines := by
  intro r s hread place stored answer
  refine ⟨exec_dramAccess_outside, fun hkind hin hgap => ?served, fun hkind hcheck => ?syntaxLine, fun hkind hpic hin hgap hheld => ?waits⟩
  case served =>
    have hserve := exec_dramAccess_serve hkind (.inl hread) hin hgap
    refine ⟨fun k hmap hpic => ⟨_, hserve, ?_⟩, fun k hmap hpic hcached => ⟨_, hserve, ?_⟩,
      fun k v hmap hpic hcached hcheck => ⟨_, hserve, ?_⟩, fun k v hmap hpic hcached hcheck => ⟨_, hserve, ?_⟩,
      fun k0 k1 v hmap hfree hgood => ⟨_, hserve, ?_⟩, fun k0 k1 v hmap hfree0 hfree1 hbad hgood hserves => ⟨_, hserve, ?_⟩,
      fun k0 k1 hmap hbad0 hbad1 howner hup => ⟨_, hserve, ?_⟩⟩
    · rw [after_dmc, after_mem, serveReq_plainRead hmap hread, plainRead_mem, plainRead_uncached hpic, answerRead_lastRead]
      exact ⟨rfl, rfl⟩
    · have hmiss : (s.accessCounted.cacheChecked r.addr r.cacheErr).cached r.addr = none := by
        rwa [cacheChecked_uncached (s := s.accessCounted) hcached]
      rw [after_dmc, after_cached, after_mem, serveReq_plainRead hmap hread, plainRead_mem, plainRead_picture hpic,
        lookUp_miss_cached hmiss, lookUp_miss hmiss, answerRead_lastRead, cacheChecked_storedLine]
      exact ⟨rfl, rfl, rfl⟩
    · have hhit : (s.accessCounted.cacheChecked r.addr r.cacheErr).cached r.addr = some v := by
        rwa [cacheChecked_kept _ _ hcheck]
      rw [after_dmc, after_mem, serveReq_plainRead hmap hread, plainRead_mem, plainRead_picture hpic, lookUp_hit hhit,
        answerRead_lastRead]
      exact ⟨rfl, rfl⟩
    · have hmiss : (s.accessCounted.cacheChecked r.addr r.cacheErr).cached r.addr = none := by
        rw [hcheck, cacheChecked_dropped (by rw [accessCounted_cached, hcached]; rfl)]
      rw [after_dmc, after_mem, serveReq_plainRead hmap hread, plainRead_mem, plainRead_picture hpic, lookUp_miss hmiss,
        answerRead_lastRead, cacheChecked_storedLine]
      exact ⟨rfl, rfl⟩
    · obtain ⟨hv, hmem⟩ := mirrorRead_good_first (k1 := k1) (r := r) hfree hgood
      rw [after_dmc, after_mem, serveReq_mirrorRead hmap hread, answerRead_lastRead, answerRead_mem, hv, hmem]
      exact ⟨rfl, rfl⟩
    · obtain ⟨hv, hline⟩ := mirrorRead_good_second (r := r) hfree0 hfree1 hbad hgood hserves
      rw [after_dmc, after_mem, serveReq_mirrorRead hmap hread, answerRead_lastRead, answerRead_mem, hv, hline]
      exact ⟨rfl, rfl⟩
    · obtain ⟨u, hu, hlost⟩ := mirrorRead_both_lost (r := r) hbad0 hbad1
      have hup' : u.boot.warmRun = false := (congrArg (fun w => w.boot.warmRun) hu).trans hup
      rw [after_dmc, after_faulted, serveReq_mirrorRead hmap hread, answerRead_lastRead, hlost, howner]
      exact ⟨rfl, raise_faulted hup' fltMirrorLost subjNone []⟩
  case syntaxLine =>
    refine ⟨_, exec_dramAccess_within (.inl hkind), ?_⟩
    rw [after_mem, after_dmc, dramAccess_syntax hkind]
    exact syntaxAccess_read hread hcheck
  case waits => rw [exec_dramAccess_within (.inr hin), dramAccess_gap hkind (.inl hread) hgap, gapReq_waits hread hpic hheld]
end

section
/-!
PROOFS. Writes of DRAM: what a write leaves at its mapped places, outside them, in the hold area and in pinned lines (R447, R455, R456,
R468, R594).
-/

namespace Sys2Proof.Machine

/-! ### One line written -/

section LineWrite

variable {s : State} {c a : Nat} {data : List (BitVec 8)}

theorem writeTakes_of_served (hserves : s.chanServes c = true)
    (hgood : data.length = 64 ∨ (memLine s.mem (cellAddr c (a / 64 * 64))).isSome = true) : s.writeTakes c a data = true := by
  rw [State.writeTakes, hserves, Bool.true_and]
  rcases hgood with h | h <;> simp [h]

/-- A write leaves every byte outside the bytes written. -/
theorem lineWrite_outside {x : Nat} (h : x < cellAddr c a ∨ cellAddr c a + data.length ≤ x) (otherRow : Bool) :
    memByte (s.lineWrite c a data otherRow).mem x = memByte s.mem x := by
  rw [lineWrite_mem]
  split
  · exact memByte_memPutAll_outside h _
  · rfl

/-- A write that takes reads back. -/
theorem lineWrite_inside (htakes : s.writeTakes c a data = true) {i : Nat} (hi : i < data.length) (otherRow : Bool) :
    memByte (s.lineWrite c a data otherRow).mem (cellAddr c a + i) = data[i]? := by
  rw [lineWrite_mem, if_pos htakes, memByte_memPutAll_inside hi]

/-- Bytes that hold the data already hold it after a write of the same data there or elsewhere. -/
theorem lineWrite_keeps {x i : Nat} (hheld : memByte s.mem (x + i) = data[i]?) (hi : i < data.length)
    (hplace : x = cellAddr c a ∨ x + i < cellAddr c a ∨ cellAddr c a + data.length ≤ x + i) (otherRow : Bool) :
    memByte (s.lineWrite c a data otherRow).mem (x + i) = data[i]? := by
  rcases hplace with rfl | hout
  · by_cases htakes : s.writeTakes c a data = true
    · exact lineWrite_inside htakes hi otherRow
    · rw [lineWrite_mem, if_neg htakes, hheld]
  · rw [lineWrite_outside hout, hheld]

/-- A write takes after another one if it took before: no write poisons a line. -/
theorem lineWrite_writeTakes (htakes : s.writeTakes c a data = true) (c' a' : Nat) (data' : List (BitVec 8)) (otherRow : Bool) :
    (s.lineWrite c' a' data' otherRow).writeTakes c a data = true := by
  simp only [State.writeTakes, Bool.and_eq_true, Bool.or_eq_true] at htakes ⊢
  obtain ⟨hserves, hgood⟩ := htakes
  refine ⟨((lineWrite_samePlaces s c' a' data' otherRow).serves c).trans hserves, hgood.imp id fun hline => ?_⟩
  rw [lineWrite_mem]
  split
  · exact memLine_memPutAll_isSome hline _ _
  · exact hline

end LineWrite

/-! ### The places of an address (R447) -/

theorem mapAddr_entries (s : State) (a : Nat) : (∃ k0 k1, (s.mapAddr a).1 = [k0, k1]) ∨ ∃ k, (s.mapAddr a).1 = [k] := by
  have hregion : s.mapAddr a = _ ∨ s.mapAddr a = _ := ite_eq_or_eq _ _ _
  rcases hregion with h | h
  · exact .inl ⟨_, _, congrArg Prod.fst h⟩
  · exact .inr ⟨_, congrArg Prod.fst h⟩

/-- Two slices start at one address or a slice apart. -/
theorem entryPlace_apart (s : State) (k0 k1 off : Nat) :
    cellAddr (s.entryPlace k0 off).1 (s.entryPlace k0 off).2 = cellAddr (s.entryPlace k1 off).1 (s.entryPlace k1 off).2 ∨
      cellAddr (s.entryPlace k0 off).1 (s.entryPlace k0 off).2 + 64 ≤ cellAddr (s.entryPlace k1 off).1 (s.entryPlace k1 off).2 ∨
      cellAddr (s.entryPlace k1 off).1 (s.entryPlace k1 off).2 + 64 ≤ cellAddr (s.entryPlace k0 off).1 (s.entryPlace k0 off).2 := by
  simp only [State.entryPlace, cellAddr, sliceBytes]
  omega

/-! ### A write served -/

/-- What holds of the memory that a write of `data` at the places of `ks` leaves. -/
structure State.Landed (s t : State) (ks : List Nat) (off : Nat) (data : List (BitVec 8)) : Prop where
  beside : t.besideAccess = s.besideAccess
  outside : ∀ a, (∀ k ∈ ks, a < cellAddr (s.entryPlace k off).1 (s.entryPlace k off).2 ∨
      cellAddr (s.entryPlace k off).1 (s.entryPlace k off).2 + data.length ≤ a) → memByte t.mem a = memByte s.mem a
  inside : ∀ k ∈ ks, s.writeTakes (s.entryPlace k off).1 (s.entryPlace k off).2 data = true → ∀ i, i < data.length →
    memByte t.mem (cellAddr (s.entryPlace k off).1 (s.entryPlace k off).2 + i) = data[i]?

section Landed

variable {s t : State} {ks : List Nat} {off : Nat} {data : List (BitVec 8)} (h : s.Landed t ks off data)
include h

theorem State.Landed.legs : t.legs = s.legs := (congrArg State.legs h.beside :)

theorem State.Landed.folds : t.folds = s.folds := (congrArg State.folds h.beside :)

theorem State.Landed.streams : t.streams = s.streams := (congrArg State.streams h.beside :)

end Landed

theorem lineWrite_landed (s : State) (k off : Nat) (data : List (BitVec 8)) (otherRow : Bool) :
    s.Landed (s.lineWrite (s.entryPlace k off).1 (s.entryPlace k off).2 data otherRow) [k] off data where
  beside := lineWrite_besideAccess s _ _ _ _
  outside a ha := lineWrite_outside (ha k List.mem_cons_self) otherRow
  inside k' hk htakes i hi := by
    obtain rfl := List.mem_singleton.mp hk
    exact lineWrite_inside htakes hi otherRow

theorem mirrorWrite_landed (s : State) (k0 k1 off : Nat) {data : List (BitVec 8)} (hlen : data.length ≤ 64) (otherRow : Bool) :
    s.Landed ((s.lineWrite (s.entryPlace k0 off).1 (s.entryPlace k0 off).2 data otherRow).lineWrite (s.entryPlace k1 off).1
      (s.entryPlace k1 off).2 data otherRow) [k0, k1] off data where
  beside := (lineWrite_besideAccess _ _ _ _ _).trans (lineWrite_besideAccess s _ _ _ _)
  outside a ha := (lineWrite_outside (ha k1 (by simp)) otherRow).trans (lineWrite_outside (ha k0 (by simp)) otherRow)
  inside k hk htakes i hi := by
    rcases List.mem_cons.mp hk with rfl | hk
    · refine lineWrite_keeps (lineWrite_inside htakes hi otherRow) hi ?_ otherRow
      have hapart := entryPlace_apart s k k1 off
      omega
    · obtain rfl := List.mem_singleton.mp hk
      exact lineWrite_inside (lineWrite_writeTakes htakes _ _ _ _) hi otherRow

/-- A write lands at the mapped places of its address. -/
theorem serveReq_landed {s : State} {r : MemReq} (hwrite : r.write = true) :
    s.Landed (s.serveReq r) (s.mapAddr r.addr).1 (s.mapAddr r.addr).2 (r.data.take (64 - r.addr % 64)) := by
  obtain ⟨k0, k1, hmap⟩ | ⟨k, hmap⟩ := mapAddr_entries s r.addr
  · rw [serveReq_mirrorWrite hmap hwrite, hmap]
    exact mirrorWrite_landed s k0 k1 _ (by rw [List.length_take]; omega) _
  · rw [serveReq_plainWrite hmap hwrite, hmap]
    obtain ⟨hbeside, houtside, hinside⟩ := lineWrite_landed s k (s.mapAddr r.addr).2 (r.data.take (64 - r.addr % 64)) r.otherRow
    exact ⟨hbeside, houtside, hinside⟩

/-! ### Writes that are held, and pinned lines (R455, R468) -/

theorem gapReq_held {s : State} {r : MemReq} (hwrite : r.write = true) (hstalled : s.dmc.stalled = [])
    (hroom : s.heldBytes + r.data.length ≤ 25165824) : s.gapReq r = { s with dmc := { s.dmc with hold := s.dmc.hold ++ [r] } } := by
  rw [State.gapReq, if_pos hwrite, if_pos (by simp [hroom, hstalled])]

theorem syntaxAccess_write_mem {s : State} {r : MemReq} (hwrite : r.write = true) : (s.syntaxAccess r).mem = s.mem := by
  rw [State.syntaxAccess, if_pos hwrite]

/-- A pinned line is replaced. -/
theorem syntaxAccess_write {s : State} {r : MemReq} (hwrite : r.write = true) :
    ((s.syntaxAccess r).dmc.syntaxLines.find? (fun e => e.line = r.addr / 64)).map (·.data) = some (r.data.take 64) := by
  have hothers : (s.dmc.syntaxLines.filter (fun e => e.line ≠ r.addr / 64)).find? (fun e => e.line = r.addr / 64) = none :=
    List.find?_eq_none.mpr (by simp)
  rw [State.syntaxAccess, if_pos hwrite]
  dsimp only
  rw [List.find?_append, hothers, Option.none_or, List.find?_cons_of_pos (by simp)]
  rfl

end Sys2Proof.Machine

open Sys2Proof Sys2Proof.Machine

/-- Settles O32: two copies of a line lie at one place or a slice apart, so the second write leaves what the first one landed. -/
theorem dramWritesLandAtTheirPlaces : Obligations.DramWritesLandAtTheirPlaces := by
  intro r s hwrite place data
  refine ⟨fun hkind hin => ⟨fun hguard => ?guarded, fun hguard hgap => ?served, fun hguard hgap hstalled hroom => ?held⟩,
    fun hkind => ?syntaxLine⟩
  case guarded => rw [exec_dramAccess_within (.inr hin), dramAccess_guarded hkind hwrite hguard]
  case served =>
    have hlanded := serveReq_landed (s := s) hwrite
    refine ⟨_, exec_dramAccess_serve hkind (.inr hguard) hin hgap, ?_⟩
    rw [after_legs, after_folds, after_streams, after_mem]
    exact ⟨hlanded.legs, hlanded.folds, hlanded.streams, hlanded.outside,
      fun k hk hserves hgood => hlanded.inside k hk (writeTakes_of_served hserves hgood)⟩
  case held => rw [exec_dramAccess_within (.inr hin), dramAccess_gap hkind (.inr hguard) hgap, gapReq_held hwrite hstalled hroom]
  case syntaxLine =>
    refine ⟨_, exec_dramAccess_within (.inl hkind), ?_⟩
    rw [after_mem, after_dmc, dramAccess_syntax hkind]
    exact ⟨syntaxAccess_write_mem hwrite, syntaxAccess_write hwrite⟩
end

section
/-!
PROOFS. The upkeep of DRAM: refresh, temperatures, calibration and open rows touch the memory plane's own tables, registers and faults
only (R444, R460 to R466).
-/

namespace Sys2Proof.Machine

/-! ### What the ranks' and registers' own events leave alone -/

/-- What lies beside the registers and what serving a request may change in the memory plane, the ranks above all. -/
def State.beyondRanks (s : State) : State := { s with regs := [], dmc := s.dmc.fixed }

section Fields

variable {s t : State} (h : t.beyondRanks = s.beyondRanks)
include h

theorem mem_of_beyondRanks : t.mem = s.mem := (congrArg State.mem h :)

theorem boot_of_beyondRanks : t.boot = s.boot := (congrArg State.boot h :)

theorem fixed_of_beyondRanks : t.dmc.fixed = s.dmc.fixed := (congrArg State.dmc h :)

end Fields

section Ranks

variable (s : State)

theorem setR_beyondRanks (d v : Nat) : (s.setR d v).beyondRanks = s.beyondRanks := rfl

theorem setF_beyondRanks (d hi lo v : Nat) : (s.setF d hi lo v).beyondRanks = s.beyondRanks := setR_beyondRanks s _ _

theorem incR_beyondRanks (d n : Nat) : (s.incR d n).beyondRanks = s.beyondRanks := setR_beyondRanks s _ _

theorem onRank_beyondRanks (c r : Nat) (f : RankSt → RankSt) : (s.onRank c r f).beyondRanks = s.beyondRanks := rfl

theorem noteOwed_beyondRanks (c : Nat) (o : Int) : (s.noteOwed c o).beyondRanks = s.beyondRanks := rfl

theorem ranks_beyondRanks (c : Nat) (rs : List Nat) (f : RankSt → RankSt) :
    (s.each rs (fun s r => s.onRank c r f)).beyondRanks = s.beyondRanks :=
  each_keeps State.beyondRanks (fun w r => onRank_beyondRanks w c r f) rs s

/-- Every rank of every channel changed. -/
def State.allRanks (s : State) (f : RankSt → RankSt) : State :=
  s.each (upTo 12) (fun s c => s.each (tkeys (s.chan c).ranks) (fun s r => s.onRank c r f))

/-- Every bank of a rank changed. -/
def RankSt.onBanks (f : BankSt → BankSt) (x : RankSt) : RankSt :=
  { x with banks := (tkeys x.banks).foldl (fun t b => tmod {} t b f) x.banks }

theorem allBanks_eq (f : BankSt → BankSt) : s.allBanks f = s.allRanks (RankSt.onBanks f) := rfl

theorem allRanks_beyondRanks (f : RankSt → RankSt) : (s.allRanks f).beyondRanks = s.beyondRanks :=
  each_keeps State.beyondRanks (fun w c => ranks_beyondRanks w c _ f) _ s

theorem rowTableClear_beyondRanks : (rowTableClear s).beyondRanks = s.beyondRanks := by
  unfold rowTableClear
  split
  · rw [allBanks_eq, allRanks_beyondRanks]
  · rfl

/-- What a rank's bank set owes after one more tREFI, before the limit of 4 (R460). -/
def owedNext (o : Int) (placed : Nat) : Int := (if o - placed < -4 then -4 else o - placed) + 1

/-- A tREFI notes what is owed now, at most 4; past 4 a refresh is urgent (R460). -/
theorem refreshDue_eq (c r b placed : Nat) (s : State) {o : Int}
    (ho : o = owedNext (tget 0 (tget ({} : RankSt) (s.chan c).ranks r).owed b) placed) :
    refreshDue c r b placed s = if 4 < o
      then ((s.onRank c r (fun x => { x with owed := tset 0 x.owed b 4 })).noteOwed c 4).incR (Reg.DMC_CH_URGENT_REFRESH c)
      else (s.onRank c r (fun x => { x with owed := tset 0 x.owed b o })).noteOwed c o := by
  have hnext : (if tget 0 (tget ({} : RankSt) (s.chan c).ranks r).owed b - placed < -4 then -4
      else tget 0 (tget ({} : RankSt) (s.chan c).ranks r).owed b - placed) + 1 = o := ho.symm
  unfold refreshDue
  dsimp only
  rw [hnext]
  by_cases hurgent : 4 < o
  · simp only [hurgent, decide_true, if_true]
  · simp only [hurgent, decide_false, if_false, Bool.false_eq_true]

theorem refreshDue_beyondRanks (c r b placed : Nat) : (refreshDue c r b placed s).beyondRanks = s.beyondRanks := by
  rw [refreshDue_eq c r b placed s rfl]
  split
  · rw [incR_beyondRanks, noteOwed_beyondRanks, onRank_beyondRanks]
  · rw [noteOwed_beyondRanks, onRank_beyondRanks]

theorem notesOwed_beyondRanks (c : Nat) (os : Tbl Int) : (s.each os (fun s e => s.noteOwed c e.2)).beyondRanks = s.beyondRanks :=
  each_keeps State.beyondRanks (fun (w : State) (e : Nat × Int) => noteOwed_beyondRanks w c e.2) os s

theorem crossing_beyondRanks (c d : Nat) (up : Bool) : (s.crossing c d up).beyondRanks = s.beyondRanks := by
  unfold State.crossing
  dsimp only
  rw [setF_beyondRanks, incR_beyondRanks]
  refine each_keeps State.beyondRanks (fun w r => ?_) _ s
  split
  · rw [incR_beyondRanks, notesOwed_beyondRanks, onRank_beyondRanks]
  · rw [onRank_beyondRanks]

/-- The temperature of a DIMM shown, and the tick of a warm reading noted (R461, R463). -/
def State.tempShown (s : State) (c d : Nat) (x : Int) : State :=
  let s := s.setF (Reg.DMC_CH_TEMP c) (8 * d + 7) (8 * d) (toBits 8 x)
  if 85 < x then { s with dmc := { s.dmc with warmTick := s.now } } else s

/-- The crossing that a reading makes, or the cool readings counted (R461). -/
def State.rateRead (s : State) (c d : Nat) (x : Int) (mr4 : Bool) : State :=
  let cool := (s.dimmRanks c d).head?.elim 0 (fun r => (tget ({} : RankSt) (s.chan c).ranks r).coolReads)
  if !bit (s.getR (Reg.DMC_CH_STATUS c)) (14 + d) then if decide (85 < x) || mr4 then s.crossing c d true else s
  else if decide (x ≤ 82) && !mr4 then
    if 9 ≤ cool then s.crossing c d false
    else s.each (s.dimmRanks c d) (fun s r => s.onRank c r (fun y => { y with coolReads := cool + 1 }))
  else s.each (s.dimmRanks c d) (fun s r => s.onRank c r (fun y => { y with coolReads := 0 }))

theorem dimmTempRead_used {c : Nat} (d : Nat) (x : Int) (mr4 : Bool) (h : s.chState c ≠ chAbsent) (h' : s.chState c ≠ chFenced) :
    dimmTempRead c d x mr4 s =
      if 95 ≤ x then ((s.tempShown c d x).rateRead c d x mr4).dimmHot c else (s.tempShown c d x).rateRead c d x mr4 := by
  unfold dimmTempRead State.rateRead State.tempShown
  rw [if_neg (by simp [h, h'])]

theorem dimmTempRead_unused {c : Nat} (d : Nat) (x : Int) (mr4 : Bool) (h : s.chState c = chAbsent ∨ s.chState c = chFenced) :
    dimmTempRead c d x mr4 s = s := by
  unfold dimmTempRead
  rw [if_pos (by simpa using h)]

theorem rateRead_beyondRanks (c d : Nat) (x : Int) (mr4 : Bool) : (s.rateRead c d x mr4).beyondRanks = s.beyondRanks := by
  unfold State.rateRead
  dsimp only
  split
  · split
    · exact crossing_beyondRanks s c d true
    · rfl
  · split
    · split
      · exact crossing_beyondRanks s c d false
      · exact ranks_beyondRanks s c _ _
    · exact ranks_beyondRanks s c _ _

end Ranks

/-! ### What the upkeep of DRAM leaves alone -/

/-- What faults, registers and the memory plane's own tables lie beside. -/
def State.besideUpkeep (s : State) : State := { s with regs := [], dmc := {}, boot := {}, flt := {} }

theorem besideUpkeep_of_beyondRanks {s t : State} (h : t.beyondRanks = s.beyondRanks) : t.besideUpkeep = s.besideUpkeep :=
  (congrArg State.besideUpkeep h :)

section Upkeep

variable (s : State)

theorem besideUpkeep_dmc (x : DmcSt) : ({ s with dmc := x } : State).besideUpkeep = s.besideUpkeep := rfl

theorem queueFault_besideUpkeep (f : RaisedFault) : (s.queueFault f).besideUpkeep = s.besideUpkeep := by
  unfold State.queueFault
  dsimp only
  split <;> rfl

theorem raise_besideUpkeep (code subject : Nat) (detail : List (Nat × Nat)) :
    (s.raise code subject detail).besideUpkeep = s.besideUpkeep := by
  unfold State.raise
  dsimp only
  split
  · split
    · rfl
    · rw [queueFault_besideUpkeep]
      exact besideUpkeep_of_beyondRanks (incR_beyondRanks s _ _)
  · exact queueFault_besideUpkeep s _

theorem dimmHot_besideUpkeep (c : Nat) : (s.dimmHot c).besideUpkeep = s.besideUpkeep := by
  unfold State.dimmHot
  split
  · rfl
  · split
    · rw [raise_besideUpkeep, besideUpkeep_dmc]
    · split
      · rw [raise_besideUpkeep, besideUpkeep_dmc]
      · rfl

theorem tempShown_besideUpkeep (c d : Nat) (x : Int) : (s.tempShown c d x).besideUpkeep = s.besideUpkeep := by
  unfold State.tempShown
  split
  · rw [besideUpkeep_dmc]
    exact besideUpkeep_of_beyondRanks (setF_beyondRanks s _ _ _ _)
  · exact besideUpkeep_of_beyondRanks (setF_beyondRanks s _ _ _ _)

theorem dimmTempRead_besideUpkeep (c d : Nat) (x : Int) (mr4 : Bool) : (dimmTempRead c d x mr4 s).besideUpkeep = s.besideUpkeep := by
  by_cases h : s.chState c = chAbsent ∨ s.chState c = chFenced
  · rw [dimmTempRead_unused s d x mr4 h]
  · push Not at h
    rw [dimmTempRead_used s d x mr4 h.1 h.2]
    split
    · rw [dimmHot_besideUpkeep, besideUpkeep_of_beyondRanks (rateRead_beyondRanks _ _ _ _ _), tempShown_besideUpkeep]
    · rw [besideUpkeep_of_beyondRanks (rateRead_beyondRanks _ _ _ _ _), tempShown_besideUpkeep]

end Upkeep

theorem keepsMedia_of_besideUpkeep {s t : State} (h : t.besideUpkeep = s.besideUpkeep) : s.KeepsMedia t where
  mem := (congrArg State.mem h :)
  legs := (congrArg State.legs h :)
  folds := (congrArg State.folds h :)
  streams := (congrArg State.streams h :)
  lcs := (congrArg State.lcs h :)

theorem keepsRest_of_besideUpkeep {s t : State} (h : t.besideUpkeep = s.besideUpkeep) : s.KeepsRest t where
  cip := (congrArg State.cip h :)
  tim := (congrArg State.tim h :)
  twn := (congrArg State.twn h :)
  upd := (congrArg State.upd h :)
  tly := (congrArg State.tly h :)
  pins := (congrArg State.pins h :)

theorem keepsMedia_after {s t : State} (h : s.KeepsMedia t) : s.KeepsMedia (s.after t) := by
  obtain ⟨hmem, hlegs, hfolds, hstreams, hlcs⟩ := h
  constructor <;> simpa [State.after]

theorem keepsRest_after {s t : State} (h : s.KeepsRest t) : s.KeepsRest (s.after t) := by
  obtain ⟨hcip, htim, htwn, hupd, htly, hpins⟩ := h
  constructor <;> simpa [State.after]

/-- The events that keep DRAM alive (R444, R460 to R466). -/
def isUpkeep (c : Instr) : Prop :=
  (∃ a b d p, c = .refreshDue a b d p) ∨ (∃ a b x y, c = .dimmTempRead a b x y) ∨ c = .dqsDriftComp ∨ c = .zqLatch ∨
  c = .rowTableClear ∨ (∃ a b d, c = .openRowTimeout a b d)

/-- Each of them ends on a state whose other planes and contents are those before it. -/
theorem exec_upkeep {c : Instr} (hc : isUpkeep c) (s : State) :
    ∃ u, exec c s = .next (s.after u) ∧ u.besideUpkeep = s.besideUpkeep := by
  obtain ⟨a, b, d, p, rfl⟩ | ⟨a, b, x, y, rfl⟩ | rfl | rfl | rfl | ⟨a, b, d, rfl⟩ := hc
  · exact ⟨_, finish_after s _, besideUpkeep_of_beyondRanks (refreshDue_beyondRanks s a b d p)⟩
  · exact ⟨_, finish_after s _, dimmTempRead_besideUpkeep s a b x y⟩
  · exact ⟨_, finish_after s _, besideUpkeep_dmc s _⟩
  · exact ⟨_, finish_after s _, besideUpkeep_dmc s _⟩
  · exact ⟨_, finish_after s _, besideUpkeep_of_beyondRanks (rowTableClear_beyondRanks s)⟩
  · exact ⟨_, finish_after s _, besideUpkeep_of_beyondRanks (onRank_beyondRanks s a b _)⟩

end Sys2Proof.Machine

open Sys2Proof Sys2Proof.Machine

/-- Settles O59: the six events end on a state that differs from the one before in registers, faults and the memory plane's tables. -/
theorem memoryUpkeepKeepsContents : Obligations.MemoryUpkeepKeepsContents := by
  intro c s t hexec hc
  obtain ⟨u, hend, hu⟩ := exec_upkeep hc s
  obtain rfl : s.after u = t := Host.Outcome.next.inj (hend.symm.trans hexec)
  exact ⟨keepsMedia_after (keepsMedia_of_besideUpkeep hu), keepsRest_after (keepsRest_of_besideUpkeep hu)⟩
end

section
/-!
PROOFS. DRAM contents stay canonical (R456, R457, R469, R470, R472): the operations of the memory plane that leave contents alone, and
those that store, lose or copy bytes.
-/

namespace Sys2Proof.Machine

/-! ### Operations that leave contents alone -/

section Contents

variable (s : State)

@[simp] theorem clearReason_mem (p : Reason → Bool) : (s.clearReason p).mem = s.mem := by
  unfold State.clearReason
  split <;> rfl

@[simp] theorem clearReasonOf_mem (code subject : Nat) : (s.clearReasonOf code subject).mem = s.mem := clearReason_mem s _

@[simp] theorem setChState_mem (c v : Nat) : (s.setChState c v).mem = s.mem := setF_mem s (Reg.DMC_CH_STATUS c) 2 0 v

@[simp] theorem setChOut_mem (c : Nat) (out : Bool) : (s.setChOut c out).mem = s.mem := rfl

@[simp] theorem addJob_mem (j : CopyJob) : (s.addJob j).mem = s.mem := rfl

@[simp] theorem dropJobs_mem (c : Nat) : (s.dropJobs c).mem = s.mem := rfl

@[simp] theorem redirect_mem (c : Nat) (es : List (Nat × Nat × Nat)) : (s.redirect c es).mem = s.mem := rfl

@[simp] theorem stepDone_mem (j : CopyJob) : (s.stepDone j).mem = s.mem := rfl

@[simp] theorem takeSlice_mem (c n : Nat) : (s.takeSlice c n).mem = s.mem := by
  unfold State.takeSlice
  split <;> rfl

@[simp] theorem giveSlice_mem (c n : Nat) : (s.giveSlice c n).mem = s.mem := by
  unfold State.giveSlice
  split <;> rfl

@[simp] theorem switchEntries_mem (es : List (Nat × Nat × Nat)) : (s.switchEntries es).mem = s.mem :=
  each_keeps State.mem (fun w _ => tallyCommit_mem w _ _ _ _ _) _ _

@[simp] theorem showPop_mem (c : Nat) : (s.showPop c).mem = s.mem := by
  simp only [State.showPop, setF_mem, setR_mem]

@[simp] theorem putSetPoint_mem (n : Nat) : (s.putSetPoint n).mem = s.mem := by
  refine each_keeps State.mem (fun w c => ?_) _ _
  split
  · rfl
  · exact showPop_mem w c

@[simp] theorem fenceChan_mem (c : Nat) : (s.fenceChan c).mem = s.mem := by
  simp only [State.fenceChan, raise_mem, setChOut_mem, setChState_mem]

@[simp] theorem retrainChan_mem (c : Nat) : (s.retrainChan c).mem = s.mem := setChState_mem s c _

@[simp] theorem jobEnd_mem (j : CopyJob) : (s.jobEnd j).mem = s.mem := by
  unfold State.jobEnd
  split
  · split
    · exact retrainChan_mem s _
    · exact setChState_mem s _ _
  · simp only [clearReasonOf_mem, setChOut_mem, setChState_mem]
  · rfl

end Contents

/-- Slices are taken as they are allocated, channel by channel, and nothing else changes (R472). -/
theorem allocate_keeps {β : Type} (g : State → β) (hg : ∀ (w : State) c n, g (w.takeSlice c n) = g w) {gone : Nat} {ks : List Nat}
    {s t : State} {es : List (Nat × Nat × Nat)} (h : s.allocate gone ks = some (t, es)) : g t = g s := by
  induction ks generalizing s es with
  | nil =>
    obtain ⟨rfl, -⟩ : s = t ∧ [] = es := by simpa [State.allocate] using h
    rfl
  | cons k ks ih =>
    unfold State.allocate at h
    split at h
    · cases h
    · next c hc =>
      dsimp only at h
      split at h
      · cases h
      · next u es' hrest =>
        obtain ⟨rfl, -⟩ : u = t ∧ (k, c, s.lowFree c) :: es' = es := by simpa using h
        rw [ih hrest, hg]

theorem drainChan_mem (s : State) (c : Nat) (auto : Bool) : (s.drainChan c auto).mem = s.mem := by
  unfold State.drainChan
  split
  · exact setF_mem s _ _ _ _
  · next t es h =>
    have hmem : t.mem = s.mem := allocate_keeps State.mem takeSlice_mem h
    simp only [addJob_mem, onChan_mem, setChState_mem, setF_mem, hmem]

theorem autoDrain_mem (s : State) (c : Nat) : (s.autoDrain c).mem = s.mem := by
  unfold State.autoDrain
  split
  · exact drainChan_mem s c true
  · rfl

theorem rankFails_mem (s : State) (c r : Nat) {other : State → State} (h : ∀ w : State, (other w).mem = w.mem) :
    (s.rankFails c r other).mem = s.mem := by
  unfold State.rankFails
  dsimp only
  split
  · split
    · rfl
    · split
      · exact h s
      · simp only [addJob_mem, setF_mem, onChan_mem]
  · exact h s

/-- A corrected error counted on its channel and rank, with the rank's errors of the last 600 ticks, begun again in excess (R457). -/
def State.ceNoted (s : State) (c r : Nat) : State :=
  let s := (s.incR (Reg.DMC_CH_CE c)).incR (Reg.DMC_CH_RANK_CE c r)
  let w := window600 (tget ({} : RankSt) (s.chan c).ranks r).ceWin s.now 1
  s.onRank c r (fun x => { x with ceWin := if decide (1000 < w.2) then [] else w.1 })

/-- A corrected error is noted; in excess it is reported, and may drain the channel (R457). -/
theorem correctedErr_cases (s : State) (c r : Nat) :
    s.correctedErr c r = s.ceNoted c r ∨ s.correctedErr c r = (s.ceNoted c r).raise fltCeRate (subjRank c r) ∨
      s.correctedErr c r = ((s.ceNoted c r).raise fltCeRate (subjRank c r)).autoDrain c := by
  simp only [State.correctedErr, State.ceNoted]
  split
  · split
    · exact .inr (.inr rfl)
    · exact .inr (.inl rfl)
  · exact .inl rfl

theorem ceNoted_mem (s : State) (c r : Nat) : (s.ceNoted c r).mem = s.mem := by
  rw [State.ceNoted, onRank_mem, incR_mem, incR_mem]

theorem correctedErr_mem (s : State) (c r : Nat) : (s.correctedErr c r).mem = s.mem := by
  obtain h | h | h := correctedErr_cases s c r
  · rw [h, ceNoted_mem]
  · rw [h, raise_mem, ceNoted_mem]
  · rw [h, autoDrain_mem, raise_mem, ceNoted_mem]

/-! ### Requests (R451, R452, R455, R468) -/

/-- DRAM contents and the memory plane's tables. -/
def State.store (s : State) : List Host.Cell × DmcSt := (s.mem, s.dmc)

theorem raise_store (s : State) (code subject : Nat) (detail : List (Nat × Nat)) : (s.raise code subject detail).store = s.store :=
  Prod.ext (raise_mem s _ _ _) (raise_dmc s _ _ _)

theorem legStateNote_store (s : State) (l : Nat) : (s.legStateNote l).store = s.store :=
  Prod.ext (notify_mem s _ _ _ _ _) (notify_dmc s _ _ _ _ _)

theorem onLeg_store (s : State) (l : Nat) (f : LegRt → LegRt) : (s.onLeg l f).store = s.store :=
  Prod.ext (onLeg_mem s l f) (onLeg_dmc s l f)

theorem fenceLeg_store (s : State) (l cause : Nat) : (s.fenceLeg l cause).store = s.store := by
  unfold State.fenceLeg
  split
  · rw [legStateNote_store, onLeg_store]
  · rfl

theorem reply_store (s : State) (dst : ReplyTo) (status : Nat) (pay : RPay) : (s.reply dst status pay).store = s.store :=
  Prod.ext (reply_mem s _ _ _) (reply_dmc s _ _ _)

theorem fenceLegs_store (s : State) (ls : List Nat) (cause : Nat) : (s.each ls (fun s l => s.fenceLeg l cause)).store = s.store :=
  each_keeps State.store (fun w l => fenceLeg_store w l cause) ls s

/-- What becomes of the owner of a lost line leaves memory alone. -/
theorem mirrorOwner_store (s : State) (o : MemOwner) : (s.mirrorOwner o).store = s.store := by
  cases o with
  | none => exact raise_store s _ _ _
  | spill t => exact (raise_store _ _ _ _).trans (raise_store _ _ _ _)
  | leg l => exact (fenceLeg_store _ _ _).trans (raise_store _ _ _ _)
  | fold f => exact (fenceLegs_store _ _ _).trans (raise_store _ _ _ _)
  | lineClass c => exact (fenceLegs_store _ _ _).trans (raise_store _ _ _ _)
  | shadow f =>
    refine (raise_store _ _ _ _).trans ?_
    refine (each_keeps State.store (fun w p => ?_) _ _).trans rfl
    have hops : (w.each p.ops (fun s op => match op with
        | .legIn l .. => if (s.leg l).state = .admitting then (s.onLeg l (fun _ => {})).legStateNote l else s
        | _ => s)).store = w.store := by
      refine each_keeps State.store (fun x op => ?_) _ w
      split
      · split
        · rw [legStateNote_store, onLeg_store]
        · rfl
      · rfl
    dsimp only
    split
    · exact (reply_store _ _ _ _).trans hops
    · exact hops

theorem mirrorOwner_mem (s : State) (o : MemOwner) : (s.mirrorOwner o).mem = s.mem := congrArg Prod.fst (mirrorOwner_store s o)

theorem mirrorOwner_dmc (s : State) (o : MemOwner) : (s.mirrorOwner o).dmc = s.dmc := congrArg Prod.snd (mirrorOwner_store s o)

theorem syntaxAccess_mem (s : State) (r : MemReq) : (s.syntaxAccess r).mem = s.mem := by
  by_cases hwrite : r.write = true
  · exact syntaxAccess_write_mem hwrite
  · rw [State.syntaxAccess, if_neg hwrite]
    dsimp only
    rw [answerRead_mem, apply_ite State.mem, apply_ite State.mem, apply_ite State.mem, cacheEcc_mem, incR_mem]
    simp only [ite_self]

theorem gapReq_mem (s : State) (r : MemReq) : (s.gapReq r).mem = s.mem := by
  unfold State.gapReq
  split
  · split
    · rfl
    · exact incR_mem _ _ _
  · split
    · rfl
    · split
      · exact plainRead_mem s _ _ r
      · rfl

/-! ### A line and a channel lost (R457, R472) -/

theorem dramUncorrectableError_good (s : State) (c a : Nat) :
    dramUncorrectableError c a true s = s.correctedErr c (s.dramPlace c a).1 := by
  rw [dramUncorrectableError]
  exact if_pos rfl

/-- More than 16 uncorrectable errors in 600 ticks drain a channel (R457). -/
def State.drainPast (s : State) (n c : Nat) : State := if 16 < n then s.autoDrain c else s

/-- The line of an uncorrectable error is lost and counted, reported at most once in 600 ticks, and noted by its rank, which may fail
(R457). -/
theorem dramUncorrectableError_bad (s : State) (c a : Nat) :
    ∃ f n, dramUncorrectableError c a false s =
      (((({ s with mem := memErase s.mem (cellAddr c (a / 64 * 64)) (cellAddr c (a / 64 * 64) + 64) } : State).incR
        (Reg.DMC_CH_UE c)).raiseOnce fltLinePoisoned (subjRank c (s.dramPlace c a).1) 600).onRank c (s.dramPlace c a).1 f).rankFails c
        (s.dramPlace c a).1 (fun s => s.drainPast n c) := by
  simp only [dramUncorrectableError, Bool.false_eq_true, if_false]
  exact ⟨_, _, rfl⟩

theorem drainPast_mem (s : State) (n c : Nat) : (s.drainPast n c).mem = s.mem := by
  unfold State.drainPast
  split
  · exact autoDrain_mem s c
  · rfl

theorem dramUncorrectableError_mem (s : State) (c a : Nat) :
    (dramUncorrectableError c a false s).mem = memErase s.mem (cellAddr c (a / 64 * 64)) (cellAddr c (a / 64 * 64) + 64) := by
  obtain ⟨f, n, heq⟩ := dramUncorrectableError_bad s c a
  rw [heq, rankFails_mem _ c _ (drainPast_mem · n c), onRank_mem, raiseOnce_mem, incR_mem]

/-- A re-homed channel loses what it held (R472). -/
theorem rehome_mem {s u : State} {c : Nat} (h : s.rehome c = some u) : u.mem = memErase s.mem (cellAddr c 0) (cellAddr (c + 1) 0) := by
  unfold State.rehome at h
  dsimp only at h
  split at h
  · cases h
  · next t es hall =>
    have hmem : t.mem = s.mem := allocate_keeps State.mem takeSlice_mem hall
    split at h
    · obtain rfl := Option.some.inj h
      simp only [setF_mem, onChan_mem, State.eraseChan, switchEntries_mem, dropJobs_mem, redirect_mem, hmem]
    · obtain rfl := Option.some.inj h
      simp only [raise_mem, addJob_mem, setF_mem, onChan_mem, State.eraseChan, switchEntries_mem, dropJobs_mem, redirect_mem, hmem]

/-- A channel that serves is lost with its contents or not at all; another one keeps them (R472). -/
theorem loseChan_mem (s : State) (c : Nat) :
    (s.loseChan c).mem = s.mem ∨ (s.loseChan c).mem = memErase s.mem (cellAddr c 0) (cellAddr (c + 1) 0) := by
  unfold State.loseChan
  split
  · split
    · next u hu => exact .inr ((fenceChan_mem u c).trans (rehome_mem hu))
    · exact .inl ((raise_mem _ _ _ _).trans (setChState_mem s c _))
  · split
    · exact .inl (fenceChan_mem s c)
    · exact .inl rfl

/-! ### A step of the copier (R469, R470, R475) -/

/-- What a step of a fill, a drain or a rejoin does besides leaving the copier's list: the slice is free, its contents move, or the
rejoining channel is filled with poison. -/
def State.sliceStep (s : State) (j : CopyJob) (x : CopyStep) : State :=
  match j.kind with
  | .drain => s.moveSlice x
  | .rejoin => if x.entry.isNone then s.eraseChan j.chan else (s.takeSlice x.chan x.slice).moveSlice x
  | _ => s.giveSlice x.chan x.slice

theorem copierSliceDone_idle {s : State} (h : s.dmc.jobs = []) : copierSliceDone s = s := by
  unfold copierSliceDone
  rw [h]

/-- Rebuilds and migrations end by commands of their own. -/
theorem copierSliceDone_other {s : State} {j : CopyJob} {js : List CopyJob} (h : s.dmc.jobs = j :: js)
    (hkind : j.kind = .rebuild ∨ j.kind = .rank) : copierSliceDone s = s := by
  unfold copierSliceDone
  rw [h]
  dsimp only
  rcases hkind with hkind | hkind <;> rw [hkind]

theorem copierSliceDone_empty {s : State} {j : CopyJob} {js : List CopyJob} (h : s.dmc.jobs = j :: js) (hbuild : j.kind ≠ .rebuild)
    (hrank : j.kind ≠ .rank) (hsteps : j.steps = []) : copierSliceDone s = (s.stepDone j).jobEnd j := by
  unfold copierSliceDone
  rw [h]
  dsimp only
  rw [hsteps]
  cases hkind : j.kind with
  | rebuild => exact absurd hkind hbuild
  | rank => exact absurd hkind hrank
  | fill | drain | rejoin => rfl

theorem copierSliceDone_step {s : State} {j : CopyJob} {js : List CopyJob} {x : CopyStep} {rest : List CopyStep}
    (h : s.dmc.jobs = j :: js) (hbuild : j.kind ≠ .rebuild) (hrank : j.kind ≠ .rank) (hsteps : j.steps = x :: rest) :
    copierSliceDone s =
      if rest = [] then ((s.stepDone j).sliceStep j x).jobEnd j else (s.stepDone j).sliceStep j x := by
  unfold copierSliceDone State.sliceStep
  rw [h]
  dsimp only
  rw [hsteps]
  cases hkind : j.kind with
  | rebuild => exact absurd hkind hbuild
  | rank => exact absurd hkind hrank
  | fill | drain | rejoin => rfl

/-! ### The end of a set-point gap (R468) -/

theorem setPointGapEnd_closed {s : State} (h : s.dmc.gap = none) (inTime : Bool) : setPointGapEnd inTime s = s := by
  rw [setPointGapEnd, h]

/-- Row tables and owed counts clear. -/
def State.tablesCleared (s : State) : State := (s.allBanks (fun b => { b with rows := [] })).allRanks (fun x => { x with owed := [] })

/-- Nothing held or waiting any more. -/
def State.gapEnded (s : State) : State := { s with dmc := { s.dmc with gap := none, hold := [], stalled := [], zq := s.now } }

/-- In time, what is held is served in order before what waits. -/
theorem setPointGapEnd_inTime {s : State} {old : Nat} (h : s.dmc.gap = some old) :
    setPointGapEnd true s = (s.tablesCleared.gapEnded.each (s.tablesCleared.dmc.hold ++ s.tablesCleared.dmc.stalled)
      (fun s r => s.serveReq r)).setF Reg.DMC_CACHE_STATUS 16 16 0 := by
  simp only [setPointGapEnd, h, if_true, State.tablesCleared, State.gapEnded, State.allRanks]

theorem setPointGapEnd_late {s : State} {old : Nat} (h : s.dmc.gap = some old) :
    setPointGapEnd false s =
      ({ (s.raise fltTrainingMarginal subjNone) with
        dmc := { (s.raise fltTrainingMarginal subjNone).dmc with gap := some s.dmc.setPoint } } : State).putSetPoint old := by
  rw [setPointGapEnd, h]
  rfl

theorem allRanks_mem (s : State) (f : RankSt → RankSt) : (s.allRanks f).mem = s.mem :=
  mem_of_beyondRanks (allRanks_beyondRanks s f)

theorem tablesCleared_mem (s : State) : s.tablesCleared.mem = s.mem := (allRanks_mem _ _).trans (allRanks_mem s _)

theorem gapEnded_mem (s : State) : s.gapEnded.mem = s.mem := rfl

/-- The ranks of the channels lie beside what a request leaves alone. -/
theorem allRanks_fixed (s : State) (f : RankSt → RankSt) : (s.allRanks f).dmc.fixed = s.dmc.fixed :=
  fixed_of_beyondRanks (allRanks_beyondRanks s f)

theorem tablesCleared_fixed (s : State) : s.tablesCleared.dmc.fixed = s.dmc.fixed := (allRanks_fixed _ _).trans (allRanks_fixed s _)

/-! ### Operations that store, lose or copy bytes keep contents canonical -/

section Canonical

variable {s : State} (h : s.MemKept)
include h

theorem memKept_congr {t : State} (hmem : t.mem = s.mem) : t.MemKept := by rwa [State.MemKept, hmem]

theorem lineWrite_memKept (c a : Nat) (data : List (BitVec 8)) (otherRow : Bool) : (s.lineWrite c a data otherRow).MemKept := by
  rw [State.MemKept, lineWrite_mem]
  split
  · exact memWf_memPutAll _ _ h
  · exact h

theorem mirrorRead_memKept (k0 k1 off : Nat) (r : MemReq) : (s.mirrorRead k0 k1 off r).2.MemKept := by
  rcases h0 : s.copyRead k0 (s.entryPlace k0 off) r.otherRow with ⟨_ | v, t⟩
  · have ht : t.mem = s.mem := (congrArg (fun x => x.2.mem) h0).symm.trans (copyRead_mem s _ _ _)
    rcases h1 : t.copyRead k1 (s.entryPlace k1 off) r.otherRow with ⟨_ | v, u⟩
    · have hu : u.mem = t.mem := (congrArg (fun x => x.2.mem) h1).symm.trans (copyRead_mem t _ _ _)
      rw [mirrorRead_lost h0 h1]
      exact memKept_congr h ((mirrorOwner_mem u r.owner).trans (hu.trans ht))
    · have hu : u.mem = t.mem := (congrArg (fun x => x.2.mem) h1).symm.trans (copyRead_mem t _ _ _)
      rw [mirrorRead_second h0 h1]
      dsimp only
      split
      · exact memKept_congr h (hu.trans ht)
      · exact lineWrite_memKept (memKept_congr h (hu.trans ht)) _ _ _ _
  · have ht : t.mem = s.mem := (congrArg (fun x => x.2.mem) h0).symm.trans (copyRead_mem s _ _ _)
    rw [mirrorRead_first h0]
    exact memKept_congr h ht

theorem serveReq_memKept (r : MemReq) : (s.serveReq r).MemKept := by
  rcases mapAddr_entries s r.addr with ⟨k0, k1, hmap⟩ | ⟨k, hmap⟩
  · cases hwrite : r.write with
    | true =>
      rw [serveReq_mirrorWrite hmap hwrite]
      exact lineWrite_memKept (lineWrite_memKept h _ _ _ _) _ _ _ _
    | false =>
      rw [serveReq_mirrorRead hmap hwrite]
      exact mirrorRead_memKept h k0 k1 _ r
  · cases hwrite : r.write with
    | true =>
      rw [serveReq_plainWrite hmap hwrite]
      exact lineWrite_memKept h _ _ _ _
    | false =>
      rw [serveReq_plainRead hmap hwrite]
      exact memKept_congr h (plainRead_mem s k _ r)

theorem dramAccess_memKept (r : MemReq) : (dramAccess r s).MemKept := by
  unfold dramAccess
  split
  · exact memKept_congr h (syntaxAccess_mem s r)
  · split
    · exact memKept_congr h (raise_mem s _ _ _)
    · split
      · exact memKept_congr h (gapReq_mem s r)
      · exact serveReq_memKept h r

theorem eraseChan_memKept (c : Nat) : (s.eraseChan c).MemKept := memWf_memErase _ _ h

theorem dramUncorrectableError_memKept (c a : Nat) (good : Bool) : (dramUncorrectableError c a good s).MemKept := by
  cases good with
  | true => exact memKept_congr h ((congrArg State.mem (dramUncorrectableError_good s c a)).trans (correctedErr_mem s c _))
  | false => exact (congrArg memWf (dramUncorrectableError_mem s c a)).trans (memWf_memErase _ _ h)

theorem moveSlice_memKept (x : CopyStep) : (s.moveSlice x).MemKept := by
  unfold State.moveSlice
  split
  · exact h
  · next k _ =>
    dsimp only
    have hmoved := memWf_memErase (cellAddr (s.remapOf k).1 ((s.remapOf k).2 * sliceBytes))
      (cellAddr (s.remapOf k).1 (((s.remapOf k).2 + 1) * sliceBytes))
      (memWf_memCopy (cellAddr (s.remapOf k).1 ((s.remapOf k).2 * sliceBytes)) (cellAddr x.chan (x.slice * sliceBytes)) sliceBytes h)
    split
    · rw [State.MemKept, State.addFill, addJob_mem, switchEntries_mem]
      exact hmoved
    · rw [State.MemKept, giveSlice_mem, switchEntries_mem]
      exact hmoved

theorem loseChan_memKept (c : Nat) : (s.loseChan c).MemKept := by
  rcases loseChan_mem s c with hmem | hmem
  · exact memKept_congr h hmem
  · exact (congrArg memWf hmem).trans (memWf_memErase _ _ h)

theorem dramCommandError_memKept (c r n e : Nat) : (dramCommandError c r n e s).MemKept := by
  have hcount : (s.incR (Reg.DMC_CH_CMD_RETRY c) (Nat.min 3 n)).MemKept := memKept_congr h (incR_mem s _ _)
  unfold dramCommandError
  dsimp only
  split
  · exact hcount
  · split
    · exact memKept_congr hcount (rankFails_mem _ c r (autoDrain_mem · c))
    · exact loseChan_memKept hcount c

theorem sliceStep_memKept (j : CopyJob) (x : CopyStep) : (s.sliceStep j x).MemKept := by
  unfold State.sliceStep
  split
  · exact moveSlice_memKept h x
  · split
    · exact eraseChan_memKept h _
    · exact moveSlice_memKept (memKept_congr h (takeSlice_mem _ _ _)) x
  · exact memKept_congr h (giveSlice_mem _ _ _)

theorem copierSliceDone_memKept : (copierSliceDone s).MemKept := by
  rcases hjobs : s.dmc.jobs with _ | ⟨j, js⟩
  · rwa [copierSliceDone_idle hjobs]
  · have hstep : (s.stepDone j).MemKept := memKept_congr h (stepDone_mem s j)
    by_cases hkind : j.kind = .rebuild ∨ j.kind = .rank
    · rwa [copierSliceDone_other hjobs hkind]
    · push Not at hkind
      rcases hsteps : j.steps with _ | ⟨x, rest⟩
      · rw [copierSliceDone_empty hjobs hkind.1 hkind.2 hsteps]
        exact memKept_congr hstep (jobEnd_mem _ j)
      · rw [copierSliceDone_step hjobs hkind.1 hkind.2 hsteps]
        split
        · exact memKept_congr (sliceStep_memKept hstep j x) (jobEnd_mem _ j)
        · exact sliceStep_memKept hstep j x

theorem mirrorRebuildDone_memKept : (mirrorRebuildDone s).MemKept := by
  unfold mirrorRebuildDone
  split
  · split
    · dsimp only
      split
      · exact (congrArg memWf (clearReasonOf_mem _ _ _)).trans (memWf_memCopy _ _ _ h)
      · exact memWf_memCopy _ _ _ h
    · exact h
  · exact h

theorem serveAll_memKept (rs : List MemReq) : (s.each rs (fun s r => s.serveReq r)).MemKept := by
  unfold State.each
  induction rs generalizing s with
  | nil => exact h
  | cons r rs ih => exact ih (serveReq_memKept h r)

theorem setPointGapEnd_memKept (inTime : Bool) : (setPointGapEnd inTime s).MemKept := by
  cases hgap : s.dmc.gap with
  | none => rwa [setPointGapEnd_closed hgap]
  | some old =>
    cases inTime with
    | true =>
      have hcleared : s.tablesCleared.gapEnded.MemKept := memKept_congr h ((gapEnded_mem _).trans (tablesCleared_mem s))
      rw [setPointGapEnd_inTime hgap, State.MemKept, setF_mem]
      exact serveAll_memKept hcleared _
    | false =>
      have hraised : (s.raise fltTrainingMarginal subjNone).MemKept := memKept_congr h (raise_mem s _ _ _)
      rw [setPointGapEnd_late hgap, State.MemKept, putSetPoint_mem]
      exact hraised

end Canonical

theorem rankMigrationDone_mem (s : State) (c : Nat) : (rankMigrationDone c s).mem = s.mem := by
  unfold rankMigrationDone
  split
  · rfl
  · simp only [raise_mem, setF_mem, onChan_mem]

end Sys2Proof.Machine

open Sys2Proof Sys2Proof.Machine

/-- Settles O33: contents change by bytes stored, erased and copied only, and each of these keeps addresses strictly rising. -/
theorem memoryCommandsKeepCanonicalForm : Obligations.MemoryCommandsKeepCanonicalForm := by
  intro c s t hs hexec hc
  have hkept : ∃ u, exec c s = .next (s.after u) ∧ u.MemKept := by
    obtain ⟨r, rfl⟩ | ⟨a, b, rfl⟩ | ⟨a, b, g, rfl⟩ | ⟨a, b, n, e, rfl⟩ | ⟨a, rfl⟩ | rfl | ⟨a, rfl⟩ | rfl | ⟨b, rfl⟩ | hc := hc
    · by_cases hin : r.kind = .syntax_ ∨ r.addr + r.len ≤ s.usableSize
      · exact ⟨_, exec_dramAccess_within hin, dramAccess_memKept hs r⟩
      · push Not at hin
        rw [exec_dramAccess_outside hin.1 hin.2] at hexec
        cases hexec
    · exact ⟨_, finish_after s _, memKept_congr hs (correctedErr_mem s a b)⟩
    · exact ⟨_, finish_after s _, dramUncorrectableError_memKept hs a b g⟩
    · exact ⟨_, finish_after s _, dramCommandError_memKept hs a b n e⟩
    · exact ⟨_, finish_after s _, loseChan_memKept hs a⟩
    · exact ⟨_, finish_after s _, copierSliceDone_memKept hs⟩
    · exact ⟨_, finish_after s _, memKept_congr hs (rankMigrationDone_mem s a)⟩
    · exact ⟨_, finish_after s _, mirrorRebuildDone_memKept hs⟩
    · exact ⟨_, finish_after s _, setPointGapEnd_memKept hs b⟩
    · obtain ⟨u, hend, hu⟩ := exec_upkeep hc s
      exact ⟨u, hend, memKept_congr hs (keepsMedia_of_besideUpkeep hu).mem⟩
  obtain ⟨u, hend, hu⟩ := hkept
  obtain rfl : s.after u = t := Host.Outcome.next.inj (hend.symm.trans hexec)
  exact memKept_congr hu (after_mem s u)
end

section
/-!
PROOFS. DRAM errors and the loss of a channel: what is counted, the line lost, the rank that migrates, and the channel fenced (R457, R471,
R472, R478, R479).
-/

namespace Sys2Proof.Machine

/-! ### Registers of the memory plane -/

theorem memReg_status {c : Nat} (hc : c < 12) : Reg.DMC_CH_STATUS c / 4194304 = 13 := by unfold Reg.DMC_CH_STATUS; omega

/-- The end of a command leaves the memory plane's registers alone. -/
theorem after_memReg {d : Nat} (h : d / 4194304 = 13) (s t : State) : (s.after t).getR d = t.getR d := after_getR_ne (memReg_plain h).2 s t

theorem after_memField {d : Nat} (h : d / 4194304 = 13) (s t : State) (hi lo : Nat) : (s.after t).getF d hi lo = t.getF d hi lo := by
  rw [State.getF, after_memReg h, State.getF]

theorem raise_memReg {d : Nat} (h : d / 4194304 = 13) (s : State) (code subject : Nat) (detail : List (Nat × Nat)) :
    (s.raise code subject detail).getR d = s.getR d := raise_getR (memReg_plain h).1 s code subject detail

theorem raise_memField {d : Nat} (h : d / 4194304 = 13) (s : State) (code subject : Nat) (detail : List (Nat × Nat)) (hi lo : Nat) :
    (s.raise code subject detail).getF d hi lo = s.getF d hi lo := by
  rw [State.getF, raise_memReg h, State.getF]

theorem after_chState {c : Nat} (hc : c < 12) (s t : State) : (s.after t).chState c = t.chState c := after_memField (memReg_status hc) s t 2 0

theorem raise_chState {c : Nat} (hc : c < 12) (s : State) (code subject : Nat) (detail : List (Nat × Nat)) :
    (s.raise code subject detail).chState c = s.chState c := raise_memField (memReg_status hc) s code subject detail 2 0

theorem getR_incR_self (s : State) (d n : Nat) : (s.incR d n).getR d = (s.getR d + n) % 2 ^ 32 := getR_setR_self s d _

theorem setChState_chState (s : State) (c : Nat) {v : Nat} (hv : v < 8) : (s.setChState c v).chState c = v :=
  (getF_setF_self s (Reg.DMC_CH_STATUS c) 2 0 v (by decide) (by decide)).trans (Nat.mod_eq_of_lt hv)

theorem onRank_getR (s : State) (c r : Nat) (f : RankSt → RankSt) (d : Nat) : (s.onRank c r f).getR d = s.getR d := rfl

theorem addJob_getR (s : State) (j : CopyJob) (d : Nat) : (s.addJob j).getR d = s.getR d := rfl

theorem setChState_getR {c d : Nat} (hd : d ≠ Reg.DMC_CH_STATUS c) (s : State) (v : Nat) : (s.setChState c v).getR d = s.getR d :=
  getR_setF_ne hd s 2 0 v

theorem takeSlice_regs (s : State) (c n : Nat) : (s.takeSlice c n).regs = s.regs := by
  unfold State.takeSlice
  split <;> rfl

/-- A drain changes no register but the channel's status (R473, R479). -/
theorem drainChan_getR {c d : Nat} (hd : d ≠ Reg.DMC_CH_STATUS c) (s : State) (auto : Bool) : (s.drainChan c auto).getR d = s.getR d := by
  unfold State.drainChan
  split
  · exact getR_setF_ne hd s _ _ _
  · next t es h =>
    have hregs : t.regs = s.regs := allocate_keeps State.regs takeSlice_regs h
    rw [addJob_getR, onChan_getR, setChState_getR hd, getR_setF_ne hd, getR_of_regs hregs]

theorem autoDrain_getR {c d : Nat} (hd : d ≠ Reg.DMC_CH_STATUS c) (s : State) : (s.autoDrain c).getR d = s.getR d := by
  unfold State.autoDrain
  split
  · exact drainChan_getR hd s true
  · rfl

theorem drainPast_getR {c d : Nat} (hd : d ≠ Reg.DMC_CH_STATUS c) (s : State) (n : Nat) : (s.drainPast n c).getR d = s.getR d := by
  unfold State.drainPast
  split
  · exact autoDrain_getR hd s
  · rfl

/-- A migration begun: the rank noted, the channel shown as migrating, and the copier's job (R471). -/
def State.migrate (s : State) (c r : Nat) : State :=
  ((s.onChan c (fun x => { x with migRank := some r })).setF (Reg.DMC_CH_STATUS c) 7 7 1).addJob
    { kind := .rank, chan := c, rank := r, steps := [{ chan := c }] }

theorem rankFails_migrates {s : State} {c : Nat} (hspare : s.spareOn (s.chan c).dimm = true)
    (hfree : s.getF (Reg.DMC_CH_STATUS c) 6 6 ≠ 1) (hidle : (s.chan c).migRank = none) (r : Nat) (other : State → State) :
    s.rankFails c r other = s.migrate c r := by
  simp only [State.rankFails, hspare, hfree, hidle, decide_false, Bool.not_false, Bool.and_self, if_true, reduceCtorEq, if_false,
    Option.isSome_none, Bool.false_eq_true, State.migrate]

theorem rankFails_cases (s : State) (c r : Nat) (other : State → State) :
    s.rankFails c r other = s ∨ s.rankFails c r other = other s ∨ s.rankFails c r other = s.migrate c r := by
  unfold State.rankFails
  dsimp only
  split
  · split
    · exact .inl rfl
    · split
      · exact .inr (.inl rfl)
      · exact .inr (.inr rfl)
  · exact .inr (.inl rfl)

theorem migrate_getR {c d : Nat} (hd : d ≠ Reg.DMC_CH_STATUS c) (s : State) (r : Nat) : (s.migrate c r).getR d = s.getR d := by
  rw [State.migrate, addJob_getR, getR_setF_ne hd, onChan_getR]

/-- A rank's failure changes no register but the channel's status if what else it may do does not. -/
theorem rankFails_getR {c d : Nat} (hd : d ≠ Reg.DMC_CH_STATUS c) (s : State) (r : Nat) {other : State → State}
    (h : ∀ w : State, (other w).getR d = w.getR d) : (s.rankFails c r other).getR d = s.getR d := by
  obtain heq | heq | heq := rankFails_cases s c r other
  · rw [heq]
  · rw [heq, h]
  · rw [heq, migrate_getR hd]

/-! ### Errors counted (R457) -/

theorem correctedErr_getR {c d : Nat} (r : Nat) (hmem : d / 4194304 = 13) (hd : d ≠ Reg.DMC_CH_STATUS c) (s : State) :
    (s.correctedErr c r).getR d = ((s.incR (Reg.DMC_CH_CE c)).incR (Reg.DMC_CH_RANK_CE c r)).getR d := by
  have hnoted : (s.ceNoted c r).getR d = ((s.incR (Reg.DMC_CH_CE c)).incR (Reg.DMC_CH_RANK_CE c r)).getR d := onRank_getR _ c r _ d
  obtain h | h | h := correctedErr_cases s c r
  · rw [h, hnoted]
  · rw [h, raise_memReg hmem, hnoted]
  · rw [h, autoDrain_getR hd, raise_memReg hmem, hnoted]

/-- A corrected error adds 1 to the corrected counts of its channel and its rank. -/
theorem correctedErr_counts {c r : Nat} (hc : c < 12) (hr : r < 4) (s : State) :
    (s.correctedErr c r).getR (Reg.DMC_CH_CE c) = (s.getR (Reg.DMC_CH_CE c) + 1) % 2 ^ 32 ∧
      (s.correctedErr c r).getR (Reg.DMC_CH_RANK_CE c r) = (s.getR (Reg.DMC_CH_RANK_CE c r) + 1) % 2 ^ 32 := by
  have hne : Reg.DMC_CH_CE c ≠ Reg.DMC_CH_RANK_CE c r := by unfold Reg.DMC_CH_CE Reg.DMC_CH_RANK_CE; omega
  constructor
  · rw [correctedErr_getR r (by unfold Reg.DMC_CH_CE; omega) (by unfold Reg.DMC_CH_CE Reg.DMC_CH_STATUS; omega), getR_incR_ne hne,
      getR_incR_self]
  · rw [correctedErr_getR r (by unfold Reg.DMC_CH_RANK_CE; omega) (by unfold Reg.DMC_CH_RANK_CE Reg.DMC_CH_STATUS; omega),
      getR_incR_self, getR_incR_ne hne.symm]

theorem uncorrectable_counts {c : Nat} (hc : c < 12) (a : Nat) (s : State) :
    (dramUncorrectableError c a false s).getR (Reg.DMC_CH_UE c) = (s.getR (Reg.DMC_CH_UE c) + 1) % 2 ^ 32 := by
  have hmem : Reg.DMC_CH_UE c / 4194304 = 13 := by unfold Reg.DMC_CH_UE; omega
  have hne : Reg.DMC_CH_UE c ≠ Reg.DMC_CH_STATUS c := by unfold Reg.DMC_CH_UE Reg.DMC_CH_STATUS; omega
  obtain ⟨f, n, heq⟩ := dramUncorrectableError_bad s c a
  rw [heq, rankFails_getR hne _ _ (drainPast_getR hne · n), onRank_getR, raiseOnce_getR (memReg_plain hmem).1, getR_incR_self]
  rfl

/-! ### Command errors (R457, R471) -/

theorem dramCommandError_replayed (c r n : Nat) (s : State) :
    dramCommandError c r n 0 s = s.incR (Reg.DMC_CH_CMD_RETRY c) (Nat.min 3 n) := by
  rw [dramCommandError]
  exact if_pos rfl

theorem dramCommandError_rank (c r n : Nat) (s : State) :
    dramCommandError c r n 1 s = (s.incR (Reg.DMC_CH_CMD_RETRY c) (Nat.min 3 n)).rankFails c r (fun s => s.autoDrain c) := by
  rw [dramCommandError]
  exact (if_neg (by decide)).trans (if_pos rfl)

theorem dramCommandError_all {e : Nat} (h : 2 ≤ e) (c r n : Nat) (s : State) :
    dramCommandError c r n e s = (s.incR (Reg.DMC_CH_CMD_RETRY c) (Nat.min 3 n)).loseChan c := by
  rw [dramCommandError]
  exact (if_neg (by omega)).trans (if_neg (by omega))

theorem chan_of_dmc {s t : State} (h : t.dmc = s.dmc) (c : Nat) : t.chan c = s.chan c := by rw [State.chan, h, State.chan]

theorem spareOn_of_dmc {s t : State} (h : t.dmc = s.dmc) (p : DimmPop) : t.spareOn p = s.spareOn p := by rw [State.spareOn, h, State.spareOn]

/-- What a migration's beginning shows (R471). -/
theorem migrate_shown (s : State) (c r : Nat) :
    ((s.migrate c r).chan c).migRank = some r ∧ (s.migrate c r).getF (Reg.DMC_CH_STATUS c) 7 7 = 1 ∧
      (s.migrate c r).dmc.jobs = s.dmc.jobs ++ [{ kind := .rank, chan := c, rank := r, steps := [{ chan := c }] }] := by
  have hchan : ∀ (w : State) j, (w.addJob j).chan c = w.chan c := fun w j => rfl
  have hfield : ∀ (w : State) j d hi lo, (w.addJob j).getF d hi lo = w.getF d hi lo := fun w j d hi lo => rfl
  have hjobs : ∀ w : State, (w.addJob { kind := .rank, chan := c, rank := r, steps := [{ chan := c }] }).dmc.jobs =
      w.dmc.jobs ++ [{ kind := .rank, chan := c, rank := r, steps := [{ chan := c }] }] := fun w => by
    simp only [State.addJob, reduceCtorEq, if_false]
  refine ⟨?_, ?_, ?_⟩
  · rw [State.migrate, hchan, chan_of_dmc (setF_dmc _ _ _ _ _), onChan_self]
  · rw [State.migrate, hfield]
    exact getF_setF_self _ _ 7 7 1 (by decide) (by decide)
  · rw [State.migrate, hjobs, setF_dmc]
    rfl

/-- A rank of a channel with its spare free that exhausts its replays migrates. -/
theorem dramCommandError_migrates {s : State} {c : Nat} (hspare : s.spareOn (s.chan c).dimm = true)
    (hfree : s.getF (Reg.DMC_CH_STATUS c) 6 6 ≠ 1) (hidle : (s.chan c).migRank = none) (r n : Nat) :
    dramCommandError c r n 1 s = (s.incR (Reg.DMC_CH_CMD_RETRY c) (Nat.min 3 n)).migrate c r := by
  have hdmc := incR_dmc s (Reg.DMC_CH_CMD_RETRY c) (Nat.min 3 n)
  have hne : Reg.DMC_CH_STATUS c ≠ Reg.DMC_CH_CMD_RETRY c := by unfold Reg.DMC_CH_STATUS Reg.DMC_CH_CMD_RETRY; omega
  rw [dramCommandError_rank, rankFails_migrates]
  · rwa [chan_of_dmc hdmc, spareOn_of_dmc hdmc]
  · rwa [State.getF, getR_incR_ne hne]
  · rwa [chan_of_dmc hdmc]

/-! ### A channel lost (R472) -/

section Lost

variable {s : State} {c : Nat}

theorem loseChan_rehomed {u : State} (hserves : s.chanServes c = true) (hfit : s.rehome c = some u) : s.loseChan c = u.fenceChan c := by
  rw [State.loseChan, if_pos hserves, hfit]

theorem loseChan_unfit (hserves : s.chanServes c = true) (hfit : s.rehome c = none) :
    s.loseChan c = (s.setChState c chFenced).raise fltReserveExhausted (subjChan c) := by
  rw [State.loseChan, if_pos hserves, hfit]

theorem loseChan_empty (h : s.chState c = chDrained ∨ s.chState c = chTraining) : s.loseChan c = s.fenceChan c := by
  have hserves : s.chanServes c = false := by
    rcases h with h | h <;> simp [State.chanServes, h, chDrained, chTraining, chActive, chDraining, chRejoining]
  rw [State.loseChan, hserves, if_neg Bool.false_ne_true, if_pos (by simpa using h)]

theorem loseChan_out (h : s.chState c = chAbsent ∨ s.chState c = chFenced) : s.loseChan c = s := by
  have hserves : s.chanServes c = false := by
    rcases h with h | h <;> simp [State.chanServes, h, chAbsent, chFenced, chActive, chDraining, chRejoining]
  have hheld : ¬ (s.chState c = chDrained ∨ s.chState c = chTraining) := by
    rcases h with h | h <;> simp [h, chAbsent, chFenced, chDrained, chTraining]
  rw [State.loseChan, hserves, if_neg Bool.false_ne_true, if_neg (by simpa using hheld)]

end Lost

theorem fenceChan_chState {c : Nat} (hc : c < 12) (s : State) : (s.fenceChan c).chState c = chFenced := by
  have hout : ∀ w : State, (w.setChOut c true).chState c = w.chState c := fun w => rfl
  rw [State.fenceChan, raise_chState hc, hout, setChState_chState s c (by decide)]

theorem fenceChan_out (s : State) (c : Nat) : c ∈ (s.fenceChan c).tly.chOut := by
  rw [State.fenceChan, (State.KeepsFrame.raise _ _ _ _).rest.tly]
  exact List.contains_iff_mem.mp (contains_insertAsc c _)

theorem setChState_boot (s : State) (c v : Nat) : (s.setChState c v).boot = s.boot := setF_boot s (Reg.DMC_CH_STATUS c) 2 0 v

theorem fenceChan_faulted {s : State} (hup : s.boot.warmRun = false) (c : Nat) : (s.fenceChan c).faulted fltChannelLost (subjChan c) = true := by
  have hup' : ((s.setChState c chFenced).setChOut c true).boot.warmRun = false := by
    have hout : ∀ w : State, (w.setChOut c true).boot = w.boot := fun w => rfl
    rw [hout, setChState_boot, hup]
  exact raise_faulted hup' _ _ _

end Sys2Proof.Machine

open Sys2Proof Sys2Proof.Machine

/-- Settles O34: errors count and lose at most the line they name; the rank or the channel then goes by the rules of R457 and R472. -/
theorem memoryErrorsCountAndEscalate : Obligations.MemoryErrorsCountAndEscalate := by
  intro c r s hc hr
  refine ⟨⟨_, finish_after s _, ?corrected⟩, fun a => congrArg (finish s) (dramUncorrectableError_good s c a),
    fun a => ⟨_, finish_after s _, ?uncorrected⟩, fun n => congrArg (finish s) (dramCommandError_replayed c r n s),
    fun n hspare hfree hidle => ⟨_, finish_after s _, ?migrates⟩, fun n e he => congrArg (finish s) (dramCommandError_all he c r n s),
    fun u hserves hfit => congrArg (finish s) (loseChan_rehomed hserves hfit),
    fun hserves hfit => congrArg (finish s) (loseChan_unfit hserves hfit), fun h => ⟨_, finish_after s _, ?fenced⟩,
    fun h => congrArg (finish s) (loseChan_out h)⟩
  case corrected =>
    rw [after_memReg (by unfold Reg.DMC_CH_CE; omega), after_memReg (by unfold Reg.DMC_CH_RANK_CE; omega)]
    exact correctedErr_counts hc hr s
  case uncorrected =>
    rw [after_mem, dramUncorrectableError_mem, after_memReg (by unfold Reg.DMC_CH_UE; omega)]
    exact ⟨memLine_memErase _ _, fun x hx => memByte_memErase_outside hx _, uncorrectable_counts hc a s⟩
  case migrates =>
    obtain ⟨hrank, hbusy, hjobs⟩ := migrate_shown (s.incR (Reg.DMC_CH_CMD_RETRY c) (Nat.min 3 n)) c r
    rw [incR_dmc] at hjobs
    rw [dramCommandError_migrates hspare hfree hidle, chan_of_dmc (after_dmc s _), after_memField (memReg_status hc), after_dmc]
    exact ⟨hrank, hbusy, hjobs⟩
  case fenced =>
    rw [after_chState hc, after_tly, after_faulted, loseChan_empty h]
    exact ⟨fenceChan_chState hc s, fenceChan_out s c, fun hup => fenceChan_faulted hup c⟩
end

section
/-!
PROOFS. Refresh debts, temperatures, row tables and the set point (R444, R460, R461, R463, R465 to R468).
-/

namespace Sys2Proof.Machine

/-! ### Loops over channels and ranks -/

theorem each_invariant {α : Type} {P : State → Prop} {f : State → α → State} (h : ∀ w x, P w → P (f w x)) (xs : List α) {s : State}
    (hs : P s) : P (s.each xs f) := by
  unfold State.each
  induction xs generalizing s with
  | nil => exact hs
  | cons x xs ih => exact ih (h s x hs)

/-- What one round of a loop makes true and every round keeps holds in the end. -/
theorem each_establishes {α : Type} {P : State → Prop} {f : State → α → State} {x : α} (hx : ∀ w, P (f w x))
    (h : ∀ w y, P w → P (f w y)) {xs : List α} (hmem : x ∈ xs) (s : State) : P (s.each xs f) := by
  induction xs generalizing s with
  | nil => cases hmem
  | cons y ys ih =>
    by_cases hin : x ∈ ys
    · exact ih hin (f s y)
    · obtain rfl : x = y := (List.mem_cons.mp hmem).resolve_right hin
      exact each_invariant h ys (hx s)

theorem tget_of_not_mem {α : Type} {d : α} {t : Tbl α} {k : Nat} (h : k ∉ tkeys t) : tget d t k = d := by
  have hfind : tfind k t = none := by
    induction t with
    | nil => rfl
    | cons e t ih =>
      obtain ⟨hne, hrest⟩ := not_or.mp (mt List.mem_cons.mpr h)
      exact (if_neg (fun heq => hne heq.symm)).trans (ih hrest)
  rw [tget, hfind]
  rfl

/-! ### Row tables (R465) -/

/-- A bank with its row table cleared. -/
def BankSt.cleared (y : BankSt) : BankSt := { y with rows := [] }

theorem foldl_cleared_rows {b : Nat} {ks : List Nat} {t : Tbl BankSt} (h : b ∈ ks ∨ (tget {} t b).rows = []) :
    (tget {} (ks.foldl (fun t b => tmod {} t b BankSt.cleared) t) b).rows = [] := by
  induction ks generalizing t with
  | nil => exact h.resolve_left List.not_mem_nil
  | cons k ks ih =>
    refine ih (or_iff_not_imp_left.mpr fun hks => ?_)
    by_cases hk : b = k
    · rw [hk, tget_tmod_self]
      rfl
    · rw [tget_tmod_ne _ hk]
      exact h.resolve_left fun hmem => (List.mem_cons.mp hmem).elim hk hks

/-- A bank that is not listed has no rows. -/
theorem onBanks_cleared_rows (x : RankSt) (b : Nat) : (tget {} (RankSt.onBanks BankSt.cleared x).banks b).rows = [] := by
  refine foldl_cleared_rows (or_iff_not_imp_left.mpr fun hb => ?_)
  rw [tget_of_not_mem hb]

/-- Has bank `b` of rank `r` of channel `c` an empty row table? -/
def State.NoRows (c r b : Nat) (s : State) : Prop := (tget {} (tget ({} : RankSt) (s.chan c).ranks r).banks b).rows = []

theorem onRank_ranks_self (s : State) (c r : Nat) (f : RankSt → RankSt) :
    tget {} ((s.onRank c r f).chan c).ranks r = f (tget {} (s.chan c).ranks r) := by
  rw [State.onRank, onChan_self, tget_tmod_self]

theorem onRank_ranks_ne {c r c' r' : Nat} (h : c' ≠ c ∨ r' ≠ r) (s : State) (f : RankSt → RankSt) :
    tget {} ((s.onRank c r f).chan c').ranks r' = tget {} (s.chan c').ranks r' := by
  by_cases hc : c' = c
  · subst hc
    rw [State.onRank, onChan_self, tget_tmod_ne _ (h.resolve_left (fun hne => hne rfl))]
  · rw [State.onRank, onChan_ne _ _ _ _ hc]

theorem onRank_noRows {c r b : Nat} (w : State) : (w.onRank c r (RankSt.onBanks BankSt.cleared)).NoRows c r b := by
  rw [State.NoRows, onRank_ranks_self]
  exact onBanks_cleared_rows _ b

theorem onRank_keeps_noRows {c r b : Nat} (c' r' : Nat) {w : State} (h : w.NoRows c r b) :
    (w.onRank c' r' (RankSt.onBanks BankSt.cleared)).NoRows c r b := by
  by_cases hsame : c = c' ∧ r = r'
  · obtain ⟨rfl, rfl⟩ := hsame
    exact onRank_noRows w
  · rw [State.NoRows, onRank_ranks_ne (not_and_or.mp hsame)]
    exact h

/-- The row tables of one channel cleared. -/
def State.clearRows (s : State) (c : Nat) : State := s.each (tkeys (s.chan c).ranks) (fun s r => s.onRank c r (RankSt.onBanks BankSt.cleared))

theorem clearRows_keeps {c r b : Nat} (c' : Nat) {w : State} (h : w.NoRows c r b) : (w.clearRows c').NoRows c r b := by
  rw [State.clearRows]
  exact each_invariant (P := State.NoRows c r b) (fun _ r' hv => onRank_keeps_noRows c' r' hv) _ h

/-- A rank that is not listed has no rows. -/
theorem clearRows_noRows (c r b : Nat) (w : State) : (w.clearRows c).NoRows c r b := by
  by_cases hr : r ∈ tkeys (w.chan c).ranks
  · rw [State.clearRows]
    exact each_establishes (P := State.NoRows c r b) (f := fun s r => s.onRank c r (RankSt.onBanks BankSt.cleared)) onRank_noRows
      (fun _ r' hv => onRank_keeps_noRows c r' hv) hr w
  · refine clearRows_keeps c ?_
    rw [State.NoRows, tget_of_not_mem hr]
    rfl

theorem allRanks_noRows {c : Nat} (hc : c < 12) (r b : Nat) (s : State) : (s.allRanks (RankSt.onBanks BankSt.cleared)).NoRows c r b := by
  have hrows : s.allRanks (RankSt.onBanks BankSt.cleared) = s.each (upTo 12) State.clearRows := by
    simp only [State.allRanks]
    rfl
  rw [hrows]
  exact each_establishes (P := State.NoRows c r b) (clearRows_noRows c r b) (fun _ c' hv => clearRows_keeps c' hv)
    (List.mem_range.mpr hc) s

theorem rowTableClear_clears {s : State} (h : s.now % 19 = 0) : rowTableClear s = s.allRanks (RankSt.onBanks BankSt.cleared) := by
  rw [rowTableClear, if_pos h, allBanks_eq]
  rfl

/-! ### Refresh (R460) -/

theorem noteOwed_ranks (s : State) (c : Nat) (o : Int) : ((s.noteOwed c o).chan c).ranks = (s.chan c).ranks := by
  rw [State.noteOwed, onChan_self]

theorem noteOwed_getR (s : State) (c : Nat) (o : Int) (d : Nat) : (s.noteOwed c o).getR d = s.getR d := onChan_getR s c _ d

theorem refreshDue_owed (c r b placed : Nat) (s : State) :
    tget 0 (tget {} ((refreshDue c r b placed s).chan c).ranks r).owed b =
      min 4 (max (-4) (tget 0 (tget ({} : RankSt) (s.chan c).ranks r).owed b - (placed : Int)) + 1) := by
  rw [refreshDue_eq c r b placed s rfl]
  generalize hn : owedNext _ _ = n
  unfold owedNext at hn
  split
  · rw [chan_of_dmc (incR_dmc _ _ _), noteOwed_ranks, onRank_ranks_self, tget_tset_self]
    omega
  · rw [noteOwed_ranks, onRank_ranks_self, tget_tset_self]
    omega

theorem refreshDue_urgent (c r b placed : Nat) (s : State) :
    (refreshDue c r b placed s).getR (Reg.DMC_CH_URGENT_REFRESH c) = (s.getR (Reg.DMC_CH_URGENT_REFRESH c) +
      (if 3 < tget 0 (tget ({} : RankSt) (s.chan c).ranks r).owed b - (placed : Int) then 1 else 0)) % 2 ^ 32 := by
  rw [refreshDue_eq c r b placed s rfl]
  generalize hn : owedNext _ _ = n
  unfold owedNext at hn
  split
  · rw [getR_incR_self, noteOwed_getR, onRank_getR, if_pos (by omega)]
  · rw [noteOwed_getR, onRank_getR, if_neg (by omega), Nat.add_zero, Nat.mod_eq_of_lt (getR_lt s _)]

/-! ### Temperatures (R461, R463) -/

theorem bit_eq_true_iff (v i : Nat) : bit v i = true ↔ bits v i i = 1 := by
  rw [bit, bits, Nat.testBit_eq_decide_div_mod_eq, Nat.shiftRight_eq_div_pow, decide_eq_true_iff, Nat.add_sub_cancel_left, pow_one]

theorem toBits_lt (w : Nat) (x : Int) : toBits w x < 2 ^ w := by
  unfold toBits
  have hpos : (0 : Int) < ((2 ^ w : Nat) : Int) := by positivity
  have hlt := Int.emod_lt_of_pos x hpos
  have hnonneg := Int.emod_nonneg x hpos.ne'
  omega

theorem ranks_getR (s : State) (c : Nat) (rs : List Nat) (f : RankSt → RankSt) (d : Nat) :
    (s.each rs (fun s r => s.onRank c r f)).getR d = s.getR d :=
  each_keeps (fun w => w.getR d) (fun w r => onRank_getR w c r f d) rs s

/-- A crossing up shows the doubled rate (R461). -/
theorem crossing_up_bit (s : State) (c : Nat) {d : Nat} (hd : d < 2) :
    bit ((s.crossing c d true).getR (Reg.DMC_CH_STATUS c)) (14 + d) = true := by
  rw [bit_eq_true_iff]
  exact (getF_setF_self _ (Reg.DMC_CH_STATUS c) (14 + d) (14 + d) 1 le_rfl (by omega)).trans (by rw [Nat.add_sub_cancel_left]; rfl)

theorem notesOwed_getR (s : State) (c : Nat) (os : Tbl Int) (d : Nat) : (s.each os (fun s e => s.noteOwed c e.2)).getR d = s.getR d :=
  each_keeps (fun w => w.getR d) (fun (w : State) (e : Nat × Int) => noteOwed_getR w c e.2 d) os s

theorem crossing_getR {c e : Nat} (h : e ≠ Reg.DMC_CH_STATUS c) (hurgent : e ≠ Reg.DMC_CH_URGENT_REFRESH c)
    (hcross : e ≠ Reg.DMC_CH_RATE_CROSSINGS c) (s : State) (d : Nat) (up : Bool) : (s.crossing c d up).getR e = s.getR e := by
  unfold State.crossing
  dsimp only
  rw [getR_setF_ne h, getR_incR_ne hcross]
  refine each_keeps (fun w => w.getR e) (fun w r => ?_) _ s
  split
  · rw [getR_incR_ne hurgent, notesOwed_getR, onRank_getR]
  · rw [onRank_getR]

theorem rateRead_temp (s : State) (c d : Nat) (x : Int) (mr4 : Bool) :
    (s.rateRead c d x mr4).getR (Reg.DMC_CH_TEMP c) = s.getR (Reg.DMC_CH_TEMP c) := by
  have hcross : ∀ up, (s.crossing c d up).getR (Reg.DMC_CH_TEMP c) = s.getR (Reg.DMC_CH_TEMP c) :=
    crossing_getR (by unfold Reg.DMC_CH_TEMP Reg.DMC_CH_STATUS; omega) (by unfold Reg.DMC_CH_TEMP Reg.DMC_CH_URGENT_REFRESH; omega)
      (by unfold Reg.DMC_CH_TEMP Reg.DMC_CH_RATE_CROSSINGS; omega) s d
  unfold State.rateRead
  dsimp only
  split
  · split
    · exact hcross true
    · rfl
  · split
    · split
      · exact hcross false
      · rw [ranks_getR]
    · rw [ranks_getR]

/-- A warm reading, or MR4 asking, leaves the DIMM at the doubled rate (R461). -/
theorem rateRead_doubled (s : State) (c : Nat) {d : Nat} (hd : d < 2) {x : Int} {mr4 : Bool} (hwarm : 85 < x ∨ mr4 = true) :
    bit ((s.rateRead c d x mr4).getR (Reg.DMC_CH_STATUS c)) (14 + d) = true := by
  have hhot : (decide (85 < x) || mr4) = true := by simpa using hwarm
  have hcool : ¬ (decide (x ≤ 82) && !mr4) = true := by
    rcases hwarm with h | h
    · simp only [Bool.and_eq_true, decide_eq_true_iff]
      omega
    · simp [h]
  unfold State.rateRead
  dsimp only
  split
  · exact crossing_up_bit s c hd
  · next hbit =>
    rw [ranks_getR]
    simpa using hbit

theorem dimmHot_getR {d : Nat} (h : d / 4194304 = 13) (s : State) (c : Nat) : (s.dimmHot c).getR d = s.getR d := by
  have hraise : ∀ (x : DmcSt), ({ s with dmc := x } : State).getR d = s.getR d := fun x => rfl
  unfold State.dimmHot
  split
  · rfl
  · split
    · rw [raise_memReg h, hraise]
    · split
      · rw [raise_memReg h, hraise]
      · rfl

/-- What a reading of a DIMM in use leaves in a register: DIMM_HOT changes none of the memory plane's. -/
theorem dimmTempRead_getR {c : Nat} {e : Nat} (hmem : e / 4194304 = 13) {s : State} (d : Nat) (x : Int) (mr4 : Bool)
    (h : s.chState c ≠ chAbsent) (h' : s.chState c ≠ chFenced) :
    (dimmTempRead c d x mr4 s).getR e = ((s.tempShown c d x).rateRead c d x mr4).getR e := by
  rw [dimmTempRead_used s d x mr4 h h']
  split
  · exact dimmHot_getR hmem _ c
  · rfl

theorem tempShown_getF (s : State) (c : Nat) {d : Nat} (hd : d < 2) (x : Int) :
    (s.tempShown c d x).getF (Reg.DMC_CH_TEMP c) (8 * d + 7) (8 * d) = toBits 8 x := by
  have hset : (s.setF (Reg.DMC_CH_TEMP c) (8 * d + 7) (8 * d) (toBits 8 x)).getF (Reg.DMC_CH_TEMP c) (8 * d + 7) (8 * d) = toBits 8 x := by
    rw [getF_setF_self _ _ _ _ _ (by omega) (by omega), Nat.add_assoc, Nat.add_sub_cancel_left]
    exact Nat.mod_eq_of_lt (toBits_lt 8 x)
  unfold State.tempShown
  dsimp only
  split
  · exact hset
  · exact hset

/-- What the set points and the wish for one are read from. -/
theorem tempShown_spFields (s : State) (c d : Nat) (x : Int) :
    (s.tempShown c d x).dmc.setPoints = s.dmc.setPoints ∧ (s.tempShown c d x).dmc.setPoint = s.dmc.setPoint ∧
      (s.tempShown c d x).dmc.wantSp = s.dmc.wantSp ∧ (s.tempShown c d x).boot = s.boot := by
  have hdmc := setF_dmc s (Reg.DMC_CH_TEMP c) (8 * d + 7) (8 * d) (toBits 8 x)
  have hboot := setF_boot s (Reg.DMC_CH_TEMP c) (8 * d + 7) (8 * d) (toBits 8 x)
  unfold State.tempShown
  generalize s.setF (Reg.DMC_CH_TEMP c) (8 * d + 7) (8 * d) (toBits 8 x) = w at hdmc hboot
  dsimp only
  rw [← hdmc, ← hboot]
  split <;> exact ⟨rfl, rfl, rfl, rfl⟩

theorem dimmHot_lower {s : State} {n : Nat} (hlower : s.lowerSp = some n) (hwant : s.dmc.wantSp = none) (c : Nat) :
    (s.dimmHot c).dmc.wantSp = some n ∧ (s.boot.warmRun = false → (s.dimmHot c).faulted fltDimmHot (subjChan c) = true) := by
  rw [State.dimmHot, hwant, hlower]
  dsimp only
  rw [if_neg (by simp), raise_dmc]
  refine ⟨rfl, fun hup => raise_faulted ?_ _ _ _⟩
  exact hup

/-- At 95 C or more a lower set point is wanted, and DIMM_HOT raised (R463). -/
theorem dimmTempRead_hot {c : Nat} {s : State} (d : Nat) {x : Int} (mr4 : Bool) (h : s.chState c ≠ chAbsent)
    (h' : s.chState c ≠ chFenced) (hx : 95 ≤ x) {n : Nat} (hlower : s.lowerSp = some n) (hwant : s.dmc.wantSp = none) :
    (dimmTempRead c d x mr4 s).dmc.wantSp = some n ∧
      (s.boot.warmRun = false → (dimmTempRead c d x mr4 s).faulted fltDimmHot (subjChan c) = true) := by
  obtain ⟨hsps, hsp, hw, hboot⟩ := tempShown_spFields s c d x
  have hread := rateRead_beyondRanks (s.tempShown c d x) c d x mr4
  have hfixed := fixed_of_beyondRanks hread
  have hboot' := boot_of_beyondRanks hread
  rw [dimmTempRead_used s d x mr4 h h', if_pos hx]
  generalize (s.tempShown c d x).rateRead c d x mr4 = u at hfixed hboot'
  have husps : u.dmc.setPoints = s.dmc.setPoints := (congrArg DmcSt.setPoints hfixed :).trans hsps
  have husp : u.dmc.setPoint = s.dmc.setPoint := (congrArg DmcSt.setPoint hfixed :).trans hsp
  have huw : u.dmc.wantSp = s.dmc.wantSp := (congrArg DmcSt.wantSp hfixed :).trans hw
  have hulower : u.lowerSp = some n := by rw [State.lowerSp, husps, husp]; exact hlower
  have hend := dimmHot_lower hulower (huw.trans hwant) c
  rw [hboot', hboot] at hend
  exact hend

/-! ### The set point (R463, R467, R468) -/

theorem showPop_dmc (s : State) (c : Nat) : (s.showPop c).dmc = s.dmc := by simp only [State.showPop, setF_dmc, setR_dmc]

theorem showPop_boot (s : State) (c : Nat) : (s.showPop c).boot = s.boot := by simp only [State.showPop, setF_boot, setR_boot]

theorem showPop_flt (s : State) (c : Nat) : (s.showPop c).flt = s.flt := by simp only [State.showPop, setF_flt, setR_flt]

theorem putSetPoint_dmc (s : State) (n : Nat) : (s.putSetPoint n).dmc = { s.dmc with setPoint := n } := by
  refine (each_keeps State.dmc (fun w c => ?_) _ _).trans rfl
  split
  · rfl
  · exact showPop_dmc w c

theorem putSetPoint_faulted (s : State) (n code subject : Nat) : (s.putSetPoint n).faulted code subject = s.faulted code subject := by
  refine (each_keeps (fun w => w.faulted code subject) (fun w c => ?_) _ _).trans rfl
  split
  · rfl
  · rw [State.faulted, showPop_boot, showPop_flt, State.faulted]

theorem setPointSwitch_begins {s : State} {n : Nat} (hwant : s.dmc.wantSp = some n) (hjobs : s.dmc.jobs = []) (hgap : s.dmc.gap = none)
    (htrained : ∀ k, k < 12 → s.chState k ≠ chTraining) :
    setPointSwitch s =
      (({ s with dmc := { s.dmc with wantSp := none, gap := some s.dmc.setPoint } } : State).putSetPoint n).setF Reg.DMC_CACHE_STATUS 16 16 1 := by
  have hnone : (upTo 12).any (fun c => s.chState c = chTraining) = false :=
    List.any_eq_false.mpr fun k hk => by simpa using htrained k (List.mem_range.mp hk)
  rw [setPointSwitch, hwant]
  dsimp only
  rw [if_neg (by rw [hnone]; simp [hjobs, hgap])]

theorem setPointSwitch_waits {s : State} {c : Nat} (hc : c < 12)
    (h : s.dmc.wantSp = none ∨ s.dmc.jobs ≠ [] ∨ s.dmc.gap.isSome = true ∨ s.chState c = chTraining) : setPointSwitch s = s := by
  rw [setPointSwitch]
  split
  · rfl
  · next n hwant =>
    refine if_pos ?_
    rcases h with h | h | h | h
    · rw [h] at hwant
      cases hwant
    · simp [h]
    · simp [h]
    · have hany : (upTo 12).any (fun c => s.chState c = chTraining) = true :=
        List.any_eq_true.mpr ⟨c, List.mem_range.mpr hc, by simpa using h⟩
      rw [hany, Bool.or_true]

/-! What is served at a gap's end leaves the gap, the hold area and the set point alone. -/

theorem cachePut_fixed (s : State) (a : Nat) (v : List (BitVec 8)) : (s.cachePut a v).dmc.fixed = s.dmc.fixed := rfl

theorem answerRead_fixed (s : State) (r : MemReq) (v : Option (List (BitVec 8))) : (s.answerRead r v).dmc.fixed = s.dmc.fixed := rfl

theorem lookUp_fixed (s : State) (p : Nat × Nat) (r : MemReq) : (s.lookUp p r).dmc.fixed = s.dmc.fixed := by
  have hcount : ∀ w : State, ({ w with dmc := { w.dmc with hitsTick := w.dmc.hitsTick + 1 } } : State).dmc.fixed = w.dmc.fixed := fun w => rfl
  have hfill : ∀ (w : State) a v, (w.cacheFill a v).dmc.fixed = w.dmc.fixed := fun w a v => by cases v <;> rfl
  cases h : s.cached r.addr with
  | some v => rw [lookUp_hit h, answerRead_fixed, State.cacheHit, cachePut_fixed, incR64_dmc, hcount]
  | none => rw [lookUp_miss h, answerRead_fixed, hfill, (lineRead_samePlaces _ _ _ _).fixed, incR64_dmc]

theorem plainRead_fixed (s : State) (k off : Nat) (r : MemReq) : (s.plainRead k off r).dmc.fixed = s.dmc.fixed := by
  by_cases hkind : r.kind = .picture
  · rw [plainRead_picture hkind, lookUp_fixed]
    exact ((accessCounted_samePlaces s).trans (cacheChecked_samePlaces _ _ _)).fixed
  · rw [plainRead_uncached hkind, answerRead_fixed]
    exact (lineRead_samePlaces s _ _ _).fixed

theorem mirrorRead_fixed (s : State) (k0 k1 off : Nat) (r : MemReq) : (s.mirrorRead k0 k1 off r).2.dmc.fixed = s.dmc.fixed := by
  have hcopy : ∀ {w t : State} {k p v}, w.copyRead k p r.otherRow = (v, t) → t.dmc.fixed = w.dmc.fixed := fun h =>
    (congrArg (fun x => x.2.dmc.fixed) h).symm.trans (copyRead_samePlaces _ _ _ _).fixed
  rcases h0 : s.copyRead k0 (s.entryPlace k0 off) r.otherRow with ⟨_ | v, t⟩
  · rcases h1 : t.copyRead k1 (s.entryPlace k1 off) r.otherRow with ⟨_ | v, u⟩
    · rw [mirrorRead_lost h0 h1, mirrorOwner_dmc]
      exact (hcopy h1).trans (hcopy h0)
    · rw [mirrorRead_second h0 h1]
      dsimp only
      split
      · exact (hcopy h1).trans (hcopy h0)
      · exact (lineWrite_samePlaces _ _ _ _ _).fixed.trans ((hcopy h1).trans (hcopy h0))
  · rw [mirrorRead_first h0]
    exact hcopy h0

theorem cacheUpdate_fixed (s : State) (a : Nat) (data : List (BitVec 8)) : (s.cacheUpdate a data).dmc.fixed = s.dmc.fixed := rfl

theorem serveReq_fixed (s : State) (r : MemReq) : (s.serveReq r).dmc.fixed = s.dmc.fixed := by
  rcases mapAddr_entries s r.addr with ⟨k0, k1, hmap⟩ | ⟨k, hmap⟩
  · cases hwrite : r.write with
    | true =>
      rw [serveReq_mirrorWrite hmap hwrite]
      exact (lineWrite_samePlaces _ _ _ _ _).fixed.trans (lineWrite_samePlaces s _ _ _ _).fixed
    | false => rw [serveReq_mirrorRead hmap hwrite, answerRead_fixed, mirrorRead_fixed]
  · cases hwrite : r.write with
    | true => rw [serveReq_plainWrite hmap hwrite, cacheUpdate_fixed, (lineWrite_samePlaces s _ _ _ _).fixed]
    | false => rw [serveReq_plainRead hmap hwrite, plainRead_fixed]

theorem serveAll_fixed (s : State) (rs : List MemReq) : (s.each rs (fun s r => s.serveReq r)).dmc.fixed = s.dmc.fixed := by
  unfold State.each
  induction rs generalizing s with
  | nil => rfl
  | cons r rs ih => exact (ih (s.serveReq r)).trans (serveReq_fixed s r)

theorem gapEnded_shown (s : State) :
    s.gapEnded.dmc.gap = none ∧ s.gapEnded.dmc.hold = [] ∧ s.gapEnded.dmc.stalled = [] ∧ s.gapEnded.dmc.setPoint = s.dmc.setPoint :=
  ⟨rfl, rfl, rfl, rfl⟩

/-- Once all is served the gap is over, nothing is held, and the set point is the one before. -/
theorem gapServed_shown (s : State) {todo : List MemReq} :
    (s.tablesCleared.gapEnded.each todo (fun s r => s.serveReq r)).dmc.gap = none ∧
      (s.tablesCleared.gapEnded.each todo (fun s r => s.serveReq r)).dmc.hold = [] ∧
      (s.tablesCleared.gapEnded.each todo (fun s r => s.serveReq r)).dmc.stalled = [] ∧
      (s.tablesCleared.gapEnded.each todo (fun s r => s.serveReq r)).dmc.setPoint = s.dmc.setPoint := by
  have hserved := serveAll_fixed s.tablesCleared.gapEnded todo
  have hcleared := tablesCleared_fixed s
  obtain ⟨hgap, hhold, hstalled, hsp⟩ := gapEnded_shown s.tablesCleared
  generalize s.tablesCleared = v at hcleared hserved hgap hhold hstalled hsp
  generalize v.gapEnded = w at hserved hgap hhold hstalled hsp
  generalize w.each todo (fun s r => s.serveReq r) = u at hserved
  exact ⟨(congrArg DmcSt.gap hserved :).trans hgap, (congrArg DmcSt.hold hserved :).trans hhold,
    (congrArg DmcSt.stalled hserved :).trans hstalled,
    (congrArg DmcSt.setPoint hserved :).trans (hsp.trans (congrArg DmcSt.setPoint hcleared :))⟩

theorem clearReason_dmc (s : State) (p : Reason → Bool) : (s.clearReason p).dmc = s.dmc := by
  unfold State.clearReason
  split <;> rfl

/-- After 600 cool ticks the higher set point is wanted again while it remains (R463). -/
theorem setPointRestore_returns {s : State} {n : Nat} (hn : s.dmc.hotFrom = some n) (hcool : s.dmc.warmTick + 600 ≤ s.now) :
    setPointRestore s = ({ s with dmc := { s.dmc with hotFrom := none, wantSp := if s.dmc.setPoints.contains n then some n else none } } :
      State).clearReason (fun r => r.code = fltDimmHot) := by
  rw [setPointRestore, hn]
  exact if_neg (Nat.not_lt.mpr hcool)

end Sys2Proof.Machine

open Sys2Proof Sys2Proof.Machine

/-- Settles O36: each event is one of the rules of R460 to R468 applied to the rank, DIMM, bank or set point it names. -/
theorem refreshAndSetPointFollowTheirRules : Obligations.RefreshAndSetPointFollowTheirRules := by
  intro c r b s hc
  refine ⟨fun placed => ⟨_, finish_after s _, ?refresh⟩, fun d x m hd h h' => ⟨_, finish_after s _, ?temp⟩,
    fun d x m h => congrArg (finish s) (dimmTempRead_unused s d x m h), finish_after s _, finish_after s _,
    fun h => ⟨_, finish_after s _, ?rows⟩, fun h => congrArg (finish s) (if_neg h), ⟨_, finish_after s _, ?openRow⟩,
    fun n hwant hjobs hgap htrained => ⟨_, finish_after s _, ?switched⟩, fun h => congrArg (finish s) (setPointSwitch_waits hc h),
    fun old hgap => ⟨⟨_, finish_after s _, ?ended⟩, ⟨_, finish_after s _, ?late⟩⟩,
    fun i hgap => congrArg (finish s) (setPointGapEnd_closed hgap i),
    fun h => congrArg (finish s) ?noHot, fun n hn h => congrArg (finish s) ?warm, fun n hn h => ⟨_, finish_after s _, ?restored⟩⟩
  case refresh =>
    rw [after_memReg (by unfold Reg.DMC_CH_URGENT_REFRESH; omega), chan_of_dmc (after_dmc s _)]
    exact ⟨refreshDue_owed c r b placed s, refreshDue_urgent c r b placed s⟩
  case temp =>
    have htemp : Reg.DMC_CH_TEMP c / 4194304 = 13 := by unfold Reg.DMC_CH_TEMP; omega
    refine ⟨?_, fun hwarm => ?_, fun n hx hlower hwant => ?_⟩
    · rw [after_memField htemp, State.getF, dimmTempRead_getR htemp d x m h h', rateRead_temp]
      exact tempShown_getF s c hd x
    · rw [after_memReg (memReg_status hc), dimmTempRead_getR (memReg_status hc) d x m h h']
      exact rateRead_doubled _ c hd hwarm
    · rw [after_dmc, after_faulted]
      exact dimmTempRead_hot d m h h' hx hlower hwant
  case rows =>
    rw [chan_of_dmc (after_dmc s _), rowTableClear_clears h]
    exact allRanks_noRows hc r b s
  case openRow =>
    rw [chan_of_dmc (after_dmc s _), onRank_ranks_self]
    exact ⟨by rw [tget_tmod_self], fun x hx => by rw [tget_tmod_ne _ hx]⟩
  case switched =>
    rw [after_dmc, after_memField (by decide), setPointSwitch_begins hwant hjobs hgap htrained, setF_dmc, putSetPoint_dmc]
    exact ⟨rfl, rfl, rfl, getF_setF_self _ _ 16 16 1 (by decide) (by decide)⟩
  case ended =>
    rw [after_dmc, after_memField (by decide), setPointGapEnd_inTime hgap, setF_dmc]
    obtain ⟨hopen, hhold, hstalled, hsp⟩ := gapServed_shown s
    exact ⟨hopen, hhold, hstalled, hsp, getF_setF_self _ _ 16 16 0 (by decide) (by decide)⟩
  case late =>
    rw [after_dmc, after_faulted, setPointGapEnd_late hgap, putSetPoint_dmc, putSetPoint_faulted]
    exact ⟨rfl, rfl, fun hup => raise_faulted hup _ _ _⟩
  case noHot =>
    rw [setPointRestore, h]
  case warm =>
    rw [setPointRestore, hn]
    exact if_pos h
  case restored =>
    rw [after_dmc, setPointRestore_returns hn h, clearReason_dmc]
    exact ⟨rfl, rfl⟩
end

section
/-!
PROOFS. Channel commands and the copier's completions: training, slices moved and freed, ranks migrated and copies rebuilt (R444, R451,
R469 to R475, R482).
-/

namespace Sys2Proof.Machine

/-! ### Training (R444, R475) -/

/-- What training reads: the memory plane's tables and the image. -/
def State.trainPart (s : State) : DmcSt × Torzer := (s.dmc, s.boot.image)

section Part

variable (s : State)

theorem setR_trainPart (d v : Nat) : (s.setR d v).trainPart = s.trainPart := rfl

theorem setF_trainPart (d hi lo v : Nat) : (s.setF d hi lo v).trainPart = s.trainPart := setR_trainPart s _ _

theorem raise_trainPart (code subject : Nat) (detail : List (Nat × Nat)) : (s.raise code subject detail).trainPart = s.trainPart := by
  have hqueue : ∀ (w : State) f, (w.queueFault f).trainPart = w.trainPart := fun w f => by
    unfold State.queueFault
    dsimp only
    split <;> rfl
  unfold State.raise
  dsimp only
  split
  · split
    · rfl
    · exact (hqueue _ _).trans (setR_trainPart s _ _)
  · exact hqueue s _

theorem clearReason_trainPart (p : Reason → Bool) : (s.clearReason p).trainPart = s.trainPart := by
  unfold State.clearReason
  split <;> rfl

theorem withTly_trainPart (x : TallySt) : ({ s with tly := x } : State).trainPart = s.trainPart := rfl

theorem tallyCommit_trainPart (typ key bytes : Nat) (payload : List (Nat × Nat)) (live : Bool) :
    (s.tallyCommit typ key bytes payload live).trainPart = s.trainPart := by
  unfold State.tallyCommit
  dsimp only
  rw [setF_trainPart, State.setR64, setR_trainPart, setR_trainPart, setR_trainPart, withTly_trainPart]

theorem putInv_trainPart (e : InvEntry) : (s.putInv e).trainPart = s.trainPart := by
  unfold State.putInv
  dsimp only
  rw [State.invSummary, setR_trainPart]
  split
  · rw [State.clearReasonOf, clearReason_trainPart, tallyCommit_trainPart, withTly_trainPart]
  · rw [tallyCommit_trainPart, withTly_trainPart]

theorem fitItem_trainPart (kind index : Nat) (found : Found) (crc : BitVec 32) (summary : List (Nat × Nat)) (start : Bool) :
    (s.fitItem kind index found crc summary start).1.trainPart = s.trainPart := by
  unfold State.fitItem
  generalize fitResult _ _ _ = res
  obtain ⟨st, flt, used⟩ := res
  cases flt with
  | none => exact putInv_trainPart s _
  | some f => exact (raise_trainPart _ _ _ _).trans (putInv_trainPart s _)

theorem fitDimm_trainPart (c : Nat) (p : DimmPop) (start : Bool) : (s.fitDimm c p start).1.trainPart = s.trainPart :=
  fitItem_trainPart s _ _ _ _ _ _

theorem showPop_trainPart (c : Nat) : (s.showPop c).trainPart = s.trainPart := by
  simp only [State.showPop, setF_trainPart, setR_trainPart]

theorem raises_trainPart (ns : List Nat) (code subject : Nat) :
    (s.each ns (fun s _ => s.raise code subject)).trainPart = s.trainPart :=
  each_keeps State.trainPart (fun w _ => raise_trainPart w code subject []) ns s

end Part

theorem trainOutcome_congr {s t : State} (h : t.boot.image = s.boot.image) (p : DimmPop) (outcomes : List Nat) (n : Nat) :
    t.trainOutcome p outcomes n = s.trainOutcome p outcomes n := by
  rw [State.trainOutcome, State.spRate, h, State.trainOutcome, State.spRate]

theorem popOk_congr {s t : State} (h : t.dmc.spareMode = s.dmc.spareMode) (p : DimmPop) : t.popOk p = s.popOk p := by
  unfold State.popOk State.popSlices State.spareOn
  rw [h]

/-- A population read: what the channel holds of it (R475). -/
def State.popRead (s : State) (c : Nat) (p : DimmPop) (outcomes : List Nat) : State :=
  s.onChan c (fun x => { x with dimm := p, trained := outcomes, slices := s.popSlices p, autoDrain := false })

/-- A channel DRAINED after training: its spare is free again, and what it shows is brought up to date (R471, R475). -/
def State.freshlyDrained (s : State) (c : Nat) : State :=
  let s := (s.setChState c chDrained).setF (Reg.DMC_CH_STATUS c) 6 6 0
  let s := { s with tly := { s.tly with spareUsed := tdel c s.tly.spareUsed } }
  (s.showPop c).clearReason (fun r => r.code = fltRankSpared && decide (subjRank c 0 ≤ r.subject ∧ r.subject ≤ subjRank c 3))

/-- What training makes of a population that is read and fit-checked (R444, R475). -/
def State.trainedWith (s : State) (c : Nat) (p : DimmPop) (outcomes : List Nat) (used auto : Bool) : State :=
  let s := s.showPop c
  if !used || !s.popOk p then s.setChState c chAbsent
  else
    let sps := upTo (s.boot.image.device.elim 0 (fun d => d.rates.length))
    let s := s.each (sps.filter (fun n => s.trainOutcome p outcomes n = 1)) (fun s _ => s.raise fltTrainingMarginal (subjChan c))
    let left := s.dmc.setPoints.filter (fun n => n = s.dmc.setPoint || s.trainOutcome p outcomes n ≠ 2)
    let s := { s with dmc := { s.dmc with setPoints := left } }
    if s.trainOutcome p outcomes s.dmc.setPoint = 2 then s.fenceChan c
    else
      if auto then (s.freshlyDrained c).rejoinChan c else s.freshlyDrained c

theorem retrainDone_training {s : State} {c : Nat} (h : s.chState c = chTraining) (p : DimmPop) (outcomes : List Nat) :
    retrainDone c p outcomes s = ((s.popRead c p outcomes).fitDimm c p false).1.trainedWith c p outcomes
      ((s.popRead c p outcomes).fitDimm c p false).2 (s.chan c).autoDrain := by
  rw [retrainDone, if_neg (by simp [h])]
  rfl

theorem retrainDone_other {s : State} {c : Nat} (h : s.chState c ≠ chTraining) (p : DimmPop) (outcomes : List Nat) :
    retrainDone c p outcomes s = s := if_pos h

theorem showPop_chState (s : State) (c : Nat) : (s.showPop c).chState c = s.chState c := by
  have hne : Reg.DMC_CH_STATUS c ≠ Reg.DMC_CH_GEOMETRY c := by unfold Reg.DMC_CH_STATUS Reg.DMC_CH_GEOMETRY; omega
  simp only [State.showPop, State.chState]
  rw [getF_setF_below _ _ 17 16 _ 2 0 (by decide) (by decide) (by decide) (by decide),
    getF_setF_below _ _ 11 8 _ 2 0 (by decide) (by decide) (by decide) (by decide),
    getF_setF_below _ _ 5 5 _ 2 0 (by decide) (by decide) (by decide) (by decide),
    getF_setF_below _ _ 4 3 _ 2 0 (by decide) (by decide) (by decide) (by decide), getF_setR_ne hne]

theorem clearReason_getR (s : State) (p : Reason → Bool) (d : Nat) : (s.clearReason p).getR d = s.getR d := by
  unfold State.clearReason
  split <;> rfl

theorem clearReason_chState (s : State) (p : Reason → Bool) (c : Nat) : (s.clearReason p).chState c = s.chState c := by
  rw [State.chState, State.getF, clearReason_getR]
  rfl

theorem trainedWith_unfit {s : State} {p : DimmPop} (h : s.popOk p = false) (c : Nat) (outcomes : List Nat) (used auto : Bool) :
    (s.trainedWith c p outcomes used auto).chState c = chAbsent := by
  have hunfit : (s.showPop c).popOk p = false := (popOk_congr (by rw [showPop_dmc]) p).trans h
  rw [State.trainedWith]
  dsimp only
  rw [if_pos (by rw [hunfit, Bool.not_false, Bool.or_true]), setChState_chState _ _ (by decide)]

theorem setF_chState {c : Nat} {hi lo v : Nat} (h : lo ≤ hi) (hn : hi < 32) (hlo : 2 < lo) (s : State) :
    (s.setF (Reg.DMC_CH_STATUS c) hi lo v).chState c = s.chState c :=
  getF_setF_below s _ hi lo v 2 0 h hn hlo (by decide)

theorem withTly_chState (s : State) (x : TallySt) (c : Nat) : ({ s with tly := x } : State).chState c = s.chState c := rfl

theorem freshlyDrained_chState (s : State) (c : Nat) : (s.freshlyDrained c).chState c = chDrained := by
  rw [State.freshlyDrained, clearReason_chState, showPop_chState, withTly_chState, setF_chState (by decide) (by decide) (by decide),
    setChState_chState _ _ (by decide)]

theorem setChState_dmc (s : State) (c v : Nat) : (s.setChState c v).dmc = s.dmc := setF_dmc s (Reg.DMC_CH_STATUS c) 2 0 v

theorem withTly_dmc (s : State) (x : TallySt) : ({ s with tly := x } : State).dmc = s.dmc := rfl

theorem freshlyDrained_dmc (s : State) (c : Nat) : (s.freshlyDrained c).dmc = s.dmc := by
  rw [State.freshlyDrained, clearReason_dmc, showPop_dmc, withTly_dmc, setF_dmc, setChState_dmc]

theorem withSetPoints_chan (s : State) (l : List Nat) (c : Nat) :
    ({ s with dmc := { s.dmc with setPoints := l } } : State).chan c = s.chan c := rfl

/-- A usable population whose set point in force trains leaves the channel DRAINED (R475). -/
theorem trainedWith_drained {s : State} {p : DimmPop} {outcomes : List Nat} (hfit : s.popOk p = true)
    (htrains : s.trainOutcome p outcomes s.dmc.setPoint ≠ 2) (c : Nat) :
    ∃ l, ∃ v : State, v.dmc = s.dmc ∧
      s.trainedWith c p outcomes true false = ({ v with dmc := { v.dmc with setPoints := l } } : State).freshlyDrained c := by
  have hfit' : (s.showPop c).popOk p = true := (popOk_congr (by rw [showPop_dmc]) p).trans hfit
  have hpart := (raises_trainPart (s.showPop c) ((upTo ((s.showPop c).boot.image.device.elim 0 (fun d => d.rates.length))).filter
    (fun n => (s.showPop c).trainOutcome p outcomes n = 1)) fltTrainingMarginal (subjChan c)).trans (showPop_trainPart s c)
  rw [State.trainedWith]
  dsimp only
  rw [if_neg (by rw [hfit']; decide)]
  generalize (s.showPop c).each _ _ = v at hpart ⊢
  have hdmc : v.dmc = s.dmc := congrArg Prod.fst hpart
  have himage : v.boot.image = s.boot.image := congrArg Prod.snd hpart
  have hout : ∀ l, ({ v with dmc := { v.dmc with setPoints := l } } : State).trainOutcome p outcomes v.dmc.setPoint ≠ 2 := fun l heq => by
    rw [← hdmc] at htrains
    exact htrains ((trainOutcome_congr (s := s) (t := { v with dmc := { v.dmc with setPoints := l } }) himage p outcomes _).symm.trans heq)
  exact ⟨_, v, hdmc, (if_neg (hout _)).trans (if_neg Bool.false_ne_true)⟩

/-- A channel in TRAINING with a usable population that trains at the set point in force (R444, R475). -/
theorem retrainDone_drained {s : State} {c : Nat} {p : DimmPop} {outcomes : List Nat} (h : s.chState c = chTraining)
    (hpop : s.popOk p = true) (htrains : s.trainOutcome p outcomes s.dmc.setPoint ≠ 2) (hauto : (s.chan c).autoDrain = false)
    (hused : ((s.popRead c p outcomes).fitDimm c p false).2 = true) :
    (retrainDone c p outcomes s).chState c = chDrained ∧ ((retrainDone c p outcomes s).chan c).dimm = p ∧
      ((retrainDone c p outcomes s).chan c).slices = s.popSlices p := by
  have hpart := fitDimm_trainPart (s.popRead c p outcomes) c p false
  rw [retrainDone_training h, hused, hauto]
  generalize ((s.popRead c p outcomes).fitDimm c p false).1 = u at hpart ⊢
  have hdmc : u.dmc = (s.popRead c p outcomes).dmc := congrArg Prod.fst hpart
  have himage : u.boot.image = s.boot.image := congrArg Prod.snd hpart
  have hsp : u.dmc.setPoint = s.dmc.setPoint := by rw [hdmc]; rfl
  obtain ⟨l, v, hv, heq⟩ := trainedWith_drained (s := u) (outcomes := outcomes) ((popOk_congr (by rw [hdmc]; rfl) p).trans hpop)
    (by rwa [trainOutcome_congr himage, hsp]) c
  have hchan : ((u.trainedWith c p outcomes true false).chan c) = (s.popRead c p outcomes).chan c := by
    rw [heq, chan_of_dmc (freshlyDrained_dmc _ c), withSetPoints_chan, chan_of_dmc (hv.trans hdmc)]
  refine ⟨by rw [heq, freshlyDrained_chState], ?_⟩
  rw [hchan, State.popRead, onChan_self]
  exact ⟨rfl, rfl⟩

theorem retrainDone_unfit {s : State} {c : Nat} {p : DimmPop} (h : s.chState c = chTraining) (hpop : s.popOk p = false)
    (outcomes : List Nat) : (retrainDone c p outcomes s).chState c = chAbsent := by
  have hpart := fitDimm_trainPart (s.popRead c p outcomes) c p false
  rw [retrainDone_training h]
  generalize (s.popRead c p outcomes).fitDimm c p false = u at hpart ⊢
  have hdmc : u.1.dmc = (s.popRead c p outcomes).dmc := congrArg Prod.fst hpart
  exact trainedWith_unfit ((popOk_congr (by rw [hdmc]; rfl) p).trans hpop) c outcomes u.2 _

/-! ### Slices filled and moved (R469, R470, R473) -/

theorem stepDone_last {s : State} {j : CopyJob} {js : List CopyJob} {x : CopyStep} (hjobs : s.dmc.jobs = j :: js) (hsteps : j.steps = [x]) :
    s.stepDone j = { s with dmc := { s.dmc with jobs := js } } := by
  rw [State.stepDone, hsteps, hjobs]
  rfl

/-- The last step of a fill frees its slice (R470). -/
theorem copierSliceDone_filled {s : State} {j : CopyJob} {js : List CopyJob} {x : CopyStep} (hjobs : s.dmc.jobs = j :: js)
    (hkind : j.kind = .fill) (hsteps : j.steps = [x]) :
    copierSliceDone s = ({ s with dmc := { s.dmc with jobs := js } } : State).giveSlice x.chan x.slice := by
  rw [copierSliceDone_step hjobs (by simp [hkind]) (by simp [hkind]) hsteps, if_pos rfl, stepDone_last hjobs hsteps]
  simp only [State.jobEnd, State.sliceStep, hkind]

theorem commitStripe_dmc (s : State) (st : Nat) : (s.commitStripe st).dmc = s.dmc := tallyCommit_dmc s _ _ _ _ _

theorem remapOf_of_remap {s t : State} (h : t.dmc.remap = s.dmc.remap) (k : Nat) : t.remapOf k = s.remapOf k := by
  rw [State.remapOf, h]
  rfl

/-- Where an entry of the remap table points (R446, R448). -/
theorem remapOf_listed {s : State} {k : Nat} {e : Nat × Nat} (h : tget (0, 0) s.dmc.remap k = e) :
    s.remapOf k = if e.2 = 0 then (k % 12, k / 12) else (e.1, e.2 - 1) := by
  rw [State.remapOf, h]
  obtain ⟨c, _ | n⟩ := e <;> rfl

/-- The remap table with one entry switched. -/
def remapPut (t : Tbl (Nat × Nat)) (k d n : Nat) : Tbl (Nat × Nat) :=
  tset (0, 0) t k (if d = k % 12 && n = k / 12 then (0, 0) else (d, n + 1))

theorem switchEntries_dmc (s : State) (k d n : Nat) :
    (s.switchEntries [(k, d, n)]).dmc = { s.dmc with remap := remapPut s.dmc.remap k d n } :=
  each_keeps State.dmc commitStripe_dmc _ _

/-- An entry switched alone lies where it was sent. -/
theorem switchEntries_remapOf (s : State) (k d n : Nat) : (s.switchEntries [(k, d, n)]).remapOf k = (d, n) := by
  have hentry : tget (0, 0) (s.switchEntries [(k, d, n)]).dmc.remap k = if d = k % 12 && n = k / 12 then (0, 0) else (d, n + 1) := by
    rw [switchEntries_dmc]
    exact tget_tset_self _ _ _ _
  rw [remapOf_listed hentry]
  by_cases hhome : d = k % 12 ∧ n = k / 12
  · obtain ⟨rfl, rfl⟩ := hhome
    simp
  · have hmoved : ¬ (decide (d = k % 12) && decide (n = k / 12)) = true := by simpa using hhome
    rw [if_neg hmoved]
    exact if_neg (Nat.succ_ne_zero n)

theorem switchEntries_chan (s : State) (k d n c : Nat) : (s.switchEntries [(k, d, n)]).chan c = s.chan c := by
  rw [State.chan, switchEntries_dmc]
  rfl

theorem giveSlice_remap (s : State) (c n : Nat) : (s.giveSlice c n).dmc.remap = s.dmc.remap := by
  unfold State.giveSlice
  split <;> rfl

/-- A slice given back is no command to a channel. -/
theorem giveSlice_autoDrain (s : State) (c n c' : Nat) : ((s.giveSlice c n).chan c').autoDrain = (s.chan c').autoDrain := by
  have hchan : ∀ f : ChanSt → ChanSt, (∀ x, (f x).autoDrain = x.autoDrain) → ((s.onChan c f).chan c').autoDrain = (s.chan c').autoDrain := by
    intro f hf
    by_cases h : c' = c
    · rw [h, onChan_self, hf]
    · rw [onChan_ne _ _ _ _ h]
  unfold State.giveSlice
  split
  · exact hchan _ fun x => rfl
  · exact hchan _ fun x => rfl

/-- The contents of entry `k`'s slice at `old` copied to slice `n` of channel `d`, and the slice left lost (R469, R470). -/
def movedMem (m : List Host.Cell) (old : Nat × Nat) (d n : Nat) : List Host.Cell :=
  memErase (memCopy m (cellAddr old.1 (old.2 * sliceBytes)) (cellAddr d (n * sliceBytes)) sliceBytes)
    (cellAddr old.1 (old.2 * sliceBytes)) (cellAddr old.1 ((old.2 + 1) * sliceBytes))

/-- A slice moved holds at its new place what the old one held. -/
theorem memByte_movedMem {m : List Host.Cell} (hm : memWf m = true) {old : Nat × Nat} {d n : Nat}
    (hne : cellAddr old.1 (old.2 * sliceBytes) ≠ cellAddr d (n * sliceBytes)) {i : Nat} (hi : i < sliceBytes) :
    memByte (movedMem m old d n) (cellAddr d (n * sliceBytes) + i) = memByte m (cellAddr old.1 (old.2 * sliceBytes) + i) := by
  rw [movedMem, memByte_memErase_outside, memByte_memCopy_self hm hi]
  simp only [cellAddr, sliceBytes] at hne hi ⊢
  omega

/-- A slice moved: its contents, its entry, and the slice it leaves, to be filled or free. -/
theorem moveSlice_eq {s : State} {x : CopyStep} {k : Nat} (hx : x.entry = some k) :
    ∃ u : State, u = ({ s with mem := movedMem s.mem (s.remapOf k) x.chan x.slice } : State).switchEntries [(k, x.chan, x.slice)] ∧
      (s.moveSlice x = u.addFill (s.remapOf k).1 (s.remapOf k).2 ∨ s.moveSlice x = u.giveSlice (s.remapOf k).1 (s.remapOf k).2) := by
  refine ⟨_, rfl, ?_⟩
  unfold State.moveSlice
  rw [hx]
  exact ite_eq_or_eq _ _ _

theorem moveSlice_shown {s : State} {x : CopyStep} {k : Nat} (hx : x.entry = some k) :
    (s.moveSlice x).mem = movedMem s.mem (s.remapOf k) x.chan x.slice ∧ (s.moveSlice x).remapOf k = (x.chan, x.slice) ∧
      ∀ c, ((s.moveSlice x).chan c).autoDrain = (s.chan c).autoDrain := by
  obtain ⟨u, hu, heq⟩ := moveSlice_eq (s := s) hx
  have hmem : u.mem = movedMem s.mem (s.remapOf k) x.chan x.slice := by rw [hu, switchEntries_mem]
  have hremap : u.remapOf k = (x.chan, x.slice) := by rw [hu, switchEntries_remapOf]
  have hauto : ∀ c, (u.chan c).autoDrain = (s.chan c).autoDrain := fun c => by
    rw [hu, switchEntries_chan]
    rfl
  rcases heq with heq | heq <;> rw [heq]
  · exact ⟨hmem, hremap, hauto⟩
  · exact ⟨(giveSlice_mem u _ _).trans hmem, (remapOf_of_remap (giveSlice_remap u _ _) k).trans hremap,
      fun c => (giveSlice_autoDrain u _ _ c).trans (hauto c)⟩

/-- The last step of a drain moves its slice and leaves the channel DRAINED (R473). -/
theorem copierSliceDone_drained {s : State} {j : CopyJob} {js : List CopyJob} {x : CopyStep} {k : Nat} (hjobs : s.dmc.jobs = j :: js)
    (hkind : j.kind = .drain) (hsteps : j.steps = [x]) (hx : x.entry = some k) (hauto : (s.chan j.chan).autoDrain = false) :
    (copierSliceDone s).mem = movedMem s.mem (s.remapOf k) x.chan x.slice ∧ (copierSliceDone s).remapOf k = (x.chan, x.slice) ∧
      (copierSliceDone s).chState j.chan = chDrained := by
  have hdone : copierSliceDone s = (({ s with dmc := { s.dmc with jobs := js } } : State).moveSlice x).jobEnd j := by
    rw [copierSliceDone_step hjobs (by simp [hkind]) (by simp [hkind]) hsteps, if_pos rfl, stepDone_last hjobs hsteps]
    simp only [State.sliceStep, hkind]
  obtain ⟨hmem, hremap, hdrain⟩ := moveSlice_shown (s := ({ s with dmc := { s.dmc with jobs := js } } : State)) hx
  have hend : copierSliceDone s = (({ s with dmc := { s.dmc with jobs := js } } : State).moveSlice x).setChState j.chan chDrained := by
    rw [hdone, State.jobEnd, hkind]
    exact if_neg (by rw [hdrain]; exact (hauto ▸ Bool.false_ne_true))
  rw [hend, setChState_mem, setChState_chState _ _ (by decide), remapOf_of_remap (congrArg DmcSt.remap (setChState_dmc _ _ _))]
  exact ⟨hmem, hremap, rfl⟩

/-! ### Ranks migrated (R471) and copies rebuilt (R451) -/

theorem rankMigrationDone_idle {s : State} {c : Nat} (h : (s.chan c).migRank = none) : rankMigrationDone c s = s := by
  rw [rankMigrationDone, h]

/-- A channel whose migration is over: its tables and its status, the ranks in service not yet brought up to date (R471). -/
def State.migrated (s : State) (c r : Nat) : State :=
  let s := s.onChan c (fun x => { x with migRank := none })
  let s := { s with dmc := { s.dmc with jobs := s.dmc.jobs.filter (fun j => !(j.kind = CopyKind.rank && j.chan = c)) } }
  let s := { s with tly := { s.tly with spareUsed := tins c (r + 1) (tdel c s.tly.spareUsed) } }
  ((s.setF (Reg.DMC_CH_STATUS c) 7 7 0).setF (Reg.DMC_CH_STATUS c) 6 6 1).setF (Reg.DMC_CH_STATUS c) 13 12 r

theorem rankMigrationDone_migrated {s : State} {c r : Nat} (h : (s.chan c).migRank = some r) :
    rankMigrationDone c s =
      ((s.migrated c r).setF (Reg.DMC_CH_STATUS c) 11 8 ((s.migrated c r).ranksUp c)).raise fltRankSpared (subjRank c r) := by
  rw [rankMigrationDone, h]
  rfl

theorem withJobs_chan (s : State) (js : List CopyJob) (c : Nat) : ({ s with dmc := { s.dmc with jobs := js } } : State).chan c = s.chan c := rfl

theorem migrated_migRank (s : State) (c r : Nat) : ((s.migrated c r).chan c).migRank = none := by
  rw [State.migrated, chan_of_dmc (setF_dmc _ _ _ _ _), chan_of_dmc (setF_dmc _ _ _ _ _), chan_of_dmc (setF_dmc _ _ _ _ _),
    chan_of_dmc (withTly_dmc _ _), withJobs_chan, onChan_self]

/-- The spare in use, no migration running, and the rank it replaces (R479). -/
theorem migrated_fields (s : State) (c : Nat) {r : Nat} (hr : r < 4) :
    (s.migrated c r).getF (Reg.DMC_CH_STATUS c) 6 6 = 1 ∧ (s.migrated c r).getF (Reg.DMC_CH_STATUS c) 7 7 = 0 ∧
      (s.migrated c r).getF (Reg.DMC_CH_STATUS c) 13 12 = r := by
  rw [State.migrated]
  dsimp only
  refine ⟨?_, ?_, (getF_setF_self _ _ 13 12 r (by decide) (by decide)).trans (Nat.mod_eq_of_lt hr)⟩
  · rw [getF_setF_below _ _ 13 12 r 6 6 (by decide) (by decide) (by decide) (by decide)]
    exact getF_setF_self _ _ 6 6 1 (by decide) (by decide)
  · rw [getF_setF_below _ _ 13 12 r 7 7 (by decide) (by decide) (by decide) (by decide),
      getF_setF_above _ _ 6 6 1 7 7 (by decide) (by decide) (by decide)]
    exact getF_setF_self _ _ 7 7 0 (by decide) (by decide)

theorem migrated_boot (s : State) (c r : Nat) : (s.migrated c r).boot = s.boot := by
  have hbeside : ∀ (w : State) f l x,
      ({ ({ (w.onChan c f) with dmc := { (w.onChan c f).dmc with jobs := l } } : State) with tly := x } : State).boot = w.boot := fun w f l x => rfl
  rw [State.migrated, setF_boot, setF_boot, setF_boot]
  exact hbeside s _ _ _

/-- What the end of a migration shows (R471, R479). -/
theorem rankMigrationDone_shown {s : State} {c r : Nat} (hc : c < 12) (hr : r < 4) (h : (s.chan c).migRank = some r) :
    ((rankMigrationDone c s).chan c).migRank = none ∧ (rankMigrationDone c s).getF (Reg.DMC_CH_STATUS c) 6 6 = 1 ∧
      (rankMigrationDone c s).getF (Reg.DMC_CH_STATUS c) 7 7 = 0 ∧ (rankMigrationDone c s).getF (Reg.DMC_CH_STATUS c) 13 12 = r ∧
      (s.boot.warmRun = false → (rankMigrationDone c s).faulted fltRankSpared (subjRank c r) = true) := by
  obtain ⟨hspare, hrun, hrank⟩ := migrated_fields s c hr
  rw [rankMigrationDone_migrated h]
  refine ⟨?_, ?_, ?_, ?_, fun hup => raise_faulted ?_ _ _ _⟩
  · rw [chan_of_dmc (raise_dmc _ _ _ _), chan_of_dmc (setF_dmc _ _ _ _ _), migrated_migRank]
  · rw [raise_memField (memReg_status hc), getF_setF_below _ _ 11 8 _ 6 6 (by decide) (by decide) (by decide) (by decide), hspare]
  · rw [raise_memField (memReg_status hc), getF_setF_below _ _ 11 8 _ 7 7 (by decide) (by decide) (by decide) (by decide), hrun]
  · rw [raise_memField (memReg_status hc), getF_setF_above _ _ 11 8 _ 13 12 (by decide) (by decide) (by decide), hrank]
  · rw [setF_boot, migrated_boot, hup]

theorem mirrorRebuildDone_idle {s : State} (h : s.dmc.jobs = []) : mirrorRebuildDone s = s := by
  rw [mirrorRebuildDone, h]

/-- A rebuilt copy holds the bytes of the other one and is lost no longer (R451). -/
theorem mirrorRebuildDone_rebuilt {s : State} {j : CopyJob} {js : List CopyJob} {x : CopyStep} {rest : List CopyStep} {k : Nat}
    (hjobs : s.dmc.jobs = j :: js) (hkind : j.kind = .rebuild) (hsteps : j.steps = x :: rest) (hx : x.entry = some k) :
    (mirrorRebuildDone s).dmc.lostCopies = s.dmc.lostCopies.erase k ∧
      (mirrorRebuildDone s).mem = memCopy s.mem (cellAddr (s.remapOf (otherCopy k)).1 ((s.remapOf (otherCopy k)).2 * sliceBytes))
        (cellAddr (s.remapOf k).1 ((s.remapOf k).2 * sliceBytes)) sliceBytes := by
  rw [mirrorRebuildDone, hjobs]
  dsimp only
  rw [hkind, hsteps]
  dsimp only
  rw [hx]
  dsimp only [Option.getD_some]
  split
  · rw [State.clearReasonOf, clearReason_dmc, clearReason_mem]
    exact ⟨rfl, rfl⟩
  · exact ⟨rfl, rfl⟩

/-! ### Channel commands (R482) -/

theorem chCommand_waits {s : State} {c : Nat} (h : s.answers (Reg.DMC_CH_CTRL c) = true) (cmd : Nat) :
    ((chCommand c cmd s).chan c).cmdPend = cmd := by
  rw [chCommand, ctrlWrite_answered h, onChan_self]

end Sys2Proof.Machine

open Sys2Proof Sys2Proof.Machine

/-- Settles O35: a command waits in its channel, the last one written (notes/assumptions 35); each completion is one job's last step. -/
theorem copierMovesSlicesAndRanks : Obligations.CopierMovesSlicesAndRanks := by
  intro c s hc
  have hcommand : ∀ {cmd : Nat} {t : State}, s.answers (Reg.DMC_CH_CTRL c) = true → t = chCommand c cmd s →
      ((s.after t).chan c).cmdPend = cmd :=
    fun h ht => by rw [ht, chan_of_dmc (after_dmc s _), chCommand_waits h]
  refine ⟨fun h => ⟨⟨_, finish_after s _, hcommand h rfl⟩, ⟨_, finish_after s _, hcommand h rfl⟩,
      ⟨_, finish_after s _, hcommand h rfl⟩, ⟨_, finish_after s _, hcommand h rfl⟩⟩,
    fun p o h => congrArg (finish s) (retrainDone_other h p o), fun p o h hpop htrains hauto hused => ⟨_, finish_after s _, ?trained⟩,
    fun p o h hpop => ⟨_, finish_after s _, ?unfit⟩,
    fun h => ⟨congrArg (finish s) (copierSliceDone_idle h), congrArg (finish s) (mirrorRebuildDone_idle h)⟩,
    fun j js x hjobs hkind hsteps => congrArg (finish s) (copierSliceDone_filled hjobs hkind hsteps),
    fun j js k d n hs hjobs hkind hchan hsteps hauto hne => ⟨_, finish_after s _, ?drained⟩,
    fun h => congrArg (finish s) (rankMigrationDone_idle h), fun r hr h => ⟨_, finish_after s _, ?spared⟩,
    fun j js k x rest hs hjobs hkind hsteps hx => ⟨_, finish_after s _, ?rebuilt⟩⟩
  case trained =>
    rw [after_chState hc, chan_of_dmc (after_dmc s _)]
    exact retrainDone_drained h hpop htrains hauto hused
  case unfit =>
    rw [after_chState hc]
    exact retrainDone_unfit h hpop o
  case drained =>
    obtain ⟨hmem, hremap, hstate⟩ := copierSliceDone_drained hjobs hkind hsteps rfl (hchan ▸ hauto)
    rw [remapOf_of_remap (congrArg DmcSt.remap (after_dmc s _)), after_chState hc, after_mem, hmem, hremap]
    exact ⟨rfl, hchan ▸ hstate, fun i hi => memByte_movedMem hs hne hi⟩
  case spared =>
    rw [chan_of_dmc (after_dmc s _), after_memField (memReg_status hc), after_memField (memReg_status hc),
      after_memField (memReg_status hc), after_faulted]
    exact rankMigrationDone_shown hc hr h
  case rebuilt =>
    obtain ⟨hlost, hmem⟩ := mirrorRebuildDone_rebuilt hjobs hkind hsteps hx
    rw [after_dmc, after_mem, hmem]
    exact ⟨hlost, fun _ i hi => memByte_memCopy_self hs hi _ _⟩
end

section
/-!
PROOFS. Management requests: keys, option blocks, addresses, telemetry, subscribers, tally reads and the set point (R445, R467, R564, R565,
R649, R651, R652, R656, R660, R665).
-/

namespace Sys2Proof.Machine

section Served

variable {m : Msg} {s : State}

/-- A command whose request is served ends on what its body makes of the state with the arrival taken. -/
theorem finish_served {typ : Nat} {p : Paths} (h : s.serves m typ p = true) {k : State → Nat → ReplyTo → State} {t : State}
    (hk : k (s.taken m typ) (s.arrival m typ).1 (s.replyTo m typ) = t) : finish s (s.request m typ p k) = .next (s.after t) := by
  rw [request_served h k, hk, finish_after]

end Served

/-! ### The service port's addresses (R651, R656) -/

theorem showSvc_tly (s : State) : s.showSvc.tly = s.tly := by simp only [State.showSvc, setF_tly]

theorem showSvc_port (s : State) :
    s.showSvc.getF Reg.DEV_SVC_STATUS 31 16 = (if s.tly.svcAddr.port = 0 then 50740 else s.tly.svcAddr.port % 65536) := by
  have hset : s.showSvc.getF Reg.DEV_SVC_STATUS 31 16 = (if s.tly.svcAddr.port = 0 then 50740 else s.tly.svcAddr.port) % 2 ^ (31 + 1 - 16) := by
    rw [State.showSvc, getF_setF_self _ _ 31 16 _ (by decide) (by decide)]
    simp only [setF_tly]
  rw [hset]
  split
  · rfl
  · rfl

theorem tallyCommit_svcAddr (s : State) (typ key bytes : Nat) (payload : List (Nat × Nat)) (live : Bool) :
    (s.tallyCommit typ key bytes payload live).tly.svcAddr = s.tly.svcAddr := by
  unfold State.tallyCommit
  dsimp only
  rw [setF_tly, State.setR64, setR_tly, setR_tly, setR_tly]

end Sys2Proof.Machine

open Sys2Proof Sys2Proof.Machine

/-- Settles O53: each request, once served, is its body, whose ranges and refusals are those of R649 to R665 (notes/assumptions 19, 20, 33). -/
theorem managementRequestsActAndAnswer : Obligations.ManagementRequestsActAndAnswer := by
  intro m s
  refine ⟨fun key h => finish_served h rfl, fun h => finish_served h rfl, fun o h => finish_served h rfl,
    fun a h h4 h6 => ⟨_, finish_served h (if_neg (by simp [h4, h6])), ?address⟩, fun p fl b h => finish_served h ?telemetry,
    fun addr port fl rs h => finish_served h ?subscribe, fun typ a b h => finish_served h ?tally,
    fun n h => ⟨fun hgone => finish_served h ?gone, fun hin hlow hfull => finish_served h ?full, fun hin hfits => finish_served h ?wanted⟩⟩
  case address =>
    refine ⟨?_, ?_⟩
    · rw [after_tly, showSvc_tly, tallyCommit_svcAddr]
    · have hport : Reg.DEV_SVC_STATUS ∉ statusRegs := by decide
      rw [State.getF, after_getR_ne hport]
      exact (showSvc_port _).trans (by rw [tallyCommit_svcAddr])
  case telemetry => simp only [Bool.or_eq_true, decide_eq_true_iff, or_assoc]
  case subscribe => simp only [Bool.or_eq_true, decide_eq_true_iff, or_assoc]
  case tally => exact (if_neg (by simp only [ne_eq, not_true_eq_false, not_false_eq_true])).trans rfl
  case gone =>
    simp only [bne_self_eq_false, Bool.false_eq_true, if_false]
    exact if_pos (by simpa using hgone)
  case full =>
    simp only [bne_self_eq_false, Bool.false_eq_true, if_false]
    rw [if_neg (by simpa using hin), if_pos (by rw [Bool.and_eq_true, decide_eq_true_iff, decide_eq_true_iff]; exact ⟨hlow, hfull⟩)]
  case wanted =>
    have hroom : ¬ ((s.taken m 0x0203).spRate n < (s.taken m 0x0203).spRate (s.taken m 0x0203).dmc.setPoint ∧
        Nat.min ((s.taken m 0x0203).less ((s.taken m 0x0203).peakAt n)) (8 * (s.taken m 0x0203).peakAt n / 10) < (s.taken m 0x0203).loadNow 2) :=
      fun ⟨hlow, hfull⟩ => hfits.elim (Nat.not_le.mpr hlow) (Nat.not_le.mpr hfull)
    simp only [bne_self_eq_false, Bool.false_eq_true, if_false]
    rw [if_neg (by simpa using hin), if_neg (by rwa [Bool.and_eq_true, decide_eq_true_iff, decide_eq_true_iff])]
end

section
/-!
PROOFS. Requests that are not served (R20, R645, R649, R723): each request command runs one body under the one frame of requests, and
the frame turns a request away before that body is asked.
-/

namespace Sys2Proof.Machine

/-- A request command is its body under the frame of requests, with the type and the paths of its row (R649). -/
theorem exec_request {c : Instr} {m : Msg} {typ : Nat} {p : Paths} (h : asRequest c = some (m, typ, p)) (s : State) :
    ∃ k, exec c s = finish s (s.request m typ p k) := by
  cases c <;> simp only [asRequest, Option.some.injEq, Prod.mk.injEq, reduceCtorEq] at h
  all_goals obtain ⟨rfl, rfl, rfl⟩ := h
  all_goals exact ⟨_, rfl⟩

section Frame

variable {s : State} {m : Msg} {typ : Nat} (p : Paths) (k : State → Nat → ReplyTo → State)

theorem request_absent (h : s.comes m typ = false) : s.request m typ p k = s := by
  unfold State.request
  split
  · rfl
  · rename_i hup
    have hnow : (s.tim.valid && (s.arrival m typ).1 == s.now) = true := by
      simpa [State.comes, State.listens, hup] using h
    exact if_pos hnow

/-- A request that has come is turned away by the first check that fails. -/
theorem request_comes (h : s.comes m typ = true) : s.request m typ p k =
    if m.bad then (s.taken m typ).reply (s.replyTo m typ) stMalformed
    else if !p.allow m.src s.boot.maint then (s.taken m typ).reply (s.replyTo m typ) stNotPermitted
    else if needsGrid typ && !s.tim.valid then (s.taken m typ).reply (s.replyTo m typ) stInvalid
    else k (s.taken m typ) (s.arrival m typ).1 (s.replyTo m typ) := by
  simp only [State.comes, State.listens, Bool.and_eq_true, Bool.not_eq_true'] at h
  obtain ⟨hup, hnow⟩ := h
  exact (if_neg (ne_true_of_eq_false hup)).trans (if_neg (ne_true_of_eq_false hnow))

end Frame

end Sys2Proof.Machine

open Sys2Proof Sys2Proof.Machine

/-- Settles O5: each request command is the frame of requests around its body, so the frame's checks, taken in order (notes/assumptions 5
and 33), answer before the body does. -/
theorem unservedRequestsAreAnswered : Obligations.UnservedRequestsAreAnswered := by
  intro c m typ p s hc
  obtain ⟨k, hk⟩ := exec_request hc s
  rw [hk]
  refine ⟨fun habsent => ?_, fun hcomes hbad => ?_, fun hcomes hgood hpath => ?_, fun hcomes hgood hpath hgrid hvalid => ?_⟩
  · rw [request_absent p k habsent, finish_after]
  · rw [request_comes p k hcomes, if_pos hbad, finish_after]
  · rw [request_comes p k hcomes, if_neg (by simp [hgood]), if_pos (by simp [hpath]), finish_after]
  · rw [request_comes p k hcomes, if_neg (by simp [hgood]), if_neg (by simp [hpath]), if_pos (by simp [hgrid, hvalid]), finish_after]
end

section
/-!
PROOFS. What reports leave, once for all of them: a fault raised, a record committed, an item put on a ring, a notification, a frame or a
reply sent change the counts of `reportReg`, the host's link, the fault queues, the books of the tally store and the frames in flight.
-/

namespace Sys2Proof.Machine

/-! ### The parts of the state that reports leave alone -/

/-- The tally store without the books of its records and the ceilings of the service port's counters. -/
def TallySt.unbooked (y : TallySt) : TallySt := { y with recs := [], seq := 0, next := 0, writes := 0, svcCeiling := [] }

/-- Boot without the hardware queue of faults. -/
def BootSt.unqueued (b : BootSt) : BootSt := { b with hwq := [] }

/-- The twin without the frames and events that are in flight. -/
def TwnSt.unsent (x : TwnSt) : TwnSt := { x with events := [], txSeq := [], retain := [], alt := false }

/-- `t` is `s` after some reports. -/
structure State.Reports (s t : State) : Prop where
  media : t.media = s.media
  tly : t.tly.unbooked = s.tly.unbooked
  boot : t.boot.unqueued = s.boot.unqueued
  twn : t.twn.unsent = s.twn.unsent
  regs : ∀ d, reportReg d = false → t.getR d = s.getR d

namespace State.Reports

variable {s t u : State}

theorem refl (s : State) : s.Reports s := ⟨rfl, rfl, rfl, rfl, fun _ _ => rfl⟩

theorem trans (h : s.Reports t) (h' : t.Reports u) : s.Reports u :=
  ⟨h'.media.trans h.media, h'.tly.trans h.tly, h'.boot.trans h.boot, h'.twn.trans h.twn, fun d hd => (h'.regs d hd).trans (h.regs d hd)⟩

theorem field (h : s.Reports t) {d : Nat} (hd : reportReg d = false) (hi lo : Nat) : t.getF d hi lo = s.getF d hi lo := by
  rw [State.getF, h.regs d hd, State.getF]

/-- The host's link, the fault queues and the output lie outside. -/
theorem outside (s : State) {host : HostSt} {flt : FaultSt} {out : List OutEv} :
    s.Reports { s with host := host, flt := flt, out := out } := ⟨rfl, rfl, rfl, rfl, fun _ _ => rfl⟩

theorem setR {d : Nat} (hd : reportReg d = true) (s : State) (v : Nat) : s.Reports (s.setR d v) :=
  ⟨setR_media s d v, rfl, rfl, rfl, fun _ he => getR_setR_ne (report_ne he hd) s v⟩

theorem ite {c : Prop} [Decidable c] (ht : s.Reports t) (hu : s.Reports u) : s.Reports (if c then t else u) := by
  split
  · exact ht
  · exact hu

theorem each {α : Type} (xs : List α) {f : State → α → State} (h : ∀ (w : State) x, w.Reports (f w x)) (s : State) :
    s.Reports (s.each xs f) := by
  unfold State.each
  induction xs generalizing s with
  | nil => exact refl s
  | cons x xs ih => exact (h s x).trans (ih (f s x))

/-! Faults and records. -/

theorem queueFault (s : State) (f : RaisedFault) : s.Reports (s.queueFault f) := ite (outside s) (outside s)

theorem raise (s : State) (code subject : Nat) (detail : List (Nat × Nat)) : s.Reports (s.raise code subject detail) :=
  ite (ite ⟨rfl, rfl, rfl, rfl, fun _ _ => rfl⟩ ((setR reportReg_overflow s _).trans (queueFault _ _))) (queueFault s _)

theorem raiseOnce (s : State) (code subject period : Nat) (detail : List (Nat × Nat)) :
    s.Reports (s.raiseOnce code subject period detail) := by
  obtain ⟨x, hx⟩ | ⟨x, hx⟩ := raiseOnce_eq s code subject period detail
  · exact hx ▸ outside s
  · exact hx ▸ (outside s).trans (raise _ _ _ _)

theorem accessIgnored (s : State) (d v : Nat) : s.Reports (s.accessIgnored d v) := raise s _ _ _

/-- The books of the tally store. -/
theorem books (s : State) {recs : List TallyRec} {seq : BitVec 32} {next writes : Nat} {ceil : List (Nat × Nat)} :
    s.Reports { s with tly := { s.tly with recs := recs, seq := seq, next := next, writes := writes, svcCeiling := ceil } } :=
  ⟨rfl, rfl, rfl, rfl, fun _ _ => rfl⟩

theorem setR64 {d : Nat} (hd : reportReg d = true) (hd' : reportReg (d + 1) = true) (s : State) (v : Nat) : s.Reports (s.setR64 d v) :=
  (setR hd s _).trans (setR hd' _ _)

theorem tallyCommit (s : State) (typ key bytes : Nat) (payload : List (Nat × Nat)) (live : Bool) :
    s.Reports (s.tallyCommit typ key bytes payload live) :=
  (((books s).trans (setR reportReg_seq _ _)).trans (setR64 reportReg_writes reportReg_writes1 _ _)).trans (setR reportReg_status _ _)

/-! Items, datagrams and frames. -/

theorem ringPut (s : State) (r bytes : Nat) (it : RingItem) : s.Reports (s.ringPut r bytes it) := by
  unfold State.ringPut
  split
  · exact refl s
  · rename_i hr
    exact (setR (reportReg_tail (by omega)) s _).trans (outside _)

theorem ringDrop (s : State) (r : Nat) : s.Reports (s.ringDrop r) := by
  unfold State.ringDrop
  split
  · exact refl s
  · rename_i hr
    exact (setR (reportReg_drops (by omega)) s _).trans (raiseOnce _ _ _ _ _)

theorem svcSend (s : State) (key : Nat) (slot : Option Nat) (body : SvcBody) : s.Reports (s.svcSend key slot body) :=
  ((ite (refl s) ((tallyCommit s _ _ _ _ _).trans (books _))).trans (outside _)).trans (setR reportReg_svc _ _)

theorem notify (s : State) (code fault subject : Nat) (detail : List (Nat × Nat)) (tick : Option Nat) :
    s.Reports (s.notify code fault subject detail tick) := by
  have hput : ∀ (w : State) (it : RingItem), w.Reports (if w.ringFits 32 56 then w.ringPut 32 56 it else w.ringDrop 32) :=
    fun w it => ite (ringPut w _ _ _) (ringDrop w _)
  unfold State.notify
  dsimp only
  refine trans (trans (outside s) (hput _ _)) (ite (each _ (fun w i => ?_) _) (refl _))
  exact ite (trans (svcSend w _ _ _) (outside _)) (refl w)

theorem sendReplyNow (s : State) (r : Reply) : s.Reports (s.sendReplyNow r) := by
  unfold State.sendReplyNow
  split
  · exact ite (refl s) (ite (ringPut s _ _ _) (ite (ringDrop s _) (outside s)))
  · exact (outside s).trans (svcSend _ _ _ _)

/-- The frames and events in flight. -/
theorem sent (s : State) {events : List MirEvent} {txSeq : Tbl Nat} {retain : Tbl (List SentFrame)} {alt : Bool} {out : List OutEv} :
    s.Reports { s with twn := { s.twn with events := events, txSeq := txSeq, retain := retain, alt := alt }, out := out } :=
  ⟨rfl, rfl, rfl, rfl, fun _ _ => rfl⟩

theorem sendAusOn {b : Nat} (hb : b < 2) (s : State) (typ tick len : Nat) (body : List Nat) : s.Reports (s.sendAusOn b typ tick len body) := by
  have hreg : ∀ d k, k < 16 → d = 58736644 + b * 16384 + k → reportReg d = true := fun d k hk hd => hd ▸ reportReg_bundle hb hk
  have hframes : ∀ w : State, w.Reports (w.incR64 (Reg.TWN_BUNDLE_TX_FRAMES b)) := by
    unfold Reg.TWN_BUNDLE_TX_FRAMES
    exact fun w => setR64 (hreg _ 0 (by omega) (by omega)) (hreg _ 1 (by omega) (by omega)) w _
  have hbytes : ∀ (w : State) n, w.Reports (w.incR64 (Reg.TWN_BUNDLE_TX_BYTES b) n) := by
    unfold Reg.TWN_BUNDLE_TX_BYTES
    exact fun w n => setR64 (hreg _ 4 (by omega) (by omega)) (hreg _ 5 (by omega) (by omega)) w _
  unfold State.sendAusOn
  exact ite (refl s) (trans (trans (hframes s) (hbytes _ _)) (sent _))

theorem sendAus (s : State) (typ tick len : Nat) (body : List Nat) : s.Reports (s.sendAus typ tick len body) := by
  unfold State.sendAus
  split
  · exact refl s
  · rename_i b hb
    exact (sendAusOn (ausBundle_lt hb) s _ _ _ _).trans (ite (sent _) (refl _))

theorem sendEvent (s : State) (typ effective : Nat) (phase : Option Nat) (held : Option Reply) :
    s.Reports (s.sendEvent typ effective phase held) :=
  (sent s).trans (sendAus _ 10 _ 16 _)

theorem sendReply (s : State) (r : Reply) : s.Reports (s.sendReply r) := ite (sendEvent s _ _ _ _) (sendReplyNow s r)

theorem reply (s : State) (dst : ReplyTo) (status : Nat) (pay : RPay) : s.Reports (s.reply dst status pay) := sendReply s _

theorem flushBlocked (s : State) : s.Reports s.flushBlocked := (outside s).trans (each _ sendReplyNow _)

end State.Reports

/-! ### What the end of a command keeps besides -/

theorem after_host (s t : State) : (s.after t).host = t.host := by simp only [State.after, showStatus_host]

theorem after_out (s t : State) : (s.after t).out = t.out := by simp only [State.after, showStatus_out]

theorem after_boot (s t : State) : (s.after t).boot = t.boot := by simp only [State.after, showStatus_boot]

theorem after_twn (s t : State) : (s.after t).twn = t.twn := by simp only [State.after, showStatus_twn]

theorem after_pins (s t : State) : (s.after t).pins = t.pins := by simp only [State.after, showStatus_pins]

theorem after_upd (s t : State) : (s.after t).upd = t.upd := by simp only [State.after, showStatus_upd]

theorem after_flt (s t : State) : (s.after t).flt = t.flt := by simp only [State.after, showStatus_flt]

theorem after_getF {d : Nat} (h : d ∉ statusRegs) (s t : State) (hi lo : Nat) : (s.after t).getF d hi lo = t.getF d hi lo := by
  rw [State.getF, after_getR_ne h, State.getF]

/-- A command whose effect is `t` leaves what the end of a command makes of it. -/
theorem finish_eq_after {s t u : State} (h : u = t) : finish s u = .next (s.after t) := by rw [h, finish_after]

/-! ### What a request's arrival keeps -/

/-- Taking a request's recorded arrival away changes the host's link alone. -/
theorem taken_eq (s : State) (m : Msg) (typ : Nat) : ∃ x, s.taken m typ = { s with host := x } := by
  unfold State.taken State.arrival
  split
  · exact ⟨_, rfl⟩
  · exact ⟨s.host, rfl⟩

end Sys2Proof.Machine
end

section
/-!
PROOFS. Interrupt moderation (R643): whether a device-to-host ring's vector is due, and what IRQ_MODERATION does with it when it is
masked and when it is not.
-/

namespace Sys2Proof.Machine

/-- Is the vector of ring `r` due at host time `us`: an item was written since its last signal, and irq_us microseconds have passed since
that signal, or none was made (R643)? -/
def State.irqDue (s : State) (r us : Nat) : Bool :=
  s.host.irqPend.contains r &&
    (tget 0 s.host.irqLast (r - 16) == 0 || decide (tget 0 s.host.irqLast (r - 16) - 1 + s.getF (Reg.DEV_RING_CONFIG r) 31 16 ≤ us))

/-- The bit of ring `r`'s vector among the MSI-X pending bits. -/
def vectorBit (r : Nat) : BitVec 64 := BitVec.ofNat 64 (2 ^ (r - 16))

/-- The signal of ring `r` is taken at host time `us`: it is no longer pending, and its time is noted. -/
def State.irqTaken (s : State) (r us : Nat) : State :=
  { s with host := { s.host with irqPend := s.host.irqPend.filter (· ≠ r), irqLast := tset 0 s.host.irqLast (r - 16) (us + 1) } }

/-- What the rest of IRQ_MODERATION does once the enable bit is shown. -/
def State.irqMoved (s : State) (r us : Nat) (masked : Bool) : State :=
  let t := if s.irqDue r us then s.irqTaken r us else s
  if masked then if s.irqDue r us then { t with host := { t.host with msix := t.host.msix ||| vectorBit r } } else t
  else if s.irqDue r us || t.host.msix &&& vectorBit r ≠ 0 then
    { t with host := { t.host with msix := t.host.msix &&& ~~~ vectorBit r }, out := t.out ++ [.other 20 [r - 16]] }
  else t

/-- DEV_HOST_STATUS with its MSI-X enable bit shown. -/
def State.irqShown (s : State) (enabled : Bool) : State := s.setF Reg.DEV_HOST_STATUS 7 7 (b2n enabled)

section Moderation

variable {s : State} {r us : Nat} (h16 : 16 ≤ r) (h35 : r < 35) (hreset : s.boot.inReset = false)

include h16 h35 hreset

theorem irqModeration_eq (enabled masked : Bool) :
    irqModeration r us enabled masked s = if enabled then (s.irqShown enabled).irqMoved r us masked else s.irqShown enabled := by
  have hopen : (decide (r < 16) || decide (35 ≤ r) || s.boot.inReset) = false := by
    simp only [hreset, Bool.or_false, Bool.or_eq_false_iff, decide_eq_false_iff_not]
    omega
  unfold irqModeration
  simp only [hopen]
  cases enabled <;> simp [State.irqMoved, State.irqDue, State.irqShown, State.irqTaken, vectorBit]

end Moderation

section Moved

variable (s : State) {r us : Nat}

@[simp] theorem irqShown_host (enabled : Bool) : (s.irqShown enabled).host = s.host := setF_host s _ _ _ _

@[simp] theorem irqShown_out (enabled : Bool) : (s.irqShown enabled).out = s.out := setF_out s _ _ _ _

theorem irqShown_irqDue (enabled : Bool) : (s.irqShown enabled).irqDue r us = s.irqDue r us := by
  have hne : Reg.DEV_RING_CONFIG r ≠ Reg.DEV_HOST_STATUS := by unfold Reg.DEV_RING_CONFIG Reg.DEV_HOST_STATUS; omega
  simp only [State.irqDue, State.irqShown, getF_setF_ne hne, setF_host]

variable {s}

/-- A vector that is due and unmasked is sent. -/
theorem irqMoved_sent (h : s.irqDue r us = true) : s.irqMoved r us false =
    { s.irqTaken r us with host := { (s.irqTaken r us).host with msix := s.host.msix &&& ~~~ vectorBit r }, out := s.out ++ [.other 20 [r - 16]] } := by
  simp [State.irqMoved, h, State.irqTaken]

/-- A vector that is due and masked has its pending bit set. -/
theorem irqMoved_masked (h : s.irqDue r us = true) : s.irqMoved r us true =
    { s.irqTaken r us with host := { (s.irqTaken r us).host with msix := s.host.msix ||| vectorBit r } } := by
  simp [State.irqMoved, h, State.irqTaken]

/-- A pending bit of an unmasked vector sends it. -/
theorem irqMoved_pending (h : s.irqDue r us = false) (hbit : s.host.msix &&& vectorBit r ≠ 0) : s.irqMoved r us false =
    { s with host := { s.host with msix := s.host.msix &&& ~~~ vectorBit r }, out := s.out ++ [.other 20 [r - 16]] } := by
  have hbit' : ¬ s.host.msix &&& vectorBit r = 0#64 := hbit
  simp [State.irqMoved, h, hbit']

/-- A vector that is not due and has no pending bit that may be sent stays as it is. -/
theorem irqMoved_idle {masked : Bool} (h : s.irqDue r us = false) (hbit : masked = true ∨ s.host.msix &&& vectorBit r = 0) :
    s.irqMoved r us masked = s := by
  obtain rfl | hbit := hbit
  · simp [State.irqMoved, h]
  · simp [State.irqMoved, h, hbit]

theorem irqTaken_irqPend : r ∉ (s.irqTaken r us).host.irqPend := by simp [State.irqTaken]

theorem irqTaken_irqLast : tget 0 (s.irqTaken r us).host.irqLast (r - 16) = us + 1 := by
  simp only [State.irqTaken, tget_tset_self]

end Moved

/-- An item put on a ring makes its signal pending. -/
theorem ringPut_irqPend {r : Nat} (h35 : r < 35) (s : State) (n : Nat) (it : RingItem) : r ∈ (s.ringPut r n it).host.irqPend := by
  rw [State.ringPut, if_neg (by omega)]
  exact List.contains_iff_mem.mp (contains_insertAsc _ _)

end Sys2Proof.Machine

open Sys2Proof Sys2Proof.Machine

/-- Settles O44: IRQ_MODERATION shows the enable bit, and moves the vector by whether it is due, masked and pending (notes/assumptions 19). -/
theorem vectorsFollowModeration : Obligations.VectorsFollowModeration := by
  intro r us s h16 h35 hreset v last due own
  have hexec : ∀ e m, exec (.irqModeration r us e m) s =
      .next (s.after (if e then (s.irqShown e).irqMoved r us m else s.irqShown e)) :=
    fun e m => congrArg (finish s) (irqModeration_eq h16 h35 hreset e m)
  have hdue : (s.irqShown true).irqDue r us = due := irqShown_irqDue s true
  refine ⟨ringPut_irqPend h35 s, fun h => ?_, fun h => ?_, fun h hbit => ?_, fun e m h => ?_⟩
  · refine ⟨_, hexec true false, ?_⟩
    rw [if_pos rfl, irqMoved_sent (hdue.trans h), after_out, after_host]
    exact ⟨by simp [v], irqTaken_irqPend (us := us), irqTaken_irqLast, by simp [own, v, vectorBit]⟩
  · refine ⟨_, hexec true true, ?_⟩
    rw [if_pos rfl, irqMoved_masked (hdue.trans h), after_out, after_host]
    exact ⟨by simp [State.irqTaken], irqTaken_irqPend (us := us), by simp [own, v, vectorBit]⟩
  · refine ⟨_, hexec true false, ?_⟩
    rw [if_pos rfl, irqMoved_pending (hdue.trans h) (by simpa [own, v, vectorBit] using hbit), after_out, after_host]
    exact ⟨by simp [v], by simp [own, v, vectorBit], by simp⟩
  · refine ⟨_, hexec e m, ?_⟩
    rw [after_out, after_host]
    cases e with
    | false => simp
    | true =>
      obtain ⟨h, hbit⟩ := h.resolve_left Bool.noConfusion
      rw [if_pos rfl, irqMoved_idle (hdue.trans h) (by simpa [own, v, vectorBit] using hbit)]
      simp
end

section
/-!
PROOFS. The rings of the host link (R636 to R642): what the reports that move TAIL leave of a ring's CONFIG and HEAD, the write of
a register's writable fields, and the commands of the rings.
-/

namespace Sys2Proof.Machine

/-! ### What sending leaves of a ring -/

theorem raise_host (s : State) (code subject : Nat) (detail : List (Nat × Nat)) : (s.raise code subject detail).host = s.host := by
  simp only [State.raise, State.queueFault, apply_ite State.host, incR_host, ite_self]

/-- Is `d` the CONFIG or the HEAD of a ring (R669)? -/
def ringReg (d : Nat) : Prop := ∃ r < 35, d = Reg.DEV_RING_CONFIG r ∨ d = Reg.DEV_RING_HEAD r

theorem ringReg_config {r : Nat} (hr : r < 35) : ringReg (Reg.DEV_RING_CONFIG r) := ⟨r, hr, .inl rfl⟩

theorem ringReg_head {r : Nat} (hr : r < 35) : ringReg (Reg.DEV_RING_HEAD r) := ⟨r, hr, .inr rfl⟩

/-- The place of a ring's CONFIG or HEAD among the registers. -/
theorem ringReg_place {d : Nat} (h : ringReg d) : 1024 ≤ d ∧ d < 1304 ∧ (d % 8 = 2 ∨ d % 8 = 3) := by
  obtain ⟨r, hr, rfl | rfl⟩ := h
  · unfold Reg.DEV_RING_CONFIG; omega
  · unfold Reg.DEV_RING_HEAD; omega

section RingReg

variable {d : Nat} (h : ringReg d)
include h

theorem ringReg_not_status : d ∉ statusRegs := by
  obtain ⟨hlo, hhi, -⟩ := ringReg_place h
  intro hmem
  have hfar : ∀ e ∈ statusRegs, e < 1024 ∨ 1304 ≤ e := by decide
  have := hfar d hmem
  omega

theorem raise_ringReg (s : State) (code subject : Nat) (detail : List (Nat × Nat)) : (s.raise code subject detail).getR d = s.getR d := by
  obtain ⟨hlo, hhi, -⟩ := ringReg_place h
  exact (State.KeepsFrame.raise s code subject detail).regs d (by unfold Reg.BOOT_FAULT_OVERFLOW; omega)

theorem ringDrop_ringReg (s : State) (r : Nat) : (s.ringDrop r).getR d = s.getR d := by
  obtain ⟨-, -, hplace⟩ := ringReg_place h
  have hdrops : d ≠ Reg.DEV_RING_DROPS r := by unfold Reg.DEV_RING_DROPS; omega
  unfold State.ringDrop
  split
  · rfl
  · obtain ⟨x, hx⟩ | ⟨x, hx⟩ := raiseOnce_eq (s.incR (Reg.DEV_RING_DROPS r)) fltNotifyDropped (subjUnit 0 0 r) 600 []
    · rw [hx, getR_flt, getR_incR_ne hdrops]
    · rw [hx, raise_ringReg h, getR_flt, getR_incR_ne hdrops]

theorem ringPut_ringReg (s : State) (r n : Nat) (it : RingItem) : (s.ringPut r n it).getR d = s.getR d := by
  obtain ⟨-, -, hplace⟩ := ringReg_place h
  have htail : d ≠ Reg.DEV_RING_TAIL r := by unfold Reg.DEV_RING_TAIL; omega
  simp only [State.ringPut, getR_ite, getR_host, getR_incR_ne htail, ite_self]

theorem tallyCommit_ringReg (s : State) (typ key bytes : Nat) (payload : List (Nat × Nat)) (live : Bool) :
    (s.tallyCommit typ key bytes payload live).getR d = s.getR d := by
  obtain ⟨-, hhi, -⟩ := ringReg_place h
  have hseq : d ≠ Reg.MGT_TALLY_SEQ := by unfold Reg.MGT_TALLY_SEQ; omega
  have hwrites : d ≠ Reg.MGT_TALLY_WRITES := by unfold Reg.MGT_TALLY_WRITES; omega
  have hwrites' : d ≠ Reg.MGT_TALLY_WRITES + 1 := by unfold Reg.MGT_TALLY_WRITES; omega
  have hstatus : d ≠ Reg.MGT_TALLY_STATUS := by unfold Reg.MGT_TALLY_STATUS; omega
  simp only [State.tallyCommit, getR_setF_ne hstatus, getR_setR64_ne hwrites hwrites', getR_setR_ne hseq, getR_tly]

theorem svcSend_ringReg (s : State) (key : Nat) (slot : Option Nat) (body : SvcBody) : (s.svcSend key slot body).getR d = s.getR d := by
  obtain ⟨hlo, -, -⟩ := ringReg_place h
  have hctr : d ≠ Reg.DEV_SVC_CTR 5 := by unfold Reg.DEV_SVC_CTR; omega
  simp only [State.svcSend, getR_incR_ne hctr, getR_host, getR_ite, getR_tly, tallyCommit_ringReg h, ite_self]

theorem sendReplyNow_ringReg (s : State) (x : Reply) : (s.sendReplyNow x).getR d = s.getR d := by
  unfold State.sendReplyNow
  split
  · simp only [getR_ite, ringPut_ringReg h, ringDrop_ringReg h, getR_host, ite_self]
  · rw [svcSend_ringReg h, getR_host]

theorem flushBlocked_ringReg (s : State) : s.flushBlocked.getR d = s.getR d :=
  each_getR d _ _ (fun w x => sendReplyNow_ringReg h w x) _

end RingReg

/-- With no reply held, a ring that has room takes none. -/
theorem flushBlocked_of_none {s : State} (h : s.host.blocked = []) (d : Nat) : s.flushBlocked.getR d = s.getR d := by
  unfold State.flushBlocked
  rw [h]
  rfl

theorem ringTail_not_status {r : Nat} (hr : r < 35) : Reg.DEV_RING_TAIL r ∉ statusRegs := by
  have hfar : ∀ e ∈ statusRegs, e < 1024 ∨ 1308 ≤ e := by decide
  intro hmem
  have := hfar _ hmem
  unfold Reg.DEV_RING_TAIL at this
  omega

/-! ### The write of a register's writable fields -/

theorem and_mod_two (x m : Nat) : (x &&& m) % 2 = x % 2 * (m % 2) := by
  rw [← pow_one 2, Nat.and_mod_two_pow, pow_one]
  rcases Nat.mod_two_eq_zero_or_one x with hx | hx <;> rcases Nat.mod_two_eq_zero_or_one m with hm | hm <;> rw [hx, hm] <;> rfl

/-- A write of `v` under the mask `m` takes the bits of `v` where `m` has one, and keeps those of `a` elsewhere. -/
theorem testBit_masked (a m v i : Nat) : (a - (a &&& m) + (v &&& m)).testBit i = if m.testBit i then v.testBit i else a.testBit i := by
  induction i generalizing a m v with
  | zero =>
    have ha := and_mod_two a m
    have hv := and_mod_two v m
    have hle : a &&& m ≤ a := Nat.and_le_left
    simp only [Nat.testBit_zero, decide_eq_true_eq]
    rcases Nat.mod_two_eq_zero_or_one m with hm | hm <;> rw [hm] at ha hv ⊢ <;> simp only [reduceIte, decide_eq_decide, zero_ne_one] <;> omega
  | succ i ih =>
    have ha := and_mod_two a m
    have hv := and_mod_two v m
    have hle : a &&& m ≤ a := Nat.and_le_left
    have hle' := Nat.div_le_div_right (c := 2) hle
    simp only [Nat.testBit_succ]
    rw [← ih, ← Nat.and_div_two, ← Nat.and_div_two]
    congr 1
    rcases Nat.mod_two_eq_zero_or_one m with hm | hm <;> rw [hm] at ha hv <;> omega

/-- A writable bit reads as it was written. -/
theorem putRw_testBit (s : State) {d i : Nat} (hi : i < 32) (hrw : (maskOf d (fun a => a = .rw)).testBit i = true) (v : Nat) :
    ((s.putRw d v).getR d).testBit i = v.testBit i := by
  rw [State.putRw, getR_setR_self, Nat.testBit_mod_two_pow, testBit_masked, if_pos hrw, decide_eq_true hi, Bool.true_and]

/-! ### Enable and disable (R642) -/

theorem ringOn_eq (s : State) (r : Nat) : s.ringOn r = (s.getR (Reg.DEV_RING_CONFIG r)).testBit 9 := by
  rw [State.ringOn, State.getF, ← bit, Bool.eq_iff_iff, decide_eq_true_iff, bit_eq_true_iff]

/-- The enable bit of every ring is writable (R669). -/
theorem ringConfig_enable_rw : ∀ r < 35, (maskOf (Reg.DEV_RING_CONFIG r) (fun a => a = .rw)).testBit 9 = true := by decide

theorem putRw_ringOn {r : Nat} (hr : r < 35) (s : State) (v : Nat) : (s.putRw (Reg.DEV_RING_CONFIG r) v).ringOn r = v.testBit 9 := by
  rw [ringOn_eq, putRw_testBit s (by decide) (ringConfig_enable_rw r hr)]

theorem ringOn_congr {s t : State} {r : Nat} (h : t.getR (Reg.DEV_RING_CONFIG r) = s.getR (Reg.DEV_RING_CONFIG r)) : t.ringOn r = s.ringOn r := by
  rw [ringOn_eq, ringOn_eq, h]

theorem bit_enabled (v : Nat) : bit (v ||| 512) 9 = true := by
  rw [bit, Nat.testBit_or, (by decide : Nat.testBit 512 9 = true), Bool.or_true]

theorem bit_disabled (v : Nat) : bit (v % 2 ^ 32 - (v &&& 512)) 9 = false := by
  have hsame : v &&& 512 = v % 2 ^ 32 &&& 512 := by
    have hlt : v &&& 512 < 2 ^ 32 := Nat.and_lt_two_pow v (by decide)
    rw [← Nat.mod_eq_of_lt hlt, Nat.and_mod_two_pow]
  have h := testBit_masked (v % 2 ^ 32) 512 0 9
  rw [Nat.zero_and, Nat.add_zero, Nat.zero_testBit, ← hsame, if_pos (by decide)] at h
  exact h

/-- The registers of a ring that a rising enable leaves: its configuration as written, HEAD and TAIL 0, error clear. -/
def State.ringStarted (s : State) (r v : Nat) : State :=
  (((s.putRw (Reg.DEV_RING_CONFIG r) v).setR (Reg.DEV_RING_HEAD r) 0).setR (Reg.DEV_RING_TAIL r) 0).setF (Reg.DEV_RING_CONFIG r) 10 10 0

section Started

variable {r : Nat} (hr : r < 35) (s : State) (v : Nat)

theorem ring_regs_ne (r : Nat) : Reg.DEV_RING_CONFIG r ≠ Reg.DEV_RING_HEAD r ∧ Reg.DEV_RING_CONFIG r ≠ Reg.DEV_RING_TAIL r ∧
    Reg.DEV_RING_HEAD r ≠ Reg.DEV_RING_TAIL r := by
  unfold Reg.DEV_RING_CONFIG Reg.DEV_RING_HEAD Reg.DEV_RING_TAIL
  omega

include hr in
theorem ringStarted_ringOn : (s.ringStarted r v).ringOn r = v.testBit 9 := by
  obtain ⟨hhead, htail, -⟩ := ring_regs_ne r
  rw [← putRw_ringOn hr s v, State.ringStarted, State.ringOn, getF_setF_below _ _ _ _ _ _ _ (by decide) (by decide) (by decide) (by decide),
    getF_setR_ne htail, getF_setR_ne hhead, State.ringOn]

theorem ringStarted_error : (s.ringStarted r v).getF (Reg.DEV_RING_CONFIG r) 10 10 = 0 := getF_setF_self _ _ _ _ _ (by decide) (by decide)

theorem ringStarted_head : (s.ringStarted r v).getR (Reg.DEV_RING_HEAD r) = 0 := by
  obtain ⟨hhead, -, hne⟩ := ring_regs_ne r
  rw [State.ringStarted, getR_setF_ne hhead.symm, getR_setR_ne hne, getR_setR_self, Nat.zero_mod]

theorem ringStarted_tail : (s.ringStarted r v).getR (Reg.DEV_RING_TAIL r) = 0 := by
  obtain ⟨-, htail, -⟩ := ring_regs_ne r
  rw [State.ringStarted, getR_setF_ne htail.symm, getR_setR_self, Nat.zero_mod]

theorem ringStarted_host : (s.ringStarted r v).host = s.host := by simp only [State.ringStarted, setF_host, setR_host, State.putRw]

end Started

theorem written_blocked (s : State) (d v free : Nat) : (s.written d v free).host.blocked = s.host.blocked := by
  simp only [State.written, apply_ite State.host, State.accessIgnored, raise_host, ite_self]

section Config

variable {s : State} {r : Nat} (hr : r < 35) (h : s.answers (Reg.DEV_RING_CONFIG r) = true)
include hr h

/-- A rising enable starts the ring. -/
theorem ringConfig_rising (hoff : s.ringOn r = false) {v : Nat} (hv : bit v 9 = true) :
    ringConfig r v s = ((s.written (Reg.DEV_RING_CONFIG r) v 0).ringStarted r v).flushBlocked := by
  rw [ringConfig, if_neg (by omega)]
  simp only [hoff, hv, ctrlWrite_answered h]
  rfl

/-- A write that sets enable of an enabled ring is ignored with the fault of R13. -/
theorem ringConfig_held (hon : s.ringOn r = true) {v : Nat} (hv : bit v 9 = true) :
    ringConfig r v s = ({ s with host := { s.host with readLatch := none } } : State).accessIgnored (Reg.DEV_RING_CONFIG r) (v % 2 ^ 32) := by
  simp only [State.answers, Bool.and_eq_true, Bool.not_eq_true'] at h
  obtain ⟨hreset, hdecodes⟩ := h
  rw [ringConfig, if_neg (by omega)]
  simp only [hon, hv, hdecodes, hreset]
  rfl

/-- A write that clears enable is taken as it is. -/
theorem ringConfig_cleared {v : Nat} (hv : bit v 9 = false) :
    ringConfig r v s = (s.written (Reg.DEV_RING_CONFIG r) v 0).putRw (Reg.DEV_RING_CONFIG r) v := by
  rw [ringConfig, if_neg (by omega)]
  simp only [hv, ctrlWrite_answered h, Bool.and_false]
  rfl

end Config

/-! ### Head, tail, errors and fetches (R639 to R642, R646) -/

section Moves

variable {s : State} {r : Nat} (v : Nat)

theorem ringTailWrite_submit (h : s.answers (Reg.DEV_RING_TAIL r) = true) (hr : r < 16) :
    ringTailWrite r v s = (s.written (Reg.DEV_RING_TAIL r) v (2 ^ 32 - 1)).setR (Reg.DEV_RING_TAIL r) v := by
  rw [ringTailWrite, if_neg (by omega)]
  simp only [submitRing, hr, decide_true, if_true, ctrlWrite_answered h]

theorem ringTailWrite_held (h : s.answers (Reg.DEV_RING_TAIL r) = true) (hr : r < 35) (h16 : 16 ≤ r) :
    ringTailWrite r v s = s.written (Reg.DEV_RING_TAIL r) v 0 := by
  rw [ringTailWrite, if_neg (by omega)]
  simp only [submitRing, not_lt.mpr h16, decide_false, Bool.false_eq_true, if_false, ctrlWrite_answered h, id_eq]

theorem ringHeadWrite_held (h : s.answers (Reg.DEV_RING_HEAD r) = true) (hr : r < 16) :
    ringHeadWrite r v s = s.written (Reg.DEV_RING_HEAD r) v 0 := by
  rw [ringHeadWrite, if_neg (by omega)]
  simp only [submitRing, hr, decide_true, if_true, ctrlWrite_answered h, id_eq]

theorem ringHeadWrite_freed (h : s.answers (Reg.DEV_RING_HEAD r) = true) (hr : r < 35) (h16 : 16 ≤ r) :
    ringHeadWrite r v s = ((s.written (Reg.DEV_RING_HEAD r) v (2 ^ 32 - 1)).setR (Reg.DEV_RING_HEAD r) v).flushBlocked := by
  rw [ringHeadWrite, if_neg (by omega)]
  simp only [submitRing, not_lt.mpr h16, decide_false, Bool.false_eq_true, if_false, ctrlWrite_answered h]

theorem ringDma_off (h : s.ringOn r = false) : ringDma r s = s := if_pos (by simp [h])

/-- A DMA error marks the ring, stops it and is raised. -/
theorem ringDma_on (hr : r < 35) (hreset : s.boot.inReset = false) (h : s.ringOn r = true) : ringDma r s =
    ((s.setF (Reg.DEV_RING_CONFIG r) 10 10 1).setF (Reg.DEV_RING_CONFIG r) 9 9 0).raise fltRingDma (subjUnit 0 0 r) := by
  have hr' : ¬ 35 ≤ r := by omega
  exact if_neg (by simp [hr', hreset, h])

theorem messageFetch_empty (typ q target : Nat) (h : s.ringUsed r = 0) : messageFetch r typ q target s = s := if_pos (by simp [h])

/-- A message is fetched where a submit ring has one, holds no reply back and the tick has room. -/
theorem messageFetch_fetched (typ q target : Nat) (hr : r < 16) (hup : s.up = true) (hwarm : s.boot.warmRun = false) (hon : s.ringOn r = true)
    (hused : s.ringUsed r ≠ 0) (hheld : s.host.blocked.any (fun b => b.dst.src = .ring r) = false) (hroom : s.host.fetched < 4096) :
    messageFetch r typ q target s =
      { s.incR (Reg.DEV_RING_HEAD r) with
        host := { s.host with
          arrived := s.host.arrived ++ [{ src := .ring r, typ := typ, seq := q, target := target, tick := s.now, gen := s.host.flrGen }]
          fetched := s.host.fetched + 1 } } := by
  have hroom' : ¬ 4096 ≤ s.host.fetched := by omega
  have hopen : (!submitRing r || !s.up || s.boot.warmRun || !s.ringOn r || decide (s.ringUsed r = 0) ||
      s.host.blocked.any (fun b => b.dst.src = .ring r) || decide (4096 ≤ s.host.fetched)) = false := by
    simp only [submitRing, hr, hup, hwarm, hon, hused, hheld, hroom']
    rfl
  exact if_neg (ne_true_of_eq_false hopen)

end Moves

/-! ### The function-level reset (R636) -/

/-- Every ring disabled. -/
def State.ringsOff (s : State) : State := s.each (upTo 35) (fun s r => s.setF (Reg.DEV_RING_CONFIG r) 9 9 0)

theorem setF_disable_ringOn (w : State) (r : Nat) : (w.setF (Reg.DEV_RING_CONFIG r) 9 9 0).ringOn r = false := by
  rw [State.ringOn, getF_setF_self _ _ _ _ _ (by decide) (by decide)]
  rfl

theorem ringsOff_ringOn {r : Nat} (hr : r < 35) (s : State) : s.ringsOff.ringOn r = false := by
  have hstays : ∀ (w : State) y, w.ringOn r = false → (w.setF (Reg.DEV_RING_CONFIG y) 9 9 0).ringOn r = false := by
    intro w y hw
    by_cases hy : y = r
    · rw [hy, setF_disable_ringOn]
    · rw [State.ringOn, getF_setF_ne (by unfold Reg.DEV_RING_CONFIG; omega), ← State.ringOn, hw]
  have hmem : r ∈ upTo 35 := by rw [upTo, List.mem_range]; exact hr
  unfold State.ringsOff
  generalize upTo 35 = rs at hmem
  exact each_establishes (P := fun w => w.ringOn r = false) (f := fun w y => w.setF (Reg.DEV_RING_CONFIG y) 9 9 0) (x := r) (fun w => setF_disable_ringOn w r) hstays hmem s

theorem ringsOff_hostStatus (s : State) : s.ringsOff.getR Reg.DEV_HOST_STATUS = s.getR Reg.DEV_HOST_STATUS :=
  each_getR _ _ _ (fun w y => getR_setF_ne (by unfold Reg.DEV_HOST_STATUS Reg.DEV_RING_CONFIG; omega) w _ _ _) s

/-- Disabling rings moves registers alone. -/
theorem ringsOff_keeps {β : Type} (g : State → β) (h : ∀ (w : State) d v, g (w.setR d v) = g w) (s : State) : g s.ringsOff = g s :=
  each_keeps g (fun w _ => h w _ _) _ s

/-- The reset counted, and the vectors' enable bit clear. -/
def State.flrCounted (s : State) : State :=
  (s.setF Reg.DEV_HOST_STATUS 7 7 0).setF Reg.DEV_HOST_STATUS 15 8 (Nat.min 255 (s.getF Reg.DEV_HOST_STATUS 15 8 + 1))

/-- Counting the reset moves registers alone. -/
theorem flrCounted_keeps {β : Type} (g : State → β) (h : ∀ (w : State) d v, g (w.setR d v) = g w) (s : State) : g s.flrCounted = g s :=
  (h _ _ _).trans (h _ _ _)

theorem flrCounted_getR {d : Nat} (h : d ≠ Reg.DEV_HOST_STATUS) (s : State) : s.flrCounted.getR d = s.getR d := by
  rw [State.flrCounted, getR_setF_ne h, getR_setF_ne h]

theorem flrCounted_count (s : State) : s.flrCounted.getF Reg.DEV_HOST_STATUS 15 8 = Nat.min 255 (s.getF Reg.DEV_HOST_STATUS 15 8 + 1) := by
  have hmod : ∀ n, Nat.min 255 n % 2 ^ (15 + 1 - 8) = Nat.min 255 n := fun n => Nat.mod_eq_of_lt (Nat.lt_succ_of_le (Nat.min_le_left 255 n))
  rw [State.flrCounted, getF_setF_self _ _ _ _ _ (by decide) (by decide), hmod]

/-- A function-level reset disables every ring, counts itself, clears MSI-X and the signals that wait, and drops the host's held replies. -/
theorem functionLevelReset_running {s : State} (h : s.boot.inReset = false) : ∃ blocked, functionLevelReset s =
    { s.ringsOff.flrCounted with
      host := { s.ringsOff.flrCounted.host with flrGen := s.ringsOff.flrCounted.host.flrGen + 1, msix := 0, irqPend := [], blocked := blocked } } := by
  rw [functionLevelReset, if_neg (ne_true_of_eq_false h)]
  generalize hu : s.each (upTo 35) (fun s r => s.setF (Reg.DEV_RING_CONFIG r) 9 9 0) = u
  rw [State.ringsOff, hu]
  exact ⟨_, rfl⟩

end Sys2Proof.Machine

open Sys2Proof Sys2Proof.Machine

/-- Settles O43: the ring's own registers survive what sending a held reply moves, so a ring is enabled, disabled and stopped as written
(notes/assumptions 8 and 19). -/
theorem ringsMoveAndStop : Obligations.RingsMoveAndStop := by
  intro r v s hr
  have hstatus : Reg.DEV_HOST_STATUS ∉ statusRegs := by decide
  refine ⟨fun h => ⟨fun h16 => ?_, fun h16 => ?_⟩, fun h => ⟨fun h16 => ?_, fun h16 => ?_⟩,
    fun h => ⟨fun hoff => ?_, fun hon => ?_, ?_⟩, fun hreset hon => ?_, fun hoff => ?_,
    fun typ q target h16 hup hwarm hon hused hheld hroom => ?_, fun typ q target hused => ?_, fun hreset => ?_⟩
  · exact finish_eq_after (ringTailWrite_submit v h h16)
  · exact finish_eq_after (ringTailWrite_held v h hr h16)
  · exact finish_eq_after (ringHeadWrite_held v h h16)
  · exact finish_eq_after (ringHeadWrite_freed v h hr h16)
  · refine ⟨_, finish_eq_after (ringConfig_rising hr h hoff (bit_enabled v)), ?_⟩
    have hkept : ∀ {d} (w : State), ringReg d → (s.after w.flushBlocked).getR d = w.getR d := fun w hd =>
      (after_getR_ne (ringReg_not_status hd) _ _).trans (flushBlocked_ringReg hd w)
    have hconfig := hkept ((s.written (Reg.DEV_RING_CONFIG r) (v ||| 512) 0).ringStarted r (v ||| 512)) (ringReg_config hr)
    refine ⟨(ringOn_congr hconfig).trans ((ringStarted_ringOn hr _ _).trans (bit_enabled v)),
      (hkept _ (ringReg_head hr)).trans (ringStarted_head _ _), ?_, fun hnone => ?_⟩
    · rw [State.getF, hconfig, ← State.getF, ringStarted_error]
    · rw [after_getR_ne (ringTail_not_status hr), flushBlocked_of_none, ringStarted_tail]
      rw [ringStarted_host, written_blocked, hnone]
  · exact finish_eq_after (ringConfig_held hr h hon (bit_enabled v))
  · refine ⟨_, finish_eq_after (ringConfig_cleared hr h (bit_disabled v)), ?_⟩
    exact (ringOn_congr (after_getR_ne (ringReg_not_status (ringReg_config hr)) _ _)).trans ((putRw_ringOn hr _ _).trans (bit_disabled v))
  · refine ⟨_, finish_eq_after (ringDma_on hr hreset hon), ?_⟩
    have hconfig := after_getR_ne (ringReg_not_status (ringReg_config hr)) s
      (((s.setF (Reg.DEV_RING_CONFIG r) 10 10 1).setF (Reg.DEV_RING_CONFIG r) 9 9 0).raise fltRingDma (subjUnit 0 0 r))
    rw [raise_ringReg (ringReg_config hr)] at hconfig
    refine ⟨?_, ?_, fun hup => ?_⟩
    · rw [ringOn_congr hconfig, State.ringOn, getF_setF_self _ _ _ _ _ (by decide) (by decide)]
      rfl
    · rw [State.getF, hconfig, ← State.getF, getF_setF_above _ _ _ _ _ _ _ (by decide) (by decide) (by decide),
        getF_setF_self _ _ _ _ _ (by decide) (by decide)]
      rfl
    · rw [after_faulted]
      exact raise_faulted (by rw [setF_boot, setF_boot, hup]) _ _ _
  · exact finish_eq_after (ringDma_off hoff)
  · refine ⟨_, finish_eq_after (messageFetch_fetched typ q target h16 hup hwarm hon hused hheld hroom), ?_⟩
    rw [after_getR_ne (ringReg_not_status (ringReg_head hr)), after_host]
    exact ⟨getR_incR_self s _ 1, rfl, rfl⟩
  · exact finish_eq_after (messageFetch_empty typ q target hused)
  · obtain ⟨blocked, heq⟩ := functionLevelReset_running hreset
    have hkept : ∀ {β : Type} (g : State → β), (∀ (w : State) d v, g (w.setR d v) = g w) → g s.ringsOff.flrCounted = g s :=
      fun g hg => (flrCounted_keeps g hg _).trans (ringsOff_keeps g hg s)
    refine ⟨_, finish_eq_after heq, ?_, by rw [after_host], by rw [after_host], ?_, ?_, ?_, ?_, ?_, ?_⟩
    · rw [ringOn_congr (after_getR_ne (ringReg_not_status (ringReg_config hr)) _ _), ← ringsOff_ringOn hr s]
      have hne : Reg.DEV_RING_CONFIG r ≠ Reg.DEV_HOST_STATUS := by unfold Reg.DEV_RING_CONFIG Reg.DEV_HOST_STATUS; omega
      exact ringOn_congr ((getR_host _ _ _).trans (flrCounted_getR hne _))
    · rw [after_host, hkept State.host setR_host]
    · rw [after_getF hstatus, State.getF, getR_host, ← State.getF, flrCounted_count, State.getF, ringsOff_hostStatus, ← State.getF]
    · rw [after_legs, hkept State.legs setR_legs]
    · rw [after_folds, hkept State.folds setR_folds]
    · rw [after_tly, hkept State.tly setR_tly]
    · rw [after_mem, hkept State.mem setR_mem]
end

section
/-!
PROOFS. Time (R494, R498 to R500, R504, R506): what the status register shows of the selection, what the terms and the record of a boundary
move, and the events of the timebase.
-/

namespace Sys2Proof.Machine

/-! ### The end of a command, and TIME_TB_STATUS -/

/-- The end of a command moves the grid bit of TIME_TB_STATUS alone. -/
theorem after_tbStatus_getR (s t : State) :
    (s.after t).getR Reg.TIME_TB_STATUS = (t.setF Reg.TIME_TB_STATUS 4 4 (b2n t.tim.valid)).getR Reg.TIME_TB_STATUS := by
  have hother : ∀ d ∈ [Reg.TWN_PAIR_STATUS, Reg.TWN_EPOCH, Reg.MGT_TALLY_SEQ, Reg.DEV_TICK_STATUS, Reg.DEV_TICK_NUMBER,
      Reg.DEV_TICK_NUMBER + 1], Reg.TIME_TB_STATUS ≠ d := by decide
  simp only [List.forall_mem_cons] at hother
  obtain ⟨hpair, hepoch, hrecord, hsecond, htick, htick', -⟩ := hother
  simp only [State.after, getR_pending, State.showStatus, getR_setR_ne hrecord, getR_setR_ne hepoch, getR_setF_ne hpair]
  simp only [State.setF, getR_setR_self, getR_setR_ne hsecond, getR_setR64_ne htick htick']

theorem after_tbStatus_below (s t : State) {hi lo : Nat} (h : hi < 4) (hl : lo ≤ hi) :
    (s.after t).getF Reg.TIME_TB_STATUS hi lo = t.getF Reg.TIME_TB_STATUS hi lo := by
  rw [State.getF, after_tbStatus_getR, ← State.getF, getF_setF_below _ _ _ _ _ _ _ (by decide) (by decide) h hl]

theorem after_tbStatus_above (s t : State) {hi lo : Nat} (h : 4 < lo) :
    (s.after t).getF Reg.TIME_TB_STATUS hi lo = t.getF Reg.TIME_TB_STATUS hi lo := by
  rw [State.getF, after_tbStatus_getR, ← State.getF, getF_setF_above _ _ _ _ _ _ _ (by decide) (by decide) h]

/-! ### Terms and the record of the boundary -/

theorem getR_tim (s : State) (x : TimSt) (d : Nat) : ({ s with tim := x } : State).getR d = s.getR d := rfl

/-- The registers that show the timebase's terms (R509). -/
def termRegs : List Nat :=
  [Reg.TIME_TB_INCREMENT, Reg.TIME_TB_INCREMENT + 1, Reg.TIME_TB_FREQ, Reg.TIME_TB_PHASE, Reg.TIME_TB_RESIDUAL, Reg.TIME_TB_RESIDUAL + 1]

/-- The record of a boundary is kept with the timebase's other records; its terms are shown in their registers. -/
theorem relatch_eq (s : State) : ∃ recs, s.relatch = ({ s with tim := { s.tim with recs := recs } } : State).showTerms := ⟨_, rfl⟩

theorem showTerms_keeps {β : Type} (g : State → β) (h : ∀ (w : State) d v, g (w.setR d v) = g w) (s : State) : g s.showTerms = g s := by
  simp only [State.showTerms, State.setR64, h]

theorem relatch_getR {d : Nat} (h : d ∉ termRegs) (s : State) : s.relatch.getR d = s.getR d := by
  simp only [termRegs, List.mem_cons, List.not_mem_nil, or_false, not_or] at h
  obtain ⟨hinc, hinc', hfreq, hphase, hres, hres'⟩ := h
  obtain ⟨recs, hrecs⟩ := relatch_eq s
  rw [hrecs]
  simp only [State.showTerms, getR_setR64_ne hres hres', getR_setR_ne hphase, getR_setR_ne hfreq, getR_setR64_ne hinc hinc', getR_tim]

theorem relatch_tim (s : State) : ∃ recs, s.relatch.tim = { s.tim with recs := recs } := by
  obtain ⟨recs, hrecs⟩ := relatch_eq s
  exact ⟨recs, by rw [hrecs, showTerms_keeps State.tim setR_tim]⟩

theorem relatch_boot (s : State) : s.relatch.boot = s.boot := by
  obtain ⟨recs, hrecs⟩ := relatch_eq s
  rw [hrecs, showTerms_keeps State.boot setR_boot]

/-! ### The selected source -/

section Source

variable (s : State)

@[simp] theorem setSource_tim (k : Nat) : (s.setSource k).tim = s.tim := by simp only [State.setSource, setF_tim]

@[simp] theorem setSource_boot (k : Nat) : (s.setSource k).boot = s.boot := by simp only [State.setSource, setF_boot]

@[simp] theorem setHoldover_tim (b : Bool) : (s.setHoldover b).tim = s.tim := by simp only [State.setHoldover, setF_tim]

@[simp] theorem setHoldover_boot (b : Bool) : (s.setHoldover b).boot = s.boot := by simp only [State.setHoldover, setF_boot]

theorem setSource_tbStatus (k : Nat) : (s.setSource k).getR Reg.TIME_TB_STATUS = (s.setF Reg.TIME_TB_STATUS 1 0 k).getR Reg.TIME_TB_STATUS := by
  rw [State.setSource, getR_setF_ne (by decide), getR_setF_ne (by decide)]

theorem setSource_selSource (k : Nat) : (s.setSource k).selSource = k % 4 := by
  rw [State.selSource, State.getF, setSource_tbStatus, ← State.getF, getF_setF_self _ _ _ _ _ (by decide) (by decide)]
  rfl

theorem setHoldover_tbStatus (b : Bool) :
    (s.setHoldover b).getR Reg.TIME_TB_STATUS = (s.setF Reg.TIME_TB_STATUS 2 2 (b2n b)).getR Reg.TIME_TB_STATUS := by
  rw [State.setHoldover, getR_setF_ne (by decide)]

theorem setHoldover_selSource (b : Bool) : (s.setHoldover b).selSource = s.selSource := by
  rw [State.selSource, State.getF, setHoldover_tbStatus, ← State.getF, getF_setF_below _ _ _ _ _ _ _ (by decide) (by decide) (by decide) (by decide),
    State.selSource]

theorem setHoldover_shown (b : Bool) : (s.setHoldover b).getF Reg.TIME_TB_STATUS 2 2 = b2n b := by
  rw [State.getF, setHoldover_tbStatus, ← State.getF, getF_setF_self _ _ _ _ _ (by decide) (by decide)]
  exact Nat.mod_eq_of_lt (b2n_lt_two b)

variable {s}

theorem srcFit_congr {t : State} (h : t.tim = s.tim) (k : Nat) : t.srcFit k = s.srcFit k := by
  simp only [State.srcFit, State.srcMeas, State.dom, h]

theorem srcTheta_congr {t : State} (h : t.tim = s.tim) (k : Nat) : t.srcTheta k = s.srcTheta k := by
  simp only [State.srcTheta, srcFit_congr h, State.xNow, State.tbVal, h]

end Source

/-! ### Selection and holdover (R498, R500) -/

/-- Source `w` selected, out of holdover, with the terms that it gives. -/
def State.sourced (s : State) (w : Nat) : State := ((s.setSource w).setHoldover false).putTerms

section Select

variable {s : State}

theorem sourced_tim (w : Nat) : (s.sourced w).tim =
    { s.tim with
      theta := s.srcTheta (w % 4)
      f := clampI (-200000000) 200000000 (s.srcFit (w % 4)).freq
      p := clampI (-10000000) 10000000 (100 * s.srcTheta (w % 4)) } := by
  have htim : ((s.setSource w).setHoldover false).tim = s.tim := by rw [setHoldover_tim, setSource_tim]
  have hsel : ((s.setSource w).setHoldover false).selSource = w % 4 := by rw [setHoldover_selSource, setSource_selSource]
  simp only [State.sourced, State.putTerms, hsel, srcTheta_congr htim, srcFit_congr htim, htim]

theorem sourced_getR (w d : Nat) : (s.sourced w).getR d = ((s.setSource w).setHoldover false).getR d := by
  rw [State.sourced, State.putTerms, getR_tim]

theorem putTerms_boot (u : State) : u.putTerms.boot = u.boot := rfl

theorem sourced_boot (w : Nat) : (s.sourced w).boot = s.boot :=
  (putTerms_boot _).trans ((setHoldover_boot (s.setSource w) false).trans (setSource_boot s w))

end Select

section Switched

/-- What a switch to source `w` leaves, its record made anew with `hist` as the frequencies of the last ticks. -/
def State.switched (s : State) (w : Nat) (hist : List Int) : State :=
  (({ s.sourced w with tim := { (s.sourced w).tim with fHist := hist } } : State).relatch.incR Reg.TIME_SWITCHES).raise fltSourceSwitch subjNone

variable (s : State) (w : Nat) (hist : List Int)

theorem switched_getR {d : Nat} (hterm : d ∉ termRegs) (hcount : d ≠ Reg.TIME_SWITCHES) (hover : d ≠ Reg.BOOT_FAULT_OVERFLOW) :
    (s.switched w hist).getR d = ((s.setSource w).setHoldover false).getR d := by
  rw [State.switched, (State.KeepsFrame.raise _ _ _ _).regs d hover, getR_incR_ne hcount, relatch_getR hterm, getR_tim, sourced_getR]

theorem switched_tim : ∃ recs, (s.switched w hist).tim = { (s.sourced w).tim with fHist := hist, recs := recs } := by
  obtain ⟨recs, hrecs⟩ := relatch_tim ({ s.sourced w with tim := { (s.sourced w).tim with fHist := hist } } : State)
  exact ⟨recs, by rw [State.switched, raise_tim, incR_tim, hrecs]⟩

theorem switched_count : (s.switched w hist).getR Reg.TIME_SWITCHES = (s.getR Reg.TIME_SWITCHES + 1) % 2 ^ 32 := by
  rw [State.switched, (State.KeepsFrame.raise _ _ _ _).regs _ (by decide), getR_incR_self, relatch_getR (by decide), getR_tim, sourced_getR,
    State.setHoldover, getR_setF_ne (by decide), getR_setF_ne (by decide), State.setSource, getR_setF_ne (by decide), getR_setF_ne (by decide),
    getR_setF_ne (by decide)]

theorem switched_faulted (h : s.boot.warmRun = false) : (s.switched w hist).faulted fltSourceSwitch subjNone = true := by
  refine raise_faulted ?_ _ _ _
  rw [incR_boot, relatch_boot, sourced_boot, h]

end Switched

section Events

variable {s : State}

theorem sourceSwitch_idle (h : s.tim.valid = false ∨ s.wantSource = 0 ∨ s.wantSource = s.selSource) : sourceSwitch s = s := by
  refine if_pos ?_
  obtain h | h | h := h <;> simp [h]

/-- The source that is wanted is selected, and the boundary's record is made anew. -/
theorem sourceSwitch_selects (hvalid : s.tim.valid = true) (hw : s.wantSource ≠ 0) (hne : s.wantSource ≠ s.selSource) : ∃ hist,
    sourceSwitch s = s.switched s.wantSource hist :=
  ⟨_, if_neg (by simp [hvalid, hw, hne])⟩

theorem holdover_idle (h : s.tim.valid = false ∨ s.wantSource ≠ 0 ∨ s.getF Reg.TIME_TB_STATUS 2 2 = 1) : holdover s = s := by
  refine if_pos ?_
  obtain h | h | h := h <;> simp [h]

/-- The mean frequency of the last ticks, or the one in force. -/
def State.meanFreq (s : State) : Int := if s.tim.fHist = [] then s.tim.f else s.tim.fHist.foldl (· + ·) 0 / s.tim.fHist.length

theorem holdover_holds (hvalid : s.tim.valid = true) (hw : s.wantSource = 0) (hnot : s.getF Reg.TIME_TB_STATUS 2 2 = 0) :
    holdover s = ((({ s with tim := { s.tim with f := s.meanFreq, p := 0 } } : State).relatch.setSource 0).setHoldover true).raise
      fltHoldover subjNone :=
  if_neg (by simp [hvalid, hw, hnot])

end Events

/-! ### The timebase set and stepped (R498, R499) -/

theorem setTb_tbVal (s : State) (v : Nat) : (s.setTb v).tbVal = v := by
  simp only [State.setTb, State.tbVal]
  omega

theorem setTb_getR (s : State) (v d : Nat) : (s.setTb v).getR d = s.getR d := rfl

section Step

variable {s : State}

theorem timebaseInitialSet_idle (n : Nat) (h : s.tim.valid = true ∨ s.tim.startNext = true ∨ s.ranks.find? s.locked = none) :
    timebaseInitialSet n s = s := by
  unfold timebaseInitialSet
  split
  · rfl
  · rename_i hset
    simp only [Bool.or_eq_true, not_or] at hset
    rw [(h.resolve_left hset.1).resolve_left hset.2]

/-- The timebase takes the source's time at the count, and its frequency. -/
theorem timebaseInitialSet_sets (n : Nat) {k : Nat} (hvalid : s.tim.valid = false) (hstart : s.tim.startNext = false)
    (hk : s.ranks.find? s.locked = some k) : timebaseInitialSet n s =
      (let u := (s.setTb (((s.srcFit k).at_ (40 * (n : Int)) + 40 * (n : Int)).toNat * 2 ^ 27)).setSource k
      { u with tim := { u.tim with count := n, f := clampI (-200000000) 200000000 (s.srcFit k).freq, p := 0, startNext := true } }) := by
  unfold timebaseInitialSet
  rw [if_neg (by simp [hvalid, hstart]), hk]

/-- The approval that waits is taken away. -/
def State.unapproved (s : State) : State := { s with tim := { s.tim with stepAt := none } }

theorem timeStep_none (h : s.tim.stepAt = none) : timeStep s = s := by
  rw [timeStep, h]

variable {ta src : Nat} {rto : ReplyTo}

theorem timeStep_early (h : s.tim.stepAt = some (ta, src, rto)) (hearly : s.now < ta) : timeStep s = s := by
  rw [timeStep, h]
  exact if_pos hearly

/-- An approval whose step cannot be made at its boundary ends ABORTED. -/
theorem timeStep_aborted (h : s.tim.stepAt = some (ta, src, rto)) (hdue : ta ≤ s.now)
    (hnot : ta < s.now ∨ s.getF Reg.TIME_TB_STATUS 3 3 ≠ 1 ∨ s.selSource ≠ src ∨ (s.liveLegs ≠ [] ∧ s.boot.maint = false)) :
    timeStep s = s.unapproved.reply rto stAborted := by
  have hcond : ¬ (decide (s.now = ta) && decide (s.getF Reg.TIME_TB_STATUS 3 3 = 1) && decide (s.selSource = src) &&
      (decide (s.liveLegs = []) || s.boot.maint)) = true := by
    simp only [Bool.and_eq_true, Bool.or_eq_true, decide_eq_true_eq]
    rintro ⟨⟨⟨hnow, hpending⟩, hsel⟩, hlegs⟩
    obtain hlt | hp | hs | ⟨hl, hm⟩ := hnot
    · omega
    · exact hp hpending
    · exact hs hsel
    · rw [hm] at hlegs
      exact hl (hlegs.resolve_right Bool.noConfusion)
  rw [timeStep, h]
  exact (if_neg (by omega)).trans (if_neg hcond)

/-- What is left of the source's offset once the timebase stands at tick `t`. -/
def State.stepRest (s : State) (t : Nat) : Int := s.tim.theta - ((tickNs t : Int) - tickNs s.now)

/-- The timebase and its terms at the boundary of tick `t`. -/
def State.stepTb (s : State) (t : Nat) : State :=
  ({ s with tim := { s.tim with tick := t, theta := s.stepRest t, p := clampI (-10000000) 10000000 (100 * s.stepRest t) } } : State).setTb
    (tickNs t * 2 ^ 32)

/-- The timebase moved to the boundary of tick `t`, whose record is made anew. -/
def State.stepped (s : State) (t : Nat) : State :=
  (s.stepTb t).relatch

/-- The step counted and shown. -/
def State.stepShown (s : State) (t : Nat) : State :=
  (((s.setF Reg.TIME_TB_STATUS 3 3 0).incR Reg.TIME_STEPS).setR64 Reg.DEV_TICK_NUMBER t).setF Reg.DEV_TICK_STATUS 9 0 (t % 600)

section Stepped

variable (s) (t : Nat)

theorem stepped_tim : ∃ recs, (s.stepped t).tim = { (s.stepTb t).tim with recs := recs } := relatch_tim _

theorem stepped_now : (s.stepped t).now = t := by
  obtain ⟨recs, htim⟩ := stepped_tim s t
  rw [State.now, htim]
  rfl

theorem stepped_stepAt : (s.stepped t).tim.stepAt = s.tim.stepAt := by
  obtain ⟨recs, htim⟩ := stepped_tim s t
  rw [htim]
  rfl

theorem stepped_tbVal : (s.stepped t).tbVal = tickNs t * 2 ^ 32 := by
  obtain ⟨recs, htim⟩ := stepped_tim s t
  have hset : (s.stepTb t).tbVal = tickNs t * 2 ^ 32 := setTb_tbVal _ _
  rw [State.tbVal, htim, ← hset, State.tbVal]

theorem stepped_getR {d : Nat} (h : d ∉ termRegs) : (s.stepped t).getR d = s.getR d := by
  rw [State.stepped, relatch_getR h, State.stepTb, setTb_getR, getR_tim]

theorem stepShown_tim : (s.stepShown t).tim = s.tim := by
  simp only [State.stepShown, setF_tim, setR64_tim, incR_tim]

theorem stepShown_pending : (s.stepShown t).getF Reg.TIME_TB_STATUS 3 3 = 0 := by
  rw [State.stepShown, getF_setF_ne (by decide), State.getF, getR_setR64_ne (by decide) (by decide), getR_incR_ne (by decide), ← State.getF,
    getF_setF_self _ _ _ _ _ (by decide) (by decide), Nat.zero_mod]

theorem stepShown_count : (s.stepShown t).getR Reg.TIME_STEPS = (s.getR Reg.TIME_STEPS + 1) % 2 ^ 32 := by
  rw [State.stepShown, getR_setF_ne (by decide), getR_setR64_ne (by decide) (by decide), getR_incR_self, getR_setF_ne (by decide)]

end Stepped

theorem timeStep_steps (h : s.tim.stepAt = some (s.now, src, rto)) (hpending : s.getF Reg.TIME_TB_STATUS 3 3 = 1) (hsel : s.selSource = src)
    (hlegs : s.liveLegs = [] ∨ s.boot.maint = true) : timeStep s =
      (let t := ((s.now : Int) + roundDivI (3 * s.tim.theta) 5000000).toNat
      ((s.unapproved.stepped t).stepShown t).reply rto stOK) := by
  have hcond : (decide (s.now = s.now) && decide (s.getF Reg.TIME_TB_STATUS 3 3 = 1) && decide (s.selSource = src) &&
      (decide (s.liveLegs = []) || s.boot.maint)) = true := by simp [hpending, hsel, hlegs]
  rw [timeStep, h]
  exact (if_neg (Nat.lt_irrefl _)).trans (if_pos hcond)

end Step

/-! ### The approval of a step (R498) -/

/-- An approval that waits ends ABORTED when another takes its place. -/
def State.approvalEnded (s : State) : State :=
  match s.tim.stepAt with
  | some (_, _, r) => s.reply r stAborted
  | none => s

theorem approvalEnded_reports (s : State) : s.Reports s.approvalEnded := by
  unfold State.approvalEnded
  split
  · exact .reply _ _ _ _
  · exact .refl s

theorem selSource_of_reports {s t : State} (h : s.Reports t) : t.selSource = s.selSource := h.field (by decide) 1 0

theorem taken_getR (s : State) (m : Msg) (typ d : Nat) : (s.taken m typ).getR d = s.getR d := by
  obtain ⟨x, hx⟩ := taken_eq s m typ
  rw [hx, getR_host]

theorem taken_getF (s : State) (m : Msg) (typ d hi lo : Nat) : (s.taken m typ).getF d hi lo = s.getF d hi lo := by
  rw [State.getF, taken_getR, State.getF]

/-! ### Leap seconds, and the lost reference (R494, R506) -/

/-- A leap that an announcement calls for is made at the second it is due. -/
theorem leapSecond_leaps {s : State} (hvalid : s.tim.valid = true) (hgrid : s.now % 600 = 0)
    (hmidnight : (((s.now / 600 : Nat) : Int) - s.utcNow) % 86400 = 0) (hleap : s.srcLeap.1 = true ∨ s.srcLeap.2 = true) (honce : s.tim.utcLeap = 0) :
    leapSecond s = ({ s with tim := { s.tim with utcLeap := if s.srcLeap.1 then 1 else -1 } } : State).setF Reg.TIME_UTC 15 0
      (toBits 16 (s.utcNow + if s.srcLeap.1 then 1 else -1)) := by
  unfold leapSecond
  revert hleap
  obtain ⟨l61, l59⟩ := s.srcLeap
  exact fun hleap => if_pos (by simpa [hvalid, hgrid, honce] using And.intro hmidnight hleap)

theorem leapSecond_idle {s : State} (h : ¬ (s.tim.valid = true ∧ s.now % 600 = 0 ∧ (((s.now / 600 : Nat) : Int) - s.utcNow) % 86400 = 0 ∧
    (s.srcLeap.1 = true ∨ s.srcLeap.2 = true) ∧ s.tim.utcLeap = 0)) : leapSecond s = s := by
  unfold leapSecond
  revert h
  obtain ⟨l61, l59⟩ := s.srcLeap
  exact fun h => if_neg (by simpa [and_assoc] using h)

/-- A fatal fault is not kept back in a warm run (R557). -/
theorem raise_faulted_fatal {code : Nat} (h : classOf code = 4) (s : State) (subject : Nat) (detail : List (Nat × Nat)) :
    (s.raise code subject detail).faulted code subject = true := by
  simp only [State.raise, h, bne_self_eq_false, Bool.and_false, Bool.false_eq_true, if_false]
  exact queueFault_faulted s _

end Sys2Proof.Machine

open Sys2Proof Sys2Proof.Machine

/-- Settles O47: each event of the timebase moves its terms and the status register as the events' own lemmas say (notes/assumptions 38
and 49). -/
theorem timeSelectsHoldsAndSteps : Obligations.TimeSelectsHoldsAndSteps := by
  intro s
  refine ⟨fun m k h => finish_served h rfl, fun hvalid hw hne => ?_, fun h => finish_eq_after (sourceSwitch_idle h),
    fun hvalid hw hnot => ?_, fun h => finish_eq_after (holdover_idle h), fun n k hvalid hstart hk => ?_,
    fun n h => finish_eq_after (timebaseInitialSet_idle n h), fun m ta h => ?_, fun h => finish_eq_after (timeStep_none h),
    fun ta src rto h hearly => finish_eq_after (timeStep_early h hearly), fun src rto h hpending hsel hlegs => ?_,
    fun ta src rto h hdue hnot => finish_eq_after (timeStep_aborted h hdue hnot), ?_, fun up => rfl, ?_, ?_⟩
  · obtain ⟨hist, heq⟩ := sourceSwitch_selects hvalid hw hne
    obtain ⟨recs, htim⟩ := switched_tim s s.wantSource hist
    have hstatus := switched_getR s s.wantSource hist (d := Reg.TIME_TB_STATUS) (by decide) (by decide) (by decide)
    refine ⟨_, finish_eq_after heq, ?_, ?_, ?_, ?_, ?_, ?_, ?_, fun hup => (after_faulted _ _ _ _).trans (switched_faulted s _ hist hup)⟩
    · rw [State.selSource, after_tbStatus_below _ _ (by decide) (by decide), State.getF, hstatus, ← State.getF, ← State.selSource,
        setHoldover_selSource, setSource_selSource]
    · rw [after_tbStatus_below _ _ (by decide) (by decide), State.getF, hstatus, ← State.getF, setHoldover_shown]
      rfl
    · rw [after_getR_ne (by decide), switched_count]
    · rw [after_tim, htim, sourced_tim]
    · rw [after_tim, htim, sourced_tim]
    · simp only [State.tbVal, after_tim, htim, sourced_tim]
    · simp only [State.now, after_tim, htim, sourced_tim]
  · obtain ⟨recs, htim⟩ := relatch_tim ({ s with tim := { s.tim with f := s.meanFreq, p := 0 } } : State)
    have hstatus := (State.KeepsFrame.raise
      ((({ s with tim := { s.tim with f := s.meanFreq, p := 0 } } : State).relatch.setSource 0).setHoldover true) fltHoldover subjNone []).regs
      Reg.TIME_TB_STATUS (by decide)
    refine ⟨_, finish_eq_after (holdover_holds hvalid hw hnot), ?_, ?_, ?_, ?_, ?_, ?_, fun hup => ?_⟩
    · rw [after_tim, raise_tim, setHoldover_tim, setSource_tim, htim]
      rfl
    · rw [after_tim, raise_tim, setHoldover_tim, setSource_tim, htim]
    · simp only [State.tbVal, after_tim, raise_tim, setHoldover_tim, setSource_tim, htim]
    · simp only [State.now, after_tim, raise_tim, setHoldover_tim, setSource_tim, htim]
    · rw [State.selSource, after_tbStatus_below _ _ (by decide) (by decide), State.getF, hstatus, ← State.getF, ← State.selSource,
        setHoldover_selSource, setSource_selSource]
    · rw [after_tbStatus_below _ _ (by decide) (by decide), State.getF, hstatus, ← State.getF, setHoldover_shown]
      rfl
    · rw [after_faulted]
      exact raise_faulted (by rw [setHoldover_boot, setSource_boot, relatch_boot, hup]) _ _ _
  · refine ⟨_, finish_eq_after (timebaseInitialSet_sets n hvalid hstart hk), ?_, ?_, ?_, ?_, ?_, ?_⟩
    · rw [after_tim]
    · rw [after_tim]
    · rw [after_tim]
    · rw [after_tim]
    · refine Eq.trans ?_ (setTb_tbVal s _)
      simp only [State.tbVal, after_tim, setSource_tim]
    · rw [State.selSource, after_tbStatus_below _ _ (by decide) (by decide), State.getF, getR_tim, ← State.getF, ← State.selSource,
        setSource_selSource]
  · intro u rto
    have hpending : u.getF Reg.TIME_TB_STATUS 3 3 = s.getF Reg.TIME_TB_STATUS 3 3 := taken_getF s m _ _ _ _
    have hnow : u.now = s.now := by
      obtain ⟨x, hx⟩ := taken_eq s m 0x0202
      simp only [u, hx, State.now]
    refine ⟨fun hno => finish_served h (if_pos (hpending.trans hno)),
      fun hpend hsoon => finish_served h ((if_neg (hpending ▸ hpend)).trans (if_pos (hnow ▸ hsoon))),
      fun hpend hfar => ⟨({ u.approvalEnded with tim := { u.approvalEnded.tim with stepAt := some (ta, u.approvalEnded.selSource, rto) } } : State) |> s.after,
        finish_served h ((if_neg (hpending ▸ hpend)).trans (if_neg (by rw [hnow]; omega))), ?_⟩⟩
    rw [after_tim, selSource_of_reports (approvalEnded_reports u), State.selSource, taken_getF, State.selSource]
  · set n := ((s.now : Int) + roundDivI (3 * s.tim.theta) 5000000).toNat with hn
    have htim : (s.after (((s.unapproved.stepped n).stepShown n).reply rto stOK)).tim = (s.unapproved.stepped n).tim := by
      rw [after_tim, reply_tim, stepShown_tim]
    have htick : (s.after (((s.unapproved.stepped n).stepShown n).reply rto stOK)).tim.tick = n := by rw [htim]; exact stepped_now _ n
    refine ⟨_, finish_eq_after (timeStep_steps h hpending hsel hlegs), ?_, htick, ?_, ?_, ?_⟩
    · rw [htim, stepped_stepAt]
      rfl
    · rw [htick, State.tbVal, htim, ← State.tbVal, stepped_tbVal]
    · rw [after_tbStatus_below _ _ (by decide) (by decide), (State.Reports.reply _ _ _ _).field (by decide), stepShown_pending]
    · rw [after_getR_ne (by decide), (State.Reports.reply _ _ _ _).regs _ (by decide), stepShown_count, stepped_getR _ _ (by decide)]
      rfl
  · refine ⟨fun ⟨hvalid, hgrid, hmidnight, hleap, honce⟩ => ⟨_, finish_eq_after (leapSecond_leaps hvalid hgrid hmidnight hleap honce), ?_⟩,
      fun h => finish_eq_after (leapSecond_idle h)⟩
    rw [after_getF (by decide), getF_setF_self _ _ _ _ _ (by decide) (by decide)]
    exact Nat.mod_eq_of_lt (toBits_lt 16 _)
  · refine finish_eq_after ?_
    unfold todOutFrame
    cases s.tim.valid <;> rfl
  · refine ⟨_, finish_after _ _, ?_, ?_⟩
    · rw [after_tbStatus_above _ _ (by decide), State.getF, (State.KeepsFrame.raise _ _ _ _).regs _ (by decide), ← State.getF,
        getF_setF_self _ _ _ _ _ (by decide) (by decide)]
      rfl
    · rw [after_faulted]
      exact raise_faulted_fatal rfl _ _ _
end

section
/-!
PROOFS. Ausil frames (R517 to R520): every frame command runs its body under the one frame of reception, which counts the frame, asks for
what is missing before it, and hands on only a whole frame that is not stale.
-/

namespace Sys2Proof.Machine

/-- A frame command is its body under the frame of reception. -/
theorem exec_frame {c : Instr} {h : AusHdr} (hc : asFrame c = some h) (s : State) : ∃ k, exec c s = finish s (s.ausRx h k) := by
  cases c <;> simp only [asFrame, Option.some.injEq, reduceCtorEq] at hc
  all_goals obtain rfl := hc
  all_goals exact ⟨_, rfl⟩

/-! ### What a RETRY leaves -/

theorem askRetry_reports {b : Nat} (hb : b < 2) (s : State) (q : Nat) : s.Reports (s.askRetry b q) := .sendAusOn hb s _ _ _ _

/-- The retries that a frame's gap asks for. -/
theorem retries_reports {b : Nat} (hb : b < 2) (s : State) (xs : List Nat) (q : Nat) : s.Reports (s.each xs (fun s i => s.askRetry b (q + i))) :=
  .each xs (fun w _ => askRetry_reports hb w _) s

/-- The seq that a bundle expects, and the partner's epoch, set aside. -/
def TwnSt.unread (x : TwnSt) : TwnSt := { x with rxSeq := [], partnerEpoch := 0 }

/-- A frame counted: a report, but for the seq that its bundle expects. -/
theorem counted_reports (s : State) (h : AusHdr) : ∃ u, s.Reports u ∧ (s.counted h = u ∨ ∃ n, s.counted h = u.expects (b2n h.bundleB) n) := by
  have hb : b2n h.bundleB < 2 := b2n_lt_two _
  have hframes : s.Reports (s.incR64 (Reg.TWN_BUNDLE_RX_FRAMES (b2n h.bundleB))) := by
    unfold Reg.TWN_BUNDLE_RX_FRAMES
    have h2 := reportReg_bundle (k := 2) hb (by omega)
    have h3 := reportReg_bundle (k := 3) hb (by omega)
    exact .setR64 (by rw [← h2]; congr 1; omega) (by rw [← h3]; congr 1; omega) s _
  unfold State.counted
  dsimp only
  generalize (if tget 0 s.twn.rxSeq (b2n h.bundleB) = 0 then 0 else _) = gap
  split
  · exact ⟨_, hframes.trans (retries_reports hb _ _ _), .inr ⟨_, rfl⟩⟩
  · exact ⟨_, hframes, .inl rfl⟩

theorem counted_tly_unbooked (s : State) (h : AusHdr) : (s.counted h).tly.unbooked = s.tly.unbooked := by
  obtain ⟨u, hu, heq | ⟨n, heq⟩⟩ := counted_reports s h
  · rw [heq, hu.tly]
  · rw [heq, ← hu.tly, State.expects]

theorem counted_unread (s : State) (h : AusHdr) : (s.counted h).twn.unsent.unread = s.twn.unsent.unread := by
  obtain ⟨u, hu, heq | ⟨n, heq⟩⟩ := counted_reports s h
  · rw [heq, hu.twn]
  · rw [heq, ← hu.twn]
    rfl

theorem counted_stale (s : State) (h g : AusHdr) : (s.counted h).stale g = s.stale g := by
  have hpair : (s.counted h).twn.pair = s.twn.pair := (congrArg TwnSt.pair (counted_unread s h) :)
  have hepoch : (s.counted h).tly.epoch = s.tly.epoch := (congrArg TallySt.epoch (counted_tly_unbooked s h) :)
  simp only [State.stale, State.mirroring, hpair, hepoch]

/-! ### Reception -/

section Reception

variable {s : State} {h : AusHdr} (k : State → State)

theorem ausRx_unheard (hr : s.receives h = false) : s.ausRx h k = s := by
  refine if_pos ?_
  revert hr
  unfold State.receives
  cases s.sealed <;> cases s.boot.planeStopped <;> cases s.bundleUp (b2n h.bundleB) <;> simp

theorem ausRx_received (hr : s.receives h = true) : s.ausRx h k =
    if h.good then if s.stale h then (s.counted h).incR Reg.TWN_STALE_EPOCH else k (s.heard h) else s.missed h := by
  simp only [State.receives, Bool.and_eq_true, Bool.not_eq_true'] at hr
  obtain ⟨⟨hsealed, hplane⟩, hup⟩ := hr
  rw [State.ausRx, if_neg (by simp [hsealed, hplane, hup])]
  cases hgood : h.good
  · rfl
  · rw [← counted_stale s h h]
    rfl

theorem ausRx_missed (hr : s.receives h = true) (hbad : h.good = false) : s.ausRx h k = s.missed h := by
  rw [ausRx_received k hr, hbad]
  rfl

theorem ausRx_stale (hr : s.receives h = true) (hgood : h.good = true) (hstale : s.stale h = true) :
    s.ausRx h k = (s.counted h).incR Reg.TWN_STALE_EPOCH := by
  rw [ausRx_received k hr, hgood, hstale]
  rfl

/-- A frame that is heard has its effect on the state that has counted it. -/
theorem ausRx_heard (hears : s.hears h = true) : s.ausRx h k = k (s.heard h) := by
  simp only [State.hears, Bool.and_eq_true, Bool.not_eq_true'] at hears
  obtain ⟨⟨hr, hgood⟩, hfresh⟩ := hears
  rw [ausRx_received k hr, hgood, hfresh]
  rfl

end Reception

/-- A whole frame that comes first on its bundle, or in its turn, has none missing before it. -/
theorem counted_in_turn {s : State} {h : AusHdr}
    (hturn : tget 0 s.twn.rxSeq (b2n h.bundleB) = 0 ∨ tget 0 s.twn.rxSeq (b2n h.bundleB) = h.seq.toNat + 1) :
    s.counted h = (s.incR64 (Reg.TWN_BUNDLE_RX_FRAMES (b2n h.bundleB))).expects (b2n h.bundleB) (h.seq.toNat + 1) := by
  have hgap : (if tget 0 s.twn.rxSeq (b2n h.bundleB) = 0 then 0 else modSub 32 h.seq.toNat (tget 0 s.twn.rxSeq (b2n h.bundleB) - 1)) = 0 := by
    obtain hfirst | hnext := hturn
    · rw [if_pos hfirst]
    · rw [hnext, if_neg (Nat.succ_ne_zero _), Nat.add_sub_cancel]
      unfold modSub
      omega
  simp only [State.counted, hgap]
  rfl

theorem heard_in_turn {s : State} {h : AusHdr}
    (hturn : tget 0 s.twn.rxSeq (b2n h.bundleB) = 0 ∨ tget 0 s.twn.rxSeq (b2n h.bundleB) = h.seq.toNat + 1) :
    tget 0 (s.heard h).twn.rxSeq (b2n h.bundleB) = (h.seq.toNat + 1) % 2 ^ 32 + 1 := by
  simp only [State.heard, counted_in_turn hturn, State.expects, tget_tset_self]

end Sys2Proof.Machine

open Sys2Proof Sys2Proof.Machine

/-- Settles O54: the frame of reception decides what a frame may do before its type is asked (notes/assumptions 51 and 54). -/
theorem unheardFramesOnlyCount : Obligations.UnheardFramesOnlyCount := by
  intro c h s hc
  obtain ⟨k, hk⟩ := exec_frame hc s
  rw [hk]
  exact ⟨fun hr => finish_eq_after (ausRx_unheard k hr), fun hr hbad => finish_eq_after (ausRx_missed k hr hbad),
    fun hr hgood hstale => finish_eq_after (ausRx_stale k hr hgood hstale), heard_in_turn⟩
end

section
/-!
PROOFS. What the twin's shared operations leave: a phase mirrored, the events dropped, a pair state set, and the pair record committed.
-/

namespace Sys2Proof.Machine

/-- The media state without the phases that are staged. -/
def Media.unstaged (m : Media) : Media := { m with adm := { m.adm with staged := [] } }

/-- The twin without its pair state and what ends with mirroring. -/
def TwnSt.unpaired (x : TwnSt) : TwnSt :=
  { x.unsent with
    pair := .solo, unsynced := [], owed := [], converge := [], snapQ := [], digests := [], mirrorRx := [], sealHeld := none, syncEnter := false,
    partnerSynced := false, lossAt := none, handover := none, switchIn := none }

theorem unpaired_of_unsent {x y : TwnSt} (h : x.unsent = y.unsent) : x.unpaired = y.unpaired := (congrArg TwnSt.unpaired h :)

theorem pair_of_unsent {x y : TwnSt} (h : x.unsent = y.unsent) : x.pair = y.pair := (congrArg TwnSt.pair h :)

/-- The registers that show the pair, and the count of phases that came late. -/
def pairRegs : List Nat := [Reg.TWN_PAIR_STATUS, Reg.TWN_EPOCH, Reg.TWN_UNSYNCED, Reg.DEV_EPOCH_DEFERRED]

/-- `t` is `s` after some reports and moves of the pair that leave the part `core` of the twin. -/
structure State.Settles (core : TwnSt → TwnSt) (s t : State) : Prop where
  media : t.media.unstaged = s.media.unstaged
  tly : t.tly.unbooked = s.tly.unbooked
  boot : t.boot.unqueued = s.boot.unqueued
  twn : core t.twn = core s.twn
  regs : ∀ d, reportReg d = false → d ∉ pairRegs → t.getR d = s.getR d

theorem State.Reports.settles {s t : State} (h : s.Reports t) : s.Settles TwnSt.unsent t :=
  ⟨congrArg Media.unstaged h.media, h.tly, h.boot, h.twn, fun d hd _ => h.regs d hd⟩

theorem State.Settles.ofUnsent {s t : State} (h : s.Settles TwnSt.unsent t) : s.Settles TwnSt.unpaired t :=
  ⟨h.media, h.tly, h.boot, unpaired_of_unsent h.twn, h.regs⟩

theorem State.Reports.settlesPair {s t : State} (h : s.Reports t) : s.Settles TwnSt.unpaired t := h.settles.ofUnsent

namespace State.Settles

variable {core : TwnSt → TwnSt} {s t u : State}

theorem refl (s : State) : s.Settles core s := ⟨rfl, rfl, rfl, rfl, fun _ _ _ => rfl⟩

theorem trans (h : s.Settles core t) (h' : t.Settles core u) : s.Settles core u :=
  ⟨h'.media.trans h.media, h'.tly.trans h.tly, h'.boot.trans h.boot, h'.twn.trans h.twn,
    fun d hd hp => (h'.regs d hd hp).trans (h.regs d hd hp)⟩

theorem ite {c : Prop} [Decidable c] (ht : s.Settles core t) (hu : s.Settles core u) : s.Settles core (if c then t else u) := by
  split
  · exact ht
  · exact hu

theorem each {α : Type} (xs : List α) {f : State → α → State} (h : ∀ (w : State) x, w.Settles core (f w x)) (s : State) :
    s.Settles core (s.each xs f) := by
  unfold State.each
  induction xs generalizing s with
  | nil => exact refl s
  | cons x xs ih => exact (h s x).trans (ih (f s x))

theorem field (h : s.Settles core t) {d : Nat} (hd : reportReg d = false) (hp : d ∉ pairRegs) (hi lo : Nat) : t.getF d hi lo = s.getF d hi lo := by
  rw [State.getF, h.regs d hd hp, State.getF]

theorem pins (h : s.Settles core t) : t.pins = s.pins := (congrArg Media.pins h.media :)

theorem tim (h : s.Settles core t) : t.tim = s.tim := (congrArg Media.tim h.media :)

/-- The phases that are staged. -/
theorem staged (s : State) {x : List StagedPhase} : s.Settles core { s with adm := { s.adm with staged := x } } :=
  ⟨rfl, rfl, rfl, rfl, fun _ _ _ => rfl⟩

theorem setR {d : Nat} (hd : d ∈ pairRegs) (s : State) (v : Nat) : s.Settles core (s.setR d v) :=
  ⟨congrArg Media.unstaged (setR_media s d v), rfl, rfl, rfl, fun _ _ hp => getR_setR_ne (ne_of_mem_of_not_mem hd hp).symm s _⟩

theorem phaseReply (s : State) (p : StagedPhase) : s.Settles TwnSt.unsent (s.phaseReply p) := by
  unfold State.phaseReply
  split
  · exact refl s
  · dsimp only
    split
    · exact (staged s).trans (Reports.reply _ _ _ _).settles
    · exact (staged s).trans (ite (Reports.reply _ _ _ _).settles (Reports.reply _ _ _ _).settles)

theorem phaseMirrored (s : State) (id : Nat) : s.Settles TwnSt.unsent (s.phaseMirrored id) := by
  have hlate : Reg.DEV_EPOCH_DEFERRED ∈ pairRegs := by decide
  unfold State.phaseMirrored
  split
  · exact refl s
  · exact ((ite (setR hlate s _) (refl s)).trans (staged _)).trans (phaseReply _ _)

/-- The events in flight. -/
theorem events (s : State) {x : List MirEvent} : s.Settles TwnSt.unsent { s with twn := { s.twn with events := x } } :=
  ⟨rfl, rfl, rfl, rfl, fun _ _ _ => rfl⟩

theorem dropEvents (s : State) : s.Settles TwnSt.unsent s.dropEvents :=
  ((events s).trans (staged _)).trans (each _ phaseMirrored _)

/-- The pair state, and what ends with mirroring. -/
theorem pairing (s : State) {pair : PairState} {unsynced owed : Tbl Nat} {converge : List (Nat × List Nat)} {snapQ : List Nat}
    {digests : List (Nat × List DigestEnt)} {mirrorRx : List (Nat × MirrorRec)} {sealHeld : Option (Nat × Nat × Nat)} {syncEnter partnerSynced : Bool}
    {lossAt : Option Nat} {handover : Option (Nat × Bool × ReplyTo)} {switchIn : Option (Nat × Bool)} :
    s.Settles TwnSt.unpaired
      { s with
        twn := { s.twn with
          pair := pair, unsynced := unsynced, owed := owed, converge := converge, snapQ := snapQ, digests := digests, mirrorRx := mirrorRx
          sealHeld := sealHeld, syncEnter := syncEnter, partnerSynced := partnerSynced, lossAt := lossAt, handover := handover, switchIn := switchIn } } :=
  ⟨rfl, rfl, rfl, rfl, fun _ _ _ => rfl⟩

/-- The pair record of the tally store, with the registers that show it. -/
theorem commitPair (s : State) : s.Settles TwnSt.unsent s.commitPair := by
  have hepoch : Reg.TWN_EPOCH ∈ pairRegs := by decide
  have hstatus : Reg.TWN_PAIR_STATUS ∈ pairRegs := by decide
  exact ((Reports.tallyCommit s _ _ _ _ _).settles.trans (setR hepoch _ _)).trans (setR hstatus _ _)

end State.Settles

/-- What ends when the pair leaves PAIRED or SYNCING. -/
def State.endMirroring (s : State) : State :=
  let s := s.dropEvents
  let held := s.twn.handover
  let s := { s with twn := { s.twn with unsynced := [], owed := [], converge := [], snapQ := [], digests := [], mirrorRx := [], sealHeld := none, syncEnter := false, partnerSynced := false, lossAt := none, handover := none, switchIn := none } }
  match held with
  | some (_, false, rto) => s.sendReplyNow { dst := rto, status := stAborted }
  | _ => s

theorem endMirroring_settles (s : State) : s.Settles TwnSt.unpaired s.endMirroring := by
  have hended := (State.Settles.dropEvents s).ofUnsent
  unfold State.endMirroring
  dsimp only
  split
  · exact (hended.trans (.pairing _)).trans (State.Reports.sendReplyNow _ _).settlesPair
  · exact hended.trans (.pairing _)

theorem endMirroring_pair (s : State) : s.endMirroring.twn.pair = s.twn.pair := by
  have hended : s.dropEvents.twn.pair = s.twn.pair := (congrArg TwnSt.pair (State.Settles.dropEvents s).twn :)
  unfold State.endMirroring
  dsimp only
  split
  · rw [sendReplyNow_twn, hended]
  · exact hended

/-- A pair state that changes is shown, and told. -/
theorem setPair_changed {s : State} {p : PairState} (h : s.twn.pair ≠ p) : ∃ (c : Bool) (v : State) (detail : List (Nat × Nat)),
    v = ({ s with twn := { s.twn with pair := p } } : State).setF Reg.TWN_PAIR_STATUS 2 0 p.code ∧
    s.setPair p = (let w := if c then v.endMirroring else v
      (w.setR Reg.TWN_UNSYNCED w.twn.unsynced.length).notify 0x8011 0 subjNone detail) :=
  ⟨_, _, _, rfl, if_neg h⟩

theorem setPair_same {s : State} {p : PairState} (h : s.twn.pair = p) : s.setPair p = s := if_pos h

theorem setPair_pair (s : State) (p : PairState) : (s.setPair p).twn.pair = p := by
  by_cases h : s.twn.pair = p
  · rw [setPair_same h, h]
  · obtain ⟨c, v, detail, hv, heq⟩ := setPair_changed h
    have hpair : v.twn.pair = p := by rw [hv, setF_twn]
    have htold : ∀ (w : State) detail, (w.notify 0x8011 0 subjNone detail).twn.pair = w.twn.pair :=
      fun w detail => (congrArg TwnSt.pair (State.Reports.notify w 0x8011 0 subjNone detail none).twn :)
    rw [heq]
    dsimp only
    rw [htold, setR_twn]
    split
    · rw [endMirroring_pair, hpair]
    · exact hpair

theorem setPair_settles (s : State) (p : PairState) : s.Settles TwnSt.unpaired (s.setPair p) := by
  have hstatus : Reg.TWN_PAIR_STATUS ∈ pairRegs := by decide
  have hunsynced : Reg.TWN_UNSYNCED ∈ pairRegs := by decide
  by_cases h : s.twn.pair = p
  · rw [setPair_same h]
    exact .refl s
  · obtain ⟨c, v, detail, hv, heq⟩ := setPair_changed h
    have hshown : s.Settles TwnSt.unpaired v := hv ▸ (State.Settles.pairing s).trans (.setR hstatus _ _)
    rw [heq]
    exact (hshown.trans (.ite (endMirroring_settles v) (.refl v))).trans ((State.Settles.setR hunsynced _ _).trans (State.Reports.notify _ _ _ _ _ _).settlesPair)

/-! ### The pair epoch and the fence's latch -/

/-- The record committed shows the pair; the rest of the device stays. -/
theorem commitEpoch_rises {s : State} {e : Nat} (h : s.tly.epoch.toNat < e) :
    (({ s with tly := { s.tly with epoch := BitVec.ofNat 32 e } } : State)).Settles TwnSt.unsent (s.commitEpoch e) := by
  rw [State.commitEpoch, if_neg (by omega)]
  exact .commitPair _

theorem commitEpoch_stays {s : State} {e : Nat} (h : e ≤ s.tly.epoch.toNat) : s.commitEpoch e = s := if_pos h

theorem commitEpoch_unsent (s : State) (e : Nat) : (s.commitEpoch e).twn.unsent = s.twn.unsent := by
  obtain h | h := Nat.lt_or_ge s.tly.epoch.toNat e
  · exact (commitEpoch_rises h).twn
  · rw [commitEpoch_stays h]

theorem commitEpoch_epoch {s : State} {e : Nat} (h : s.tly.epoch.toNat < e) : (s.commitEpoch e).tly.epoch = BitVec.ofNat 32 e :=
  (congrArg TallySt.epoch (commitEpoch_rises h).tly :)

theorem latchFence_settles (s : State) (on : Bool) :
    (({ s with tly := { s.tly with fencedLatched := on, latchEpoch := if on then s.tly.epoch else s.tly.latchEpoch } } : State)).Settles
      TwnSt.unsent (s.latchFence on) := .commitPair _

theorem latchFence_latched (s : State) (on : Bool) : (s.latchFence on).tly.fencedLatched = on :=
  (congrArg TallySt.fencedLatched (latchFence_settles s on).tly :)

end Sys2Proof.Machine
end

section
/-!
PROOFS. What an inventory entry put, and an item's fit check, leave (R603, R604).
-/

namespace Sys2Proof.Machine

namespace State.Reports

theorem clearReason (s : State) (c : Reason → Bool) : s.Reports (s.clearReason c) := ite (outside s) (refl s)

theorem clearReasonOf (s : State) (code subject : Nat) : s.Reports (s.clearReasonOf code subject) := clearReason s _

end State.Reports

/-- The tally store without its books and its inventory entries. -/
def TallySt.unlisted (y : TallySt) : TallySt := { y.unbooked with inv := [] }

/-- `t` is `s` after some reports and inventory entries. -/
structure State.Fits (s t : State) : Prop where
  media : t.media = s.media
  tly : t.tly.unlisted = s.tly.unlisted
  boot : t.boot.unqueued = s.boot.unqueued
  twn : t.twn.unsent = s.twn.unsent
  regs : ∀ d, reportReg d = false → d ≠ Reg.BOOT_INV_SUMMARY → t.getR d = s.getR d

theorem State.Reports.fits {s t : State} (h : s.Reports t) : s.Fits t :=
  ⟨h.media, (congrArg TallySt.unlisted h.tly :), h.boot, h.twn, fun d hd _ => h.regs d hd⟩

namespace State.Fits

variable {s t u : State}

theorem refl (s : State) : s.Fits s := ⟨rfl, rfl, rfl, rfl, fun _ _ _ => rfl⟩

theorem trans (h : s.Fits t) (h' : t.Fits u) : s.Fits u :=
  ⟨h'.media.trans h.media, h'.tly.trans h.tly, h'.boot.trans h.boot, h'.twn.trans h.twn,
    fun d hd hp => (h'.regs d hd hp).trans (h.regs d hd hp)⟩

theorem ite {c : Prop} [Decidable c] (ht : s.Fits t) (hu : s.Fits u) : s.Fits (if c then t else u) := by
  split
  · exact ht
  · exact hu

/-- The inventory entries. -/
theorem entries (s : State) {inv : Tbl InvEntry} : s.Fits { s with tly := { s.tly with inv := inv } } := ⟨rfl, rfl, rfl, rfl, fun _ _ _ => rfl⟩

theorem shown (s : State) (v : Nat) : s.Fits (s.setR Reg.BOOT_INV_SUMMARY v) :=
  ⟨setR_media s _ _, rfl, rfl, rfl, fun _ _ hd => getR_setR_ne hd s _⟩

theorem invSummary (s : State) : s.Fits s.invSummary := shown s _

theorem putInv (s : State) (e : InvEntry) : s.Fits (s.putInv e) := by
  have hclear : ∀ w : State, w.Fits (if e.state = invMatch then w.clearReasonOf fltFitDegraded (subjItem e.kind e.index) else w) :=
    fun w => ite (Reports.clearReasonOf w _ _).fits (refl w)
  exact trans (trans (trans (entries s) (Reports.tallyCommit _ _ _ _ _ _).fits) (hclear _)) (invSummary _)

theorem fitItem (s : State) (kind index : Nat) (found : Found) (crc : BitVec 32) (summary : List (Nat × Nat)) (start : Bool) :
    s.Fits (s.fitItem kind index found crc summary start).1 := by
  unfold State.fitItem
  obtain ⟨st, flt, used⟩ := fitResult (s.invRec kind index) found start
  dsimp only
  split
  · exact (putInv s _).trans (Reports.raise _ _ _ _).fits
  · exact putInv s _

theorem fitPartner (s : State) (i : Identity) : s.Fits (s.fitPartner i).1 := fitItem s _ _ _ _ _ _

end State.Fits

end Sys2Proof.Machine
end

section
/-!
PROOFS. Pairing (R525 to R530, R539, R545): what a heard frame leaves, the failure of an attempt, its commitment and its settlement.
-/

namespace Sys2Proof.Machine

/-! ### What hearing a frame leaves -/

section Heard

variable (s : State) (h : AusHdr)

theorem heard_unread : (s.heard h).twn.unsent.unread = s.twn.unsent.unread := counted_unread s h

theorem heard_media : (s.heard h).media = s.media := by
  obtain ⟨u, hu, heq | ⟨n, heq⟩⟩ := counted_reports s h
  · rw [State.heard, heq, media_twn, hu.media]
  · rw [State.heard, heq, media_twn, State.expects, media_twn, hu.media]

theorem heard_now : (s.heard h).now = s.now := congrArg (fun m => m.tim.tick) (heard_media s h)

theorem heard_pins : (s.heard h).pins = s.pins := congrArg Media.pins (heard_media s h)

theorem heard_boot : (s.heard h).boot.unqueued = s.boot.unqueued := by
  obtain ⟨u, hu, heq | ⟨n, heq⟩⟩ := counted_reports s h
  · rw [State.heard, heq, hu.boot]
  · rw [State.heard, heq, State.expects, hu.boot]

theorem heard_tly : (s.heard h).tly.unbooked = s.tly.unbooked := counted_tly_unbooked s h

theorem heard_pair : (s.heard h).twn.pair = s.twn.pair := (congrArg TwnSt.pair (heard_unread s h) :)

theorem heard_attempt : (s.heard h).twn.attempt = s.twn.attempt := (congrArg TwnSt.attempt (heard_unread s h) :)

theorem heard_fails : (s.heard h).twn.fails = s.twn.fails := (congrArg TwnSt.fails (heard_unread s h) :)

theorem heard_roleB : (s.heard h).twn.roleB = s.twn.roleB := (congrArg TwnSt.roleB (heard_unread s h) :)

theorem heard_cross : (s.heard h).twn.cross = s.twn.cross := (congrArg TwnSt.cross (heard_unread s h) :)

theorem heard_identOk : (s.heard h).twn.identOk = s.twn.identOk := (congrArg TwnSt.identOk (heard_unread s h) :)

theorem heard_timeSent : (s.heard h).twn.timeSent = s.twn.timeSent := (congrArg TwnSt.timeSent (heard_unread s h) :)

theorem heard_slowTicks : (s.heard h).twn.slowTicks = s.twn.slowTicks := (congrArg TwnSt.slowTicks (heard_unread s h) :)

theorem heard_warmRun : (s.heard h).boot.warmRun = s.boot.warmRun := (congrArg BootSt.warmRun (heard_boot s h) :)

theorem heard_heardNow : (s.heard h).twn.heardNow = s.twn.heardNow := (congrArg TwnSt.heardNow (heard_unread s h) :)

theorem heard_epoch : (s.heard h).tly.epoch = s.tly.epoch := (congrArg TallySt.epoch (heard_tly s h) :)

end Heard

/-! ### The pair refused, and an attempt that fails (R526, R529) -/

theorem refusePair_twn (s : State) (why : Nat) : (s.refusePair why).twn.pair = .refused ∧ (s.refusePair why).twn.unpaired =
    { s.twn with refused := why, identTick := s.now, attempt := none, identOk := false, fails := 0 }.unpaired := by
  rw [State.refusePair, raise_twn]
  exact ⟨setPair_pair _ _, (setPair_settles _ _).twn⟩

theorem refusePair_refused (s : State) (why : Nat) : (s.refusePair why).twn.refused = why :=
  (congrArg TwnSt.refused (refusePair_twn s why).2 :)

/-- An attempt that fails is counted; the third in a row refuses the pair. -/
theorem failAttempt_failed (s : State) (n : Nat) :
    (s.twn.fails < 2 → (s.failAttempt n).twn.attempt = none ∧ (s.failAttempt n).twn.fails = s.twn.fails + 1) ∧
    (2 ≤ s.twn.fails → (s.failAttempt n).twn.pair = .refused ∧ (s.failAttempt n).twn.refused = n) := by
  unfold State.failAttempt
  refine ⟨fun h => ?_, fun h => ?_⟩
  · rw [if_neg (by omega)]
    exact ⟨rfl, rfl⟩
  · rw [if_pos (by omega)]
    exact ⟨(refusePair_twn _ n).1, refusePair_refused _ n⟩

/-- A commitment keeps the attempt, answered and this device's part done, and commits a higher epoch. -/
theorem commitAttempt_attempt (s : State) (a : PairAttempt) :
    (s.commitAttempt a).twn.attempt = some { a with answered := true, mine := true } :=
  (congrArg TwnSt.attempt (State.Reports.sendAus _ _ _ _ _).twn :)

theorem commitAttempt_epoch {s : State} {a : PairAttempt} (h : s.tly.epoch.toNat < a.epoch) :
    (s.commitAttempt a).tly.epoch = BitVec.ofNat 32 a.epoch := by
  have hsent : (s.commitAttempt a).tly.epoch = (s.commitEpoch a.epoch).tly.epoch :=
    (congrArg TallySt.epoch (State.Reports.sendAus _ _ _ _ _).tly :)
  rw [hsent, commitEpoch_epoch h]

/-! ### The settlement (R528, R529) -/

theorem unsync_unpaired (s : State) (objs : List Nat) : (s.unsync objs).twn.unpaired = s.twn.unpaired := by
  rw [State.unsync, setR_twn, each_keeps (fun w => w.twn.unpaired)]
  intro w o
  rfl

theorem unsync_pair (s : State) (objs : List Nat) : (s.unsync objs).twn.pair = s.twn.pair := by
  rw [State.unsync, setR_twn, each_keeps (fun w => w.twn.pair)]
  intro w o
  rfl

theorem startCap_twn (s : State) : s.startCap.twn = s.twn := by
  unfold State.startCap
  rw [each_keeps State.twn (fun w l => onLeg_twn w l _), each_keeps State.twn (fun w e => onStream_twn w e _)]

/-- The authority as the attempt settles it, before the pair begins to sync. -/
def State.authoritySet (s : State) (a : PairAttempt) : State :=
  let mine := decide (a.auth = b2n s.twn.roleB)
  let s := { s with twn := { s.twn with attempt := none, fails := 0, refused := 0 } }
  if s.twn.cross then
    (if a.auth = 2 then
      let s := { s with twn := { s.twn with hold := none } }
      s.each s.usedFolds (fun s f => s.onFold f (fun r => { r with ownB := decide (r.desc.owner = 1) }))
    else
      let s := { s with twn := { s.twn with hold := some mine } }
      s.each s.usedFolds (fun s f => s.onFold f (fun r => { r with ownB := decide (a.auth = 1) })))
  else { s with twn := { s.twn with authSelf := mine, hold := none } }

theorem authoritySet_twn (s : State) (a : PairAttempt) : ∃ hold, (s.authoritySet a).twn =
    { s.twn with
      attempt := none, fails := 0, refused := 0, hold := hold
      authSelf := if s.twn.cross then s.twn.authSelf else decide (a.auth = b2n s.twn.roleB) } := by
  unfold State.authoritySet
  dsimp only
  split
  · split
    · exact ⟨_, (each_keeps State.twn (fun w f => onFold_twn w f _) _ _)⟩
    · exact ⟨_, (each_keeps State.twn (fun w f => onFold_twn w f _) _ _)⟩
  · exact ⟨_, rfl⟩

/-- The objects of the joining sync: what this device shadows is unsynced, what it holds is owed (R530). -/
def State.joined (s : State) : State :=
  let s := s.unsync (s.foldObjects s.shadowFolds)
  let s := (s.startCap).oweAll
  { s with twn := { s.twn with syncEnter := !s.shadows, partnerSynced := !s.holds_ } }

theorem settleAuthority_eq (s : State) (a : PairAttempt) : s.settleAuthority a = ((s.authoritySet a).setPair .syncing).joined := by
  unfold State.settleAuthority State.joined State.authoritySet
  with_reducible rfl

theorem oweAll_unpaired (s : State) : s.oweAll.twn.unpaired = s.twn.unpaired := rfl

theorem oweAll_pair (s : State) : s.oweAll.twn.pair = s.twn.pair := rfl

theorem joined_unpaired (s : State) : s.joined.twn.unpaired = s.twn.unpaired := by
  have hsync : ∀ (w : State) a b, ({ w.twn with syncEnter := a, partnerSynced := b } : TwnSt).unpaired = w.twn.unpaired := fun _ _ _ => rfl
  rw [State.joined]
  dsimp only
  rw [hsync, oweAll_unpaired, startCap_twn, unsync_unpaired]

theorem joined_pair (s : State) : s.joined.twn.pair = s.twn.pair := by
  rw [State.joined]
  dsimp only
  rw [oweAll_pair, startCap_twn, unsync_pair]

theorem settleAuthority_unpaired (s : State) (a : PairAttempt) : (s.settleAuthority a).twn.unpaired = (s.authoritySet a).twn.unpaired := by
  rw [settleAuthority_eq, joined_unpaired, (setPair_settles _ _).twn]

theorem settleAuthority_pair (s : State) (a : PairAttempt) : (s.settleAuthority a).twn.pair = .syncing := by
  rw [settleAuthority_eq, joined_pair, setPair_pair]

/-- A split brain told, and the pair SOLO. -/
def State.brainSplit (s : State) : State :=
  (({ s with twn := { s.twn with attempt := none, fails := 0 } } : State).raise fltSplitBrain subjLink).setPair .solo

theorem brainSplit_unpaired (s : State) : s.brainSplit.twn.unpaired = { s.twn with attempt := none, fails := 0 }.unpaired := by
  rw [State.brainSplit, (setPair_settles _ _).twn, raise_twn]

theorem splitBrain_eq (s : State) (a : PairAttempt) : s.splitBrain a =
    if a.auth = b2n s.twn.roleB then s.brainSplit.setFenceOut true else (s.brainSplit.askPlane .split none).latchFence true := by
  have hrole : s.brainSplit.twn.roleB = s.twn.roleB := (congrArg TwnSt.roleB (brainSplit_unpaired s) :)
  rw [← hrole]
  unfold State.splitBrain State.brainSplit
  with_reducible rfl

theorem brainSplit_pair (s : State) : s.brainSplit.twn.pair = .solo := setPair_pair _ _

theorem brainSplit_fenceIn (s : State) : s.brainSplit.pins.fenceIn = s.pins.fenceIn := by
  rw [State.brainSplit, (setPair_settles _ _).pins, raise_pins]

/-- The winner of a split brain raises its fence, the loser latches and asks for a plane reset; both are SOLO. -/
theorem splitBrain_solo (s : State) (a : PairAttempt) :
    (s.splitBrain a).twn.pair = .solo ∧ (s.splitBrain a).twn.unpaired = { s.twn with attempt := none, fails := 0 }.unpaired := by
  rw [splitBrain_eq]
  split
  · rw [State.setFenceOut, setF_twn]
    exact ⟨brainSplit_pair s, brainSplit_unpaired s⟩
  · have hlatch := (latchFence_settles (s.brainSplit.askPlane .split none) true).twn
    exact ⟨(pair_of_unsent hlatch).trans (brainSplit_pair s), (unpaired_of_unsent hlatch).trans (brainSplit_unpaired s)⟩

theorem splitBrain_won {s : State} {a : PairAttempt} (h : a.auth = b2n s.twn.roleB) : (s.splitBrain a).pins.fenceOut = !s.pins.fenceIn := by
  rw [splitBrain_eq, if_pos h, State.setFenceOut, setF_pins, brainSplit_fenceIn, Bool.true_and]

theorem splitBrain_lost {s : State} {a : PairAttempt} (h : a.auth ≠ b2n s.twn.roleB) :
    (s.splitBrain a).boot.planePend = some .split ∧ (s.splitBrain a).tly.fencedLatched = true := by
  rw [splitBrain_eq, if_neg h]
  exact ⟨(congrArg BootSt.planePend (latchFence_settles (s.brainSplit.askPlane .split none) true).boot :), latchFence_latched _ _⟩

section Settle

variable {s : State} {a : PairAttempt} (ha : s.twn.attempt = some a) (hpair : s.twn.pair = .linking)
include ha hpair

/-- Both devices have committed, and the boundary has come: a split brain, or the settlement with the step told. -/
theorem settle_eq (hmine : a.mine = true) (htheirs : a.theirs = true) (hdue : a.tick ≤ s.now) : s.settle =
    if a.both then s.splitBrain a
    else if (s.settleAuthority a).holds_ then (s.settleAuthority a).sendPair 4 0 a.epoch a.tick else s.settleAuthority a := by
  have hopen : ¬ (decide (s.twn.pair ≠ .linking) || !(a.mine && a.theirs) || decide (s.now < a.tick)) = true := by
    simp only [hpair, hmine, htheirs, not_lt.mpr hdue]
    decide
  rw [State.settle, ha]
  exact if_neg hopen

theorem settle_settles (hmine : a.mine = true) (htheirs : a.theirs = true) (hdue : a.tick ≤ s.now) :
    s.settle.twn.attempt = none ∧ s.settle.twn.fails = 0 ∧
    (a.both = false → s.settle.twn.pair = .syncing ∧ (s.twn.cross = false → s.settle.twn.authSelf = decide (a.auth = b2n s.twn.roleB))) ∧
    (a.both = true → s.settle.twn.pair = .solo) ∧
    (a.both = true → a.auth = b2n s.twn.roleB → s.settle.pins.fenceOut = !s.pins.fenceIn) ∧
    (a.both = true → a.auth ≠ b2n s.twn.roleB → s.settle.boot.planePend = some .split ∧ s.settle.tly.fencedLatched = true) := by
  rw [settle_eq ha hpair hmine htheirs hdue]
  cases hboth : a.both with
  | true =>
    obtain ⟨hsolo, hrest⟩ := splitBrain_solo s a
    exact ⟨(congrArg TwnSt.attempt hrest :), (congrArg TwnSt.fails hrest :), Bool.noConfusion, fun _ => hsolo, fun _ => splitBrain_won,
      fun _ => splitBrain_lost⟩
  | false =>
    obtain ⟨hold, hset⟩ := authoritySet_twn s a
    have hsent : (s.settleAuthority a).Reports
        (if (s.settleAuthority a).holds_ then (s.settleAuthority a).sendPair 4 0 a.epoch a.tick else s.settleAuthority a) :=
      .ite (.sendAus _ _ _ _ _) (.refl _)
    have hrest := (unpaired_of_unsent hsent.twn).trans (settleAuthority_unpaired s a)
    rw [hset] at hrest
    rw [if_neg Bool.false_ne_true]
    generalize (if (s.settleAuthority a).holds_ then _ else _) = v at hsent hrest ⊢
    refine ⟨(congrArg TwnSt.attempt hrest :), (congrArg TwnSt.fails hrest :), fun _ => ⟨?_, fun hcross => ?_⟩, ?_, ?_, ?_⟩
    · exact (pair_of_unsent hsent.twn).trans (settleAuthority_pair s a)
    · exact (congrArg TwnSt.authSelf hrest :).trans (if_neg (by simp [hcross]))
    all_goals exact fun h => Bool.noConfusion h

end Settle

/-! ### IDENTITY (R527) -/

theorem identCheck_congr {s t : State} (hrole : t.twn.roleB = s.twn.roleB) (hcross : t.twn.cross = s.twn.cross) (hboot : t.boot.unqueued = s.boot.unqueued)
    (hfence : t.tly.fencedLatched = s.tly.fencedLatched) (i : Identity) (fit : Bool) : t.identCheck i fit = s.identCheck i fit := by
  have himage : t.boot.image = s.boot.image := (congrArg BootSt.image hboot :)
  have hformat : t.boot.fwWrite = s.boot.fwWrite := (congrArg BootSt.fwWrite hboot :)
  simp only [State.identCheck, State.ownIdentity, hrole, hcross, himage, hformat, hfence]
  congr

theorem noteIdentity_twn (s : State) (i : Identity) : (s.noteIdentity i).twn = { s.twn with ident := some i, ceilings := i.ceilings } := by
  simp only [State.noteIdentity, setR_twn, setR64_twn]

theorem noteIdentity_boot (s : State) (i : Identity) : (s.noteIdentity i).boot = s.boot := by simp only [State.noteIdentity, setR_boot, setR64_boot]

theorem noteIdentity_tly (s : State) (i : Identity) : (s.noteIdentity i).tly = s.tly := by simp only [State.noteIdentity, setR_tly, setR64_tly]

/-- The partner's fit, checked with its first IDENTITY. -/
def State.fitted (s : State) (i : Identity) : State × Bool := if !s.twn.identOk then s.fitPartner i else (s, true)

theorem fitted_fits (s : State) (i : Identity) : s.Fits (s.fitted i).1 := by
  unfold State.fitted
  split
  · exact .fitPartner s i
  · exact .refl s

theorem fitted_fit (s : State) (i : Identity) : (s.fitted i).2 = if s.twn.identOk then true else (s.fitPartner i).2 := by
  unfold State.fitted
  cases s.twn.identOk <;> rfl

/-- What the checks make of the pair: refused with the number of the first that fails, or let go on. -/
def State.judged (s : State) (i : Identity) (first fit : Bool) : State :=
  if s.identCheck i fit ≠ 0 then s.refusePair (s.identCheck i fit)
  else
    let s := if first && i.fwVersion ≠ s.boot.fwVersion then s.raise fltVersionSkew subjLink else s
    { s with twn := { s.twn with identOk := true } }

theorem judged_passed {s : State} {i : Identity} {fit : Bool} (h : s.identCheck i fit = 0) (first : Bool) :
    (s.judged i first fit).twn = { s.twn with identOk := true } := by
  rw [State.judged, if_neg (not_not_intro h)]
  dsimp only
  split
  · rw [raise_twn]
  · rfl

theorem judged_refused {s : State} {i : Identity} {fit : Bool} (h : s.identCheck i fit ≠ 0) (first : Bool) :
    s.judged i first fit = s.refusePair (s.identCheck i fit) := if_pos h

section Identity

variable {s : State} {h : AusHdr} (hears : s.hears h = true) (i : Identity)
include hears

theorem ausilIdentity_linking (hpair : s.twn.pair = .linking) : ausilIdentity h i s =
    (((s.heard h).noteIdentity i).fitted i).1.judged i (!s.twn.identOk) (((s.heard h).noteIdentity i).fitted i).2 := by
  have hlink : ((s.heard h).noteIdentity i).twn.pair = .linking := by rw [noteIdentity_twn]; exact (heard_pair s h).trans hpair
  have hok : ((s.heard h).noteIdentity i).twn.identOk = s.twn.identOk := by rw [noteIdentity_twn]; exact heard_identOk s h
  rw [ausilIdentity, ausRx_heard _ hears, ← hok]
  exact if_pos hlink

/-- While the pair mirrors, an image or a state format that has come to differ ends it. -/
theorem ausilIdentity_mirroring (hmirror : s.mirroring = true) : ausilIdentity h i s =
    (let v := (s.heard h).noteIdentity i
    if i.digest ≠ s.boot.image.digest then v.refusePair 3 else if i.format ≠ s.boot.fwWrite then v.refusePair 4 else v) := by
  have hpair : ((s.heard h).noteIdentity i).twn.pair = s.twn.pair := by rw [noteIdentity_twn]; exact heard_pair s h
  have himage : ((s.heard h).noteIdentity i).boot.image = s.boot.image := by
    rw [noteIdentity_boot]
    exact (congrArg BootSt.image (heard_boot s h) :)
  have hformat : ((s.heard h).noteIdentity i).boot.fwWrite = s.boot.fwWrite := by
    rw [noteIdentity_boot]
    exact (congrArg BootSt.fwWrite (heard_boot s h) :)
  have hmirror' : ((s.heard h).noteIdentity i).mirroring = true := by rw [State.mirroring, hpair, ← State.mirroring, hmirror]
  have hnot : ¬ ((s.heard h).noteIdentity i).twn.pair = .linking := by
    intro hlink
    rw [State.mirroring, hlink] at hmirror'
    exact absurd hmirror' (by decide)
  rw [ausilIdentity, ausRx_heard _ hears, ← himage, ← hformat]
  exact (if_neg hnot).trans (if_pos hmirror')

/-- An IDENTITY that links the pair or refuses it, by the first check that fails. -/
theorem ausilIdentity_judges (hpair : s.twn.pair = .linking) :
    let fit := if s.twn.identOk then true else (((s.heard h).noteIdentity i).fitPartner i).2
    (ausilIdentity h i s).twn.ident = some i ∧ (ausilIdentity h i s).twn.ceilings = i.ceilings ∧
    (s.identCheck i fit = 0 → (ausilIdentity h i s).twn.identOk = true ∧ (ausilIdentity h i s).twn.pair = .linking) ∧
    (s.identCheck i fit ≠ 0 → (ausilIdentity h i s).twn.pair = .refused ∧ (ausilIdentity h i s).twn.refused = s.identCheck i fit) := by
  intro fit
  have hfit : (((s.heard h).noteIdentity i).fitted i).2 = fit := by
    have hok : ((s.heard h).noteIdentity i).twn.identOk = s.twn.identOk := by rw [noteIdentity_twn]; exact heard_identOk s h
    rw [fitted_fit, hok]
  have hfits := fitted_fits ((s.heard h).noteIdentity i) i
  rw [ausilIdentity_linking hears i hpair, hfit]
  generalize (((s.heard h).noteIdentity i).fitted i).1 = v at hfits ⊢
  obtain ⟨-, htly, hboot, htwn, -⟩ := hfits
  rw [noteIdentity_twn] at htwn
  rw [noteIdentity_tly] at htly
  rw [noteIdentity_boot, heard_boot] at hboot
  have hroleB : v.twn.roleB = s.twn.roleB := (congrArg TwnSt.roleB htwn :).trans (heard_roleB s h)
  have hcross : v.twn.cross = s.twn.cross := (congrArg TwnSt.cross htwn :).trans (heard_cross s h)
  have hfence : v.tly.fencedLatched = s.tly.fencedLatched :=
    (congrArg TallySt.fencedLatched htly :).trans (congrArg TallySt.fencedLatched (heard_tly s h) :)
  have hlink : v.twn.pair = .linking := (congrArg TwnSt.pair htwn :).trans ((heard_pair s h).trans hpair)
  have hident : v.twn.ident = some i := (congrArg TwnSt.ident htwn :)
  have hceil : v.twn.ceilings = i.ceilings := (congrArg TwnSt.ceilings htwn :)
  have hcheck : v.identCheck i fit = s.identCheck i fit := identCheck_congr hroleB hcross hboot hfence i fit
  rw [← hcheck]
  by_cases hc : v.identCheck i fit = 0
  · rw [judged_passed hc]
    exact ⟨hident, hceil, fun _ => ⟨rfl, hlink⟩, fun hne => absurd hc hne⟩
  · rw [judged_refused hc]
    obtain ⟨hrefused, hrest⟩ := refusePair_twn v (v.identCheck i fit)
    exact ⟨(congrArg TwnSt.ident hrest :).trans hident, (congrArg TwnSt.ceilings hrest :).trans hceil, fun heq => absurd heq hc,
      fun _ => ⟨hrefused, refusePair_refused v _⟩⟩

end Identity

/-! ### The steps of an attempt (R529) -/

section Steps

variable {s : State} {h : AusHdr} (hears : s.hears h = true)
include hears

theorem pairPropose_ignored (e T : Nat) (hnot : s.twn.pair ≠ .linking ∨ s.twn.roleB = false ∨ s.twn.identOk = false) :
    pairPropose h e T s = s.heard h := by
  rw [pairPropose, ausRx_heard _ hears]
  refine if_pos ?_
  rw [heard_pair, heard_roleB, heard_identOk]
  obtain hnot | hnot | hnot := hnot <;> simp [hnot]

section Proposed

variable (hpair : s.twn.pair = .linking) (hrole : s.twn.roleB = true) (hident : s.twn.identOk = true)
include hpair hrole hident

/-- Role B answers with its own outcome: another epoch fails the attempt, its own is committed. -/
theorem pairPropose_answered (e T : Nat) : pairPropose h e T s =
    (let u := s.heard h
    if e ≠ u.outcome.2.1 then (u.sendPair 2 2 e T).failAttempt 2
    else (u.sendPair 2 0 e T).commitAttempt { epoch := u.outcome.2.1, auth := u.outcome.1, both := u.outcome.2.2, tick := T, asked := u.now }) := by
  have hopen : ¬ (decide ((s.heard h).twn.pair ≠ .linking) || !(s.heard h).twn.roleB || !(s.heard h).twn.identOk) = true := by
    rw [heard_pair, heard_roleB, heard_identOk, hpair, hrole, hident]
    decide
  rw [pairPropose, ausRx_heard _ hears]
  exact if_neg hopen

theorem pairPropose_differs {e : Nat} (T : Nat) (he : e ≠ (s.heard h).outcome.2.1) :
    pairPropose h e T s = ((s.heard h).sendPair 2 2 e T).failAttempt 2 := (pairPropose_answered hears hpair hrole hident e T).trans (if_pos he)

theorem pairPropose_agrees {e : Nat} (T : Nat) (he : e = (s.heard h).outcome.2.1) :
    pairPropose h e T s = ((s.heard h).sendPair 2 0 e T).commitAttempt
      { epoch := e, auth := (s.heard h).outcome.1, both := (s.heard h).outcome.2.2, tick := T, asked := s.now } := by
  rw [pairPropose_answered hears hpair hrole hident, ← heard_now s h]
  dsimp only
  rw [if_neg (not_not_intro he), ← he]

end Proposed

theorem pairAnswer_none (r e T : Nat) (ha : s.twn.attempt = none) : pairAnswer h r e T s = s.heard h := by
  rw [pairAnswer, ausRx_heard _ hears, heard_attempt, ha]

theorem pairCommitted_none (r e T : Nat) (ha : s.twn.attempt = none) : pairCommitted h r e T s = s.heard h := by
  rw [pairCommitted, ausRx_heard _ hears, heard_attempt, ha]

variable {a : PairAttempt} (ha : s.twn.attempt = some a) (hpair : s.twn.pair = .linking)
include ha hpair

theorem pairAnswer_taken (r : Nat) (hrole : s.twn.roleB = false) (hans : a.answered = false) :
    pairAnswer h r a.epoch a.tick s = if r ≠ 0 then (s.heard h).failAttempt r else (s.heard h).commitAttempt a := by
  have hopen : ¬ (decide ((s.heard h).twn.pair ≠ .linking) || (s.heard h).twn.roleB || a.answered || decide (a.epoch ≠ a.epoch) ||
      decide (a.tick ≠ a.tick)) = true := by
    rw [heard_pair, heard_roleB, hpair, hrole, hans]
    simp
  rw [pairAnswer, ausRx_heard _ hears, heard_attempt, ha]
  exact if_neg hopen

theorem pairCommitted_taken (r : Nat) : pairCommitted h r a.epoch a.tick s =
    if r ≠ 0 then (s.heard h).failAttempt r
    else { s.heard h with twn := { (s.heard h).twn with attempt := some { a with theirs := true } } } := by
  have hopen : ¬ (decide ((s.heard h).twn.pair ≠ .linking) || decide (a.epoch ≠ a.epoch) || decide (a.tick ≠ a.tick)) = true := by
    rw [heard_pair, hpair]
    simp
  rw [pairCommitted, ausRx_heard _ hears, heard_attempt, ha]
  exact if_neg hopen

end Steps

/-- An attempt that is silent or late fails. -/
theorem pairAttemptTimeout_fails {s : State} {a : PairAttempt} (ha : s.twn.attempt = some a) (hpair : s.twn.pair = .linking)
    (hlate : (a.answered = false ∧ a.asked + 60 ≤ s.now) ∨ (a.tick ≤ s.now ∧ (a.mine && a.theirs) = false)) :
    pairAttemptTimeout s = s.failAttempt 0 := by
  rw [pairAttemptTimeout, ha]
  refine if_pos ?_
  obtain ⟨hans, hasked⟩ | ⟨htick, hboth⟩ := hlate
  · simp [hpair, hans, hasked]
  · simp only [hpair, htick, hboth]
    simp

/-- What an attempt's failure makes of the count that a state has. -/
theorem failed_of_fails {s w : State} (hfails : w.twn.fails = s.twn.fails) (v : State) (n : Nat) :
    (s.twn.fails < 2 → (v.after (w.failAttempt n)).twn.attempt = none ∧ (v.after (w.failAttempt n)).twn.fails = s.twn.fails + 1) ∧
    (2 ≤ s.twn.fails → (v.after (w.failAttempt n)).twn.pair = .refused ∧ (v.after (w.failAttempt n)).twn.refused = n) := by
  rw [after_twn, ← hfails]
  exact failAttempt_failed w n

/-! ### Heartbeats (R519, R539) -/

/-- The partner's flags noted. -/
def State.flagged (s : State) (flags : Nat) : State := { s with twn := { s.twn with partnerFlags := flags % 16 } }

/-- A heartbeat of this tick with plane_alive set counts as hearing the partner. -/
theorem exec_ausilHeartbeat {s : State} {h : AusHdr} (hears : s.hears h = true) (fl : Nat) : exec (.ausilHeartbeat h fl) s = .next (s.after
    (if bit fl 0 && h.tick = (s.heard h).now then ((s.heard h).flagged fl).hear (b2n h.bundleB) else (s.heard h).flagged fl)) :=
  finish_eq_after (ausRx_heard _ hears)

theorem hear_heardNow (s : State) (b : Nat) : b ∈ (s.hear b).twn.heardNow := List.contains_iff_mem.mp (contains_insertAsc _ _)

/-! ### Latency and phase (R520, R545) -/

/-- The latency of a bundle and the phase, noted from a TIME frame that answers one sent. -/
def State.timed (s : State) (b n latency : Nat) (delta : Int) : State :=
  let s := { s with twn := { s.twn with slowTicks := tset 0 s.twn.slowTicks b n } }
  let s := (s.setF (Reg.TWN_BUNDLE_STATUS b) 9 9 (b2n (60 ≤ n))).setR (Reg.TWN_BUNDLE_LATENCY b) (Nat.min 65535 latency)
  let s := s.setR Reg.TWN_PHASE (toBits 32 delta)
  if n = 60 then s.raise fltLinkLatency (subjInst 14 (1 + b)) else s

section Timed

variable {s : State} {b : Nat} (hb : b < 2) (n latency : Nat) (delta : Int)

/-- The latency and phase registers written. -/
def State.latencyShown (s : State) (b n latency : Nat) (delta : Int) : State :=
  ((({ s with twn := { s.twn with slowTicks := tset 0 s.twn.slowTicks b n } } : State).setF (Reg.TWN_BUNDLE_STATUS b) 9 9 (b2n (60 ≤ n))).setR
    (Reg.TWN_BUNDLE_LATENCY b) (Nat.min 65535 latency)).setR Reg.TWN_PHASE (toBits 32 delta)

theorem timed_eq : s.timed b n latency delta =
    if n = 60 then (s.latencyShown b n latency delta).raise fltLinkLatency (subjInst 14 (1 + b)) else s.latencyShown b n latency delta := rfl

theorem timed_slowTicks : tget 0 (s.timed b n latency delta).twn.slowTicks b = n := by
  have hshown : (s.latencyShown b n latency delta).twn.slowTicks = tset 0 s.twn.slowTicks b n := by
    simp only [State.latencyShown, setR_twn, setF_twn]
  rw [timed_eq, apply_ite State.twn, raise_twn, ite_self, hshown, tget_tset_self]

theorem timed_getR {d : Nat} (hd : d ≠ Reg.BOOT_FAULT_OVERFLOW) : (s.timed b n latency delta).getR d = (s.latencyShown b n latency delta).getR d := by
  rw [timed_eq, getR_ite, (State.KeepsFrame.raise _ _ _ _).regs d hd, ite_self]

theorem timed_latency : (s.timed b n latency delta).getR (Reg.TWN_BUNDLE_LATENCY b) = Nat.min 65535 latency := by
  have hfar : Reg.TWN_BUNDLE_LATENCY b ≠ Reg.BOOT_FAULT_OVERFLOW := by unfold Reg.TWN_BUNDLE_LATENCY Reg.BOOT_FAULT_OVERFLOW; omega
  have hphase : Reg.TWN_BUNDLE_LATENCY b ≠ Reg.TWN_PHASE := by unfold Reg.TWN_BUNDLE_LATENCY Reg.TWN_PHASE; omega
  have hmod : ∀ x, Nat.min 65535 x % 2 ^ 32 = Nat.min 65535 x := fun x =>
    Nat.mod_eq_of_lt (Nat.lt_of_le_of_lt (Nat.min_le_left 65535 x) (by decide))
  rw [timed_getR n latency delta hfar, State.latencyShown, getR_setR_ne hphase, getR_setR_self, hmod]

theorem timed_phase : (s.timed b n latency delta).getR Reg.TWN_PHASE = toBits 32 delta := by
  rw [timed_getR n latency delta (by decide), State.latencyShown, getR_setR_self, Nat.mod_eq_of_lt (toBits_lt 32 delta)]

theorem timed_faulted (hn : n = 60) (hup : s.boot.warmRun = false) :
    (s.timed b n latency delta).faulted fltLinkLatency (subjInst 14 (1 + b)) = true := by
  rw [timed_eq, if_pos hn]
  refine raise_faulted ?_ _ _ _
  simp only [State.latencyShown, setR_boot, setF_boot, hup]

end Timed

theorem bundleLatency_not_status {b : Nat} (hb : b < 2) : Reg.TWN_BUNDLE_LATENCY b ∉ statusRegs := by
  unfold Reg.TWN_BUNDLE_LATENCY
  have hfar : ∀ e ∈ statusRegs, e < 58736640 ∨ 58770000 ≤ e := by decide
  intro hmem
  have := hfar _ hmem
  omega

section Heard

variable {s : State} {h : AusHdr} (hears : s.hears h = true)
include hears

theorem ausilTime_unsent (tx echo arrival : Nat) (hsent : tget 0 s.twn.timeSent (b2n h.bundleB) = 0) : ausilTime h tx echo arrival s = s.heard h := by
  rw [ausilTime, ausRx_heard _ hears]
  dsimp only
  rw [heard_timeSent, hsent]

theorem ausilTime_timed (tx echo arrival : Nat) {t1 : Nat} (hsent : tget 0 s.twn.timeSent (b2n h.bundleB) = t1 + 1) :
    ausilTime h tx echo arrival s =
      (let latency := ((((arrival : Int) - t1) - ((tx : Int) - echo)) / 2).toNat
      (s.heard h).timed (b2n h.bundleB) (if 20000 < latency then tget 0 s.twn.slowTicks (b2n h.bundleB) + 1 else 0) latency
        ((((t1 : Int) - echo) + ((arrival : Int) - tx)) / 2)) := by
  rw [← heard_timeSent s h] at hsent
  rw [ausilTime, ausRx_heard _ hears, ← heard_slowTicks s h]
  generalize s.heard h = u at hsent
  dsimp only
  split
  · rename_i hzero
    rw [hzero] at hsent
    cases hsent
  · rename_i t hone
    obtain rfl : t = t1 := Nat.succ.inj (hone.symm.trans hsent)
    rw [State.timed]

end Heard

end Sys2Proof.Machine

open Sys2Proof Sys2Proof.Machine

/-- Settles O55: what a heard frame leaves of the pair is what the frame's own step reads, so each step acts on the pair as it stood
(notes/assumptions 51, 52, 54 and 55). -/
theorem pairingFollowsItsSteps : Obligations.PairingFollowsItsSteps := by
  intro h s failed
  refine ⟨fun hears => ?_, fun o a ho ha hpair hmine htheirs hdue => ?_, fun ha => ⟨?_, ?_⟩, fun hpair hshadows hun hsplit => ?_, fun hpair => ?_,
    fun a ha hpair hlate => ⟨_, finish_eq_after (pairAttemptTimeout_fails ha hpair hlate), failed_of_fails rfl s 0⟩, fun hpair hdue => ?_,
    fun hnot => ?_⟩
  · intro u
    refine ⟨fun fl => ?_, fun i hpair => ?_, fun i hmirror => ?_, fun e T hnot => finish_eq_after (pairPropose_ignored hears e T hnot),
      fun e T hpair hrole hident => ?_, fun a r e T ha hpair hrole hans he hT => ?_, fun a r e T ha hpair he hT => ?_,
      fun r e T ha => ⟨finish_eq_after (pairAnswer_none hears r e T ha), finish_eq_after (pairCommitted_none hears r e T ha)⟩,
      fun hpair => ?_, fun hpair => ?_, fun tx echo arr hsent => finish_eq_after (ausilTime_unsent hears tx echo arr hsent),
      fun tx echo arr t1 hsent => ?_⟩
    · refine ⟨_, exec_ausilHeartbeat hears fl, ?_, fun hbit htick => ?_, fun hnot => ?_⟩
      · rw [after_twn, apply_ite State.twn]
        split <;> rfl
      · have hnow : h.tick = (s.heard h).now := htick.trans (heard_now s h).symm
        rw [after_twn, if_pos (Bool.and_eq_true_iff.mpr ⟨hbit, decide_eq_true hnow⟩)]
        exact hear_heardNow _ _
      · have hnow : bit fl 0 = true → h.tick ≠ (s.heard h).now := fun hbit => by
          rw [heard_now]
          exact hnot.resolve_left (by simp [hbit])
        rw [after_twn, if_neg (fun hc => hnow (Bool.and_eq_true_iff.mp hc).1 (of_decide_eq_true (Bool.and_eq_true_iff.mp hc).2))]
        exact heard_heardNow s h
    · obtain ⟨hident, hceil, hpass, hrefuse⟩ := ausilIdentity_judges hears i hpair
      exact ⟨_, finish_after _ _, by rw [after_twn, hident], by rw [after_twn, hceil], by rw [after_twn]; exact hpass, by rw [after_twn]; exact hrefuse⟩
    · refine ⟨_, finish_eq_after (ausilIdentity_mirroring hears i hmirror), ?_⟩
      rw [after_twn]
      have hident : ((s.heard h).noteIdentity i).twn.ident = some i := by rw [noteIdentity_twn]
      have hrefused : ∀ n, (((s.heard h).noteIdentity i).refusePair n).twn.ident = some i ∧
          (((s.heard h).noteIdentity i).refusePair n).twn.pair = .refused ∧ (((s.heard h).noteIdentity i).refusePair n).twn.refused = n := fun n =>
        ⟨(congrArg TwnSt.ident (refusePair_twn _ n).2 :).trans hident, (refusePair_twn _ n).1, refusePair_refused _ n⟩
      dsimp only
      by_cases hd : i.digest = s.boot.image.digest
      · rw [if_neg (not_not_intro hd)]
        by_cases hf : i.format = s.boot.fwWrite
        · rw [if_neg (not_not_intro hf)]
          exact ⟨hident, fun hne => absurd hd hne, fun _ hne => absurd hf hne, fun _ _ => by rw [noteIdentity_twn]; exact heard_pair s h⟩
        · rw [if_pos hf]
          exact ⟨(hrefused 4).1, fun hne => absurd hd hne, fun _ _ => (hrefused 4).2, fun _ heq => absurd heq hf⟩
      · rw [if_pos hd]
        exact ⟨(hrefused 3).1, fun _ => (hrefused 3).2, fun heq => absurd heq hd, fun heq => absurd heq hd⟩
    · by_cases he : e = u.outcome.2.1
      · refine ⟨_, finish_eq_after (pairPropose_agrees hears hpair hrole hident T he), fun hne => absurd he hne, fun _ => ⟨?_, fun hlt => ?_⟩⟩
        · rw [after_twn, commitAttempt_attempt]
        · have hsent : (u.sendPair 2 0 e T).tly.epoch = s.tly.epoch :=
            (congrArg TallySt.epoch (State.Reports.sendAus u _ _ _ _).tly :).trans (heard_epoch s h)
          rw [after_tly, commitAttempt_epoch (by rw [hsent]; exact hlt)]
      · have hsent : (u.sendPair 2 2 e T).twn.fails = s.twn.fails :=
          (congrArg TwnSt.fails (State.Reports.sendAus u _ _ _ _).twn :).trans (heard_fails s h)
        exact ⟨_, finish_eq_after (pairPropose_differs hears hpair hrole hident T he), fun _ => failed_of_fails hsent s 2, fun heq => absurd heq he⟩
    · subst he hT
      by_cases hr : r = 0
      · refine ⟨_, finish_eq_after ((pairAnswer_taken hears ha hpair r hrole hans).trans (if_neg (not_not_intro hr))), fun hne => absurd hr hne,
          fun _ => ⟨by rw [after_twn, commitAttempt_attempt], fun hlt => ?_⟩⟩
        rw [after_tly, commitAttempt_epoch (by rw [heard_epoch]; exact hlt)]
      · exact ⟨_, finish_eq_after ((pairAnswer_taken hears ha hpair r hrole hans).trans (if_pos hr)), fun _ => failed_of_fails (heard_fails s h) s r,
          fun heq => absurd heq hr⟩
    · subst he hT
      by_cases hr : r = 0
      · exact ⟨_, finish_eq_after ((pairCommitted_taken hears ha hpair r).trans (if_neg (not_not_intro hr))), fun hne => absurd hr hne,
          fun _ => by rw [after_twn]⟩
      · exact ⟨_, finish_eq_after ((pairCommitted_taken hears ha hpair r).trans (if_pos hr)), fun _ => failed_of_fails (heard_fails s h) s r,
          fun heq => absurd heq hr⟩
    · exact ⟨_, finish_eq_after ((ausRx_heard _ hears).trans (if_pos ((heard_pair s h).trans hpair))), by rw [after_twn]⟩
    · exact finish_eq_after ((ausRx_heard _ hears).trans (if_neg (fun heq => hpair ((heard_pair s h).symm.trans heq))))
    · intro latency n
      have hb : b2n h.bundleB < 2 := b2n_lt_two _
      refine ⟨_, finish_eq_after (ausilTime_timed hears tx echo arr hsent), ?_, ?_, ?_, fun hn hup => ?_⟩
      · rw [after_twn, timed_slowTicks]
      · rw [after_getR_ne (bundleLatency_not_status hb), timed_latency]
      · rw [after_getR_ne (by decide), timed_phase]
      · rw [after_faulted, timed_faulted _ _ _ hn ((heard_warmRun s h).trans hup)]
  · have hsettle : ∃ w : State, exec (.syncStart o) s = .next (s.after w.settle) ∧ w.twn.unsent.unread = s.twn.unsent.unread ∧
        w.now = s.now ∧ w.pins = s.pins := by
      cases o with
      | none => exact ⟨s, rfl, rfl, rfl, rfl⟩
      | some x => exact ⟨s.heard x, finish_eq_after (ausRx_heard _ (ho x rfl)), heard_unread s x, heard_now s x, heard_pins s x⟩
    obtain ⟨w, hexec, htwn, hnow, hpins⟩ := hsettle
    have hrole : w.twn.roleB = s.twn.roleB := (congrArg TwnSt.roleB htwn :)
    have hcross : w.twn.cross = s.twn.cross := (congrArg TwnSt.cross htwn :)
    have hsettles := settle_settles (s := w) ((congrArg TwnSt.attempt htwn :).trans ha) ((congrArg TwnSt.pair htwn :).trans hpair) hmine htheirs
      (by rw [hnow]; exact hdue)
    rw [hrole, hcross, hpins] at hsettles
    refine ⟨_, hexec, ?_⟩
    rw [after_twn, after_pins, after_boot, after_tly]
    exact hsettles
  · refine finish_eq_after ?_
    rw [State.settle, ha]
  · refine finish_eq_after ?_
    rw [pairAttemptTimeout, ha]
  · by_cases hentered : s.twn.syncEnter = true
    · refine ⟨_, finish_eq_after (if_neg (by simp [hentered])), ?_⟩
      rw [after_twn, hentered]
    · refine ⟨_, finish_eq_after (if_pos (by simp [hpair, hshadows, hun, hsplit, hentered])), ?_⟩
      rw [after_twn]
      exact (congrArg TwnSt.syncEnter (State.Reports.sendAus _ _ _ _ _).twn :)
  · exact finish_eq_after (if_neg (by simp [hpair]))
  · refine ⟨_, finish_eq_after (if_pos (by simp [hpair, hdue])), ?_⟩
    rw [after_twn]
    exact (congrArg TwnSt.identTick (State.Reports.sendAus _ _ _ _ _).twn :)
  · refine finish_eq_after (if_neg ?_)
    obtain hnot | hnot := hnot
    · simp [hnot]
    · simp [not_le.mpr hnot]
end

section
/-!
PROOFS. What ends and moves a pair (R526, R539 to R544, R550): bundles that come and go, the sideband, the loss of the partner and what
follows it, the planned switchover, and the releases.
-/

namespace Sys2Proof.Machine

/-! ### Bundles (R517, R526) -/

theorem bundleStatus_not_pair {b : Nat} (hb : b < 2) : Reg.TWN_BUNDLE_STATUS b ∉ pairRegs := by
  unfold Reg.TWN_BUNDLE_STATUS
  have hfar : ∀ e ∈ pairRegs, e < 58736640 := by decide
  intro hmem
  have := hfar _ hmem
  omega

theorem bundleStatus_not_status {b : Nat} (hb : b < 2) : Reg.TWN_BUNDLE_STATUS b ∉ statusRegs := by
  unfold Reg.TWN_BUNDLE_STATUS
  have hfar : ∀ e ∈ statusRegs, e < 58736640 ∨ 58770000 ≤ e := by decide
  intro hmem
  have := hfar _ hmem
  omega

theorem bundleStatus_not_report : ∀ b < 2, reportReg (Reg.TWN_BUNDLE_STATUS b) = false := by decide

theorem bundleUp_of_settles {core : TwnSt → TwnSt} {s t : State} (h : s.Settles core t) {b : Nat} (hb : b < 2) : t.bundleUp b = s.bundleUp b := by
  rw [State.bundleUp, h.field (bundleStatus_not_report b hb) (bundleStatus_not_pair hb), State.bundleUp]

theorem after_bundleUp {b : Nat} (hb : b < 2) (s t : State) : (s.after t).bundleUp b = t.bundleUp b := by
  rw [State.bundleUp, after_getF (bundleStatus_not_status hb), State.bundleUp]

/-- The lowest bit of a register is the parity of any field that ends there. -/
theorem getF_lowest (s : State) (d hi : Nat) : s.getF d 0 0 = s.getF d hi 0 % 2 := by
  have hdvd : (2 : Nat) ∣ 2 ^ (hi + 1 - 0) := dvd_pow_self 2 (Nat.succ_ne_zero hi)
  unfold State.getF bits
  exact (Nat.mod_mod_of_dvd _ hdvd).symm

/-- The lock of all eight lanes of a bundle, or of none. -/
theorem bundleUp_setF (s : State) (b : Nat) (up : Bool) : (s.setF (Reg.TWN_BUNDLE_STATUS b) 8 0 (if up then 0x1FF else 0)).bundleUp b = up := by
  rw [State.bundleUp, getF_lowest _ _ 8, getF_setF_self _ _ _ _ _ (by decide) (by decide)]
  cases up <;> rfl

/-- The other bundle stays as it is. -/
theorem bundleUp_setF_other (s : State) {b b' : Nat} (h : b' ≠ b) (v : Nat) :
    (s.setF (Reg.TWN_BUNDLE_STATUS b) 8 0 v).bundleUp b' = s.bundleUp b' := by
  have hne : Reg.TWN_BUNDLE_STATUS b' ≠ Reg.TWN_BUNDLE_STATUS b := by unfold Reg.TWN_BUNDLE_STATUS; omega
  rw [State.bundleUp, getF_setF_ne hne, State.bundleUp]

/-- A bundle whose eight lanes lock, before the pair is moved by it. -/
def State.bundleLocked (s : State) (b : Nat) : State :=
  let s := s.setF (Reg.TWN_BUNDLE_STATUS b) 8 0 0x1FF
  let s := { s with twn := { s.twn with rxSeq := tdel b s.twn.rxSeq, slowTicks := tdel b s.twn.slowTicks, timeSent := tdel b s.twn.timeSent }, adm := { s.adm with recount := true } }
  (s.clearReasonOf fltBundleDown (subjInst 14 (1 + b))).clearReasonOf fltLinkDown subjLink

section Locked

variable (s : State) (b : Nat)

theorem clearReasonOf_twn (code subject : Nat) : (s.clearReasonOf code subject).twn = s.twn := by
  rw [State.clearReasonOf, State.clearReason, apply_ite State.twn, ite_self]

theorem clearReasonOf_adm (code subject : Nat) : (s.clearReasonOf code subject).adm = s.adm := by
  rw [State.clearReasonOf, State.clearReason, apply_ite State.adm, ite_self]

theorem bundleUp_of_getR {s t : State} {b : Nat} (h : t.getR (Reg.TWN_BUNDLE_STATUS b) = s.getR (Reg.TWN_BUNDLE_STATUS b)) :
    t.bundleUp b = s.bundleUp b := by
  rw [State.bundleUp, State.getF, h, State.bundleUp, State.getF]

theorem bundleLocked_up : (s.bundleLocked b).bundleUp b = true := by
  rw [← bundleUp_setF s b true]
  have hbeside : ∀ (w : State) x y d, ({ w with twn := x, adm := y } : State).getR d = w.getR d := fun _ _ _ _ => rfl
  refine bundleUp_of_getR ?_
  simp only [State.bundleLocked, State.clearReasonOf, clearReason_getR, hbeside, if_true]

theorem bundleLocked_recount : (s.bundleLocked b).adm.recount = true := by
  rw [State.bundleLocked, clearReasonOf_adm, clearReasonOf_adm]

theorem bundleLocked_pair : (s.bundleLocked b).twn.pair = s.twn.pair ∧ (s.bundleLocked b).twn.paired = s.twn.paired := by
  rw [State.bundleLocked, clearReasonOf_twn, clearReasonOf_twn, setF_twn]
  exact ⟨rfl, rfl⟩

/-- A bundle that comes up makes a SOLO device of a pair begin to link. -/
theorem bundleUpCmd_locks {s : State} {b : Nat} (hb : b < 2) (hsealed : s.sealed = true) (hdown : s.bundleUp b = false) : bundleUpCmd b s =
    if s.twn.pair = .solo ∧ s.twn.paired = true then
      ({ s.bundleLocked b with twn := { (s.bundleLocked b).twn with attempt := none, identOk := false, fails := 0 } } : State).setPair .linking
    else s.bundleLocked b := by
  obtain ⟨hpair, hpaired⟩ := bundleLocked_pair s b
  rw [bundleUpCmd, if_neg (by simp [hsealed, hdown]; omega), ← hpair, ← hpaired]
  have hcond : ((s.bundleLocked b).twn.pair = .solo ∧ (s.bundleLocked b).twn.paired = true) =
      ((decide ((s.bundleLocked b).twn.pair = .solo) && (s.bundleLocked b).twn.paired) = true) := by simp
  simp only [hcond]
  rfl

end Locked

/-- A bundle that lost its lock, told, before the pair is moved by it. -/
def State.bundleLost (s : State) (b : Nat) : State :=
  let s := s.setF (Reg.TWN_BUNDLE_STATUS b) 8 0 0
  ({ s with adm := { s.adm with recount := true } }).raise fltBundleDown (subjInst 14 (1 + b))

section Lost

variable (s : State) (b : Nat)

theorem bundleLost_getR {d : Nat} (hd : d ≠ Reg.BOOT_FAULT_OVERFLOW) :
    (s.bundleLost b).getR d = (s.setF (Reg.TWN_BUNDLE_STATUS b) 8 0 0).getR d := by
  have hbeside : ∀ (w : State) x d, ({ w with adm := x } : State).getR d = w.getR d := fun _ _ _ => rfl
  rw [State.bundleLost, (State.KeepsFrame.raise _ _ _ _).regs d hd, hbeside]

theorem bundleLost_down : (s.bundleLost b).bundleUp b = false := by
  rw [← bundleUp_setF s b false]
  exact bundleUp_of_getR (bundleLost_getR s b (by unfold Reg.TWN_BUNDLE_STATUS Reg.BOOT_FAULT_OVERFLOW; omega))

theorem bundleLost_other {b' : Nat} (h : b' ≠ b) : (s.bundleLost b).bundleUp b' = s.bundleUp b' := by
  rw [← bundleUp_setF_other s h 0]
  exact bundleUp_of_getR (bundleLost_getR s b (by unfold Reg.TWN_BUNDLE_STATUS Reg.BOOT_FAULT_OVERFLOW; omega))

theorem bundleLost_twn : (s.bundleLost b).twn = s.twn := by
  rw [State.bundleLost, raise_twn, setF_twn]

theorem bundleLost_recount : (s.bundleLost b).adm.recount = true := by
  rw [State.bundleLost, raise_adm]

theorem bundleLost_heard : (s.bundleLost b).getF Reg.TWN_PAIR_STATUS 11 11 = s.getF Reg.TWN_PAIR_STATUS 11 11 := by
  have hne : Reg.TWN_PAIR_STATUS ≠ Reg.TWN_BUNDLE_STATUS b := by unfold Reg.TWN_PAIR_STATUS Reg.TWN_BUNDLE_STATUS; omega
  rw [State.getF, bundleLost_getR s b (by decide), getR_setF_ne hne, State.getF]

theorem bundleLost_mirroring : (s.bundleLost b).mirroring = s.mirroring := by rw [State.mirroring, bundleLost_twn, State.mirroring]

theorem bundleLost_faulted (hup : s.boot.warmRun = false) : (s.bundleLost b).faulted fltBundleDown (subjInst 14 (1 + b)) = true :=
  raise_faulted (by rw [setF_boot, hup]) _ _ _

variable {s b}

theorem bundleDownCmd_loses (hb : b < 2) (hsealed : s.sealed = true) (hup : s.bundleUp b = true) : bundleDownCmd b s =
    (s.bundleLost b).linkDown (s.twn.heardNow.contains 2 || s.getF Reg.TWN_PAIR_STATUS 11 11 = 1) := by
  rw [bundleDownCmd, if_neg (by simp [hsealed, hup]; omega), ← bundleLost_heard s b, ← bundleLost_twn s b]
  rfl

/-- The lost bundle's partner decides whether the link is down. -/
theorem bundleLost_bundles (hb : b < 2) : ((s.bundleLost b).bundleUp 0 || (s.bundleLost b).bundleUp 1) = s.bundleUp (1 - b) := by
  obtain rfl | rfl : b = 0 ∨ b = 1 := by omega
  · rw [bundleLost_down, bundleLost_other s 0 (by decide), Bool.false_or]
  · rw [bundleLost_down, bundleLost_other s 1 (by decide), Bool.or_false]

end Lost

section LinkDown

variable {s : State} (heard : Bool)

theorem linkDown_linked (h : (s.bundleUp 0 || s.bundleUp 1) = true) : s.linkDown heard = s := if_pos h

theorem linkDown_mirroring (h : (s.bundleUp 0 || s.bundleUp 1) = false) (hmirror : s.mirroring = true) :
    s.linkDown heard = if heard then (s.raise fltLinkDown subjLink).setPair .solo else s :=
  (if_neg (ne_true_of_eq_false h)).trans (if_pos hmirror)

theorem linkDown_unformed (h : (s.bundleUp 0 || s.bundleUp 1) = false) (hpair : s.twn.pair = .linking ∨ s.twn.pair = .refused) :
    s.linkDown heard = s.setPair .solo := by
  have hnot : ¬ s.mirroring = true := by
    unfold State.mirroring
    obtain hpair | hpair := hpair <;> rw [hpair] <;> decide
  refine (if_neg (ne_true_of_eq_false h)).trans ((if_neg hnot).trans (if_pos ?_))
  obtain hpair | hpair := hpair <;> simp [hpair]

theorem linkDown_settles (s : State) (heard : Bool) : s.Settles TwnSt.unpaired (s.linkDown heard) :=
  .ite (.refl s) (.ite (.ite ((State.Reports.raise s _ _ _).settlesPair.trans (setPair_settles _ _)) (.refl s))
    (.ite (setPair_settles s _) (.refl s)))

end LinkDown

theorem recount_of_settles {core : TwnSt → TwnSt} {s t : State} (h : s.Settles core t) : t.adm.recount = s.adm.recount :=
  (congrArg (fun m : Media => m.adm.recount) h.media :)

/-! ### The sideband (R539, R540) -/

section Fence

variable {s : State}

/-- A device that is up and sees AUS_FENCE_IN rise, before it is FENCED. -/
def State.fenceSeen (s : State) : State :=
  let s := ({ s with pins := { s.pins with fenceIn := true } } : State).setF Reg.TWN_PAIR_STATUS 7 7 1
  if s.mirroring then ((s.askPlane .fence none).latchFence true).raise fltFenced subjLink else s

theorem gated_sealed (s : State) (x : PinSt) : ({ s with pins := x } : State).sealed = s.sealed := rfl

theorem latchFence_planePend (s : State) (on : Bool) : (s.latchFence on).boot.planePend = s.boot.planePend :=
  (congrArg BootSt.planePend (latchFence_settles s on).boot :)

theorem askPlane_planePend (s : State) (c : PlaneCause) (m : Option Bool) : (s.askPlane c m).boot.planePend = some c := rfl

theorem ausFenceInRise_sealed (h : s.pins.fenceIn = false) (hsealed : s.sealed = true) : ausFenceInRise s = s.fenceSeen.setPair .fenced :=
  (if_neg (ne_true_of_eq_false h)).trans (if_neg (by rw [gated_sealed, hsealed]; decide))

theorem ausFenceInRise_unsealed (h : s.pins.fenceIn = false) (hsealed : s.sealed = false) :
    ausFenceInRise s = { s with pins := { s.pins with fenceIn := true } } :=
  (if_neg (ne_true_of_eq_false h)).trans (if_pos (by rw [gated_sealed, hsealed]; decide))

theorem fenceSeen_fenceIn : s.fenceSeen.pins.fenceIn = true := by
  have hseen : (({ s with pins := { s.pins with fenceIn := true } } : State).setF Reg.TWN_PAIR_STATUS 7 7 1).pins.fenceIn = true := by rw [setF_pins]
  unfold State.fenceSeen
  dsimp only
  split
  · rw [raise_pins, (latchFence_settles _ _).pins]
    exact hseen
  · exact hseen

/-- A device whose pair mirrors asks for a plane reset and latches. -/
theorem fenceSeen_latches (hmirror : s.mirroring = true) :
    s.fenceSeen.tly.fencedLatched = true ∧ s.fenceSeen.boot.planePend = some .fence := by
  have hmirror' : (({ s with pins := { s.pins with fenceIn := true } } : State).setF Reg.TWN_PAIR_STATUS 7 7 1).mirroring = true := by
    rw [State.mirroring, setF_twn]
    exact hmirror
  unfold State.fenceSeen
  dsimp only
  rw [if_pos hmirror']
  have htold : ∀ (w : State), (w.raise fltFenced subjLink).tly.fencedLatched = w.tly.fencedLatched ∧
      (w.raise fltFenced subjLink).boot.planePend = w.boot.planePend := fun w =>
    ⟨(congrArg TallySt.fencedLatched (State.Reports.raise w _ _ _).tly :), (congrArg BootSt.planePend (State.Reports.raise w _ _ _).boot :)⟩
  refine ⟨(htold _).1.trans (latchFence_latched _ _), (htold _).2.trans ?_⟩
  rw [latchFence_planePend, askPlane_planePend]

end Fence

/-! ### The loss of the partner (R541) -/

/-- The fence raised under the next epoch, and told. -/
def State.lossFenced (s : State) : State := ((s.commitEpoch (s.tly.epoch.toNat + 1)).setFenceOut true).raise fltTakeover subjLink

theorem actOnLoss_acts {s : State} (h : s.pins.fenceIn = false) :
    s.actOnLoss = { s.lossFenced with twn := { s.lossFenced.twn with takeAt := some (s.lossFenced.now + 1) } } :=
  if_neg (ne_true_of_eq_false h)

theorem actOnLoss_gated {s : State} (h : s.pins.fenceIn = true) : s.actOnLoss = s := if_pos h

theorem epoch_succ (x : BitVec 32) : BitVec.ofNat 32 (x.toNat + 1) = x + 1 := by
  apply BitVec.eq_of_toNat_eq
  simp [BitVec.toNat_add]

section LossFenced

variable (s : State)

theorem commitEpoch_next : (({ s with tly := { s.tly with epoch := BitVec.ofNat 32 (s.tly.epoch.toNat + 1) } } : State)).Settles TwnSt.unsent
    (s.commitEpoch (s.tly.epoch.toNat + 1)) := commitEpoch_rises (Nat.lt_succ_self _)

theorem lossFenced_unsent : s.lossFenced.twn.unsent = s.twn.unsent := by
  rw [State.lossFenced, raise_twn, State.setFenceOut, setF_twn]
  exact commitEpoch_unsent s _

theorem lossFenced_now : s.lossFenced.now = s.now := by
  rw [State.lossFenced, State.now, raise_tim, State.setFenceOut, setF_tim]
  exact congrArg TimSt.tick (commitEpoch_next s).tim

theorem lossFenced_fenceOut (h : s.pins.fenceIn = false) : s.lossFenced.pins.fenceOut = true := by
  have hpins : (s.commitEpoch (s.tly.epoch.toNat + 1)).pins = s.pins := (commitEpoch_next s).pins
  rw [State.lossFenced, raise_pins, State.setFenceOut, setF_pins]
  dsimp only
  rw [hpins, h]
  rfl

theorem lossFenced_epoch : s.lossFenced.tly.epoch = s.tly.epoch + 1 := by
  have htold : s.lossFenced.tly.epoch = ((s.commitEpoch (s.tly.epoch.toNat + 1)).setFenceOut true).tly.epoch :=
    (congrArg TallySt.epoch (State.Reports.raise _ fltTakeover subjLink []).tly :)
  rw [htold, State.setFenceOut, setF_tly, ← epoch_succ]
  exact commitEpoch_epoch (Nat.lt_succ_self _)

variable {s}

/-- The device that acts on a loss. -/
theorem actOnLoss_facts (h : s.pins.fenceIn = false) : s.actOnLoss.twn.lossAt = s.twn.lossAt ∧ s.actOnLoss.twn.takeAt = some (s.now + 1) ∧
    s.actOnLoss.pins.fenceOut = true ∧ s.actOnLoss.tly.epoch = s.tly.epoch + 1 := by
  rw [actOnLoss_acts h]
  refine ⟨(congrArg TwnSt.lossAt (lossFenced_unsent s) :), ?_, lossFenced_fenceOut s h, lossFenced_epoch s⟩
  rw [lossFenced_now]

end LossFenced

/-- Does this device act at once on a loss: the standby, or role B of a cross pair? -/
def State.actsAtOnce (s : State) : Bool := if s.twn.cross then s.twn.roleB else !s.twn.authSelf

section Loss

variable {s : State} (hmirror : s.mirroring = true) (htake : s.twn.takeAt = none)
include hmirror htake

theorem partnerLoss_eq : partnerLoss s = match s.twn.lossAt with
    | none =>
      if s.getF Reg.TWN_PAIR_STATUS 13 12 < 3 then s
      else if s.actsAtOnce then ({ s with twn := { s.twn with lossAt := some s.now } } : State).actOnLoss
      else { s with twn := { s.twn with lossAt := some s.now } }
    | some d => if s.twn.cross && !s.actsAtOnce && decide (d + 2 ≤ s.now) then s.actOnLoss else s := by
  exact if_neg (by simp [hmirror, htake])

theorem partnerLoss_lost (hloss : s.twn.lossAt = none) (hsilent : s.getF Reg.TWN_PAIR_STATUS 13 12 = 3) : partnerLoss s =
    if s.actsAtOnce then ({ s with twn := { s.twn with lossAt := some s.now } } : State).actOnLoss
    else { s with twn := { s.twn with lossAt := some s.now } } := by
  rw [partnerLoss_eq hmirror htake, hloss]
  exact if_neg (by omega)

theorem partnerLoss_late {d : Nat} (hloss : s.twn.lossAt = some d) :
    partnerLoss s = if s.twn.cross && !s.actsAtOnce && decide (d + 2 ≤ s.now) then s.actOnLoss else s := by
  rw [partnerLoss_eq hmirror htake, hloss]

end Loss

theorem partnerLoss_idle {s : State}
    (h : s.mirroring = false ∨ s.twn.takeAt.isSome = true ∨ (s.twn.lossAt = none ∧ s.getF Reg.TWN_PAIR_STATUS 13 12 < 3)) :
    partnerLoss s = s := by
  unfold partnerLoss
  split
  · rfl
  · rename_i hopen
    simp only [Bool.or_eq_true, Bool.not_eq_true', not_or] at hopen
    obtain h | h | ⟨hloss, hheard⟩ := h
    · exact absurd h hopen.1
    · exact absurd h hopen.2
    · rw [hloss]
      exact if_pos hheard

/-! ### The planned switchover (R544) -/

theorem planSwitch_handover (s : State) (T asked : Nat) (rto : ReplyTo) : (s.planSwitch T asked rto).twn.handover = some (T, true, rto) :=
  (congrArg TwnSt.handover (State.Reports.sendEvent _ _ _ _ _).twn :)

theorem giveOver_unsent (s : State) :
    s.giveOver.twn.unsent = { s.twn with handover := none, authSelf := false, hold := some false, sealed := some s.now }.unsent := by
  rw [State.giveOver, commitEpoch_unsent]
  dsimp only
  split
  · rw [each_keeps State.twn (fun w f => onFold_twn w f _)]
  · rfl

/-- What the authority's side of a switchover leaves. -/
def State.handedOver (s : State) : State :=
  match s.twn.handover with
  | some (T, true, _) => if T ≤ s.now then s.giveOver else s
  | _ => s

theorem switchoverExecute_eq (s : State) : switchoverExecute s = match s.handedOver.twn.switchIn with
    | some (T, false) =>
      if T ≤ s.handedOver.now then
        ({ s.handedOver with twn := { s.handedOver.twn with switchIn := some (T, true) } } : State).commitEpoch (s.handedOver.tly.epoch.toNat + 1)
      else s.handedOver
    | some (T, true) =>
      if T < s.handedOver.now then (({ s.handedOver with twn := { s.handedOver.twn with switchIn := none } } : State).takeOver).oweAll
      else s.handedOver
    | none => s.handedOver := by
  unfold switchoverExecute State.handedOver
  rfl

theorem handedOver_none {s : State} (h : s.twn.handover = none) : s.handedOver = s := by rw [State.handedOver, h]

theorem handedOver_due {s : State} {T : Nat} {rto : ReplyTo} (h : s.twn.handover = some (T, true, rto)) (hdue : T ≤ s.now) :
    s.handedOver = s.giveOver := by
  rw [State.handedOver, h]
  exact if_pos hdue

theorem taken_now (s : State) (m : Msg) (typ : Nat) : (s.taken m typ).now = s.now := by
  obtain ⟨x, hx⟩ := taken_eq s m typ
  rw [hx, State.now, State.now]

/-! ### Releases (R540, R550) -/

/-- The latch cleared, where it is set. -/
def State.unlatched (s : State) : State := if s.tly.fencedLatched then s.latchFence false else s

/-- The latch cleared, and a FENCED device SOLO. -/
def State.released (s : State) : State := if s.unlatched.twn.pair = .fenced then s.unlatched.setPair .solo else s.unlatched

theorem unlatched_facts (s : State) : s.unlatched.tly.fencedLatched = false ∧ s.unlatched.twn.pair = s.twn.pair := by
  unfold State.unlatched
  split
  · exact ⟨latchFence_latched s false, pair_of_unsent (latchFence_settles s false).twn⟩
  · rename_i hclear
    exact ⟨Bool.eq_false_iff.mpr hclear, rfl⟩

theorem released_facts (s : State) :
    s.released.tly.fencedLatched = false ∧ s.released.twn.pair = if s.twn.pair = .fenced then .solo else s.twn.pair := by
  obtain ⟨hlatch, hpair⟩ := unlatched_facts s
  have hkept := (setPair_settles s.unlatched .solo).tly
  rw [State.released, ← hpair]
  split
  · exact ⟨(congrArg TallySt.fencedLatched hkept :).trans hlatch, setPair_pair _ _⟩
  · exact ⟨hlatch, rfl⟩

/-- What release in TWN_CTRL does: it lowers the fence while the partner is silent or reports its latch. -/
theorem twnCtrlRelease_fenceOut {s : State} (h : s.answers Reg.TWN_CTRL = true) (v : Nat) : ∃ t, exec (.twnCtrlRelease v) s = .next t ∧
    t.pins.fenceOut = (s.pins.fenceOut && !(bit v 0 && (s.getF Reg.TWN_PAIR_STATUS 13 12 = 3 || bit s.twn.partnerFlags 2))) := by
  have hwritten : (s.written Reg.TWN_CTRL v 1).pins = s.pins ∧ (s.written Reg.TWN_CTRL v 1).twn = s.twn ∧
      (s.written Reg.TWN_CTRL v 1).getF Reg.TWN_PAIR_STATUS 13 12 = s.getF Reg.TWN_PAIR_STATUS 13 12 := by
    have hframe : s.KeepsFrame (s.written Reg.TWN_CTRL v 1) :=
      (State.KeepsFrame.outside s).trans (.ite (.accessIgnored _ _ _) (.refl _))
    exact ⟨hframe.rest.pins, hframe.rest.twn, by rw [State.getF, hframe.regs _ (by decide), State.getF]⟩
  obtain ⟨hpins, htwn, hsilent⟩ := hwritten
  refine ⟨_, finish_eq_after (ctrlWrite_answered h _), ?_⟩
  rw [after_pins, hpins, htwn, hsilent]
  generalize (decide (s.getF Reg.TWN_PAIR_STATUS 13 12 = 3) || bit s.twn.partnerFlags 2) = free
  split
  · rename_i hopen
    simp only [Bool.and_eq_true] at hopen
    obtain ⟨⟨hbit, hout⟩, hfree⟩ := hopen
    rw [State.setFenceOut, setF_pins, hbit, hfree]
    simp
  · rename_i hshut
    rw [hpins]
    revert hshut
    cases bit v 0 <;> cases s.pins.fenceOut <;> cases free <;> simp

end Sys2Proof.Machine

open Sys2Proof Sys2Proof.Machine

/-- Settles O57: each event of the pair acts on the twin alone, so what it sets is still set once the pair state has moved and its record
and replies are out (notes/assumptions 51, 52 and 55). -/
theorem fencesLossAndSwitchoverFollowTheirRules : Obligations.FencesLossAndSwitchoverFollowTheirRules := by
  intro s
  refine ⟨fun b hb hsealed hdown => ?_, fun b hnot => ?_, fun b hb hsealed hup => ?_, fun b hnot => ?_, ?_, fun hin => finish_eq_after (if_pos hin),
    fun hin => ?_, ?_, fun hnot => finish_eq_after (partnerLoss_idle hnot), fun hmirror htake => ?_, fun T htake hdue => ?_, fun htake => ?_,
    fun T htake hsoon => ?_, fun d hloss hmirror hcross hauth hdue hin => ?_, fun hloss => ?_, fun d hloss hnot => ?_, fun m T h => ?_,
    fun T rto hhand hswitch hdue => ?_, fun T hhand hswitch hdue => ?_, fun T hhand hswitch hdue => ?_, fun hhand hswitch => ?_,
    fun m h => ?_, fun v h => twnCtrlRelease_fenceOut h v, fun v h => ?_⟩
  · refine ⟨_, finish_eq_after (bundleUpCmd_locks hb hsealed hdown), ?_⟩
    rw [after_bundleUp hb, after_adm, after_twn]
    split
    · have hset := setPair_settles ({ s.bundleLocked b with twn := { (s.bundleLocked b).twn with attempt := none, identOk := false, fails := 0 } } : State) .linking
      exact ⟨(bundleUp_of_settles hset hb).trans (bundleLocked_up s b), (recount_of_settles hset).trans (bundleLocked_recount s b), setPair_pair _ _⟩
    · exact ⟨bundleLocked_up s b, bundleLocked_recount s b, (bundleLocked_pair s b).1⟩
  · refine finish_eq_after (if_pos ?_)
    obtain hnot | hnot | hnot := hnot <;> simp [hnot]
  · have hset := linkDown_settles (s.bundleLost b) (s.twn.heardNow.contains 2 || s.getF Reg.TWN_PAIR_STATUS 11 11 = 1)
    have hbundles := bundleLost_bundles (s := s) hb
    refine ⟨_, finish_eq_after (bundleDownCmd_loses hb hsealed hup), ?_, ?_, fun hother => ?_, fun hother hpair => ?_, fun hother hmirror => ?_⟩
    · rw [after_bundleUp hb, bundleUp_of_settles hset hb, bundleLost_down]
    · rw [after_adm, recount_of_settles hset, bundleLost_recount]
    · rw [after_twn, linkDown_linked _ (hbundles.trans hother), bundleLost_twn]
      exact ⟨rfl, fun hwarm => (after_faulted _ _ _ _).trans (bundleLost_faulted s b hwarm)⟩
    · rw [after_twn, linkDown_unformed _ (hbundles.trans hother) (by rw [bundleLost_twn]; exact hpair), setPair_pair]
    · rw [after_twn, linkDown_mirroring _ (hbundles.trans hother) (by rw [bundleLost_mirroring, hmirror])]
      by_cases hheard : 2 ∈ s.twn.heardNow ∨ s.getF Reg.TWN_PAIR_STATUS 11 11 = 1
      · rw [if_pos hheard, if_pos (by simpa using hheard), setPair_pair]
      · rw [if_neg hheard, if_neg (by simpa using hheard), bundleLost_twn]
  · refine finish_eq_after (if_pos ?_)
    obtain hnot | hnot | hnot := hnot <;> simp [hnot]
  · exact ⟨_, finish_after _ _, by rw [after_pins]; rfl, by rw [after_twn]; exact hear_heardNow _ 2⟩
  · cases hsealed : s.sealed with
    | true =>
      refine ⟨_, finish_eq_after (ausFenceInRise_sealed hin hsealed), ?_, fun _ => ?_, fun _ hmirror => ?_, Bool.noConfusion⟩
      · rw [after_pins, (setPair_settles _ _).pins, fenceSeen_fenceIn]
      · rw [after_twn, setPair_pair]
      · obtain ⟨hlatch, hask⟩ := fenceSeen_latches hmirror
        have hset := setPair_settles s.fenceSeen .fenced
        rw [after_tly, after_boot]
        exact ⟨(congrArg TallySt.fencedLatched hset.tly :).trans hlatch, (congrArg BootSt.planePend hset.boot :).trans hask⟩
    | false =>
      exact ⟨_, finish_eq_after (ausFenceInRise_unsealed hin hsealed), by rw [after_pins], Bool.noConfusion, Bool.noConfusion,
        fun _ => by rw [after_twn]⟩
  · refine ⟨_, finish_after _ _, ?_, ?_, ?_⟩
    · rw [after_pins, apply_ite State.pins, setF_pins, ite_self]
    · rw [after_twn, apply_ite State.twn, setF_twn, ite_self]
    · rw [(after_shown _ _).fenceIn, after_pins, apply_ite State.pins, setF_pins, ite_self]
      rfl
  · intro now
    refine ⟨fun hloss hsilent => ?_, fun d hloss hcross hrole hdue hin => ?_, fun d hloss hnot => ?_⟩
    · refine ⟨_, finish_eq_after (partnerLoss_lost hmirror htake hloss hsilent), ?_⟩
      rw [after_twn, after_pins, after_tly]
      by_cases hnow : s.actsAtOnce = true
      · rw [if_pos hnow]
        by_cases hin : s.pins.fenceIn = false
        · obtain ⟨hlost, htaken, hfence, hepoch⟩ := actOnLoss_facts (s := { s with twn := { s.twn with lossAt := some s.now } }) hin
          exact ⟨hlost, htaken.trans (if_pos ⟨hnow, hin⟩).symm, fun _ _ => ⟨hfence, hepoch⟩⟩
        · rw [actOnLoss_gated (Bool.not_eq_false _ ▸ hin)]
          exact ⟨rfl, htake.trans (if_neg (fun h => hin h.2)).symm, fun _ h => absurd h hin⟩
      · rw [if_neg hnow]
        exact ⟨rfl, htake.trans (if_neg (fun h => hnow h.1)).symm, fun h => absurd h hnow⟩
    · have hnow : s.actsAtOnce = false := by rw [State.actsAtOnce, hcross, if_pos rfl, hrole]
      obtain ⟨-, htaken, hfence, -⟩ := actOnLoss_facts hin
      refine ⟨_, finish_eq_after ((partnerLoss_late hmirror htake hloss).trans (if_pos (by simp [hcross, hnow, hdue]))), ?_⟩
      rw [after_twn, after_pins]
      exact ⟨htaken, hfence⟩
    · refine finish_eq_after ((partnerLoss_late hmirror htake hloss).trans (if_neg ?_))
      obtain hnot | hnot := hnot
      · simp [hnot]
      · simp [not_le.mpr hnot]
  · have heq : takeover s = s.takeOver.setPair .solo := by
      rw [takeover, htake]
      exact if_neg (Nat.not_lt.mpr hdue)
    exact ⟨finish_eq_after heq, _, finish_eq_after heq, by rw [after_twn, setPair_pair]⟩
  · refine finish_eq_after ?_
    rw [takeover, htake]
  · refine finish_eq_after ?_
    rw [takeover, htake]
    exact if_pos hsoon
  · have heq : capLift s = s.setPair .solo := by
      rw [capLift, hloss]
      exact if_pos (by simp [hmirror, hcross, hauth, hdue, hin])
    exact ⟨_, finish_eq_after heq, by rw [after_twn, setPair_pair]⟩
  · refine finish_eq_after ?_
    rw [capLift, hloss]
  · refine finish_eq_after ?_
    rw [capLift, hloss]
    refine if_neg ?_
    obtain hnot | hnot | hnot | hnot | hnot := hnot
    · simp [hnot]
    · simp [hnot]
    · simp [hnot]
    · simp [not_le.mpr hnot]
    · simp [hnot]
  · intro u rto
    have hnow : u.now = s.now := taken_now s m _
    have hmirroring : u.mirroring = s.mirroring := by rw [State.mirroring, taken_twn, State.mirroring]
    have hholds : u.holds_ = s.holds_ := by rw [State.holds_, taken_twn, State.holds_]
    have hsynced : u.allSynced = s.allSynced := by rw [State.allSynced, taken_twn, State.allSynced]
    have hhand : u.twn.handover = s.twn.handover := by rw [taken_twn]
    refine ⟨fun hT => finish_served h (if_pos (by rw [hnow]; exact hT)),
      fun hT hm => finish_served h ((if_neg (by rw [hnow]; omega)).trans (if_pos (by rw [hmirroring, hm]; rfl))),
      fun hT hm hh => finish_served h ((if_neg (by rw [hnow]; omega)).trans ((if_neg (by rw [hmirroring, hm]; decide)).trans
        (if_pos (by rw [hholds, hh]; rfl)))),
      fun hT hm hh hb => finish_served h ((if_neg (by rw [hnow]; omega)).trans ((if_neg (by rw [hmirroring, hm]; decide)).trans
        ((if_neg (by rw [hholds, hh]; decide)).trans (if_pos (by rw [hhand, hb]))))),
      fun hT hm hh hb => ⟨_, finish_served h ((if_neg (by rw [hnow]; omega)).trans ((if_neg (by rw [hmirroring, hm]; decide)).trans
        ((if_neg (by rw [hholds, hh]; decide)).trans (if_neg (by rw [hhand, hb]; decide))))), ?_⟩⟩
    rw [after_twn, ← hsynced]
    split
    · rename_i hall
      rw [planSwitch_handover, hall]
    · rename_i hall
      rw [Bool.eq_false_iff.mpr hall]
  · have hgiven := giveOver_unsent s
    have hin : s.handedOver.twn.switchIn = none := by
      rw [handedOver_due hhand hdue]
      exact (congrArg TwnSt.switchIn hgiven :).trans hswitch
    refine ⟨s.after s.giveOver, finish_eq_after ?_, ?_⟩
    · rw [switchoverExecute_eq, hin, handedOver_due hhand hdue]
    · rw [after_twn]
      exact ⟨(congrArg TwnSt.handover hgiven :), (congrArg TwnSt.authSelf hgiven :), (congrArg TwnSt.hold hgiven :)⟩
  · refine ⟨s.after (({ s with twn := { s.twn with switchIn := some (T, true) } } : State).commitEpoch (s.tly.epoch.toNat + 1)), finish_eq_after ?_, ?_⟩
    · rw [switchoverExecute_eq, handedOver_none hhand, hswitch]
      exact if_pos hdue
    · rw [after_twn]
      exact (congrArg TwnSt.switchIn (commitEpoch_unsent _ _) :)
  · refine finish_eq_after ?_
    rw [switchoverExecute_eq, handedOver_none hhand, hswitch]
    exact if_pos hdue
  · refine finish_eq_after ?_
    rw [switchoverExecute_eq, handedOver_none hhand, hswitch]
  · have hserved : exec (.pairRelease m) s =
        .next (s.after ((s.taken m 0x0205).released.reply (s.replyTo m 0x0205) stOK)) := finish_served h rfl
    obtain ⟨hlatch, hpair⟩ := released_facts (s.taken m 0x0205)
    have hsent := State.Reports.reply (s.taken m 0x0205).released (s.replyTo m 0x0205) stOK .none
    rw [taken_twn] at hpair
    refine ⟨_, hserved, ?_⟩
    rw [after_tly, after_twn]
    exact ⟨(congrArg TallySt.fencedLatched hsent.tly :).trans hlatch, (pair_of_unsent hsent.twn).trans hpair⟩
  · refine finish_eq_after (if_pos ?_)
    revert h
    unfold State.answers
    cases s.boot.inReset <;> cases s.decodes Reg.TWN_CTRL <;> simp
end

section
/-!
PROOFS. Modules and the SD card (R598, R599, R601, R707): an inventory entry put last leaves the cages, the pins and the boot state as the
event set them.
-/

namespace Sys2Proof.Machine

/-! ### What an inventory entry leaves -/

section Fits

variable {s t : State} (h : s.Fits t)
include h

theorem presence_of_fits : t.boot.presence = s.boot.presence := (congrArg BootSt.presence h.boot :)

theorem reads_of_fits : t.boot.reads = s.boot.reads := (congrArg BootSt.reads h.boot :)

theorem moduleReady_of_fits : t.boot.moduleReady = s.boot.moduleReady := (congrArg BootSt.moduleReady h.boot :)

theorem sdState_of_fits : t.boot.sdState = s.boot.sdState := (congrArg BootSt.sdState h.boot :)

theorem env_of_fits : t.boot.env = s.boot.env := (congrArg BootSt.env h.boot :)

theorem pins_of_fits : t.pins = s.pins := (congrArg Media.pins h.media :)

theorem port_of_fits (p : Nat) : t.port p = s.port p := by
  have hnet : t.net = s.net := (congrArg Media.net h.media :)
  rw [State.port, hnet, State.port]

end Fits

theorem fitCard_fits (s : State) (c : Option Card) (start : Bool) : s.Fits (s.fitCard c start).1 := by
  unfold State.fitCard
  split
  · exact .fitItem s _ _ _ _ _ _
  · exact .fitItem s _ _ _ _ _ _

/-! ### The cages (R598, R601) -/

section Cage

variable {s : State} {c : Nat}

theorem presenceAssert_present (hc : c < 16) (hup : s.up = true) : presenceAssert c s =
    { s with
      boot := { s.boot with
        presence := insertAsc c s.boot.presence
        reads := s.boot.reads.filter (fun r => r.1 ≠ c) ++ [(c, s.now + 1200)] } } :=
  if_neg (by simp [hup, hc])

theorem presenceAssert_none (hc : 16 ≤ c) : presenceAssert c s = s := if_pos (by simp [hc])

theorem presenceDeassert_none (hc : 16 ≤ c) : presenceDeassert c s = s := if_pos (by simp [hc])

/-- A module's presence, its waiting read and its readiness taken away. -/
def State.cageCleared (s : State) (c : Nat) : State :=
  let b := s.boot
  let b := { b with presence := b.presence.filter (· ≠ c), reads := b.reads.filter (fun r => r.1 ≠ c), highPower := b.highPower.filter (· ≠ c) }
  { s with boot := { b with moduleFault := b.moduleFault.filter (· ≠ c), moduleReady := b.moduleReady.filter (· ≠ c) } }

/-- A cage emptied, with its port held idle. -/
def State.cageIdle (s : State) (c : Nat) : State := (portDown c 15 (s.cageCleared c)).onPort c (fun p => { p with moduleHold := true })

theorem presenceDeassert_gone (hc : c < 16) (hup : s.up = true) : presenceDeassert c s =
    (s.cageIdle c).putInv { kind := 1, index := c, state := invAbsent } :=
  if_neg (by simp [hup, hc])

/-- A port that goes down keeps boot but for its queue of faults. -/
theorem portDown_boot (p mask : Nat) (s : State) : (portDown p mask s).boot.unqueued = s.boot.unqueued := by
  have htold : ∀ w : State, (w.raise fltLaneLost (subjInst 3 p)).boot.unqueued = w.boot.unqueued := fun w => (State.Reports.raise w _ _ _).boot
  simp only [portDown, apply_ite State.boot, apply_ite BootSt.unqueued, htold, State.onPort, setF_boot, ite_self]

theorem cageIdle_boot (s : State) (c : Nat) : (s.cageIdle c).boot.unqueued = (s.cageCleared c).boot.unqueued := portDown_boot c 15 _

theorem cageIdle_held (s : State) (c : Nat) : ((s.cageIdle c).port c).moduleHold = true := by
  have hport : ∀ w : State, ((w.onPort c (fun p => { p with moduleHold := true })).port c).moduleHold = true := fun w => by
    simp only [State.onPort, State.port, tmod, tget_tset_self]
  exact hport _

theorem moduleRead_idle {m : Option Module} (h : s.boot.warmRun = true ∨ ∀ r ∈ s.boot.reads, r.1 = c → s.now < r.2) : moduleRead c m s = s := by
  refine if_pos ?_
  obtain h | h := h
  · simp [h]
  · simp only [Bool.or_eq_true, Bool.not_eq_true', List.any_eq_false, Bool.and_eq_true, decide_eq_true_eq, not_and, not_le]
    exact .inr h

theorem moduleRead_due {m : Option Module} (hwarm : s.boot.warmRun = false) (hdue : ∃ r ∈ s.boot.reads, r.1 = c ∧ r.2 ≤ s.now) :
    moduleRead c m s =
      (let u : State := { s with boot := { s.boot with reads := s.boot.reads.filter (fun r => r.1 ≠ c) } }
      if m.isSome then u.readCage c m false else u.putInv { kind := 1, index := c, state := invAbsent }) := by
  rw [moduleRead, if_neg (by simpa [hwarm] using hdue)]
  cases m <;> rfl

end Cage

/-! ### The card (R599, R601, R707) -/

section Card

variable {s : State}

theorem vselTimeout_low (h : s.pins.sdVsel = false) : vselTimeout s = s := if_pos (by rw [h]; rfl)

/-- SD_VSEL low, and the card that did not switch recorded as unreadable. -/
def State.cardUnread (s : State) : State :=
  (({ s with pins := { s.pins with sdVsel := false } } : State).fitCard (some { (s.boot.env.card.getD {}) with readable := false }) false).1

theorem vselTimeout_high (h : s.pins.sdVsel = true) :
    vselTimeout s = { s.cardUnread with boot := { s.cardUnread.boot with sdState := 3 } } := by
  rw [vselTimeout, if_neg (by rw [h]; decide)]
  rfl

/-- The card gone and its pins low. -/
def State.cardless (s : State) : State :=
  { s with
    boot := { s.boot with sdState := 0, env := { s.boot.env with card := none, cardCont := { readOk := false } } }
    pins := { s.pins with sdPwr := false, sdVsel := false } }

theorem cardRemoval_gone (hup : s.up = true) : cardRemoval s = s.cardless.putInv { kind := 2, index := 0, state := invAbsent } :=
  if_neg (by rw [hup]; decide)

end Card

end Sys2Proof.Machine

open Sys2Proof Sys2Proof.Machine

/-- Settles O52: an inventory entry keeps the cages, the ports and the pins that the event has set (notes/assumptions 8 and 42). -/
theorem modulesAndCardsComeAndGo : Obligations.ModulesAndCardsComeAndGo := by
  intro s hup
  refine ⟨fun c hc => ⟨_, finish_eq_after (presenceAssert_present hc hup), ?_, ?_⟩,
    fun c hc => ⟨finish_eq_after (presenceAssert_none hc), finish_eq_after (presenceDeassert_none hc)⟩,
    fun c m h => finish_eq_after (moduleRead_idle h), fun c m hwarm hdue => finish_eq_after (moduleRead_due hwarm hdue),
    fun c hused => ⟨_, finish_eq_after (if_pos (by rw [hup, hused]; rfl)), ?_⟩,
    fun c hidle => finish_eq_after (if_neg (by rw [hup, hidle]; decide)), fun c hc => ?_,
    fun card cont => finish_eq_after (if_neg (by rw [hup]; decide)), fun hlow => finish_eq_after (vselTimeout_low hlow), fun hhigh => ?_, ?_⟩
  · rw [after_boot]
    exact List.contains_iff_mem.mp (contains_insertAsc _ _)
  · rw [after_boot]
    exact List.mem_append_right _ (List.mem_singleton_self _)
  · rw [after_boot]
    exact List.contains_iff_mem.mp (contains_insertAsc _ _)
  · have hfits := State.Fits.putInv (s.cageIdle c) { kind := 1, index := c, state := invAbsent }
    have hidle := cageIdle_boot s c
    refine ⟨_, finish_eq_after (presenceDeassert_gone hc hup), ?_⟩
    rw [after_boot, State.port, after_net, ← State.port, presence_of_fits hfits, reads_of_fits hfits, moduleReady_of_fits hfits, port_of_fits hfits]
    have hpresence : (s.cageIdle c).boot.presence = s.boot.presence.filter (· ≠ c) := (congrArg BootSt.presence hidle :)
    have hreads : (s.cageIdle c).boot.reads = s.boot.reads.filter (fun r => r.1 ≠ c) := (congrArg BootSt.reads hidle :)
    have hready : (s.cageIdle c).boot.moduleReady = s.boot.moduleReady.filter (· ≠ c) := (congrArg BootSt.moduleReady hidle :)
    rw [hpresence, hreads, hready]
    exact ⟨by simp, by simp, by simp, cageIdle_held s c⟩
  · have hfits : ({ s with pins := { s.pins with sdVsel := false } } : State).Fits s.cardUnread := fitCard_fits _ _ _
    refine ⟨_, finish_eq_after (vselTimeout_high hhigh), ?_, ?_⟩
    · rw [after_pins]
      exact congrArg PinSt.sdVsel (pins_of_fits hfits)
    · rw [after_boot]
  · have hfits := State.Fits.putInv s.cardless { kind := 2, index := 0, state := invAbsent }
    refine ⟨_, finish_eq_after (cardRemoval_gone hup), ?_⟩
    rw [after_boot, after_pins, sdState_of_fits hfits, env_of_fits hfits, pins_of_fits hfits]
    exact ⟨rfl, rfl, rfl, rfl⟩
end

section
/-!
PROOFS. The warm reset and its end (R554, R556 to R558): the cores are marked and the budget is loaded in registers alone, what runs goes on,
and the record and READY shown last keep the boot state, the faults that wait and the registers of the cores.
-/

namespace Sys2Proof.Machine

/-! ### The record and READY shown -/

/-- A loop keeps what each of its steps keeps. -/
theorem each_getR_of_mem {α : Type} {d : Nat} {xs : List α} {f : State → α → State} (h : ∀ w, ∀ x ∈ xs, (f w x).getR d = w.getR d) (s : State) :
    (s.each xs f).getR d = s.getR d := by
  unfold State.each
  induction xs generalizing s with
  | nil => rfl
  | cons x xs ih => rw [List.foldl_cons, ih (fun w y hy => h w y (List.mem_cons_of_mem x hy)), h s x List.mem_cons_self]

/-- The boot state, the queue of faults and the boot record: what the registers, the record and READY do not hold. -/
def State.bootPart (s : State) : BootSt × List RaisedFault := (s.boot, s.flt.queue)

theorem boot_of_bootPart {s t : State} (h : t.bootPart = s.bootPart) : t.boot = s.boot := congrArg Prod.fst h

theorem queue_of_bootPart {s t : State} (h : t.bootPart = s.bootPart) : t.flt.queue = s.flt.queue := congrArg Prod.snd h

theorem setR_bootPart (s : State) (d v : Nat) : (s.setR d v).bootPart = s.bootPart := rfl

theorem setF_bootPart (s : State) (d hi lo v : Nat) : (s.setF d hi lo v).bootPart = s.bootPart := rfl

theorem vector19_bootPart (s : State) : s.vector19.bootPart = s.bootPart := rfl

theorem bootStatus_bootPart (s : State) (hi lo v : Nat) : (s.bootStatus hi lo v).bootPart = s.bootPart := by
  simp only [State.bootStatus, apply_ite State.bootPart, vector19_bootPart, setF_bootPart, ite_self]

theorem vector19_getR (s : State) (d : Nat) : s.vector19.getR d = s.getR d := rfl

theorem bootStatus_getR {d : Nat} (h : d ≠ Reg.BOOT_STATUS) (s : State) (hi lo v : Nat) : (s.bootStatus hi lo v).getR d = s.getR d := by
  unfold State.bootStatus
  dsimp only
  split
  · exact getR_setF_ne h s hi lo v
  · rw [vector19_getR, getR_setF_ne h]

theorem showReady_bootPart (s : State) : s.showReady.bootPart = s.bootPart := by
  simp only [State.showReady, apply_ite State.bootPart, bootStatus_bootPart, ite_self]

theorem showReady_getR {d : Nat} (h : d ≠ Reg.BOOT_STATUS) (s : State) : s.showReady.getR d = s.getR d := by
  simp only [State.showReady, getR_ite, bootStatus_getR h, ite_self]

theorem showReason_bootPart (s : State) (n : Nat) : (s.showReason n).bootPart = s.bootPart := by
  unfold State.showReason
  split
  · rw [setR_bootPart, setR_bootPart]
  · rw [setR_bootPart, setR_bootPart]

theorem pins_bootPart (s : State) (x : PinSt) : ({ s with pins := x } : State).bootPart = s.bootPart := rfl

theorem svcPin_bootPart (s : State) : s.svcPin.bootPart = s.bootPart := by
  unfold State.svcPin
  dsimp only
  split
  · rw [vector19_bootPart, pins_bootPart, setR_bootPart]
  · rw [pins_bootPart, setR_bootPart]

/-- The reasons with their severities and actions of now. -/
def State.reasoned (s : State) : State :=
  let oc := s.getF Reg.DEV_ADMIT_OVERCOMMIT 9 0
  let fix (r : Reason) : Reason := { r with severity := s.reasonSeverity oc r.code r.subject, action := (s.reasonRow r.code r.subject).elim r.action (·.2) }
  { s with flt := { s.flt with reasons := s.flt.reasons.map fix } }

/-- The capacities in service shown. -/
def State.showRemaining (s : State) : State := s.each (upTo 8) (fun u n => u.setF (Reg.DEV_SVC_REMAIN n) 15 0 (s.remaining.getD n 0))

/-- The record as it is computed again, before it is published. -/
def State.recomputed (s : State) : State :=
  let u := (s.reasoned.each (upTo 8) (fun s n => s.showReason n)).showRemaining
  u.setF Reg.DEV_SVC_REQ 7 7 (b2n u.flt.overflow)

theorem publishRecord_eq (s : State) : s.publishRecord =
    if s.boot.warmRun then s
    else (if s.recomputed.recImage = s.recImage then s.recomputed else
      { s.recomputed with flt := { s.recomputed.flt with recSeq := s.recomputed.flt.recSeq + 1, recTick := s.recomputed.faultTick } }).svcPin := by
  unfold State.publishRecord State.recomputed State.showRemaining State.reasoned
  with_reducible rfl

theorem reasoned_bootPart (s : State) : s.reasoned.bootPart = s.bootPart := rfl

theorem showRemaining_bootPart (s : State) : s.showRemaining.bootPart = s.bootPart :=
  each_keeps State.bootPart (fun w _ => setF_bootPart w _ _ _ _) _ s

theorem recomputed_bootPart (s : State) : s.recomputed.bootPart = s.bootPart := by
  rw [State.recomputed, setF_bootPart, showRemaining_bootPart, each_keeps State.bootPart showReason_bootPart, reasoned_bootPart]

theorem numbered_bootPart (s : State) (n : BitVec 32) (tick : Nat) :
    ({ s with flt := { s.flt with recSeq := n, recTick := tick } } : State).bootPart = s.bootPart := rfl

theorem publishRecord_bootPart (s : State) : s.publishRecord.bootPart = s.bootPart := by
  rw [publishRecord_eq]
  split
  · rfl
  · rw [svcPin_bootPart]
    split
    · exact recomputed_bootPart s
    · rw [numbered_bootPart, recomputed_bootPart]

/-- Publishing the record writes registers of DEV alone. -/
theorem showReason_getR {d n : Nat} (h : subOf d ≠ 0) (hn : n < 8) (s : State) : (s.showReason n).getR d = s.getR d := by
  have hreason : d ≠ Reg.DEV_SVC_REASON n := by
    unfold subOf at h
    unfold Reg.DEV_SVC_REASON
    omega
  have hsubject : d ≠ Reg.DEV_SVC_REASON_SUBJ n := by
    unfold subOf at h
    unfold Reg.DEV_SVC_REASON_SUBJ
    omega
  unfold State.showReason
  split
  · rw [getR_setR_ne hsubject, getR_setR_ne hreason]
  · rw [getR_setR_ne hsubject, getR_setR_ne hreason]

section PublishedRegs

variable {d : Nat} (h : subOf d ≠ 0)
include h

theorem dev_ne {e : Nat} (he : e < 2 ^ 22) : d ≠ e := by
  unfold subOf at h
  omega

theorem showRemaining_getR (s : State) : s.showRemaining.getR d = s.getR d :=
  each_getR_of_mem (fun w n hn => getR_setF_ne (dev_ne h (by
    have := List.mem_range.mp hn
    unfold Reg.DEV_SVC_REMAIN
    omega)) w _ _ _) s

theorem recomputed_getR (s : State) : s.recomputed.getR d = s.getR d := by
  have hreq : d ≠ Reg.DEV_SVC_REQ := dev_ne h (by decide)
  have hreasons : (s.reasoned.each (upTo 8) (fun s n => s.showReason n)).getR d = s.reasoned.getR d :=
    each_getR_of_mem (fun w n hn => showReason_getR h (List.mem_range.mp hn) w) _
  rw [State.recomputed, getR_setF_ne hreq, showRemaining_getR h, hreasons, State.reasoned, getR_flt]

theorem svcPin_getR (s : State) : s.svcPin.getR d = s.getR d := by
  have hreq : d ≠ Reg.DEV_SVC_REQ := dev_ne h (by decide)
  have hpins : ∀ (w : State) x, ({ w with pins := x } : State).getR d = w.getR d := fun _ _ => rfl
  simp only [State.svcPin, getR_ite, vector19_getR, hpins, getR_setR_ne hreq, ite_self]

theorem publishRecord_getR (s : State) : s.publishRecord.getR d = s.getR d := by
  simp only [publishRecord_eq, getR_ite, svcPin_getR h, getR_flt, recomputed_getR h, ite_self]

end PublishedRegs

/-! ### The reset counts and the boot record -/

theorem tly_bootPart (s : State) (x : TallySt) : ({ s with tly := x } : State).bootPart = s.bootPart := rfl

theorem tallyCommit_bootPart (s : State) (typ key bytes : Nat) (payload : List (Nat × Nat)) (live : Bool) :
    (s.tallyCommit typ key bytes payload live).bootPart = s.bootPart := by
  rw [State.tallyCommit, setF_bootPart, State.setR64, setR_bootPart, setR_bootPart, setR_bootPart, tly_bootPart]

theorem countReset_bootPart (s : State) (n : Nat) : (s.countReset n).bootPart = s.bootPart := by
  rw [State.countReset, setR_bootPart, State.commitCounters, tallyCommit_bootPart, tly_bootPart]

theorem resetCause_bootPart (s : State) (n : Nat) : (s.resetCause n).bootPart = s.bootPart := setF_bootPart s _ _ _ _

theorem countReset_getR {d n : Nat} (h : reportReg d = false) (hd : d ≠ Reg.BOOT_RESET_COUNT n) (s : State) : (s.countReset n).getR d = s.getR d := by
  unfold State.countReset
  dsimp only
  rw [getR_setR_ne hd, State.commitCounters, tallyCommit_getR h, getR_tly]

theorem showUpd_bootPart (s : State) : s.showUpd.bootPart = s.bootPart := by
  rw [State.showUpd, setF_bootPart, setF_bootPart, setF_bootPart, setF_bootPart]

theorem showUpd_getR {d : Nat} (h : d ≠ Reg.BOOT_UPDATE_STATUS) (s : State) : s.showUpd.getR d = s.getR d := by
  simp only [State.showUpd, getR_setF_ne h]

/-! ### The restart of the management cores -/

theorem resetCtrl_answered {s : State} {action key : Nat} (h : s.answers Reg.BOOT_RESET_CTRL = true) (k : State → State) :
    s.resetCtrl action key k =
      (let v := action + key % 65536 * 65536
      let u := s.written Reg.BOOT_RESET_CTRL v (3 + 0xFFFF * 65536)
      if key % 65536 = 0x57A2 then k u else u.accessIgnored Reg.BOOT_RESET_CTRL v) := by
  rw [State.resetCtrl]
  exact ctrlWrite_answered h _

/-- What goes on in a warm reset (R557). -/
def State.running (s : State) : (Tbl LegRt × Tbl FoldRt × Tbl LineClass × Tbl StreamRt) × List Host.Cell × TimSt :=
  ((s.legs, s.folds, s.lcs, s.streams), s.mem, s.tim)

theorem setR_running (s : State) (d v : Nat) : (s.setR d v).running = s.running := rfl

theorem setF_running (s : State) (d hi lo v : Nat) : (s.setF d hi lo v).running = s.running := rfl

theorem after_running (s t : State) : (s.after t).running = t.running := by
  simp only [State.after, State.running, showStatus_legs, showStatus_folds, showStatus_lcs, showStatus_streams, showStatus_mem, showStatus_tim]

/-- The fields whose Warm column says Clear are registers. -/
theorem warmFields_keeps {β : Type} (g : State → β) (h : ∀ w d hi lo v, g (w.setF d hi lo v) = g w) (plane : Bool) (s : State) :
    g (s.warmFields plane) = g s := by
  unfold State.warmFields
  refine each_keeps g (fun w d => ?_) _ s
  exact each_keeps g (fun w (f : Field) => h w d f.hi f.lo f.cold) _ w

/-- The cores read restarting. -/
def State.coresDown (s : State) : State := (s.warmFields false).each (upTo 4) (fun s c => s.setF (Reg.MGT_CORE_STATUS c) 1 0 2)

theorem coresDown_keeps {β : Type} (g : State → β) (h : ∀ w d hi lo v, g (w.setF d hi lo v) = g w) (s : State) : g s.coresDown = g s := by
  unfold State.coresDown
  exact (each_keeps g (f := fun w c => w.setF (Reg.MGT_CORE_STATUS c) 1 0 2) (fun w c => h w _ 1 0 2) _ _).trans (warmFields_keeps g h false s)

theorem coresDown_restarting {c : Nat} (hc : c < 4) (s : State) : s.coresDown.getF (Reg.MGT_CORE_STATUS c) 1 0 = 2 := by
  have hset : ∀ w : State, (w.setF (Reg.MGT_CORE_STATUS c) 1 0 2).getF (Reg.MGT_CORE_STATUS c) 1 0 = 2 := fun w =>
    getF_setF_self w _ 1 0 2 (by decide) (by decide)
  unfold State.coresDown
  refine each_establishes (P := fun w => w.getF (Reg.MGT_CORE_STATUS c) 1 0 = 2) (f := fun w y => w.setF (Reg.MGT_CORE_STATUS y) 1 0 2) (x := c)
    hset (fun w y hw => ?_) (List.mem_range.mpr hc) _
  obtain rfl | hy := eq_or_ne y c
  · exact hset w
  · have hother : Reg.MGT_CORE_STATUS c ≠ Reg.MGT_CORE_STATUS y := by
      unfold Reg.MGT_CORE_STATUS
      omega
    rw [getF_setF_ne hother, hw]

section Core

variable {c : Nat}

theorem core_below_tally (hc : c < 4) : Reg.MGT_CORE_STATUS c < Reg.MGT_TALLY_STATUS := by
  unfold Reg.MGT_CORE_STATUS Reg.MGT_TALLY_STATUS
  omega

theorem core_not_status (hc : c < 4) : Reg.MGT_CORE_STATUS c ∉ statusRegs := by
  intro hmem
  have hshown : ∀ e ∈ statusRegs, e < Reg.MGT_CORE_STATUS 0 ∨ Reg.MGT_TALLY_STATUS ≤ e := by decide
  have hbelow := core_below_tally hc
  have := hshown _ hmem
  unfold Reg.MGT_CORE_STATUS at *
  omega

theorem core_not_update (c : Nat) : Reg.MGT_CORE_STATUS c ≠ Reg.BOOT_UPDATE_STATUS := by
  unfold Reg.MGT_CORE_STATUS Reg.BOOT_UPDATE_STATUS
  omega

theorem core_not_budget (c : Nat) : Reg.MGT_CORE_STATUS c ≠ Reg.BOOT_WARM_REMAIN := by
  unfold Reg.MGT_CORE_STATUS Reg.BOOT_WARM_REMAIN
  omega

end Core

/-- The budget in ticks (R557). -/
def State.warmTicks (s : State) : Nat := if s.boot.opt.warmBudget = 0 then 36000 else s.boot.opt.warmBudget

/-- The warm run as it begins. -/
def State.warmed (s : State) (cause : Nat) : State :=
  let u := if s.coresDown.boot.warmRun then s.coresDown else s.coresDown.setR Reg.BOOT_WARM_REMAIN s.warmTicks
  { u with selPend := [], boot := { u.boot with warmRun := true, warmCause := cause } }

/-- A warm reset of a trial counted (R625, R626). -/
def State.trialCounted (s : State) : State :=
  let r := s.tly.boot
  if r.trial = 2 then
    let s := s.commitBoot { r with trialWarm := Nat.min 255 (r.trialWarm + 1) }
    ({ s with upd := { s.upd with clean := 0, fallAt := if 1 ≤ r.trialWarm then some s.now else s.upd.fallAt } }).showUpd
  else s

theorem warmReset_sealed {s : State} {cause : Nat} (hup : s.up = true) (hsealed : s.sealed = true) :
    s.warmReset cause = (s.warmed cause).trialCounted := by
  rw [State.warmReset, if_neg (by simp [hup]), if_neg (by simp [hsealed])]
  unfold State.trialCounted State.warmed State.coresDown State.warmTicks
  with_reducible rfl

theorem commitBoot_running (s : State) (r : BootRec) : (s.commitBoot r).running = s.running := by
  simp only [State.running, State.commitBoot, tallyCommit_legs, tallyCommit_folds, tallyCommit_lcs, tallyCommit_streams, tallyCommit_mem, tallyCommit_tim]

theorem commitBoot_bootPart (s : State) (r : BootRec) : (s.commitBoot r).bootPart = s.bootPart := by
  rw [State.commitBoot, tallyCommit_bootPart, tly_bootPart]

/-- The boot record's commit writes registers of the tally store alone. -/
theorem commitBoot_getR {d : Nat} (h : d < Reg.MGT_TALLY_STATUS) (s : State) (r : BootRec) : (s.commitBoot r).getR d = s.getR d := by
  unfold Reg.MGT_TALLY_STATUS at h
  have hstatus : d ≠ Reg.MGT_TALLY_STATUS := by
    unfold Reg.MGT_TALLY_STATUS
    omega
  have hseq : d ≠ Reg.MGT_TALLY_SEQ := by
    unfold Reg.MGT_TALLY_SEQ
    omega
  have hwrites : d ≠ Reg.MGT_TALLY_WRITES := by
    unfold Reg.MGT_TALLY_WRITES
    omega
  have hwrites1 : d ≠ Reg.MGT_TALLY_WRITES + 1 := by
    unfold Reg.MGT_TALLY_WRITES
    omega
  simp only [State.commitBoot, State.tallyCommit, getR_setF_ne hstatus, getR_setR64_ne hwrites hwrites1, getR_setR_ne hseq, getR_tly]

theorem upd_running (s : State) (x : UpdSt) : ({ s with upd := x } : State).running = s.running := rfl

theorem upd_bootPart (s : State) (x : UpdSt) : ({ s with upd := x } : State).bootPart = s.bootPart := rfl

theorem upd_getR (s : State) (x : UpdSt) (d : Nat) : ({ s with upd := x } : State).getR d = s.getR d := rfl

theorem showUpd_running (s : State) : s.showUpd.running = s.running := by
  rw [State.showUpd, setF_running, setF_running, setF_running, setF_running]

theorem trialCounted_running (s : State) : s.trialCounted.running = s.running := by
  unfold State.trialCounted
  dsimp only
  split
  · rw [showUpd_running, upd_running, commitBoot_running]
  · rfl

theorem trialCounted_boot (s : State) : s.trialCounted.boot = s.boot := by
  refine boot_of_bootPart ?_
  unfold State.trialCounted
  dsimp only
  split
  · rw [showUpd_bootPart, upd_bootPart, commitBoot_bootPart]
  · rfl

theorem trialCounted_getR {d : Nat} (h : d < Reg.MGT_TALLY_STATUS) (hd : d ≠ Reg.BOOT_UPDATE_STATUS) (s : State) :
    s.trialCounted.getR d = s.getR d := by
  unfold State.trialCounted
  dsimp only
  split
  · rw [showUpd_getR hd, upd_getR, commitBoot_getR h]
  · rfl

/-- Where the budget is loaded, the cores' states stay. -/
theorem warmed_getR {d : Nat} (h : d ≠ Reg.BOOT_WARM_REMAIN) (s : State) (cause : Nat) : (s.warmed cause).getR d = s.coresDown.getR d := by
  have hlater : ∀ (w : State) x y, ({ w with selPend := x, boot := y } : State).getR d = w.getR d := fun _ _ _ => rfl
  rw [State.warmed, hlater, getR_ite, getR_setR_ne h, ite_self]

theorem warmed_budget {s : State} (h : s.boot.warmRun = false) (cause : Nat) : (s.warmed cause).getR Reg.BOOT_WARM_REMAIN = s.warmTicks % 2 ^ 32 := by
  have hlater : ∀ (w : State) x y, ({ w with selPend := x, boot := y } : State).getR Reg.BOOT_WARM_REMAIN = w.getR Reg.BOOT_WARM_REMAIN := fun _ _ _ => rfl
  have hidle : s.coresDown.boot = s.boot := coresDown_keeps State.boot setF_boot s
  rw [State.warmed, hlater, if_neg (by rw [hidle, h]; decide), getR_setR_self]

theorem warmed_running (s : State) (cause : Nat) : (s.warmed cause).running = s.running := by
  have hlater : ∀ (w : State) x y, ({ w with selPend := x, boot := y } : State).running = w.running := fun _ _ _ => rfl
  rw [State.warmed, hlater, apply_ite State.running, setR_running, ite_self, coresDown_keeps State.running setF_running]

/-! ### The cores resume -/

/-- The cores read running. -/
def State.coresRun (s : State) : State :=
  s.each (upTo 4) (fun s c => (s.setF (Reg.MGT_CORE_STATUS c) 1 0 1).setR (Reg.MGT_FW_VERSION c) s.boot.fwVersion)

theorem coresRun_keeps {β : Type} (g : State → β) (h : ∀ w d v, g (w.setR d v) = g w) (s : State) : g s.coresRun = g s := by
  unfold State.coresRun
  exact each_keeps g (f := fun w c => (w.setF (Reg.MGT_CORE_STATUS c) 1 0 1).setR (Reg.MGT_FW_VERSION c) w.boot.fwVersion)
    (fun w c => (h _ _ _).trans (h w _ _)) _ s

/-- The warm run's budget and cause shown, its reset counted, the watchdog armed and the service port's counters loaded. -/
def State.runShown (s : State) (cause : Nat) : State :=
  let s := (((s.setR Reg.BOOT_WARM_REMAIN 0).resetCause cause).countReset 2).setF Reg.BOOT_WATCHDOG 16 16 1
  { s with host := { s.host with svcCounter := s.tly.svcCeiling.map (fun (e : Nat × Nat) => (e.1, e.2 - 1)) } }

theorem runShown_bootPart (s : State) (cause : Nat) : (s.runShown cause).bootPart = s.bootPart := by
  have hhost : ∀ (w : State) x, ({ w with host := x } : State).bootPart = w.bootPart := fun _ _ => rfl
  rw [State.runShown, hhost, setF_bootPart, countReset_bootPart, resetCause_bootPart, setR_bootPart]

theorem runShown_upd (s : State) (cause : Nat) : (s.runShown cause).upd = s.upd := by
  simp only [State.runShown, State.countReset, State.commitCounters, State.resetCause, setF_upd, setR_upd, tallyCommit_upd]

theorem runShown_budget (s : State) (cause : Nat) : (s.runShown cause).getR Reg.BOOT_WARM_REMAIN = 0 := by
  have hdog : Reg.BOOT_WARM_REMAIN ≠ Reg.BOOT_WATCHDOG := by decide
  have hcount : Reg.BOOT_WARM_REMAIN ≠ Reg.BOOT_RESET_COUNT 2 := by decide
  have hcause : Reg.BOOT_WARM_REMAIN ≠ Reg.BOOT_RESET_CAUSE := by decide
  rw [State.runShown, getR_host, getR_setF_ne hdog, countReset_getR (by decide) hcount, State.resetCause, getR_setF_ne hcause, getR_setR_self]
  rfl

theorem runShown_armed (s : State) (cause : Nat) : (s.runShown cause).getF Reg.BOOT_WATCHDOG 16 16 = 1 := by
  rw [State.runShown, State.getF, getR_host, ← State.getF, getF_setF_self _ _ 16 16 1 (by decide) (by decide)]
  rfl

/-- The end of the warm run, with the faults of the hardware queue on their way to the journal. -/
def State.warmEnded (s : State) : State :=
  { s with boot := { s.boot with warmRun := false, hwq := [] }, flt := { s.flt with queue := s.flt.queue ++ s.boot.hwq } }

/-- The device with its cores running again. -/
def State.coresUp (s : State) : State := (s.warmEnded.coresRun).runShown s.boot.warmCause

theorem coresUp_bootPart (s : State) : s.coresUp.bootPart = s.warmEnded.bootPart :=
  (runShown_bootPart _ _).trans (coresRun_keeps State.bootPart setR_bootPart _)

theorem coresUp_upd (s : State) : s.coresUp.upd = s.upd :=
  (runShown_upd _ _).trans (coresRun_keeps State.upd setR_upd _)

theorem mgmtResume_plain {s : State} (hrun : s.boot.warmRun = true) (hfall : s.upd.fallAt = none) (hcard : s.boot.sdState ≠ 1) :
    mgmtResume s = s.coresUp.publishRecord.showReady := by
  have hboot : s.coresUp.boot.sdState = s.boot.sdState := (congrArg BootSt.sdState (boot_of_bootPart (coresUp_bootPart s)) :)
  have hfalls : ¬ (s.coresUp.upd.fallAt.isSome = true) := by rw [coresUp_upd, hfall]; decide
  have heq : mgmtResume s =
      (let w := s.coresUp
      let w := if w.upd.fallAt.isSome then (if w.mirroring then w.fallBack.sendEvent 0x0406 w.now none none else w.fallBack) else w
      let w := if w.boot.sdState = 1 then w.readCard w.boot.env.card true false else w
      (w.publishRecord).showReady) := by
    rw [mgmtResume, if_neg (by rw [hrun]; decide)]
    unfold State.coresUp State.warmEnded State.coresRun State.runShown
    with_reducible rfl
  rw [heq]
  dsimp only
  rw [if_neg hfalls, if_neg (by rw [hboot]; exact hcard)]

end Sys2Proof.Machine

open Sys2Proof Sys2Proof.Machine

/-- Settles O39: a warm reset marks the cores and loads the budget in registers alone, and the record and READY shown at the resume keep the
boot state and the faults that wait (notes/assumptions 40 and 49). -/
theorem warmResetsRestartTheCores : Obligations.WarmResetsRestartTheCores := by
  intro s
  refine ⟨fun hup hsealed => ?pin, fun hup hsealed => finish_eq_after ?cold, fun hup hwait => finish_eq_after (if_pos (by rw [hup, hwait]; rfl)),
    fun m h => finish_served h rfl, fun key h => finish_eq_after (resetCtrl_answered h _),
    fun hup harmed => finish_eq_after (if_pos (by rw [hup, harmed]; rfl)), fun hoff => finish_eq_after (if_neg (by rw [hoff]; simp)),
    fun v h => ⟨_, finish_eq_after (ctrlWrite_answered h _), ?kick⟩, fun hrun hend => finish_eq_after (if_pos (by rw [hrun, hend]; rfl)),
    fun hor => finish_eq_after (if_neg ?unspent), fun hidle => finish_eq_after (if_pos (by rw [hidle]; rfl)), fun hrun hfall hcard => ?resume⟩
  case pin =>
    rw [show exec .warmResetPin s = .next (s.after (s.warmReset 4)) from finish_after s _, warmReset_sealed hup hsealed]
    refine ⟨_, rfl, ?_, ?_, fun c hc => ?_, fun hfirst => ?_, ?_⟩
    · rw [after_boot, trialCounted_boot, State.warmed]
    · rw [after_boot, trialCounted_boot, State.warmed]
    · rw [after_getF (core_not_status hc), State.getF, trialCounted_getR (core_below_tally hc) (core_not_update c), warmed_getR (core_not_budget c),
        ← State.getF, coresDown_restarting hc]
    · rw [after_getR_ne (by decide), trialCounted_getR (by decide) (by decide), warmed_budget hfirst, State.warmTicks]
    · have hrunning : (s.after (s.warmed 4).trialCounted).running = s.running := by
        rw [after_running, trialCounted_running, warmed_running]
      simp only [State.running, Prod.mk.injEq] at hrunning
      obtain ⟨⟨hlegs, hfolds, hlcs, hstreams⟩, hmem, htim⟩ := hrunning
      exact ⟨hlegs, hfolds, hlcs, hstreams, hmem, htim⟩
  case cold =>
    rw [State.warmReset, if_neg (by simp [hup]), if_pos (by simp [hsealed])]
  case kick =>
    have hdog : Reg.BOOT_WATCHDOG ∉ statusRegs := by decide
    rw [after_getF hdog, getF_setF_self _ _ 16 16 1 (by decide) (by decide)]
    rfl
  case unspent =>
    obtain hidle | hleft := hor
    · simp [hidle]
    · simp [hleft]
  case resume =>
    have hpart : s.coresUp.publishRecord.showReady.bootPart = s.warmEnded.bootPart :=
      (showReady_bootPart _).trans ((publishRecord_bootPart _).trans (coresUp_bootPart s))
    have hboot : s.coresUp.publishRecord.showReady.boot = s.warmEnded.boot := boot_of_bootPart hpart
    have hqueue : s.coresUp.publishRecord.showReady.flt.queue = s.warmEnded.flt.queue := queue_of_bootPart hpart
    have hreg : ∀ d, subOf d ≠ 0 → d ≠ Reg.BOOT_STATUS → s.coresUp.publishRecord.showReady.getR d = s.coresUp.getR d := fun d hsub hd => by
      rw [showReady_getR hd, publishRecord_getR hsub]
    refine ⟨_, finish_eq_after (mgmtResume_plain hrun hfall hcard), ?_, ?_, ?_, ?_, ?_⟩
    · rw [after_boot, hboot, State.warmEnded]
    · rw [after_boot, hboot, State.warmEnded]
    · rw [after_flt, hqueue, State.warmEnded]
    · rw [after_getR_ne (by decide), hreg _ (by decide) (by decide), State.coresUp, runShown_budget]
    · rw [after_getF (by decide), State.getF, hreg _ (by decide) (by decide), ← State.getF, State.coresUp, runShown_armed]
end

section
/-!
PROOFS. Plane resets, block resets and host boot (R559, R560, R570, R579, R580, R637): what is cleared stays cleared while the pair is settled
and READY is shown, and the boot state is the one that the reset sets.
-/

namespace Sys2Proof.Machine

/-! ### The state cleared (R559) -/

/-- What a plane reset clears of the media plane, the staged phases apart. -/
def State.planePart (s : State) : (Tbl LegRt × Tbl FoldRt × Tbl LineClass × Tbl StreamRt) × Tbl KeySlot × List PendAdmit :=
  ((s.legs, s.folds, s.lcs, s.streams), s.cip.slots, s.adm.pend)

theorem setF_planePart (s : State) (d hi lo v : Nat) : (s.setF d hi lo v).planePart = s.planePart := rfl

theorem adm_of_media {s t : State} (h : t.media = s.media) : t.adm = s.adm := (congrArg Media.adm h :)

theorem planePart_of_media {s t : State} (h : t.media.unstaged = s.media.unstaged) : t.planePart = s.planePart :=
  (congrArg (fun m : Media => ((m.legs, m.folds, m.lcs, m.streams), m.cip.slots, m.adm.pend)) h :)

theorem after_planePart (s t : State) : (s.after t).planePart = t.planePart := by
  simp only [State.after, State.planePart, showStatus_legs, showStatus_folds, showStatus_lcs, showStatus_streams, showStatus_cip, showStatus_adm]

theorem planeClear_planePart (s : State) : s.planeClear.planePart = (([], [], [], []), [], []) := rfl

theorem planeClear_staged (s : State) : s.planeClear.adm.staged = [] := rfl

/-! With no phase staged, the end of mirroring stages none. -/

section Unstaged

variable {s : State} (h : s.adm.staged = [])
include h

theorem phaseMirrored_unstaged (id : Nat) : s.phaseMirrored id = s := by
  rw [State.phaseMirrored, h]
  rfl

theorem dropEvents_unstaged : s.dropEvents.adm.staged = [] := by
  have hsilent : ∀ f : StagedPhase → StagedPhase, s.adm.staged.map f = [] := fun f => by rw [h, List.map_nil]
  refine each_invariant (P := fun w => w.adm.staged = []) (f := fun w id => w.phaseMirrored id) (fun w id hw => ?_) _ (hsilent _)
  rw [phaseMirrored_unstaged hw, hw]

theorem endMirroring_unstaged : s.endMirroring.adm.staged = [] := by
  have hended := dropEvents_unstaged h
  unfold State.endMirroring
  dsimp only
  split
  · rw [adm_of_media (State.Reports.sendReplyNow _ _).media, hended]
  · exact hended

theorem setPair_unstaged (p : PairState) : (s.setPair p).adm.staged = [] := by
  by_cases hp : s.twn.pair = p
  · rw [setPair_same hp, h]
  · obtain ⟨c, v, detail, hv, heq⟩ := setPair_changed hp
    have hshown : v.adm.staged = [] := by rw [hv, setF_adm, h]
    rw [heq]
    dsimp only
    rw [adm_of_media (State.Reports.notify _ _ _ _ _ _).media, setR_adm]
    split
    · exact endMirroring_unstaged hshown
    · exact hshown

end Unstaged

/-- The device with its media plane cleared and held (R559 steps 1 to 4). -/
def State.planeHeld (s : State) (c : PlaneCause) : State :=
  let s := s.notify 0x800E 0 subjNone [(4, putBits (s.getR Reg.BOOT_RESET_CAUSE) c.bit c.bit 1)]
  let s := (s.planeAbort.planeClear).warmFields true
  { s with selPend := [], boot := { s.boot with planePend := none, planeRun := true, planeStopped := true, planeCause := some c } }

theorem planeHeld_boot (s : State) (c : PlaneCause) : ∃ b : BootSt,
    (s.planeHeld c).boot = { b with planePend := none, planeRun := true, planeStopped := true, planeCause := some c } := ⟨_, rfl⟩

/-- The plane's part of the boot state. -/
theorem plane_of_unqueued {a b : BootSt} (h : a.unqueued = b.unqueued) :
    a.planePend = b.planePend ∧ a.planeRun = b.planeRun ∧ a.planeStopped = b.planeStopped ∧ a.planeCause = b.planeCause ∧ a.maint = b.maint :=
  ⟨(congrArg BootSt.planePend h :), (congrArg BootSt.planeRun h :), (congrArg BootSt.planeStopped h :), (congrArg BootSt.planeCause h :),
    (congrArg BootSt.maint h :)⟩

theorem planeHeld_planePart (s : State) (c : PlaneCause) : (s.planeHeld c).planePart = (([], [], [], []), [], []) := by
  have hlater : ∀ (w : State) x y, ({ w with selPend := x, boot := y } : State).planePart = w.planePart := fun _ _ _ => rfl
  rw [State.planeHeld, hlater, warmFields_keeps State.planePart setF_planePart, planeClear_planePart]

theorem planeHeld_staged (s : State) (c : PlaneCause) : (s.planeHeld c).adm.staged = [] := by
  have hlater : ∀ (w : State) x y, ({ w with selPend := x, boot := y } : State).adm = w.adm := fun _ _ _ => rfl
  rw [State.planeHeld, hlater, warmFields_keeps State.adm setF_adm, planeClear_staged]

theorem planeTwin_eq (s : State) : ∃ x, s.planeTwin = { s with twn := x } ∨ s.planeTwin = ({ s with twn := x } : State).setPair .solo := by
  unfold State.planeTwin
  dsimp only
  split
  · exact ⟨_, .inl rfl⟩
  · exact ⟨_, .inr rfl⟩

theorem planeTwin_planePart (s : State) : s.planeTwin.planePart = s.planePart := by
  obtain ⟨x, h | h⟩ := planeTwin_eq s
  · rw [h]
    rfl
  · rw [h, planePart_of_media (setPair_settles _ _).media]
    rfl

theorem planeTwin_staged {s : State} (h : s.adm.staged = []) : s.planeTwin.adm.staged = [] := by
  obtain ⟨x, hx | hx⟩ := planeTwin_eq s
  · rw [hx, h]
  · rw [hx]
    exact setPair_unstaged (s := { s with twn := x }) h .solo

theorem planeTwin_boot (s : State) : s.planeTwin.boot.unqueued = s.boot.unqueued := by
  obtain ⟨x, h | h⟩ := planeTwin_eq s
  · rw [h]
  · rw [h, (setPair_settles _ _).boot]

/-- The device as the plane reset leaves it, before READY is shown. -/
def State.planeReset (s : State) (c : PlaneCause) : State :=
  let s := (s.planeHeld c).planeTwin.setF Reg.DRV_STATUS 31 31 1
  { s with adm := { s.adm with recount := true } }

theorem planeResetStart_runs {s : State} {c : PlaneCause} (hpend : s.boot.planePend = some c) (hup : s.up = true) (hsealed : s.sealed = true) :
    planeResetStart s = (s.planeReset c).showReady := by
  rw [planeResetStart, hpend]
  dsimp only
  rw [if_neg (by rw [hup, hsealed]; decide)]
  unfold State.planeReset State.planeHeld
  with_reducible rfl

theorem bootStatus_media (s : State) (hi lo v : Nat) : (s.bootStatus hi lo v).media = s.media := by
  have hsignal : ∀ w : State, w.vector19.media = w.media := fun w => rfl
  simp only [State.bootStatus, apply_ite State.media, hsignal, setF_media, ite_self]

theorem showReady_media (s : State) : s.showReady.media = s.media := by
  simp only [State.showReady, apply_ite State.media, bootStatus_media, ite_self]

theorem recountAsked_planePart (s : State) (b : Bool) : ({ s with adm := { s.adm with recount := b } } : State).planePart = s.planePart := rfl

theorem planeReset_planePart (s : State) (c : PlaneCause) : (s.planeReset c).planePart = (([], [], [], []), [], []) := by
  rw [State.planeReset, recountAsked_planePart, setF_planePart, planeTwin_planePart, planeHeld_planePart]

theorem planeReset_staged (s : State) (c : PlaneCause) : (s.planeReset c).adm.staged = [] := by
  rw [State.planeReset, setF_adm, planeTwin_staged (planeHeld_staged s c)]

theorem planeReset_boot (s : State) (c : PlaneCause) : (s.planeReset c).boot.unqueued = (s.planeHeld c).boot.unqueued := by
  rw [State.planeReset, setF_boot, planeTwin_boot]

theorem planeReset_stopped (s : State) (c : PlaneCause) : (s.planeReset c).getF Reg.DRV_STATUS 31 31 = 1 := by
  have hadm : ∀ (w : State) x, ({ w with adm := x } : State).getF Reg.DRV_STATUS 31 31 = w.getF Reg.DRV_STATUS 31 31 := fun _ _ => rfl
  rw [State.planeReset, hadm, getF_setF_self _ _ 31 31 1 (by decide) (by decide)]
  rfl

/-! ### The media plane starts again (R559 steps 6 and 7) -/

/-- The media plane started, in maintenance mode where that was asked for, with its mode and cause shown. -/
def State.planeStarted (s : State) (maint : Bool) (c : PlaneCause) : State :=
  let s := { s with boot := { s.boot with planeRun := false, planeCause := none, planeMaint := none, maint := maint, planeStopped := false } }
  (((s.bootStatus 4 4 (b2n maint)).setF Reg.DRV_STATUS 31 31 (b2n maint)).resetCause c.bit).countReset 3

theorem planeReady_runs {s : State} (tests : SelfTest) (h : s.boot.planeRun = true) : planeReady tests s =
    (let u := (s.selfTests tests).planeStarted (s.boot.planeMaint.getD s.boot.maint) (s.boot.planeCause.getD .command)
    let u := if u.twn.paired && u.twn.pair = .solo && (u.bundleUp 0 || u.bundleUp 1) && !u.tly.fencedLatched then u.setPair .linking else u
    (u.notify 0x800F 0 subjNone).showReady) := by
  rw [planeReady, if_neg (by rw [h]; decide)]
  unfold State.planeStarted
  with_reducible rfl

section Started

variable (s : State) (maint : Bool) (c : PlaneCause)

theorem planeStarted_boot : (s.planeStarted maint c).boot =
    { s.boot with planeRun := false, planeCause := none, planeMaint := none, maint := maint, planeStopped := false } := by
  refine boot_of_bootPart (s := { s with boot := { s.boot with planeRun := false, planeCause := none, planeMaint := none, maint := maint, planeStopped := false } }) ?_
  rw [State.planeStarted, countReset_bootPart, resetCause_bootPart, setF_bootPart, bootStatus_bootPart]

theorem planeStarted_mode : (s.planeStarted maint c).getF Reg.DRV_STATUS 31 31 = b2n maint := by
  have hcount : Reg.DRV_STATUS ≠ Reg.BOOT_RESET_COUNT 3 := by decide
  have hcause : Reg.DRV_STATUS ≠ Reg.BOOT_RESET_CAUSE := by decide
  rw [State.planeStarted, State.getF, countReset_getR (by decide) hcount, State.resetCause, getR_setF_ne hcause, ← State.getF,
    getF_setF_self _ _ 31 31 _ (by decide) (by decide)]
  cases maint <;> rfl

theorem planeStarted_cause : bit ((s.planeStarted maint c).getR Reg.BOOT_RESET_CAUSE) c.bit = true := by
  have hcount : Reg.BOOT_RESET_CAUSE ≠ Reg.BOOT_RESET_COUNT 3 := by decide
  have hbit : c.bit < 32 := by cases c <;> decide
  rw [bit_eq_true_iff, ← State.getF, State.planeStarted, State.getF, countReset_getR (by decide) hcount, ← State.getF, State.resetCause,
    getF_setF_self _ _ _ _ _ le_rfl hbit, Nat.add_sub_cancel_left]
  rfl

end Started

/-- Pairing again and telling of it leave the plane as it was started. -/
theorem planeReady_tail (u : State) (b : Bool) :
    u.Settles TwnSt.unpaired ((if b then u.setPair .linking else u).notify 0x800F 0 subjNone) :=
  (State.Settles.ite (setPair_settles u _) (.refl u)).trans (State.Reports.notify _ _ _ _ _ _).settlesPair

/-! ### Writes with a key -/

theorem written_reports (s : State) (d v free : Nat) : s.Reports (s.written d v free) :=
  (State.Reports.outside s).trans (.ite (.accessIgnored _ _ _) (.refl _))

theorem waitHost_of_reports {s t : State} (h : s.Reports t) : t.boot.waitHost = s.boot.waitHost := (congrArg BootSt.waitHost h.boot :)

theorem up_of_reports {s t : State} (h : s.Reports t) : t.up = s.up :=
  (congrArg (fun b : BootSt => !(b.inReset || b.halted || b.waitHost)) h.boot :)

theorem sealed_of_reports {s t : State} (h : s.Reports t) : t.sealed = s.sealed := by
  have hstatus : reportReg Reg.BOOT_STATUS = false := by decide
  rw [State.sealed, h.field hstatus, State.sealed]

/-! ### Block resets (R560, R580) -/

theorem softResetDone_oldest {s : State} {pass : Bool} {x : Nat} {rest : List Nat} (h : s.boot.softRun = x :: rest) : softResetDone pass s =
    (({ s with boot := { s.boot with softRun := rest } } : State).setF Reg.BOOT_SOFT_STATUS 0 0 (b2n (!rest.isEmpty))).setF
      Reg.BOOT_SOFT_STATUS 2 2 (b2n pass) := by
  rw [softResetDone, h]

theorem softShown_busy (s : State) (busy pass : Bool) :
    ((s.setF Reg.BOOT_SOFT_STATUS 0 0 (b2n busy)).setF Reg.BOOT_SOFT_STATUS 2 2 (b2n pass)).getF Reg.BOOT_SOFT_STATUS 0 0 = b2n busy := by
  rw [getF_setF_below _ _ 2 2 _ 0 0 (by decide) (by decide) (by decide) (by decide), getF_setF_self _ _ 0 0 _ (by decide) (by decide)]
  cases busy <;> rfl

theorem softShown_passed (s : State) (busy pass : Bool) :
    ((s.setF Reg.BOOT_SOFT_STATUS 0 0 (b2n busy)).setF Reg.BOOT_SOFT_STATUS 2 2 (b2n pass)).getF Reg.BOOT_SOFT_STATUS 2 2 = b2n pass := by
  rw [getF_setF_self _ _ 2 2 _ (by decide) (by decide)]
  cases pass <;> rfl

end Sys2Proof.Machine

open Sys2Proof Sys2Proof.Machine

/-- Settles O40: READY and the pair shown last leave what a plane reset has cleared or started (notes/assumptions 40 and 57). -/
theorem planeAndBlockResetsRun : Obligations.PlaneAndBlockResetsRun := by
  intro s
  refine ⟨fun m h => finish_served h rfl, fun key h hup hsealed hkey => finish_eq_after ?ask,
    fun key h hkey => finish_eq_after ((resetCtrl_answered h _).trans (if_neg hkey)), fun m h => finish_served h rfl, fun m h => finish_served h rfl,
    fun hor => finish_eq_after ?idle, fun c hpend hup hsealed => ?start, fun tests hidle => finish_eq_after (if_pos (by rw [hidle]; rfl)),
    fun tests hrun => ?ready, fun v h => finish_eq_after ?soft, fun pass hnone => finish_eq_after ?none, fun pass x rest hrun => ?done,
    fun v cont h hor => finish_eq_after ?ignored, fun v cont h hkey hwait => finish_eq_after ?boot, fun hgone => finish_eq_after (if_pos (by rw [hgone]; rfl)),
    fun hwait => finish_eq_after (if_neg (by rw [hwait]; decide))⟩
  case ask =>
    have hwritten := written_reports s Reg.BOOT_RESET_CTRL (2 + key % 65536 * 65536) (3 + 0xFFFF * 65536)
    refine (resetCtrl_answered h _).trans ((if_pos hkey).trans (if_pos ?_))
    rw [up_of_reports hwritten, sealed_of_reports hwritten, hup, hsealed]
    rfl
  case idle =>
    unfold planeResetStart
    split
    · rfl
    · rename_i c hpend
      refine if_pos ?_
      obtain hnone | hdown | hopen := hor
      · rw [hnone] at hpend
        cases hpend
      · rw [hdown]
        rfl
      · rw [hopen, Bool.not_false, Bool.or_true]
  case start =>
    have hboot : (s.planeReset c).showReady.boot.unqueued = (s.planeHeld c).boot.unqueued := by
      rw [boot_of_bootPart (showReady_bootPart _), planeReset_boot]
    have hpart : (s.after (s.planeReset c).showReady).planePart = (([], [], [], []), [], []) := by
      rw [after_planePart, planePart_of_media (congrArg Media.unstaged (showReady_media _)), planeReset_planePart]
    simp only [State.planePart, Prod.mk.injEq] at hpart
    obtain ⟨⟨hlegs, hfolds, hlcs, hstreams⟩, hslots, hpends⟩ := hpart
    obtain ⟨b, hheld⟩ := planeHeld_boot s c
    obtain ⟨hasked, hrun, hstopped, hcause, -⟩ := plane_of_unqueued hboot
    rw [hheld] at hasked hrun hstopped hcause
    refine ⟨_, finish_eq_after (planeResetStart_runs hpend hup hsealed), hlegs, hfolds, hlcs, hstreams, hslots, hpends, ?_, ?_, ?_, ?_, ?_, ?_⟩
    · rw [after_adm, adm_of_media (showReady_media _), planeReset_staged]
    · rw [after_boot, hasked]
    · rw [after_boot, hrun]
    · rw [after_boot, hstopped]
    · rw [after_boot, hcause]
    · rw [after_getF (by decide), State.getF, showReady_getR (by decide), ← State.getF, planeReset_stopped]
  case ready =>
    refine ⟨_, finish_eq_after (planeReady_runs tests hrun), ?_⟩
    generalize hu : (s.selfTests tests).planeStarted (s.boot.planeMaint.getD s.boot.maint) (s.boot.planeCause.getD .command) = u
    have hbegun := hu ▸ planeStarted_boot (s.selfTests tests) (s.boot.planeMaint.getD s.boot.maint) (s.boot.planeCause.getD .command)
    have hmode := hu ▸ planeStarted_mode (s.selfTests tests) (s.boot.planeMaint.getD s.boot.maint) (s.boot.planeCause.getD .command)
    have hcause := hu ▸ planeStarted_cause (s.selfTests tests) (s.boot.planeMaint.getD s.boot.maint) (s.boot.planeCause.getD .command)
    dsimp only
    generalize hv : (if u.twn.paired && u.twn.pair = .solo && (u.bundleUp 0 || u.bundleUp 1) && !u.tly.fencedLatched then u.setPair .linking else u).notify
      0x800F 0 subjNone = v
    have htail : u.Settles TwnSt.unpaired v := hv ▸ planeReady_tail u _
    have hboot : v.showReady.boot.unqueued = u.boot.unqueued := by rw [boot_of_bootPart (showReady_bootPart _), htail.boot]
    rw [after_boot, after_getF (by decide), after_getR_ne (by decide), State.getF, showReady_getR (by decide), showReady_getR (by decide), ← State.getF,
      htail.field (by decide) (by decide), htail.regs _ (by decide) (by decide)]
    obtain ⟨-, hran, hstopped, hcaused, hmaint⟩ := plane_of_unqueued hboot
    rw [hbegun] at hran hstopped hcaused hmaint
    exact ⟨hran, hcaused, hmaint, hstopped, hmode, hcause⟩
  case soft =>
    exact (ctrlWrite_answered h _).trans (ite_not _ _ _)
  case none =>
    rw [softResetDone, hnone]
  case done =>
    refine ⟨_, finish_eq_after (softResetDone_oldest hrun), ?_, ?_, ?_⟩
    · rw [after_boot, setF_boot, setF_boot]
    · rw [after_getF (by decide), softShown_busy]
    · rw [after_getF (by decide), softShown_passed]
  case ignored =>
    have hwritten := written_reports s Reg.BOOT_HOST_BOOT v (0xFFFF * 65536)
    refine (ctrlWrite_answered h _).trans (if_pos ?_)
    rw [waitHost_of_reports hwritten]
    obtain hkey | hgone := hor
    · simp [hkey]
    · simp [hgone]
  case boot =>
    have hwritten := written_reports s Reg.BOOT_HOST_BOOT v (0xFFFF * 65536)
    refine (ctrlWrite_answered h _).trans (if_neg ?_)
    rw [waitHost_of_reports hwritten]
    simp [hkey, hwait]
end

section
/-!
PROOFS. Updates (R613 to R628): the journal record, the reply, the fault and the registers that close a step keep the update engine and the boot
record as the step has set them.
-/

namespace Sys2Proof.Machine

/-! ### The update engine and the boot record -/

/-- The update engine and the boot record. -/
def State.updPart (s : State) : UpdSt × BootRec := (s.upd, s.tly.boot)

section UpdPart

variable {s t : State}

theorem upd_of_updPart (h : t.updPart = s.updPart) : t.upd = s.upd := congrArg Prod.fst h

theorem bootRec_of_updPart (h : t.updPart = s.updPart) : t.tly.boot = s.tly.boot := congrArg Prod.snd h

theorem updPart_of_reports (h : s.Reports t) : t.updPart = s.updPart :=
  Prod.ext (congrArg Media.upd h.media :) (congrArg TallySt.boot h.tly :)

theorem now_of_reports (h : s.Reports t) : t.now = s.now := (congrArg (fun m : Media => m.tim.tick) h.media :)

end UpdPart

theorem setF_updPart (s : State) (d hi lo v : Nat) : (s.setF d hi lo v).updPart = s.updPart := rfl

theorem showUpd_updPart (s : State) : s.showUpd.updPart = s.updPart := by
  rw [State.showUpd, setF_updPart, setF_updPart, setF_updPart, setF_updPart]

theorem journalled_updPart (s : State) (x : List UpdRec) : ({ s with tly := { s.tly with updJournal := x } } : State).updPart = s.updPart := rfl

theorem updJournal_updPart (s : State) (event result reason version : Nat) (digest : BitVec 384) (slotFlash : Nat) :
    (s.updJournal event result reason version digest slotFlash).updPart = s.updPart := by
  rw [State.updJournal, journalled_updPart, updPart_of_reports (.tallyCommit s _ _ _ _ _)]

theorem updJournal_bootPart (s : State) (event result reason version : Nat) (digest : BitVec 384) (slotFlash : Nat) :
    (s.updJournal event result reason version digest slotFlash).bootPart = s.bootPart := by
  rw [State.updJournal, tly_bootPart, tallyCommit_bootPart]

theorem updNote_updPart (s : State) (event result reason slotFlash : Nat) : (s.updNote event result reason slotFlash).updPart = s.updPart :=
  updJournal_updPart s _ _ _ _ _ _

theorem updNote_bootPart (s : State) (event result reason slotFlash : Nat) : (s.updNote event result reason slotFlash).bootPart = s.bootPart :=
  updJournal_bootPart s _ _ _ _ _ _

theorem commitBoot_updPart (s : State) (r : BootRec) : (s.commitBoot r).updPart = (s.upd, r) :=
  updPart_of_reports (s := { s with tly := { s.tly with boot := r } }) (.tallyCommit _ _ _ _ _ _)

theorem unschedule_updPart (s : State) : s.unschedule.updPart =
    ({ s.upd with at_ := 0, cold := false, prepared := false }, { s.tly.boot with trial := 0 }) := by
  rw [State.unschedule, showUpd_updPart, commitBoot_updPart]

theorem unschedule_bootPart (s : State) : s.unschedule.bootPart = s.bootPart := by
  rw [State.unschedule, showUpd_bootPart, commitBoot_bootPart, upd_bootPart]

/-! ### Faults that wait -/

theorem faulted_of_bootPart {s t : State} (h : t.bootPart = s.bootPart) (code subject : Nat) : t.faulted code subject = s.faulted code subject := by
  rw [State.faulted, boot_of_bootPart h, queue_of_bootPart h, State.faulted]

theorem twn_bootPart (s : State) (x : TwnSt) (y : List OutEv) : ({ s with twn := x, out := y } : State).bootPart = s.bootPart := rfl

theorem incR64_bootPart (s : State) (d n : Nat) : (s.incR64 d n).bootPart = s.bootPart := by
  rw [State.incR64, State.setR64, setR_bootPart, setR_bootPart]

theorem sendAusOn_bootPart (s : State) (b typ tick len : Nat) (body : List Nat) : (s.sendAusOn b typ tick len body).bootPart = s.bootPart := by
  unfold State.sendAusOn
  dsimp only
  split
  · rfl
  · rw [twn_bootPart, incR64_bootPart, incR64_bootPart]

theorem sendAus_bootPart (s : State) (typ tick len : Nat) (body : List Nat) : (s.sendAus typ tick len body).bootPart = s.bootPart := by
  unfold State.sendAus
  split
  · rfl
  · dsimp only
    split
    · exact (twn_bootPart _ _ _).trans (sendAusOn_bootPart s _ _ _ _ _)
    · exact sendAusOn_bootPart s _ _ _ _ _

theorem sendEvent_bootPart (s : State) (typ effective : Nat) (phase : Option Nat) (held : Option Reply) :
    (s.sendEvent typ effective phase held).bootPart = s.bootPart := by
  rw [State.sendEvent, sendAus_bootPart]
  rfl

theorem triggerFallback_unheld (s : State) : (s.triggerFallback none).upd = { s.upd with fallAt := some (s.now + 2) } ∧
    (s.triggerFallback none).bootPart = s.bootPart := by
  unfold State.triggerFallback
  dsimp only
  split
  · exact ⟨upd_of_updPart (updPart_of_reports (.sendEvent _ _ _ _ _)), sendEvent_bootPart _ _ _ _ _⟩
  · exact ⟨rfl, rfl⟩

/-! ### A new image in force -/

theorem sealGates_tly (s : State) (p : Nat) : (s.sealGates p).tly = s.tly := by
  simp only [State.sealGates, each_keeps State.tly, setR_tly, implies_true]

theorem sealRegs_tly (s : State) : s.sealRegs.tly = s.tly := by
  unfold State.sealRegs
  dsimp only
  split <;> split <;> simp only [each_keeps State.tly, setR_tly, setF_tly, sealGates_tly, implies_true]

theorem showImage_tly (s : State) (c : Candidate) (fallback : Bool) : (s.showImage c fallback).tly = s.tly := by
  simp only [State.showImage, each_keeps State.tly, setR_tly, setF_tly, implies_true]

theorem liveSeal_tly (s : State) (t : Torzer) (slot : Nat) : (s.liveSeal t slot).tly = s.tly := by
  have himage : (s.withImage t).tly = s.tly := rfl
  simp only [State.liveSeal, showImage_tly, sealRegs_tly, himage]

theorem runFirmware_tly (s : State) (h : ContHdr) : (s.runFirmware h).tly = s.tly := by
  simp only [State.runFirmware, each_keeps State.tly, setR_tly, setF_tly, implies_true]

theorem bootStatus_tly (s : State) (hi lo v : Nat) : (s.bootStatus hi lo v).tly = s.tly := by
  have hsignal : ∀ w : State, w.vector19.tly = w.tly := fun _ => rfl
  simp only [State.bootStatus, apply_ite State.tly, hsignal, setF_tly, ite_self]

/-- The device in its new images, before the update engine is set (R623). -/
def State.swapped (s : State) : State :=
  let h := s.updHdr
  let u := (s.commitBoot s.swappedRecord).updNote 5 0 0
  let u := if h.hasFw then (u.runFirmware h).bootStatus 8 7 (b2n (u.fwFrom u.tly.boot.fwActive)) else u
  if h.hasTz then u.liveSeal s.nextImage u.tly.boot.tzActive else u

theorem swapped_record (s : State) : s.swapped.tly.boot = s.swappedRecord := by
  have hrecord : ((s.commitBoot s.swappedRecord).updNote 5 0 0).tly.boot = s.swappedRecord :=
    bootRec_of_updPart (s := { s with tly := { s.tly with boot := s.swappedRecord } }) ((updNote_updPart _ _ _ _ _).trans (commitBoot_updPart s _))
  rw [State.swapped]
  simp only [apply_ite State.tly, liveSeal_tly, bootStatus_tly, runFirmware_tly, ite_self, hrecord]

section Swap

variable {s : State}

theorem updateSwap_hot (hat : s.upd.at_ ≠ 0) (hdue : s.upd.at_ ≤ s.now) (hready : s.swapReady = true) (hrun : s.boot.warmRun = false)
    (hhot : s.upd.cold = false) : updateSwap s = ({ s.swapped with upd := { trialFrom := s.upd.at_ } } : State).showUpd := by
  rw [updateSwap, if_neg (by simp [hat, hdue, hready, hrun])]
  dsimp only
  rw [if_neg (by rw [hhot]; decide)]
  unfold State.swapped
  with_reducible rfl

theorem updateSwap_cold (hat : s.upd.at_ ≠ 0) (hdue : s.upd.at_ ≤ s.now) (hready : s.swapReady = true) (hrun : s.boot.warmRun = false)
    (hcold : s.upd.cold = true) : updateSwap s = ((s.commitBoot s.swappedRecord).updNote 5 0 0).startUp 1 none true := by
  rw [updateSwap, if_neg (by simp [hat, hdue, hready, hrun])]
  exact if_pos hcold

theorem updateSwap_idle (h : s.upd.at_ = 0 ∨ s.now < s.upd.at_ ∨ s.swapReady = false ∨ s.boot.warmRun = true) : updateSwap s = s := by
  refine if_pos ?_
  obtain h | h | h | h := h
  · simp [h]
  · simp [h]
  · simp [h]
  · simp [h]

theorem swapPrepare_idle {loaded : Bool} (h : s.upd.at_ = 0 ∨ s.upd.prepared = true ∨ s.now + 60 < s.upd.at_) : swapPrepare loaded s = s := by
  refine if_pos ?_
  obtain h | h | h := h
  · simp [h]
  · simp [h]
  · simp [h]

theorem swapPrepare_prepares (hrun : s.boot.warmRun = false) (hat : s.upd.at_ ≠ 0) (hprep : s.upd.prepared = false) (hnear : s.upd.at_ ≤ s.now + 60)
    (hpass : s.activationReason s.upd.cold = 0) : (swapPrepare true s).upd = { s.upd with prepared := true } := by
  rw [swapPrepare, if_neg (by simp [hrun, hat, hprep, hnear]), if_pos (by simp [hpass])]
  dsimp only
  split
  · exact upd_of_updPart (updPart_of_reports (.sendEvent _ _ _ _ _))
  · rfl

theorem swapNotReady_idle (h : s.upd.at_ = 0 ∨ s.now + 1 < s.upd.at_ ∨ s.swapReady = true) : swapNotReady s = s := by
  refine if_pos ?_
  obtain h | h | h := h
  · simp [h]
  · simp [h]
  · simp [h]

theorem swapNotReady_aborts (hat : s.upd.at_ ≠ 0) (hnear : s.upd.at_ ≤ s.now + 1) (hready : s.swapReady = false) :
    swapNotReady s = (((s.updReason 0x13).updNote 8 1 0x13).unschedule).raise fltActivationAborted subjNone :=
  if_neg (by simp [hat, hnear, hready])

end Swap

/-! ### Staging (R617) -/

section Staging

variable {s : State} {a b : Bool}

/-- The inactive slots written with a commit word where staging succeeded. -/
def State.slotsWritten (s : State) (a b : Bool) : State :=
  let c := s.upd.cont.getD {}
  (s.writeSlots false (a && s.boot.flash.a.capacityOk) c).writeSlots true (b && s.boot.flash.b.capacityOk) c

theorem slotsWritten_updPart (s : State) (a b : Bool) : (s.slotsWritten a b).updPart = s.updPart := rfl

theorem slotsWritten_warmRun (s : State) (a b : Bool) : (s.slotsWritten a b).boot.warmRun = s.boot.warmRun := rfl

/-- The flashes that hold what was staged. -/
def State.flashesHeld (s : State) (a b : Bool) : Nat := b2n (a && s.boot.flash.a.capacityOk) + b2n (b && s.boot.flash.b.capacityOk)

theorem stagingDone_none (hstaging : s.upd.staging = true) (hnone : s.flashesHeld a b = 0) : stagingDone a b s =
    ({ (((s.slotsWritten a b).updReason 0x0B).updNote 3 1 0x0B) with upd := {} } : State).showUpd := by
  rw [stagingDone, if_neg (by rw [hstaging]; decide)]
  exact if_pos hnone

theorem stagingDone_held (hstaging : s.upd.staging = true) (hheld : s.flashesHeld a b ≠ 0) : ∃ slot, stagingDone a b s =
    (let u := (s.slotsWritten a b).updNote 3 0 0 slot
    let u := if s.flashesHeld a b = 1 then u.raise fltStagePartial subjNone else u
    ({ u with upd := { u.upd with staging := false, staged := s.flashesHeld a b } } : State).showUpd) := by
  rw [stagingDone, if_neg (by rw [hstaging]; decide)]
  exact ⟨_, if_neg hheld⟩

end Staging

end Sys2Proof.Machine

open Sys2Proof Sys2Proof.Machine

/-- Settles O51: the journal record, the reply and the registers that close a step keep what the step has made of the update engine and of the boot
record (notes/assumptions 43). -/
theorem updatesStageActivateAndFallBack : Obligations.UpdatesStageActivateAndFallBack := by
  intro m s
  refine ⟨fun h hs => finish_served hs rfl, fun off len dig tz hs => ⟨fun hnone => finish_served hs ?nohdr, fun h hh hst hsg =>
      ⟨fun hoff => finish_served hs ?offset, fun hoff hmore => finish_served hs ?more, fun hoff hlast => finish_served hs ?last⟩⟩,
    fun hs => ⟨fun hor => finish_served hs ?nocard, fun hm hu hok hpass => finish_served hs ?card, fun hm hu hok hfail => finish_served hs ?badcard⟩,
    fun a b hidle => finish_eq_after (if_pos (by rw [hidle]; rfl)), fun a b hstaging => ⟨fun hheld => ?held, fun hnone => ?none⟩,
    fun sec k cold hs => ⟨fun hor => finish_served hs ?unstaged, fun hsg hat hor => finish_served hs ?badtime, fun hsg hat hgrid hlo hhi => finish_served hs ?activate⟩,
    fun hrun hat hprep hnear hpass => ⟨_, finish_after s _, ?prepare⟩, fun l hor => finish_eq_after (swapPrepare_idle hor),
    fun hat hnear hready => ⟨_, finish_eq_after (swapNotReady_aborts hat hnear hready), ?aborted⟩, fun hor => finish_eq_after (swapNotReady_idle hor),
    fun hat hdue hready hrun hhot => ⟨_, finish_eq_after (updateSwap_hot hat hdue hready hrun hhot), ?swap⟩,
    fun hat hdue hready hrun hcold => finish_eq_after (updateSwap_cold hat hdue hready hrun hcold), fun hor => finish_eq_after (updateSwap_idle hor),
    fun hs => ⟨fun hnone => finish_served hs ?noabort, fun hsome hat hnear => finish_served hs ?late, fun hsome hat hsg => ?discard, fun hsome hsg hor => ?unsched⟩,
    fun hs => finish_served hs rfl, fun htrial hrun => ⟨_, finish_eq_after (if_pos (by rw [htrial, hrun]; rfl)), ?health⟩,
    fun htrial hover => ⟨_, finish_eq_after (if_pos (by simp [htrial, hover])), ?timeout⟩,
    fun htrial hclean => ⟨_, finish_eq_after (if_pos (by simp [htrial, hclean])), ?confirm⟩,
    fun hoff => ⟨finish_eq_after (if_neg (by simp [hoff])), finish_eq_after (if_neg (by simp [hoff])), finish_eq_after (if_neg (by simp [hoff]))⟩,
    fun p hnone => finish_eq_after ?nofall, fun p T hfall hrun hdue => finish_eq_after ?fall⟩
  case nohdr => exact if_pos (by rw [hnone]; rfl)
  case offset =>
    exact (if_neg (by simp [hh, hst, hsg])).trans (if_pos (by simp [hoff]))
  case more =>
    have hhdr : (s.taken m 0x0402).updHdr = h := by rw [State.updHdr, hh]; rfl
    exact (if_neg (by simp [hh, hst, hsg])).trans ((if_neg (by simp [hoff, hhdr, hmore.le])).trans (if_pos (by rw [hhdr]; exact hmore)))
  case last =>
    have hhdr : (s.taken m 0x0402).updHdr = h := by rw [State.updHdr, hh]; rfl
    refine (if_neg (by simp [hh, hst, hsg])).trans ((if_neg (by simp [hoff, hhdr, hlast])).trans ((if_neg (by rw [hhdr]; simp [hlast])).trans ?_))
    rw [hhdr]
  case nocard =>
    refine if_pos ?_
    obtain hm | hu := hor
    · simp [hm]
    · simp [hu]
  case card =>
    exact (if_neg (by simp [hm, hu])).trans (if_neg (by simp [hok, hpass]))
  case badcard =>
    have hread : ¬ ((!(s.taken m 0x0403).boot.env.cardCont.readOk) = true) := by simp [hok]
    refine (if_neg (by simp [hm, hu])).trans ?_
    dsimp only
    rw [if_neg hread]
    exact if_pos hfail
  case held =>
    obtain ⟨slot, hdone⟩ := stagingDone_held hstaging hheld
    refine ⟨_, finish_eq_after hdone, ?_, fun hone hrun => ?_⟩
    · rw [after_upd, upd_of_updPart (showUpd_updPart _)]
      have hkept : (if s.flashesHeld a b = 1 then ((s.slotsWritten a b).updNote 3 0 0 slot).raise fltStagePartial subjNone
          else (s.slotsWritten a b).updNote 3 0 0 slot).updPart = s.updPart :=
        (updPart_of_reports (.ite (.raise _ _ _ _) (.refl _))).trans ((updNote_updPart _ _ _ _ _).trans (slotsWritten_updPart s a b))
      dsimp only
      rw [upd_of_updPart hkept]
      rfl
    · have hrun' : ((s.slotsWritten a b).updNote 3 0 0 slot).boot.warmRun = false := by
        rw [boot_of_bootPart (updNote_bootPart _ _ _ _ _), slotsWritten_warmRun, hrun]
      have hone' : s.flashesHeld a b = 1 := hone
      rw [after_faulted, faulted_of_bootPart (showUpd_bootPart _), faulted_of_bootPart (upd_bootPart _ _), if_pos hone', raise_faulted hrun']
  case none =>
    refine ⟨_, finish_eq_after (stagingDone_none hstaging hnone), ?_⟩
    rw [after_upd, upd_of_updPart (showUpd_updPart _)]
  case unstaged =>
    refine (if_neg (by decide)).trans (if_pos ?_)
    obtain hsg | hat := hor
    · simp [hsg]
    · simp [hat]
  case badtime =>
    have hbad : (!(s.taken m 0x0404).tim.valid ||
        decide (sec * 600 + k < (s.arrival m 0x0404).1 + 120 ∨ (s.arrival m 0x0404).1 + 51840000 < sec * 600 + k)) = true := by
      obtain hgrid | hlo | hhi := hor
      · simp [hgrid]
      · simp [hlo]
      · simp [hhi]
    refine (if_neg (by decide)).trans ((if_neg (by simp [hsg, hat])).trans ?_)
    dsimp only
    rw [if_pos hbad]
    exact if_pos (by decide)
  case activate =>
    have hgood : ¬ ((!(s.taken m 0x0404).tim.valid ||
        decide (sec * 600 + k < (s.arrival m 0x0404).1 + 120 ∨ (s.arrival m 0x0404).1 + 51840000 < sec * 600 + k)) = true) := by
      simp [hgrid, hlo, hhi]
    refine (if_neg (by decide)).trans ((if_neg (by simp [hsg, hat])).trans ?_)
    dsimp only
    rw [if_neg hgood]
  case prepare =>
    rw [after_upd, swapPrepare_prepares hrun hat hprep hnear hpass]
  case aborted =>
    have hnoted : ((s.updReason 0x13).updNote 8 1 0x13).updPart = s.updPart := (updNote_updPart _ _ _ _ _).trans (setF_updPart s _ _ _ _)
    have hnotedBoot : ((s.updReason 0x13).updNote 8 1 0x13).bootPart = s.bootPart := (updNote_bootPart _ _ _ _ _).trans (setF_bootPart s _ _ _ _)
    generalize ((s.updReason 0x13).updNote 8 1 0x13) = w at hnoted hnotedBoot
    have hpart : (w.unschedule.raise fltActivationAborted subjNone).updPart =
        ({ s.upd with at_ := 0, cold := false, prepared := false }, { s.tly.boot with trial := 0 }) := by
      rw [updPart_of_reports (.raise _ _ _ _), unschedule_updPart, upd_of_updPart hnoted, bootRec_of_updPart hnoted]
    simp only [State.updPart, Prod.mk.injEq] at hpart
    obtain ⟨hupd, hrecord⟩ := hpart
    have hrun : w.unschedule.boot.warmRun = s.boot.warmRun := by rw [boot_of_bootPart (unschedule_bootPart w), boot_of_bootPart hnotedBoot]
    rw [after_upd, after_tly, after_faulted, hupd, hrecord]
    exact ⟨rfl, rfl, rfl, fun hcores => raise_faulted (hrun.trans hcores) _ _ _⟩
  case swap =>
    have hset : ∀ (w : State) x, ({ w with upd := x } : State).tly.boot = w.tly.boot := fun _ _ => rfl
    rw [after_tly, after_upd, bootRec_of_updPart (showUpd_updPart _), upd_of_updPart (showUpd_updPart _), hset, swapped_record]
    exact ⟨rfl, rfl⟩
  case noabort => exact if_pos (by rw [hnone]; rfl)
  case late =>
    have hhdr : ¬ ((s.taken m 0x0405).upd.hdr.isNone = true) := by rw [Option.isNone_iff_eq_none]; exact fun h => by simp [h] at hsome
    exact (if_neg hhdr).trans (if_pos (by simp [hat, hnear]))
  case discard =>
    have hhdr : ¬ ((s.taken m 0x0405).upd.hdr.isNone = true) := by rw [Option.isNone_iff_eq_none]; exact fun h => by simp [h] at hsome
    refine ⟨_, finish_served hs ((if_neg hhdr).trans ((if_neg (by simp [hat])).trans (if_pos hsg))), ?_⟩
    rw [after_upd, upd_of_updPart (updPart_of_reports (.reply _ _ _ _)), upd_of_updPart (showUpd_updPart _)]
  case unsched =>
    have hhdr : ¬ ((s.taken m 0x0405).upd.hdr.isNone = true) := by rw [Option.isNone_iff_eq_none]; exact fun h => by simp [h] at hsome
    have hfar : ¬ (((s.taken m 0x0405).upd.at_ ≠ 0 && decide ((s.taken m 0x0405).upd.at_ ≤ (s.taken m 0x0405).now + 1)) = true) := by
      obtain hat | hfar := hor
      · simp [hat]
      · simp [hfar]
    refine ⟨_, finish_served hs ((if_neg hhdr).trans ((if_neg hfar).trans (if_neg hsg))), ?_⟩
    generalize s.taken m 0x0405 = u
    have hanswered : ∀ w : State, (if w.mirroring then w.sendEvent 0x0405 w.now none (some { dst := s.replyTo m 0x0405, status := stAborted })
        else w.reply (s.replyTo m 0x0405) stAborted).updPart = w.updPart := fun w =>
      updPart_of_reports (.ite (.sendEvent _ _ _ _ _) (.reply _ _ _ _))
    have hnoted : (if u.upd.at_ ≠ 0 then (u.updNote 8 0 0).raise fltActivationAborted subjNone else u.updNote 8 0 0).updPart = u.updPart :=
      (updPart_of_reports (.ite (.raise _ _ _ _) (.refl _))).trans (updNote_updPart u _ _ _ _)
    dsimp only
    rw [after_upd, after_tly, upd_of_updPart (hanswered _), bootRec_of_updPart (hanswered _)]
    generalize (if u.upd.at_ ≠ 0 then (u.updNote 8 0 0).raise fltActivationAborted subjNone else u.updNote 8 0 0) = w at hnoted
    split
    · rename_i hat
      have hpart := unschedule_updPart w
      rw [upd_of_updPart hnoted, bootRec_of_updPart hnoted] at hpart
      simp only [State.updPart, Prod.mk.injEq] at hpart
      obtain ⟨hupd, hrecord⟩ := hpart
      rw [hupd, hrecord]
      exact ⟨rfl, rfl, rfl⟩
    · rename_i hat
      rw [upd_of_updPart hnoted, bootRec_of_updPart hnoted, if_pos (not_not.mp hat)]
      exact ⟨not_not.mp hat, rfl, rfl⟩
  case health =>
    have hnow : (s.raise fltHealthFail subjNone).now = s.now := now_of_reports (.raise s _ _ _)
    obtain ⟨hupd, hpart⟩ := triggerFallback_unheld (s.raise fltHealthFail subjNone)
    rw [after_upd, after_faulted, hupd, hnow, faulted_of_bootPart hpart]
    exact ⟨rfl, raise_faulted hrun _ _ _⟩
  case timeout =>
    rw [after_upd, (triggerFallback_unheld s).1]
  case confirm =>
    have hpart : (s.commitBoot { s.tly.boot with trial := 3, confirmTick := s.now }).updPart = (s.upd, { s.tly.boot with trial := 3, confirmTick := s.now }) :=
      commitBoot_updPart s _
    generalize s.commitBoot { s.tly.boot with trial := 3, confirmTick := s.now } = w at hpart
    have hset : ∀ v : State, ({ v with upd := {} } : State).tly.boot = v.tly.boot := fun _ => rfl
    rw [after_upd, after_tly, upd_of_updPart (showUpd_updPart _), bootRec_of_updPart (showUpd_updPart _), hset, bootRec_of_updPart (updJournal_updPart w _ _ _ _ _ _)]
    exact ⟨rfl, congrArg Prod.snd hpart⟩
  case nofall =>
    rw [fallbackSwap, hnone]
  case fall =>
    rw [fallbackSwap, hfall]
    exact if_neg (by simp [hrun, hdue])
end

section
/-!
PROOFS. Power, the reset pin and trips (R554, R555, R563, R567, R568, R704, R713): a held device is at its reset values but for what the tally store
and the flashes hold, and a start-up that halts at the strap stays halted to its end.
-/

namespace Sys2Proof.Machine

/-! ### The device held (R554, R704) -/

/-- A device held in cold reset holds what survives one, and the rest at its reset values. -/
theorem hold_tly (s : State) (trip : Bool) : (s.hold trip).tly = s.tly := rfl

theorem hold_cold (s : State) (trip : Bool) : (s.hold trip).legs = [] ∧ (s.hold trip).mem = [] ∧ (s.hold trip).boot.inReset = true ∧
    (s.hold trip).boot.thermalHold = trip ∧ (s.hold trip).pins.thermTrip = trip :=
  ⟨rfl, rfl, rfl, rfl, rfl⟩

theorem powerLoss_kept (s : State) : (powerLoss s).tly = s.tly ∧ (powerLoss s).boot.flash = s.boot.flash ∧
    (powerLoss s).boot.mgmtKeys = s.boot.mgmtKeys ∧ (powerLoss s).cip.keks = s.cip.keks :=
  ⟨rfl, rfl, rfl, rfl⟩

theorem powerLoss_cold (s : State) : (powerLoss s).regs = [] ∧ (powerLoss s).legs = [] ∧ (powerLoss s).folds = [] ∧
    (powerLoss s).lcs = [] ∧ (powerLoss s).streams = [] ∧ (powerLoss s).mem = [] ∧ (powerLoss s).boot.inReset = true ∧
    (powerLoss s).boot.thermalHold = false ∧ (powerLoss s).boot.alwaysOnFatal = 0 :=
  ⟨rfl, rfl, rfl, rfl, rfl, rfl, rfl, rfl, rfl⟩

theorem getR_of_unwritten {s : State} (h : s.regs = []) (d : Nat) : s.getR d = coldOf d % 2 ^ 32 := by
  rw [getR_of_regs (s := State.reset) h d, resetLeavesColdValues.1]

theorem after_lcs (s t : State) : (s.after t).lcs = t.lcs := by simp only [State.after, showStatus_lcs]

theorem noteFatalReset_journal (s : State) : s.noteFatalReset.tly.journal = s.tly.journal := rfl

/-! ### The journal written -/

theorem addReason_boot (s : State) (code subject : Nat) : (s.addReason code subject).boot = s.boot := by
  unfold State.addReason
  split
  · rfl
  · split
    · rfl
    · dsimp only
      split
      · rfl
      · rfl

theorem addReason_getR (s : State) (code subject d : Nat) : (s.addReason code subject).getR d = s.getR d := by
  unfold State.addReason
  split
  · rfl
  · split
    · rfl
    · dsimp only
      split
      · rfl
      · rfl

theorem journal_boot (s : State) (f : RaisedFault) : (s.journal f).boot = s.boot := by
  have hcommit : ∀ (w : State) k p, (w.tallyCommit 3 k 32 p).boot = w.boot := fun w k p => boot_of_bootPart (tallyCommit_bootPart w _ _ _ _ _)
  simp only [State.journal, addReason_boot, apply_ite State.boot, incR_boot, setR_boot, hcommit, ite_self]

theorem journal_getR {d : Nat} (h : subOf d ≠ 0) (hd : reportReg d = false) (s : State) (f : RaisedFault) : (s.journal f).getR d = s.getR d := by
  have hlast : d ≠ Reg.DEV_FAULT_LAST := dev_ne h (by decide)
  have hsubject : d ≠ Reg.DEV_FAULT_SUBJECT := dev_ne h (by decide)
  have hcounted : ∀ w : State, (if classOf f.code < 5 then w.incR (Reg.DEV_FAULT_COUNT (classOf f.code)) else w).getR d = w.getR d := fun w => by
    split
    · exact getR_incR_ne (dev_ne h (by unfold Reg.DEV_FAULT_COUNT; omega)) w _
    · rfl
  rw [State.journal, addReason_getR, hcounted, getR_setR_ne hsubject, getR_setR_ne hlast, getR_flt, getR_tly, tallyCommit_getR hd]

theorem commitFaults_boot (s : State) : s.commitFaults.boot = s.boot := by
  rw [State.commitFaults, each_keeps State.boot journal_boot, incR_boot]

theorem commitFaults_getR {d : Nat} (h : subOf d ≠ 0) (hd : reportReg d = false) (s : State) : s.commitFaults.getR d = s.getR d := by
  have hdropped : d ≠ Reg.DEV_FAULT_DROPPED := dev_ne h (by decide)
  rw [State.commitFaults, each_getR d _ _ (journal_getR h hd), getR_incR_ne hdropped, getR_flt]

/-- What ends a stretch of start-up keeps the boot state and BOOT_STATUS. -/
theorem startEnd_boot (s : State) : s.startEnd.boot = s.boot := by
  rw [State.startEnd, boot_of_bootPart (publishRecord_bootPart _), setF_boot, commitFaults_boot]

theorem startEnd_status (s : State) (hi lo : Nat) : s.startEnd.getF Reg.BOOT_STATUS hi lo = s.getF Reg.BOOT_STATUS hi lo := by
  have hcode : Reg.BOOT_STATUS ≠ Reg.BOOT_FATAL_CODE := by decide
  rw [State.startEnd, State.getF, publishRecord_getR (by decide), getR_setF_ne hcode, commitFaults_getR (by decide) (by decide), ← State.getF]

/-! ### Start-up up to the strap -/

theorem showKeys_boot (s : State) : s.showKeys.boot = s.boot := by
  simp only [State.showKeys, each_keeps State.boot, setR_boot, setF_boot, implies_true]

theorem loadTally_boot (s : State) : s.loadTally.boot = s.boot := by
  simp only [State.loadTally, State.invSummary, showKeys_boot, each_keeps State.boot, setR_boot, setF_boot, setR64_boot, implies_true]

theorem showTrial_boot (s : State) : s.showTrial.boot = s.boot := by
  simp only [State.showTrial, setF_boot]

theorem trialAtReset_boot (s : State) : s.trialAtReset.boot.unqueued = s.boot.unqueued := by
  unfold State.trialAtReset
  dsimp only
  split
  · rw [(State.Reports.raise _ _ _ _).boot, boot_of_bootPart (updJournal_bootPart _ _ _ _ _ _ _), boot_of_bootPart (commitBoot_bootPart _ _)]
  · split
    · rw [boot_of_bootPart (commitBoot_bootPart _ _)]
    · rfl

theorem rebuildRecord_boot (s : State) : s.rebuildRecord.boot = s.boot := by
  simp only [State.rebuildRecord, apply_ite State.boot, each_keeps State.boot, addReason_boot, ite_self, implies_true]

/-- The device as a power-on or a cold reset finds it, before the strap is measured. -/
def State.coldStart (s : State) (count : Nat) (cause : Option Nat) : State :=
  let s := s.coldBase
  let s := { s with boot := { s.boot with inReset := false } }
  let s := (s.loadTally).countReset count
  let s := match cause with
    | some n => s.resetCause n
    | none => s
  (s.trialAtReset.showTrial).rebuildRecord

theorem startUp_eq (s : State) (count : Nat) (cause : Option Nat) : s.startUp count cause =
    (((((s.coldStart count cause).go (fun s => s.strapStep)).go (fun s => s.optionStep)).go (fun s => s.supplyStep)).go
      (fun s => s.firmwareStep)).startRest.startEnd := by
  unfold State.startUp State.coldStart
  rfl

theorem coldStart_boot (s : State) (count : Nat) (n : Nat) :
    (s.coldStart count (some n)).boot.unqueued = ({ s.coldBase.boot with inReset := false } : BootSt).unqueued := by
  have hset : ∀ (w : State) x, ({ w with boot := x } : State).boot = x := fun _ _ => rfl
  rw [State.coldStart, rebuildRecord_boot, showTrial_boot, trialAtReset_boot, boot_of_bootPart (resetCause_bootPart _ _), boot_of_bootPart (countReset_bootPart _ _),
    loadTally_boot, hset]

theorem awake_of_unqueued {a b : BootSt} (h : a.unqueued = ({ b with inReset := false } : BootSt).unqueued) :
    a.halted = b.halted ∧ a.waitHost = b.waitHost ∧ a.inReset = false ∧ a.env = b.env :=
  ⟨(congrArg BootSt.halted h :), (congrArg BootSt.waitHost h :), (congrArg BootSt.inReset h :), (congrArg BootSt.env h :)⟩

theorem coldBase_boot (s : State) : s.coldBase.boot.halted = false ∧ s.coldBase.boot.waitHost = false ∧ s.coldBase.boot.env = s.boot.env :=
  ⟨rfl, rfl, rfl⟩

theorem go_halted {s : State} (h : s.boot.halted = true) (f : State → State) : s.go f = s := if_pos (by rw [h]; rfl)

theorem go_awake {s : State} (hhalted : s.boot.halted = false) (hwait : s.boot.waitHost = false) (hreset : s.boot.inReset = false)
    (f : State → State) : s.go f = f s :=
  if_neg (by rw [hhalted, hwait, hreset]; decide)

theorem startRest_halted {s : State} (h : s.boot.halted = true) : s.startRest = s := by
  simp only [State.startRest, go_halted h]

theorem haltAt_boot (s : State) (code : Nat) : (s.haltAt code).boot = { s.boot with halted := true } := by
  have hset : ∀ (w : State) x, ({ w with boot := x } : State).boot = x := fun _ _ => rfl
  rw [State.haltAt, boot_of_bootPart (bootStatus_bootPart _ _ _ _), boot_of_bootPart (bootStatus_bootPart _ _ _ _), hset]

theorem bootStatus_regs (s : State) (hi lo v : Nat) : (s.bootStatus hi lo v).getR Reg.BOOT_STATUS = (s.setF Reg.BOOT_STATUS hi lo v).getR Reg.BOOT_STATUS := by
  simp only [State.bootStatus, getR_ite, vector19_getR, ite_self]

theorem bootStatus_getF (s : State) (hi lo v a b : Nat) :
    (s.bootStatus hi lo v).getF Reg.BOOT_STATUS a b = (s.setF Reg.BOOT_STATUS hi lo v).getF Reg.BOOT_STATUS a b := by
  rw [State.getF, bootStatus_regs, State.getF]

/-- A halt shows step 15 and the fault's code (R568). -/
theorem haltAt_status (s : State) (code : Nat) :
    (s.haltAt code).getF Reg.BOOT_STATUS 3 0 = 15 ∧ (s.haltAt code).getF Reg.BOOT_STATUS 31 16 = code % 2 ^ 16 := by
  rw [State.haltAt, bootStatus_getF, bootStatus_getF]
  refine ⟨?_, getF_setF_self _ _ 31 16 code (by decide) (by decide)⟩
  rw [getF_setF_below _ _ 31 16 _ 3 0 (by decide) (by decide) (by decide) (by decide), bootStatus_getF, getF_setF_self _ _ 3 0 _ (by decide) (by decide)]
  rfl

/-- Does the strap read SHORT or OPEN (R563)? -/
def BootEnv.strapBad (env : BootEnv) : Prop := sumN (env.strap.map (· % 64)) / 8 = 0 ∨ sumN (env.strap.map (· % 64)) / 8 = 63

theorem strapStep_bad {s : State} (h : s.boot.env.strapBad) : ∃ w : State, s.strapStep = w.haltOn fltStrap subjNone ∧ w.boot = s.boot := by
  have hstep : (s.bootStep 1).boot = s.boot := boot_of_bootPart (bootStatus_bootPart s _ _ _)
  refine ⟨_, if_pos ?_, (setR_boot _ _ _).trans hstep⟩
  rw [hstep]
  obtain h | h := h
  · simp [h]
  · simp [h]

section BadStrap

variable {s : State} (h : s.boot.env.strapBad) (count n : Nat)
include h

/-- A start-up whose strap reads SHORT or OPEN ends as the halt has left it. -/
theorem startUp_bad : ∃ w : State, s.startUp count (some n) = (w.haltOn fltStrap subjNone).startEnd ∧ w.boot.env = s.boot.env := by
  obtain ⟨hhalted, hwait, hreset, henv⟩ := awake_of_unqueued (coldStart_boot s count n)
  obtain ⟨hfound, hasks, hboard⟩ := coldBase_boot s
  rw [hfound] at hhalted
  rw [hasks] at hwait
  rw [hboard] at henv
  have hbad : (s.coldStart count (some n)).boot.env.strapBad := by rw [henv]; exact h
  obtain ⟨w, hstrap, hw⟩ := strapStep_bad hbad
  have hstopped : (w.haltOn fltStrap subjNone).boot.halted = true := by rw [State.haltOn, haltAt_boot]
  refine ⟨w, ?_, by rw [hw, henv]⟩
  rw [startUp_eq, go_awake hhalted hwait hreset, hstrap, go_halted hstopped, go_halted hstopped, go_halted hstopped, startRest_halted hstopped]

theorem startUp_bad_halted : (s.startUp count (some n)).boot.halted = true ∧ (s.startUp count (some n)).boot.env = s.boot.env ∧
    (s.startUp count (some n)).getF Reg.BOOT_STATUS 3 0 = 15 ∧ (s.startUp count (some n)).getF Reg.BOOT_STATUS 31 16 = fltStrap := by
  obtain ⟨w, hstart, henv⟩ := startUp_bad h count n
  have hraised : (w.raise fltStrap subjNone).boot.env = w.boot.env := (congrArg BootSt.env (State.Reports.raise w fltStrap subjNone []).boot :)
  obtain ⟨hstep, hcode⟩ := haltAt_status (w.raise fltStrap subjNone) fltStrap
  rw [hstart, startEnd_boot, startEnd_status, startEnd_status, State.haltOn, haltAt_boot, hstep, hcode]
  exact ⟨rfl, hraised.trans henv, rfl, rfl⟩

end BadStrap

/-- A command that starts up on a board whose strap reads SHORT or OPEN. -/
theorem startUp_bad_ends (s w : State) (h : w.boot.env.strapBad) (count n : Nat) :
    ∃ t, (.next (s.after (w.startUp count (some n))) : Host.Outcome State Fault Refusal) = .next t ∧ t.boot.halted = true ∧ t.boot.env = w.boot.env ∧
      t.getF Reg.BOOT_STATUS 3 0 = 15 ∧ t.getF Reg.BOOT_STATUS 31 16 = fltStrap := by
  have hstatus : Reg.BOOT_STATUS ∉ statusRegs := by decide
  refine ⟨_, rfl, ?_⟩
  rw [after_boot, after_getF hstatus, after_getF hstatus]
  exact startUp_bad_halted h count n

end Sys2Proof.Machine

open Sys2Proof Sys2Proof.Machine

/-- Settles O38: a device held is at its reset values, and the end of start-up keeps the halt at the strap (notes/assumptions 41, 45 and 49). -/
theorem powerAndTripsHoldOrStart : Obligations.PowerAndTripsHoldOrStart := by
  intro s
  refine ⟨⟨_, finish_after s _, ?loss⟩, fun hheld => ⟨finish_eq_after (if_pos hheld), fun env => finish_eq_after (if_pos hheld), fun env => finish_eq_after (if_pos hheld)⟩,
    fun hfree => ⟨fun env => finish_eq_after (if_neg (by rw [hfree]; decide)), fun env => finish_eq_after (if_neg (by rw [hfree]; decide)),
      ⟨_, finish_eq_after (if_neg (by rw [hfree]; decide)), ?trip⟩⟩, fun env fl => finish_after s _, fun env fl c hbad hc => ?strap,
    fun hin hhalt => finish_eq_after (if_neg (by simp [hin, hhalt])), fun b hor => finish_eq_after (if_pos ?quiet)⟩
  case loss =>
    obtain ⟨htly, hflash, hkeys, hkeks⟩ := powerLoss_kept s
    obtain ⟨hregs, hlegs, hfolds, hlcs, hstreams, hmem, hreset, hfree, hlatch⟩ := powerLoss_cold s
    rw [after_boot, after_tly, after_cip, after_legs, after_folds, after_streams, after_lcs, after_mem]
    refine ⟨hreset, hlatch, hfree, htly, hflash, hkeys, hkeks, after_pending s _, hlegs, hfolds, hlcs, hstreams, hmem, fun d hd => ?_⟩
    rw [after_getR_ne hd, getR_of_unwritten hregs]
  case trip =>
    dsimp only
    generalize hw : (if s.boot.inReset then s else
      s.journal { tick := s.faultTick, code := fltThermalTrip, subject := subjNone, hwQueued := s.boot.warmRun }) = w
    obtain ⟨hlegs, hmem, hreset, hheld, htrip⟩ := hold_cold w.noteFatalReset true
    rw [after_boot, after_pins, after_legs, after_mem, after_tly, hold_tly, noteFatalReset_journal]
    refine ⟨hreset, hheld, htrip, hlegs, hmem, fun hrunning => ?_⟩
    rw [← hw, if_neg (by rw [hrunning]; decide)]
  case strap =>
    obtain rfl | ⟨hfree, rfl⟩ := hc
    · obtain ⟨t, ht, hshown⟩ := startUp_bad_ends s
        { s with boot := { s.boot with env := env, flash := fl.getD s.boot.flash, alwaysOnFatal := 0, thermalHold := false } } hbad 0 0
      exact ⟨t, (finish_after s _).trans ht, hshown⟩
    · obtain ⟨t, ht, hshown⟩ := startUp_bad_ends s { s with boot := { s.boot with env := env } } hbad 1 1
      exact ⟨t, (finish_eq_after (if_neg (by rw [hfree]; decide))).trans ht, hshown⟩
  case quiet =>
    obtain hb | hin | hhalt := hor
    · simp [hb]
    · simp [hin]
    · simp [hhalt]
end
